-- ==== Sys2Proof/Word.lean ====
section
/-! DEFINITION. The word types of the block and the plainest operations on them. -/

namespace Sys2Proof

/-- A 32-bit register word (R33). -/
abbrev W32 := BitVec 32

/-- A 64-bit general register or timebase value (R68, R502). -/
abbrev W64 := BitVec 64

/-- A line of 64 bytes; byte `i` stands in bits `8 i + 7` to `8 i` (R5, R298). -/
abbrev Line := BitVec 512

/-- A CRC-32C carried with a line (R375). -/
abbrev Hm := BitVec 32

/-- A sparse table: entries by rising key; an unlisted key reads as the default its user names. -/
abbrev Tab (α : Type) := List (Nat × α)

/-- Bits `hi` to `lo` of a word, as a number. -/
def bitsOf {w : Nat} (x : BitVec w) (hi lo : Nat) : Nat := x.toNat / 2 ^ lo % 2 ^ (hi + 1 - lo)

/-- Bit `i` of a word. -/
def bitOf {w : Nat} (x : BitVec w) (i : Nat) : Bool := x.toNat / 2 ^ i % 2 == 1

/-- Byte `i` of a line. -/
def lineByte (l : Line) (i : Nat) : BitVec 8 := BitVec.ofNat 8 (l.toNat / 2 ^ (8 * i))

/-- The line whose bytes from byte 0 on are the given ones, zero beyond them. -/
def lineOfBytes (bs : List (BitVec 8)) : Line :=
  BitVec.ofNat 512 (bs.foldr (fun b acc => b.toNat + 256 * acc) 0)

/-- The 64 bytes of a line, byte 0 first. -/
def lineBytes (l : Line) : List (BitVec 8) := (List.range 64).map (lineByte l)

end Sys2Proof
end

