-- ==== Sys2Proof/Syntax.lean ====
section
/-! DEFINITION. The commands of the block: one constructor of `Instr` for every row of spec/opcode_table.json. -/

namespace Sys2Proof

/-- The two ports that access the configuration window (R33, R51). -/
inductive Port where
  | cfg
  | dbg
deriving DecidableEq, Repr

/-- The three engine kinds (R68). -/
inductive EngKind where
  | stream
  | seq
  | svc
deriving DecidableEq, Repr

/-- A hardware thread: of a cluster (`idx` = 4 x engine + thread, R151), of a channel sequencer or of a
service engine (`idx` 0 or 1). -/
structure ThreadRef where
  kind : EngKind
  unit : Nat
  idx : Nat
deriving DecidableEq, Repr

/-- The units that have a UNIT_CTRL (R42). -/
inductive UnitRef where
  | home
  | locket
  | port (n : Nat)
  | chan (n : Nat)
  | cluster (n : Nat)
  | seq (n : Nat)
  | svc (n : Nat)
  | phy
deriving DecidableEq, Repr

/-- The owners of two instruction banks (R68). -/
inductive BankRef where
  | cluster (n : Nat)
  | seq (n : Nat)
  | svc (n : Nat)
deriving DecidableEq, Repr

/-- The fault blocks (R507). -/
inductive FaultRef where
  | chan (n : Nat)
  | cluster (n : Nat)
  | locket
  | home
  | stop (n : Nat)
  | port (n : Nat)
  | phy
  | power
  | security
deriving DecidableEq, Repr

/-- The functions that report readiness when they have initialised (R496); a sub-channel's readiness is its
program's. -/
inductive Func where
  | cfg
  | home
  | locket
  | stop (n : Nat)
  | cluster (n : Nat)
  | intc
deriving DecidableEq, Repr

/-- The three switched rails (R551). -/
inductive Rail where
  | logic
  | phy
  | eng
deriving DecidableEq, Repr

/-- One access of a port: its byte offset in the window and its width in bytes (R33). -/
structure Access where
  addr : BitVec 24
  bytes : Nat
deriving DecidableEq, Repr

/-- Where a context command comes from (R161): a write of CTX_CMD, or a stream port's CTXCMD request word. -/
inductive CmdSrc where
  | word (p : Port) (ctx : Nat)
  | port (n : Nat) (req : BitVec 128)
deriving DecidableEq, Repr

/-- Where an APPEND comes from (R163): a write of CTX_TAIL_HI, or a stream port's CTXCMD request word. -/
inductive AppendSrc where
  | word (p : Port) (ctx : Nat) (v : W32)
  | port (n : Nat) (req : BitVec 128)
deriving DecidableEq, Repr

/-- A write data beat of a stream port: WD, WD_HM and WD_ATTR (R456, R461). -/
structure Beat where
  data : Line
  hm : Hm
  attr : BitVec 8
deriving DecidableEq, Repr

/-- A ring flit: its header (R303) and its payload (R470). -/
structure Flit where
  hdr : BitVec 128
  payload : Line
deriving DecidableEq, Repr

/-- A flit that reaches a ring stop: the stop, the direction it travels in, the flit. -/
structure RingIn where
  stop : Nat
  cw : Bool
  flit : Flit
deriving DecidableEq, Repr

/-- The fields of a Service Chain frame that the node reads (R476). -/
structure Frame where
  addr : BitVec 6
  op : BitVec 2
  offset : BitVec 22
  data : W32
  crc : BitVec 8
deriving DecidableEq, Repr

/-- What the bus of a slot returned in a sideband transfer (R440): whether the target refused, the bytes read
(first byte first) and the packet error check byte received. -/
structure SbResult where
  nack : Bool
  data : List (BitVec 8)
  pec : BitVec 8
deriving DecidableEq, Repr

/-- The commands: the rows of spec/opcode_table.json. A row of the Daxry instruction set names the thread that
issues it; the instruction's own operands stand in the instruction store at the thread's program counter. -/
inductive Instr where
  /-- REG_WRITE (R38). A configuration or debug port write to a register field that has no row of its own acts on each field according to its class. -/
  | regWrite (p : Port) (a : Access) (v : W32)
  /-- READ_CLEAR (R40). A read of an RC field returns its value and clears it, keeping events recorded in the same mc. -/
  | readClear (p : Port) (a : Access)
  /-- LOW_WORD_READ (R49). A read of the low word of a two-word value returns it and copies the high word into the port's read shadow. -/
  | lowWordRead (p : Port) (off : BitVec 24)
  /-- LOW_WORD_WRITE (R50). A write to the low word of a two-word value stores it in the port's write shadow only. -/
  | lowWordWrite (p : Port) (off : BitVec 24) (v : W32)
  /-- HIGH_WORD_WRITE (R50). A write to the high word commits the high word and the write shadow together under the value's class. -/
  | highWordWrite (p : Port) (off : BitVec 24) (v : W32)
  /-- ALIAS_WRITE (R57). A write to a bit alias requests that one bit be set or cleared, in a single step, subject to the field's class. -/
  | aliasWrite (p : Port) (off : BitVec 24) (v : W32)
  /-- UNIT_ENABLE (R43). A write of UNIT_CTRL.EN = 1 enables the unit, which acts on its stored ST values. -/
  | unitEnable (p : Port) (u : UnitRef) (v : W32)
  /-- UNIT_DISABLE (R43). A write of UNIT_CTRL.EN = 0 makes the unit accept no new work while it completes the work it holds. -/
  | unitDisable (p : Port) (u : UnitRef) (v : W32)
  /-- QUIESCED (R43). A disabled unit finishes all of its accepted work and QUIESCED becomes 1. -/
  | quiesced (u : UnitRef)
  /-- ADD (R86). Sets g[d] to g[a] + g[b] modulo 2^64. -/
  | add (t : ThreadRef)
  /-- SUB (R86). Sets g[d] to g[a] - g[b] modulo 2^64. -/
  | sub (t : ThreadRef)
  /-- MUL (R86). Sets g[d] to the low 64 bits of g[a] x g[b]. -/
  | mul (t : ThreadRef)
  /-- AND (R86). Sets g[d] to the bitwise AND of g[a] and g[b]. -/
  | and (t : ThreadRef)
  /-- OR (R86). Sets g[d] to the bitwise OR of g[a] and g[b]. -/
  | or (t : ThreadRef)
  /-- XOR (R86). Sets g[d] to the bitwise XOR of g[a] and g[b]. -/
  | xor (t : ThreadRef)
  /-- SHL (R86). Sets g[d] to g[a] shifted left by g[b][5:0]. -/
  | shl (t : ThreadRef)
  /-- SHR (R86). Sets g[d] to g[a] shifted right logically by g[b][5:0]. -/
  | shr (t : ThreadRef)
  /-- SRA (R86). Sets g[d] to g[a] shifted right arithmetically by g[b][5:0]. -/
  | sra (t : ThreadRef)
  /-- MIN (R86). Sets g[d] to the lesser of g[a] and g[b], signed or unsigned by fn. -/
  | min (t : ThreadRef)
  /-- MAX (R86). Sets g[d] to the greater of g[a] and g[b], signed or unsigned by fn. -/
  | max (t : ThreadRef)
  /-- CMP (R86). Sets g[d] to 1 if the relation that fn selects holds between g[a] and g[b], else 0. -/
  | cmp (t : ThreadRef)
  /-- SEL (R86). Sets g[d] to g[a] if g[c] is non-zero, else to g[b]. -/
  | sel (t : ThreadRef)
  /-- ADD_IMMEDIATE (R87). Sets g[d] to g[a] plus the sign-extended immediate. -/
  | addImm (t : ThreadRef)
  /-- AND_IMMEDIATE (R87). Sets g[d] to g[a] AND the zero-extended immediate. -/
  | andImm (t : ThreadRef)
  /-- OR_IMMEDIATE (R87). Sets g[d] to g[a] OR the zero-extended immediate. -/
  | orImm (t : ThreadRef)
  /-- XOR_IMMEDIATE (R87). Sets g[d] to g[a] XOR the zero-extended immediate. -/
  | xorImm (t : ThreadRef)
  /-- SHL_IMMEDIATE (R87). Sets g[d] to g[a] shifted left by imm[5:0]. -/
  | shlImm (t : ThreadRef)
  /-- SHR_IMMEDIATE (R87). Sets g[d] to g[a] shifted right logically by imm[5:0]. -/
  | shrImm (t : ThreadRef)
  /-- SRA_IMMEDIATE (R87). Sets g[d] to g[a] shifted right arithmetically by imm[5:0]. -/
  | sraImm (t : ThreadRef)
  /-- LI (R88). Sets g[d] to the sign-extended immediate. -/
  | li (t : ThreadRef)
  /-- LUI (R88). Sets g[d] to (g[a] << 16) OR the zero-extended immediate. -/
  | lui (t : ThreadRef)
  /-- LDS (R92). Loads g[d] with 8 bytes from the thread's local space at g[a] + imm. -/
  | lds (t : ThreadRef)
  /-- STS (R92). Stores g[d] to the thread's local space at g[a] + imm, and marks a line buffer's Hallmark invalid. -/
  | sts (t : ThreadRef)
  /-- BR (R89). Branches to PC + off. -/
  | br (t : ThreadRef)
  /-- BRC (R90). Branches to PC + off if g[a] meets the condition cond. -/
  | brc (t : ThreadRef)
  /-- CALL (R89). Writes PC + 1 into g31 and branches to PC + off. -/
  | call (t : ThreadRef)
  /-- RET (R89). Branches to the address in g[a]. -/
  | ret (t : ThreadRef)
  /-- LDL (R96). Reads cnt consecutive lines into line buffers lb onward. -/
  | ldl (t : ThreadRef)
  /-- STL (R96). Writes line buffers lb onward to cnt consecutive lines. -/
  | stl (t : ThreadRef)
  /-- PREF (R98). Requests that cnt lines be brought into the Locket, returning nothing to the thread. -/
  | pref (t : ThreadRef)
  /-- BLK2D (R101). Fetches a padded rectangle of samples of one plane of a frame record into line buffers or to the stream port. -/
  | blk2d (t : ThreadRef)
  /-- GATHER (R106). Reads cnt elements addressed through an index list into line buffers. -/
  | gather (t : ThreadRef)
  /-- SCAT (R108). Writes cnt elements from line buffers to the addresses an index list names. -/
  | scat (t : ThreadRef)
  /-- PACK (R109). Hands a raw unit to a compression pipe, which writes its stored sectors and then its header entry. -/
  | pack (t : ThreadRef)
  /-- UNPK (R111). Reads and decompresses a unit into line buffers in raw layout. -/
  | unpk (t : ThreadRef)
  /-- FENCE_L (R346). Waits until every read of the thread has returned and every write of the thread has been admitted. -/
  | fenceL (t : ThreadRef)
  /-- FENCE_P (R346). Waits as FENCE.L and until every write of the run has been admitted. -/
  | fenceP (t : ThreadRef)
  /-- FENCE_G (R346). Waits as FENCE.P and until every write of the run has ended its transaction. -/
  | fenceG (t : ThreadRef)
  /-- FENCE_RETIRE (R346). The fence's condition comes to hold and the waiting thread resumes. -/
  | fenceRetire (t : ThreadRef)
  /-- CLSP_ACQ (R114). Waits until the Clasp named by g[a] is acquired and returns whether it was BROKEN. -/
  | clspAcq (t : ThreadRef)
  /-- CLSP_ACQ_TRY (R114). Makes one attempt to acquire the Clasp and returns acquired, acquired BROKEN or not acquired. -/
  | clspAcqTry (t : ThreadRef)
  /-- CLSP_REL (R356). Waits as FENCE.G, then releases the Clasp the thread holds. -/
  | clspRel (t : ThreadRef)
  /-- CLSP_REL_R (R351). Releases the Clasp with the repair flag, returning it to FREE. -/
  | clspRelR (t : ThreadRef)
  /-- WAITEV (R117). Waits until an event flag in the mask g[a] is set, with an optional timeout. -/
  | waitev (t : ThreadRef)
  /-- WAITEV_TIMEOUT (R117). The WAITEV timeout expires; g[d] becomes 0 and no flag is cleared. -/
  | waitevTimeout (t : ThreadRef)
  /-- EVT (R116). Sets event flag imm[5:0] and queues a pulse on EVT_OUT, waiting while the pulse queue is full. -/
  | evt (t : ThreadRef)
  /-- NEXTD (R168). Follows the current descriptor's link, or takes a queued packet in a fast context, and reports end of chain. -/
  | nextd (t : ThreadRef)
  /-- YIELD (R121). Returns the thread's context to its ready state once it retires; in a fast context halts it. -/
  | yieldCtx (t : ThreadRef)
  /-- YIELD_RETIRE (R121). A YIELD retires; the context becomes READY, HOP_COUNT becomes 0 and the thread becomes IDLE. -/
  | yieldRetire (t : ThreadRef)
  /-- DONE (R121). Waits as FENCE.P, then completes the context's run. -/
  | doneRun (t : ThreadRef)
  /-- DONE_RETIRE (R177). DONE's fence wait ends; the run completes and the thread becomes IDLE. -/
  | doneRetire (t : ThreadRef)
  /-- TRAP (R122). Stops the thread in FAULTED with cause TRAP and records the trap code. -/
  | trap (t : ThreadRef)
  /-- HMCHK (R123). Checks line buffers against their carried Hallmarks or against g[a]. -/
  | hmchk (t : ThreadRef)
  /-- GRAFTPT (R142). A graft point that switches an eligible sequencer or service thread to the new image. -/
  | graftpt (t : ThreadRef)
  /-- DCMD (R125). Issues one DDR5 command on the sequencer's sub-channel at a maintenance grant, checked or RAW. -/
  | dcmd (t : ThreadRef)
  /-- MRW (R126). Writes a mode register of one or both ranks at a maintenance grant. -/
  | mrw (t : ThreadRef)
  /-- MRR (R127). Reads a mode register of a rank into g[d] at a maintenance grant. -/
  | mrr (t : ThreadRef)
  /-- TWAIT (R128). Waits a number of ck given directly or by a timing parameter. -/
  | twait (t : ThreadRef)
  /-- TWAIT_END (R128). The TWAIT duration expires and the thread resumes. -/
  | twaitEnd (t : ThreadRef)
  /-- TRN_SET (R129). Sets a knob's shadow, or shadow and live value, for the target lane and rank. -/
  | trnSet (t : ThreadRef)
  /-- TRN_SWEEP (R129). Sweeps a knob over steps, running a training pattern per step and recording pass or fail. -/
  | trnSweep (t : ThreadRef)
  /-- SWEEP_STEP (R590). One sweep step sets the shadow knob and runs its pattern within one maintenance grant. -/
  | sweepStep (sc : Nat) (samples : List (Nat × Nat))
  /-- TRN_EYE (R129). Computes the centre, width and count of passing runs from a sweep bitmap. -/
  | trnEye (t : ThreadRef)
  /-- MAINTENANCE_GRANT (R246). The channel arbiter grants the maintenance requester, issuing a waiting sequencer command or COMMIT. -/
  | maintenanceGrant (sc : Nat) (mr : BitVec 80)
  /-- LINE_DATA_ARRIVAL (R78). Read data arrives for a pending line buffer, which stops being pending. -/
  | lineDataArrival (t : ThreadRef) (k : Nat)
  /-- PIPE_JOB_DONE (R112). A compression pipe finishes packing or expanding a unit and delivers or writes its output. -/
  | pipeJobDone (cl : Nat) (k : Nat)
  /-- CLR_FAULT (R133). A write of THR_CTRL.CLR_FAULT returns the selected FAULTED stream thread to IDLE. -/
  | clrFault (p : Port) (cl : Nat)
  /-- ENG_FCLR (R133). A write of ENG_FCLR returns a FAULTED sequencer or service thread to IDLE. -/
  | engFclr (p : Port) (b : BankRef) (v : W32)
  /-- INSTR_STORE_WRITE (R136). A write of an instruction store word, ignored for an ACTIVE or OUTGOING bank, returns a LOADED bank to EMPTY. -/
  | instrStoreWrite (p : Port) (cl : Nat) (bank : Nat) (idx : Nat) (v : W32)
  /-- PROG_DATA (R154). An access of PROG_DATA reads or writes the instruction at PROG_ADDR, which then increments. -/
  | progData (p : Port) (b : BankRef) (w : Option W32)
  /-- LOAD_ARM (R138). A write of LOAD_CTRL.ARM = 1 starts the CRC check of the target bank. -/
  | loadArm (p : Port) (b : BankRef) (v : W32)
  /-- LOAD_CHECK_END (R138). The CRC check ends; the bank becomes LOADED or LOAD_BAD is set. -/
  | loadCheckEnd (b : BankRef)
  /-- GRAFT_GO (R139). A write of GRAFT_CTRL.GO makes the LOADED bank ACTIVE and the old one OUTGOING. -/
  | graftGo (p : Port) (b : BankRef) (v : W32)
  /-- ABANDON (R145). A write of GRAFT_CTRL.ABANDON returns a LOADED bank to EMPTY. -/
  | abandon (p : Port) (b : BankRef) (v : W32)
  /-- GRAFT_DONE (R144). OLD_REFS and OLD_THREADS reach 0; the OUTGOING bank becomes EMPTY and GRAFT_DONE is set. -/
  | graftDone (b : BankRef)
  /-- EVF_SET (R152). A write of 1 to a bit of EVF_SET_A or EVF_SET_B sets the event flag. -/
  | evfSet (p : Port) (cl : Nat) (hi : Bool) (v : W32)
  /-- ENABLE (R163). Context command ENABLE makes an OFF context IDLE. -/
  | enable (p : Port) (ctx : Nat)
  /-- DISABLE (R163). Context command DISABLE makes an IDLE or HALTED context OFF. -/
  | disable (p : Port) (ctx : Nat)
  /-- KICK (R164). Context command KICK checks the context and starts a run, making it READY or HALTED. -/
  | kick (src : CmdSrc)
  /-- ABORT (R176). Context command ABORT ends a READY, RUNNING or RESIDENT run, or sets ABORT_LATE after DONE. -/
  | abort (src : CmdSrc)
  /-- CLEAR (R163). Context command CLEAR returns a HALTED context to IDLE. -/
  | clear (src : CmdSrc)
  /-- APPEND (R169). A port APPEND or a CTX_TAIL_HI write updates the tail and generation and may re-arm the context. -/
  | append (src : AppendSrc)
  /-- SET_HEAD (R163). A port SET_HEAD command writes CTX_HEAD for use at the next KICK. -/
  | setHead (sp : Nat) (req : BitVec 128)
  /-- DISPATCH (R165). A cluster dispatches a READY context to an IDLE thread, binds its version and reads its descriptor. -/
  | dispatch (cl : Nat) (t : ThreadRef)
  /-- DESCRIPTOR_READ_RESPONSE (R167). A descriptor read returns and fills the descriptor buffer, or halts the context on error. -/
  | descriptorReadResponse (ctx : Nat)
  /-- RUN_REPORT (R178). A run's writes meet FENCE.P and its completion report begins, writing the record if enabled. -/
  | runReport (ctx : Nat)
  /-- COMPLETION_RECORD (R179). The completion record meets FENCE.P; state, interrupt count and event pulse follow. -/
  | completionRecord (ctx : Nat)
  /-- FAST_COMMAND_PACKET (R183). A stream port packet for a fast context is queued or refused. -/
  | fastCommandPacket (sp : Nat) (req : BitVec 128)
  /-- PACKET_END (R185). A packet's data responses are all returned and its end response is sent. -/
  | packetEnd (ctx : Nat)
  /-- CHANNEL_TIMEOUT (R244). A queued read reaches CHAN_TIMEOUT and is answered with poison and a timeout qualifier. -/
  | channelTimeout (sc : Nat) (k : Nat)
  /-- INVAL (R218). A write of LK_CTRL.INVAL starts invalidating every Locket line present. -/
  | inval (p : Port) (v : W32)
  /-- INVAL_END (R218). The Locket invalidation ends and INVAL reads 0. -/
  | invalEnd
  /-- CNT_CLR (R219). A write of LK_CTRL.CNT_CLR zeroes LK_HITS and LK_MISSES. -/
  | cntClr (p : Port) (v : W32)
  /-- READ (R463). A stream port READ request enters the request path and is answered with the line and status. -/
  | read (sp : Nat) (req : BitVec 128)
  /-- WRITE (R462). A stream port WRITE request with its data beat enters the request path as a posted write. -/
  | write (sp : Nat) (req : BitVec 128)
  /-- WRITE_DATA_BEAT (R458). A write data beat arrives and pairs with its WRITE or PACKET request. -/
  | writeDataBeat (sp : Nat) (beat : Beat)
  /-- FLUSH (R349). A stream port FLUSH waits for every earlier accepted write of the port to end. -/
  | flush (sp : Nat) (req : BitVec 128)
  /-- FLUSH_COMPLETE (R349). All writes covered by a FLUSH have ended and its response is returned. -/
  | flushComplete (sp : Nat) (k : Nat)
  /-- PORT_ARBITER_ADMIT (R283). The port arbiter admits a request into home order, by the fast path or by finish tag. -/
  | portArbiterAdmit
  /-- TRANSACTION_END (R314). A home transaction ends; its tracker releases the line and WR_ACK or visibility follows. -/
  | transactionEnd (ln : Nat)
  /-- QUEUE_ENTRY (R242). A request takes a queue entry and a ledger entry in its sub-channel. -/
  | queueEntry (ln : Nat)
  /-- ARBITER_GRANT (R248). The channel arbiter grants a requester a run, or resumes a suspended one. -/
  | arbiterGrant (sc : Nat)
  /-- LINE_BOUNDARY (R249). At each column command the arbiter decides whether a higher priority preempts or ends the run. -/
  | lineBoundary (sc : Nat) (k : Nat)
  /-- HOG (R252). A run that has held the grant for HOG_LIMIT mc ends and the hog source is raised. -/
  | hog (sc : Nat)
  /-- DRAM_READ_DATA (R8). A read burst arrives, is decoded, decrypted and Hallmarked, and returns to its source. -/
  | dramReadData (sc : Nat) (k : Nat) (burst : BitVec 640)
  /-- PAGE_IDLE (R255). A kept row is precharged after PAGE_IDLE mc without access. -/
  | pageIdle (sc : Nat) (bank : Nat)
  /-- POWER_DOWN_ENTRY (R256). A precharged rank idle for RANK_PD_IDLE mc enters precharge power-down. -/
  | powerDownEntry (sc : Nat) (rank : Nat)
  /-- REFRESH_INTERVAL (R258). A refresh interval elapses and an armed rank's owed count rises by one. -/
  | refreshInterval (sc : Nat) (rank : Nat)
  /-- IDLE_PULL_IN (R260). After 64 mc without a queued request the refresh requester may discharge intervals early. -/
  | idlePullIn (sc : Nat) (rank : Nat)
  /-- MIG_GO (R231). A write of MIG_CTRL.GO starts a migration or sets MAP_BAD. -/
  | migGo (p : Port) (v : W32)
  /-- PAUSE (R236). A write of PAUSE = 1 stops the mover after the lines in flight complete. -/
  | pause (p : Port) (v : W32)
  /-- MIG_RESUME (R236). A write of PAUSE = 0 resumes the mover. -/
  | migResume (p : Port) (v : W32)
  /-- MIGRATION_STEP (R232). The mover takes the line at MIG_WM, skipping, waiting or blocking and moving it. -/
  | migrationStep
  /-- WATERMARK_ADVANCE (R232). A moved line's write holds its queue entry and MIG_WM advances past it, releasing the line. -/
  | watermarkAdvance
  /-- WINDOW_START (R272). A charm's budget window starts and CH_USED becomes 0. -/
  | windowStart (ch : Nat)
  /-- RECOMPUTE_END (R278). The guarantee sum recomputation ends and OVERSUB and the degraded set are updated. -/
  | recomputeEnd
  /-- TR_ENABLE (R286). A write that changes TR_CTRL.EN from 0 to 1 starts the named Trellis bank at slot 0. -/
  | trEnable (p : Port) (v : W32)
  /-- TR_DISABLE (R286). A write that changes TR_CTRL.EN from 1 to 0 opens every group and cancels a pending takeover. -/
  | trDisable (p : Port) (v : W32)
  /-- TR_ARM (R288). A write of TR_CTRL.ARM arms a takeover by the inactive bank at TR_AT, or sets ARM_BAD. -/
  | trArm (p : Port) (v : W32)
  /-- DISARM (R289). A write of TR_CTRL.DISARM cancels a pending takeover before its boundary. -/
  | disarm (p : Port) (v : W32)
  /-- SLOT_BOUNDARY (R287). A Trellis slot's duration ends and the next slot's mask takes effect. -/
  | slotBoundary
  /-- SAMPLE (R291). At each PERIOD every charm's DEPTH, DELAY and MISSES are updated together. -/
  | sample
  /-- RD_S (R316). A ring request for a readable copy of a line. -/
  | rdS (r : RingIn)
  /-- RD_U (R316). A ring request for an owned copy of a line. -/
  | rdU (r : RingIn)
  /-- UPG (R316). A ring request for ownership of a copy held in S or F. -/
  | upg (r : RingIn)
  /-- RD_NC (R316). A ring request for current data that is not cached. -/
  | rdNc (r : RingIn)
  /-- WR_BACK (R316). A ring agent evicts a D line, which is written or answered STALE. -/
  | wrBack (r : RingIn)
  /-- EVICT_CLEAN (R316). A ring agent evicts an E or F line and the filter is updated or STALE returned. -/
  | evictClean (r : RingIn)
  /-- WR_FULL (R316). A ring agent writes a full line that it does not cache. -/
  | wrFull (r : RingIn)
  /-- WR_STASH (R330). A ring agent writes a full line offered to a target agent's cache. -/
  | wrStash (r : RingIn)
  /-- ATOM (R332). A ring atomic operation is executed near at the home or served far as RD_U. -/
  | atom (r : RingIn)
  /-- CLSP_ACQ_MSG (R357). A ring CLSP_ACQ message acquires a Clasp, tries once, or waits on the wait list. -/
  | clspAcqMsg (r : RingIn)
  /-- CLSP_REL_MSG (R351). A ring CLSP_REL message releases a Clasp, with or without repair. -/
  | clspRelMsg (r : RingIn)
  /-- AGENT_RESET (R335). A ring agent reports a reset; its transactions end and the home walks the snoop filter. -/
  | agentReset (r : RingIn)
  /-- AGENT_RESET_WALK_END (R335). The filter walk for an agent reset ends, Clasps go BROKEN and WALK becomes 0. -/
  | agentResetWalkEnd
  /-- CMP_ACK (R314). A requester acknowledges its grant, ending a granting transaction. -/
  | cmpAck (r : RingIn)
  /-- DAT_FWD (R304). A DAT_FWD addressed to a stop is malformed and discarded. -/
  | datFwd (r : RingIn)
  /-- DAT_WB (R318). Snooped data sent to the home is written to memory or answers a waiting read. -/
  | datWb (r : RingIn)
  /-- RSP_STASH (R330). A stash target accepts or declines a stashed line. -/
  | rspStash (r : RingIn)
  /-- SNOOP_RETURN (R320). A broadcast snoop returns to its stop and the home answers the requester. -/
  | snoopReturn (ln : Nat) (bits : BitVec 3)
  /-- SNOOP_TIMEOUT (R321). A snoop not complete after SNP_US xs completes with a timeout. -/
  | snoopTimeout (ln : Nat)
  /-- HOLD_END (R327). HOLD_MIN ring cycles pass after a grant and a waiting invalidating snoop is sent. -/
  | holdEnd (ln : Nat)
  /-- PRED_CLR (R334). A write of HOME_CTRL.PRED_CLR sets every atomic prediction counter to 0. -/
  | predClr (p : Port) (v : W32)
  /-- ATTACH_READY (R471). ATTACH_READY changes and the pass-through slice attaches or bypasses the stop. -/
  | attachReady (rs : Nat)
  /-- RING_RST_N (R493). Reset of a ring stop's pass-through slice. -/
  | ringRstN (rs : Nat) (level : Bool)
  /-- BREAK (R351). A write of CLASPn.BREAK = 1 makes the Clasp BROKEN. -/
  | claspBreak (p : Port) (clasp : Nat) (v : W32)
  /-- HOLD_TO (R354). A Clasp held for HOLD_TO xs goes BROKEN as an owner loss. -/
  | holdTo (clasp : Nat)
  /-- TRIM (R387). SEED_CMD TRIM marks a plot unwritten and invalidates its Locket lines. -/
  | trim (p : Port) (plot : BitVec 21)
  /-- SEED (R387). SEED_CMD SEED starts sprouting an unwritten plot without a write. -/
  | seed (p : Port) (plot : BitVec 21)
  /-- SEED_FILL_WRITE (R382). The seed filler issues a zero fill write for the next line of a sprouting plot. -/
  | seedFillWrite
  /-- FP_ADVANCE (R382). A fill write takes its queue entry, or the line is skipped, and the fill pointer advances. -/
  | fpAdvance (slot : Nat)
  /-- SCRUB_SLOT (R389). The scrubber's slot for a line begins and the line is skipped or read as scrub. -/
  | scrubSlot
  /-- COMMIT (R399). Control knob COMMIT copies shadow to live values at a maintenance grant. -/
  | commit (t : ThreadRef)
  /-- RESTORE (R398). Control knob RESTORE copies live to shadow values at once. -/
  | restore (t : ThreadRef)
  /-- REPORT (R408). Control knob REPORT records a training pass, failure or advisory reason. -/
  | report (t : ThreadRef)
  /-- READY (R398). Control knob READY = 1 makes the sub-channel report ready. -/
  | ready (t : ThreadRef)
  /-- READY_WITHDRAW (R398). Control knob READY = 0 on a disabled sub-channel withdraws ready and clears SPARE, CLEARED and FAILS. -/
  | readyWithdraw (t : ThreadRef)
  /-- SPARE (R413). Control knob SPARE starts copying rank 0 to the spare chip select. -/
  | spare (t : ThreadRef)
  /-- SPARE_COPY_LINE (R413). The channel unit copies one local line from chip select 0 to chip select 1. -/
  | spareCopyLine (sc : Nat)
  /-- KNOB_CLEAR (R405). Control knob CLEAR starts writing every line of every populated rank with zero bursts. -/
  | knobClear (t : ThreadRef)
  /-- CLEARED (R405). The last clearing write completes; CLEARING becomes 0 and CLEARED becomes 1. -/
  | cleared (sc : Nat)
  /-- ALERT (R436). A falling edge of ALERT_n stops command issue and raises the alert source. -/
  | alert (sc : Nat)
  /-- ALERT_REPLAY (R436). After ALERT_n is high again the channel unit precharges and reissues the commands in the window. -/
  | alertReplay (sc : Nat)
  /-- HOST_CALIBRATION (R434). Every HZQ_MS ms a PHY group calibrates its drivers and terminations against ZQ. -/
  | hostCalibration (g : Nat) (code : Option Nat)
  /-- SB_GO (R440). A write of SB_CMD.GO starts one sideband transfer. -/
  | sbGo (p : Port) (slot : Nat) (v : W32)
  /-- SIDEBAND_DONE (R440). A sideband transfer ends, setting DONE and NACK or PEC_ERR. -/
  | sidebandDone (slot : Nat) (r : SbResult)
  /-- IBI (R441). A target's in-band interrupt is acknowledged and its byte and address are stored. -/
  | ibi (slot : Nat) (addr : BitVec 7) (mdb : BitVec 8)
  /-- HOLD (R446). A write of PADn.HOLD holds a quiesced, unpopulated group's pads. -/
  | hold (p : Port) (g : Nat) (v : W32)
  /-- RELEASE (R447). A write of PADn.RELEASE releases a held PHY group. -/
  | release (p : Port) (g : Nat) (v : W32)
  /-- PRESENT_SAMPLE (R451). PRSNT_n is sampled every 1 ms and PRESENT follows two equal samples. -/
  | presentSample (slot : Nat) (level : Bool)
  /-- SP_RST_N_FALL (R467). SP_RST_N falls; accepted writes complete and owed responses and waiting requests are discarded. -/
  | spRstNFall (sp : Nat)
  /-- SP_RST_N_RISE (R467). SP_RST_N rises and the port waits for discarded responses to arise. -/
  | spRstNRise (sp : Nat)
  /-- SP_READY (R465). SP_READY rises and the port grants its request and data credits. -/
  | spReady (sp : Nat)
  /-- HSC_READ (R477). A Service Chain READ frame makes a debug port read, delivered now or in a later frame. -/
  | hscRead (f : Frame)
  /-- HSC_WRITE (R477). A Service Chain WRITE frame makes a debug port write. -/
  | hscWrite (f : Frame)
  /-- HSC_WAKE (R478). A WAKE frame addressed to the node is acknowledged and raises the HSC wake source. -/
  | hscWake (f : Frame)
  /-- EVT_OUT_PULSE (R479). A pending pulse is emitted on an EVT_OUT line for 16 mc. -/
  | evtOutPulse (line : Nat)
  /-- KEY_LOAD_BEAT (R483). A key load beat is taken; beat 7 loads the slot if accepted. -/
  | keyLoadBeat (kop : BitVec 2) (slot : BitVec 6) (beat : BitVec 3) (data : W64)
  /-- KEY_ERASE (R557). A key erase transfer erases a slot unless the security block is in GRAVE. -/
  | keyErase (slot : BitVec 6)
  /-- ELAPSED (R504). An ELAPSED value is taken, added to TBASE on wake from DOZE, and acknowledged. -/
  | elapsed (v : W32)
  /-- ELAPSED_TIMEOUT (R504). No ELAPSED arrives within 1 ms of REFCLK returning; TB_UNKNOWN is set. -/
  | elapsedTimeout
  /-- TPRIO (R485). A target's TPRIO input changes and its synchronised value comes into use. -/
  | tprio (n : Nat) (v : BitVec 4)
  /-- TSLEEP (R485). A target's TSLEEP input changes and its synchronised value comes into use. -/
  | tsleep (n : Nat) (level : Bool)
  /-- RELOCK (R489). A write that changes CLK_CTRL.RATE starts a PLL relock with the clocks stopped. -/
  | relock (p : Port) (v : W32)
  /-- PLL_LOCK (R490). The PLL locks; the clocks run and a relock's write response is returned. -/
  | pllLock
  /-- UNLOCK (R491). The PLL loses lock or fails to lock in time; UNLOCK is set and the clock source raised. -/
  | unlock
  /-- REFCLK_LOST (R503). No REFCLK edge arrives for 1 xs and REFCLK_LOST is set. -/
  | refclkLost
  /-- AON_RST_N (R493). Reset of the always-on domain and everything BLK_RST_N resets. -/
  | aonRstN
  /-- BLK_RST_N (R493). Reset of the block's logic domain, ports, registers, tables, stores, Seed Map and LK fields. -/
  | blkRstN
  /-- BLK_RST_N_RELEASE (R555). BLK_RST_N is released; the lifecycle is sampled and initialisation begins. -/
  | blkRstNRelease (lc : BitVec 2)
  /-- INIT_DONE (R496). A function finishes initialising and reports ready. -/
  | initDone (f : Func)
  /-- BRINGUP_HOLD (R500). A request held for a not-ready sub-channel runs out its hold and is answered NOT_READY. -/
  | bringupHold (ln : Nat)
  /-- FLT_ACK (R512). A write of 1 to an ACK bit clears the source's STATUS and PEND bits. -/
  | fltAck (p : Port) (b : FaultRef) (v : W32)
  /-- FLT_FORCE (R516). A write of 1 to a FORCE bit injects an event of that source with its real reaction. -/
  | fltForce (p : Port) (b : FaultRef) (v : W32)
  /-- HIST_CLR (R517). A write of FLT_CTRL.HIST_CLR empties the fault history. -/
  | histClr (p : Port) (b : FaultRef) (v : W32)
  /-- FLT_HIST_E0 (R518). A word read of FLT_HIST_E0 returns entry SEL's word 0 and fills the port's shadow. -/
  | fltHistE0 (p : Port) (b : FaultRef)
  /-- QUIET_PERIOD (R522). A GRAVE fault block's quiet period passes without an event and the unit recovers. -/
  | quietPeriod (b : FaultRef)
  /-- ALIVE_TOGGLE (R525). A half-period ends and ALIVE changes level or is driven low. -/
  | aliveToggle
  /-- ALIVE_KICK (R526). A write of ALIVE_KICK, or a service engine EVT on KICK_EV, arms or restarts the watchdog. -/
  | aliveKick (p : Port) (v : W32)
  /-- WATCHDOG_EXPIRY (R526). WDOG_MS pass without a kick; STALL is set and the supervisor-stall source raised. -/
  | watchdogExpiry
  /-- PULSE_END (R527). A FAULT_N pulse of PULSE_MIN ends and FAULT_N follows FAULT_HOLD. -/
  | pulseEnd
  /-- ALIVE_MODE (R527). A write that changes ALIVE_CFG.MODE switches between ALIVE and FAULT_N. -/
  | aliveMode (p : Port) (v : W32)
  /-- PWR_GO (R535). A write of PWR_CTRL.GO requests a sleep state named by TARGET. -/
  | pwrGo (p : Port) (v : W32)
  /-- PC_REQ (R551). The power controller requests a sleep state on PC_REQ. -/
  | pcReq (r : BitVec 3)
  /-- PC_REQ_WAKE (R544). A power controller request with PC_REQ 0 is a wake event. -/
  | pcReqWake
  /-- PC_WAKE (R544). PC_WAKE rises and wakes the block from any state. -/
  | pcWake
  /-- ENTRY_STEP_END (R536). A step of a sleep entry finishes and the next abort point or step follows. -/
  | entryStepEnd
  /-- PWR_TMO (R538). A unit has not finished its entry step within PWR_TMO xs and refuses with TIMEOUT. -/
  | pwrTmo (unit : Nat) (index : Nat)
  /-- TIMER_WAKE (R544). TBASE reaches WAKE_AT and the timer wake fires. -/
  | timerWake
  /-- RAIL_OK (R546). A rail's RAIL_OK rises and the wake proceeds to its next step. -/
  | railOk (rail : Rail)
  /-- WAKE_STEP_END (R546). A wake step finishes and the next begins, ending with the units ready. -/
  | wakeStepEnd
  /-- SET (R564). DBG_CMD SET lowers the debug level, or raises it where the lifecycle allows. -/
  | dbgSet (p : Port) (v : W32)
  /-- CHAL (R565). DBG_CMD CHAL makes a new unlock challenge. -/
  | chal (p : Port) (v : W32)
  /-- SUBMIT (R565). DBG_CMD SUBMIT presents the token for judgement by raising AUTH_REQ. -/
  | submit (p : Port) (v : W32)
  /-- AUTH_GRANT (R565). The secure element grants the token and the debug level is raised. -/
  | authGrant
  /-- AUTH_DENY (R565). The secure element denies the token; DENIED is set and unlock-refused raised. -/
  | authDeny
  /-- AUTH_TIMEOUT (R565). No judgement arrives within 100 ms; DENIED is set and unlock-refused raised. -/
  | authTimeout
  /-- DBG_MCTRL_GO (R563). A debug write of DBG_MCTRL.GO starts one line access at DBG_MADDR. -/
  | dbgMctrlGo (v : W32)
  /-- DEBUG_ACCESS_DONE (R563). A debug memory access ends with its data and STATUS, and BUSY clears. -/
  | debugAccessDone
  /-- ROUTE (R574). Each mc the interrupt controller assigns every delivered source to one target. -/
  | route
  /-- TAKE (R576). A read of TAKEn returns and clears the lowest NORMAL source assigned to Pn. -/
  | take (p : Port) (n : Nat)
  /-- FTAKE (R576). A read of FTAKEn returns and clears the lowest FAST source assigned to Pn. -/
  | ftake (p : Port) (n : Nat)
  /-- MODERATOR_TIMEOUT (R578). TIME_US passes after a moderator's first counted completion and it fires. -/
  | moderatorTimeout (m : Nat)
  /-- DRAM_WRITE_COMPLETE (R242). A write's DRAM command completes and its write queue entry and write ledger entry are freed, which may end drain and resume stopped credits. -/
  | dramWriteComplete (sc : Nat) (k : Nat)
  /-- RD_CRD (R465). The requester raises RD_CRD and grants the port one response credit, so that a held response or packet beat can be sent. -/
  | rdCrd (sp : Nat)
  /-- REFCLK_RETURN (R503). REFCLK edges arrive again after a loss, TBASE resumes counting, and the 1 ms wait for ELAPSED begins. -/
  | refclkReturn
  /-- VDD_AON_REMOVED (R530). The integrator removes VDD_AON, the always-on domain loses its state, and ALIVE goes to high impedance. -/
  | vddAonRemoved
  /-- TRIM_WALK_END (R387). The Locket walk of a TRIM over its 4,096 sets ends, and the TRIM write's response is returned to the waiting configuration port. -/
  | trimWalkEnd
deriving DecidableEq, Repr

end Sys2Proof
end

