-- ==== Sys2Proof/Decode.lean ====
section
/-! DEFINITION. The commands that words of the opcode table spell: spec/opcode_table.json gives no row any bits, so no
word spells a command. (The Daxry instruction words that engine threads fetch are taken apart in Machine/Operands.lean.) -/

namespace Sys2Proof

/-- The command that the `nbits` bits of `w` spell by the table's bits: none, since no row of the table has bits. -/
def decodeTableWord (_nbits _w : Nat) : Option Instr := none

end Sys2Proof
end

