-- ==== Sys2Proof/Config.lean ====
section
/-! DEFINITION. The three build-time configurations (R1, R7) and the free values of the spec. -/

namespace Sys2Proof

/-- The build-time configurations of R1. -/
inductive Variant where
  | ovm2440
  | ovm1640
  | ovm0840
deriving DecidableEq, Repr

/-- One value per configuration, in the order of the tables of R1 and R7. -/
def Variant.pick {α : Type} (v : Variant) (a b c : α) : α :=
  match v with
  | .ovm2440 => a
  | .ovm1640 => b
  | .ovm0840 => c

/-- Sub-channels, channel sequencers and service engines (R1). -/
def Variant.scs (v : Variant) : Nat := v.pick 24 16 8

/-- Stream ports (R1). -/
def Variant.ports (v : Variant) : Nat := v.pick 12 8 4

/-- Ring stops (R1). -/
def Variant.stops (v : Variant) : Nat := v.pick 2 2 1

/-- Stream engine clusters of twelve engines (R1). -/
def Variant.clusters (v : Variant) : Nat := v.pick 12 8 4

/-- Stream contexts (R1). -/
def Variant.contexts (v : Variant) : Nat := v.pick 4096 2048 1024

/-- Frame records (R1). -/
def Variant.frames (v : Variant) : Nat := v.pick 1024 1024 512

/-- RDIMM slots (R1). -/
def Variant.slots (v : Variant) : Nat := v.pick 12 8 4

/-- Ways of a Locket set (R213). -/
def Variant.lkWays (v : Variant) : Nat := v.pick 22 14 6

/-- Ways of a snoop filter set (R322). -/
def Variant.sfWays (v : Variant) : Nat := v.pick 12 8 4

/-- Plots of 1 MiB the Seed Map covers (R1, R380). -/
def Variant.plots (v : Variant) : Nat := v.pick 2097152 2097152 1048576

/-- Whether GRAVE is left automatically after a quiet period (R1, R64). -/
def Variant.graveAuto (v : Variant) : Bool := v.pick true false false

/-- The state bank of the SRAM (R532). -/
def Variant.stateBank (v : Variant) : Nat := v.pick 60 39 18

/-! ### Free values: the spec fixes none of these; no proof can see what they are. -/

/-- The silicon step, ID.STEP of R63. -/
opaque Config.silicon : BitVec 4

/-- What reserved bits and reserved offsets read as (R47, R48): by the free-value counter and the offset. -/
opaque Config.reserved : Nat → Nat → W32

/-- Whether an access started before RDY_CFG takes effect (R498), by the free-value counter. -/
opaque Config.earlyTakes : Nat → Bool

/-- Whether an access started before RDY_CFG is answered (R498), by the free-value counter. -/
opaque Config.earlyAnswers : Nat → Bool

/-- Whether the answer to an access started before RDY_CFG is an error (R498), by the free-value counter. -/
opaque Config.earlyError : Nat → Bool

/-- What an instruction store word that nothing has written holds, by store key. -/
opaque Config.storeInit : Nat → W32

/-- What a scratch word that nothing has written holds, by scratch key. -/
opaque Config.scratchInit : Nat → W64

/-- A choice that the spec leaves to the block (which free tracker number, which free sprout slot,
which of equal victims), by the free-value counter; the user takes it modulo the number of candidates. -/
opaque Config.choice : Nat → Nat

/-- The data bytes of a response whose bytes the spec does not give (a decode error, NOT_READY, a refused read or a
snoop timeout), by the free-value counter. -/
opaque Config.openLine : Nat → Line

/-- ENTRY_COUNT of the image in a bank, 1 to 16 (R137, R164): no register gives it to the block. By bank owner
(clusters from 0, channel sequencers from 16, service engines from 64) and version. -/
opaque Config.entryCount : Nat → Nat → Nat

/-- The strap inputs HSC_ID of the Service Chain node (R475). -/
opaque Config.hscId : BitVec 6

end Sys2Proof
end

