-- ==== Sys2Proof/Machine/Regs.lean ====
section
/-! DEFINITION. The configuration window (R55 to R64): which unit an offset belongs to, and the register tables of
every unit, each field with its class (R37, R38) and its reset value. -/

namespace Sys2Proof.Machine

/-- The windows of R61. -/
inductive Win where
  | glob
  | power
  | sec
  | charm
  | trellis (b : Nat)
  | home
  | locket
  | port (n : Nat)
  | chan (n : Nat)
  | cluster (n : Nat)
  | seq (n : Nat)
  | svc (n : Nat)
  | phy
  | intc
  | ctx (n : Nat)
  | frame (n : Nat)
  | store (n : Nat)
deriving DecidableEq, Repr

/-- Where a window starts (R61). -/
def Win.base : Win → Nat
  | .glob => 0x0000
  | .power => 0x1000
  | .sec => 0x2000
  | .charm => 0x3000
  | .trellis b => 0x4000 + 0x1000 * b
  | .home => 0x6000
  | .locket => 0x7000
  | .port n => 0x8000 + 0x400 * n
  | .chan n => 0x10000 + 0x1000 * n
  | .cluster n => 0x28000 + 0x1000 * n
  | .seq n => 0x34000 + 0x100 * n
  | .svc n => 0x36000 + 0x100 * n
  | .phy => 0x38000
  | .intc => 0x40000
  | .ctx n => 0x100000 + 0x40 * n
  | .frame n => 0x140000 + 0x40 * n
  | .store n => 0x200000 + 0x10000 * n

/-- Window `mk n` of stride `stride` that starts at `base`, if unit `n` is one of the `count` present. -/
def unitAt (mk : Nat → Win) (base stride count off : Nat) : Option (Win × Nat) :=
  if (off - base) / stride < count then some (mk ((off - base) / stride), (off - base) % stride) else none

/-- The window an offset below 0x0080_0000 lies in and the offset inside it; none where R34 calls it unmapped. The
registers of RS1, PHY groups, slots and sub-channels that a configuration lacks inside the windows of the home and of PHY
global are reserved offsets of a present window (R336, R395, R452), not unmapped ones. -/
def locate (v : Variant) (off : Nat) : Option (Win × Nat) :=
  if off < 0x1000 then some (.glob, off)
  else if off < 0x2000 then some (.power, off - 0x1000)
  else if off < 0x3000 then some (.sec, off - 0x2000)
  else if off < 0x4000 then some (.charm, off - 0x3000)
  else if off < 0x6000 then unitAt .trellis 0x4000 0x1000 2 off
  else if off < 0x7000 then some (.home, off - 0x6000)
  else if off < 0x8000 then some (.locket, off - 0x7000)
  else if off < 0x10000 then unitAt .port 0x8000 0x400 v.ports off
  else if off < 0x28000 then unitAt .chan 0x10000 0x1000 v.scs off
  else if off < 0x34000 then unitAt .cluster 0x28000 0x1000 v.clusters off
  else if off < 0x36000 then unitAt .seq 0x34000 0x100 v.scs off
  else if off < 0x38000 then unitAt .svc 0x36000 0x100 v.scs off
  else if off < 0x40000 then some (.phy, off - 0x38000)
  else if off < 0x50000 then some (.intc, off - 0x40000)
  else if off < 0x100000 then none
  else if off < 0x140000 then unitAt .ctx 0x100000 0x40 v.contexts off
  else if off < 0x150000 then unitAt .frame 0x140000 0x40 v.frames off
  else if off < 0x200000 then none
  else if off < 0x2C0000 then unitAt .store 0x200000 0x10000 v.clusters off
  else none

/-- The classes of R38, and two more ways a field is stored: `pulse`, an LV field that acts when written and whose
value, if it reads other than 0, only the hardware sets; `zero`, a bit that reads 0 and ignores writes (R508, R529). -/
inductive Cls where
  | st
  | lv
  | ro
  | w1c
  | rc
  | lk
  | pulse
  | zero
deriving DecidableEq, Repr

/-- A field of a register: its bits, its class and its reset value. -/
structure Fld where
  hi : Nat
  lo : Nat
  cls : Cls
  rst : Nat
deriving DecidableEq, Repr

/-- `count` registers of one layout, the first at window offset `off`, `stride` bytes apart. -/
structure RegDesc where
  off : Nat
  count : Nat
  stride : Nat
  flds : List Fld
deriving DecidableEq, Repr

/-- The registers of the global registers (R62 to R66, R499, R506, R569, R502). -/
def globRegs (v : Variant) : List RegDesc :=
  [⟨0x000, 1, 4, [⟨31, 16, .ro, 0x0F24⟩, ⟨15, 12, .ro, 0⟩, ⟨7, 0, .ro, v.pick 0x18 0x10 0x08⟩]⟩,
   ⟨0x004, 1, 4, [⟨19, 19, .ro, v.pick 1 0 0⟩, ⟨18, 12, .ro, v.pick 64 40 20⟩, ⟨11, 8, .ro, v.clusters⟩, ⟨7, 4, .ro, v.stops⟩, ⟨3, 0, .ro, v.ports⟩]⟩,
   ⟨0x008, 1, 4, [⟨31, 31, .w1c, 0⟩, ⟨30, 30, .w1c, 0⟩, ⟨29, 29, .w1c, 0⟩, ⟨28, 28, .ro, 0⟩, ⟨23, 0, .lv, 10000⟩]⟩,
   ⟨0x00C, 1, 4, [⟨29, 0, .ro, 0⟩]⟩,
   ⟨0x010, 1, 4, [⟨3, 3, .w1c, 0⟩, ⟨2, 2, .w1c, 0⟩, ⟨1, 1, .w1c, 0⟩, ⟨0, 0, .w1c, 0⟩]⟩,
   ⟨0x014, 1, 4, [⟨25, 24, .ro, 0⟩, ⟨23, 0, .ro, 0⟩]⟩,
   ⟨0x018, 1, 4, [⟨4, 4, .lk, 0⟩, ⟨3, 3, .lk, 0⟩, ⟨2, 2, .lk, 0⟩, ⟨1, 1, .lk, 0⟩, ⟨0, 0, .lk, 0⟩]⟩,
   ⟨0x020, 1, 4, [⟨31, 0, .lv, 0⟩]⟩,
   ⟨0x024, 1, 4, [⟨31, 0, .lv, 0⟩]⟩]

/-- A register whose present form has no field, all its bits being reserved: one field of no width. -/
def noFld : Fld := ⟨0, 1, .ro, 0⟩

/-- RETAIN_LO and RETAIN_HI: one bit for each SRAM bank of the configuration, the others reserved (R533). -/
def retainRegs (v : Variant) : List RegDesc :=
  [⟨0x008, 1, 4, [⟨v.pick 31 31 19, 0, .lv, 0xFFFFFFFF⟩]⟩,
   ⟨0x00C, 1, 4, [v.pick ⟨31, 0, .lv, 0xFFFFFFFF⟩ ⟨7, 0, .lv, 0xFFFFFFFF⟩ noFld]⟩]

/-- A register of the automatic recovery from GRAVE, which reads 0 and ignores writes where a configuration has none
(R529). -/
def graveReg (v : Variant) (off hi rst : Nat) : RegDesc :=
  ⟨off, 1, 4, [if v.graveAuto then ⟨hi, 0, .lv, rst⟩ else ⟨31, 0, .zero, 0⟩]⟩

/-- The registers of the power window (R553) and the alive registers (R529). -/
def powerRegs (v : Variant) : List RegDesc :=
  retainRegs v ++
  [⟨0x000, 1, 4, [⟨3, 3, .pulse, 0⟩, ⟨2, 0, .lv, 0⟩]⟩,
   ⟨0x004, 1, 4, [⟨31, 29, .ro, 0⟩, ⟨28, 28, .ro, 0⟩, ⟨27, 25, .ro, 0⟩, ⟨24, 24, .w1c, 0⟩, ⟨23, 23, .w1c, 0⟩, ⟨22, 19, .ro, 0⟩, ⟨18, 14, .ro, 0⟩, ⟨13, 10, .ro, 0⟩]⟩,
   ⟨0x010, 1, 4, [⟨7, 7, .lv, 1⟩, ⟨6, 6, .ro, 1⟩, ⟨5, 5, .lv, 1⟩, ⟨4, 4, .lv, 0⟩, ⟨3, 3, .lv, 1⟩, ⟨2, 2, .lv, 1⟩, ⟨1, 1, .lv, 1⟩]⟩,
   ⟨0x014, 1, 4, [⟨31, 29, .ro, 0⟩, ⟨28, 28, .ro, 0⟩, ⟨15, 8, .ro, 0⟩, ⟨2, 0, .ro, 0⟩]⟩,
   ⟨0x018, 2, 4, [⟨31, 0, .lv, 0⟩]⟩,
   ⟨0x020, 1, 4, [⟨15, 0, .lv, 1000⟩]⟩,
   ⟨0xE00, 1, 4, [⟨31, 31, .lv, 0⟩, ⟨30, 30, .lv, 0⟩, ⟨29, 24, .lv, 63⟩, ⟨16, 10, .lv, 10⟩, ⟨9, 0, .lv, 100⟩]⟩,
   ⟨0xE04, 1, 4, [⟨9, 0, .lv, 100⟩]⟩,
   ⟨0xE08, 1, 4, [⟨0, 0, .pulse, 0⟩]⟩,
   ⟨0xE0C, 1, 4, [⟨3, 3, .ro, 0⟩, ⟨2, 2, .ro, 0⟩, ⟨1, 1, .ro, 0⟩, ⟨0, 0, .ro, 0⟩]⟩,
   graveReg v 0xE10 13 100, graveReg v 0xE14 7 0, graveReg v 0xE18 7 8]

/-- The registers of the security window (R571). -/
def secRegs : List RegDesc :=
  [⟨0x000, 1, 4, [⟨31, 30, .ro, 0⟩, ⟨29, 28, .ro, 0⟩, ⟨27, 27, .ro, 0⟩, ⟨26, 26, .ro, 0⟩, ⟨25, 25, .w1c, 0⟩, ⟨24, 24, .w1c, 0⟩]⟩,
   ⟨0x004, 1, 4, [⟨1, 1, .lv, 0⟩, ⟨0, 0, .lv, 0⟩]⟩,
   ⟨0x008, 1, 4, [⟨5, 4, .pulse, 0⟩, ⟨1, 0, .pulse, 0⟩]⟩,
   ⟨0x00C, 1, 4, [⟨31, 0, .ro, 0⟩]⟩,
   ⟨0x010, 2, 4, [⟨31, 0, .ro, 0⟩]⟩,
   ⟨0x020, 8, 4, [⟨31, 0, .pulse, 0⟩]⟩,
   ⟨0x040, 4, 4, [⟨31, 0, .ro, 0⟩]⟩,
   ⟨0x050, 1, 4, [⟨31, 31, .pulse, 0⟩, ⟨30, 30, .lv, 0⟩, ⟨29, 29, .ro, 0⟩, ⟨28, 26, .ro, 0⟩]⟩,
   ⟨0x058, 1, 4, [⟨31, 6, .lv, 0⟩]⟩,
   ⟨0x05C, 1, 4, [⟨13, 0, .lv, 0⟩]⟩,
   ⟨0x100, 16, 4, [⟨31, 0, .lv, 0⟩]⟩]

/-- The registers of the charm window (R296). -/
def charmRegs (v : Variant) : List RegDesc :=
  [⟨0x000, 1, 4, [⟨11, 8, .lv, 7⟩, ⟨7, 4, .lv, 11⟩, ⟨3, 0, .lv, 0⟩]⟩,
   ⟨0x004, 1, 4, [⟨15, 0, .lv, v.pick 11616 7744 3872⟩]⟩,
   ⟨0x008, 1, 4, [⟨2, 2, .ro, 0⟩, ⟨1, 1, .w1c, 0⟩, ⟨0, 0, .ro, 0⟩]⟩,
   ⟨0x00C, 1, 4, [⟨23, 0, .ro, 0⟩]⟩,
   ⟨0x010, 2, 4, [⟨31, 0, .ro, 0⟩]⟩,
   ⟨0x018, 2, 4, [⟨31, 0, .w1c, 0⟩]⟩,
   ⟨0x020, 2, 4, [⟨31, 0, .ro, 0⟩]⟩,
   ⟨0x028, 1, 4, [⟨15, 0, .lv, 10000⟩]⟩,
   ⟨0x02C, 1, 4, [⟨1, 1, .lv, 0⟩, ⟨0, 0, .lv, 0⟩]⟩,
   ⟨0x040, 1, 4, [⟨9, 9, .ro, 0⟩, ⟨8, 8, .ro, 0⟩, ⟨4, 4, .lv, 0⟩, ⟨3, 3, .w1c, 0⟩, ⟨2, 2, .pulse, 0⟩, ⟨1, 1, .pulse, 0⟩, ⟨0, 0, .lv, 0⟩]⟩,
   ⟨0x044, 1, 4, [⟨31, 16, .ro, 0xFFFF⟩, ⟨7, 0, .ro, 0⟩]⟩,
   ⟨0x048, 2, 4, [⟨31, 0, .lv, 0⟩]⟩,
   ⟨0x400, 64, 16, [⟨31, 30, .lv, 0⟩, ⟨29, 26, .lv, 4⟩, ⟨25, 22, .lv, 0⟩, ⟨21, 12, .lv, 100⟩, ⟨7, 0, .lv, 16⟩]⟩,
   ⟨0x404, 64, 16, [⟨23, 0, .lv, 16777215⟩]⟩,
   ⟨0x408, 64, 16, [⟨19, 0, .lv, 100000⟩]⟩,
   ⟨0x40C, 64, 16, [⟨23, 0, .ro, 0⟩]⟩,
   ⟨0x800, 64, 8, [⟨31, 16, .ro, 0⟩, ⟨9, 0, .ro, 0⟩]⟩,
   ⟨0x804, 64, 8, [⟨23, 0, .ro, 0⟩]⟩]

/-- The registers of a Trellis bank (R297). -/
def trellisRegs : List RegDesc :=
  [⟨0x000, 1, 4, [⟨8, 0, .lv, 0⟩]⟩,
   ⟨0x400, 256, 4, [⟨31, 16, .lv, 0xFFFF⟩, ⟨15, 0, .lv, 0⟩]⟩]

/-- The registers of the home registers (R337). -/
def homeRegs (v : Variant) : List RegDesc :=
  [⟨0x000, 1, 4, [⟨1, 1, .ro, 1⟩, ⟨0, 0, .lv, 0⟩]⟩,
   ⟨0x004, 1, 4, [⟨24, 16, .lv, 32⟩, ⟨15, 8, .st, 64⟩, ⟨3, 3, .lv, 1⟩, ⟨2, 2, .lv, 1⟩, ⟨1, 0, .lv, 0⟩]⟩,
   ⟨0x008, 1, 4, [⟨9, 0, .lv, 100⟩]⟩,
   ⟨0x00C, 1, 4, [⟨31, 31, .ro, 0⟩, ⟨29, 24, .ro, 0⟩, ⟨11, 0, .ro, 0⟩]⟩,
   ⟨0x010, 1, 4, [⟨0, 0, .pulse, 0⟩]⟩,
   ⟨0x014, 1, 4, [⟨3, 0, .ro, v.sfWays⟩]⟩,
   ⟨0x018, 1, 4, [⟨15, 0, .ro, 0⟩]⟩,
   ⟨0x01C, 1, 4, [⟨31, 0, .ro, 0⟩]⟩,
   ⟨0x020, 1, 4, [⟨31, 0, .ro, 0⟩]⟩,
   ⟨0x024, 1, 4, [⟨31, 0, .ro, 0⟩]⟩,
   ⟨0x028, 2, 4, [⟨31, 0, .lv, 0xFFFFFFFF⟩]⟩]

/-- The registers of the address map registers (R241). -/
def mapRegs (v : Variant) : List RegDesc :=
  [⟨0xc00, 1, 4, [⟨31, 31, .st, 1⟩, ⟨30, 30, .st, 0⟩, ⟨29, 26, .st, 0⟩, ⟨7, 4, .st, 3⟩, ⟨3, 0, .st, v.pick 8 7 5⟩]⟩,
   ⟨0xc08, 1, 4, [⟨31, 8, .st, 0⟩]⟩,
   ⟨0xc0c, 1, 4, [⟨13, 0, .st, 0⟩]⟩,
   ⟨0xc10, 1, 4, [⟨31, 8, .st, 0⟩]⟩,
   ⟨0xc14, 1, 4, [⟨13, 0, .st, 0⟩]⟩,
   ⟨0xc20, 1, 4, [⟨28, 24, .st, 3⟩, ⟨20, 16, .st, 2⟩, ⟨12, 8, .st, 1⟩, ⟨4, 0, .st, 0⟩]⟩,
   ⟨0xc24, 1, 4, [⟨28, 24, .st, 7⟩, ⟨20, 16, .st, 6⟩, ⟨12, 8, .st, 5⟩, ⟨4, 0, .st, 4⟩]⟩,
   ⟨0xc28, 1, 4, [⟨28, 24, .st, 11⟩, ⟨20, 16, .st, 10⟩, ⟨12, 8, .st, 9⟩, ⟨4, 0, .st, 8⟩]⟩,
   ⟨0xc2c, 1, 4, [⟨28, 24, .st, 15⟩, ⟨20, 16, .st, 14⟩, ⟨12, 8, .st, 13⟩, ⟨4, 0, .st, 12⟩]⟩,
   ⟨0xc30, 1, 4, [⟨28, 24, .st, 19⟩, ⟨20, 16, .st, 18⟩, ⟨12, 8, .st, 17⟩, ⟨4, 0, .st, 16⟩]⟩,
   ⟨0xc34, 1, 4, [⟨28, 24, .st, 23⟩, ⟨20, 16, .st, 22⟩, ⟨12, 8, .st, 21⟩, ⟨4, 0, .st, 20⟩]⟩,
   ⟨0xc40, 1, 4, [⟨31, 31, .lv, 0⟩, ⟨30, 30, .lv, 0⟩, ⟨29, 26, .lv, 0⟩, ⟨7, 4, .lv, 3⟩, ⟨3, 0, .lv, v.pick 8 7 5⟩]⟩,
   ⟨0xc48, 1, 4, [⟨31, 8, .lv, 0⟩]⟩,
   ⟨0xc4c, 1, 4, [⟨13, 0, .lv, 0⟩]⟩,
   ⟨0xc50, 1, 4, [⟨31, 8, .lv, 0⟩]⟩,
   ⟨0xc54, 1, 4, [⟨13, 0, .lv, 0⟩]⟩,
   ⟨0xc60, 1, 4, [⟨28, 24, .lv, 3⟩, ⟨20, 16, .lv, 2⟩, ⟨12, 8, .lv, 1⟩, ⟨4, 0, .lv, 0⟩]⟩,
   ⟨0xc64, 1, 4, [⟨28, 24, .lv, 7⟩, ⟨20, 16, .lv, 6⟩, ⟨12, 8, .lv, 5⟩, ⟨4, 0, .lv, 4⟩]⟩,
   ⟨0xc68, 1, 4, [⟨28, 24, .lv, 11⟩, ⟨20, 16, .lv, 10⟩, ⟨12, 8, .lv, 9⟩, ⟨4, 0, .lv, 8⟩]⟩,
   ⟨0xc6c, 1, 4, [⟨28, 24, .lv, 15⟩, ⟨20, 16, .lv, 14⟩, ⟨12, 8, .lv, 13⟩, ⟨4, 0, .lv, 12⟩]⟩,
   ⟨0xc70, 1, 4, [⟨28, 24, .lv, 19⟩, ⟨20, 16, .lv, 18⟩, ⟨12, 8, .lv, 17⟩, ⟨4, 0, .lv, 16⟩]⟩,
   ⟨0xc74, 1, 4, [⟨28, 24, .lv, 23⟩, ⟨20, 16, .lv, 22⟩, ⟨12, 8, .lv, 21⟩, ⟨4, 0, .lv, 20⟩]⟩,
   ⟨0xC80, 1, 4, [⟨11, 8, .lv, 7⟩, ⟨1, 1, .lv, 0⟩, ⟨0, 0, .pulse, 0⟩]⟩,
   ⟨0xC84, 1, 4, [⟨12, 8, .ro, 0⟩, ⟨7, 7, .ro, 0⟩, ⟨6, 6, .ro, 0⟩, ⟨5, 5, .ro, 0⟩, ⟨2, 2, .w1c, 0⟩, ⟨1, 1, .w1c, 0⟩, ⟨0, 0, .ro, 0⟩]⟩,
   ⟨0xC88, 1, 4, [⟨31, 6, .ro, 0⟩]⟩,
   ⟨0xC8C, 1, 4, [⟨13, 0, .ro, 0⟩]⟩,
   ⟨0xC90, 1, 4, [⟨31, 6, .lv, 0⟩]⟩,
   ⟨0xC94, 1, 4, [⟨13, 0, .lv, 0⟩]⟩,
   ⟨0xC98, 1, 4, [⟨27, 16, .ro, 0⟩, ⟨12, 0, .ro, 0⟩]⟩]

/-- The registers of the Clasps (R359). -/
def claspRegs : List RegDesc :=
  [⟨0x800, 256, 4, [⟨31, 30, .ro, 0⟩, ⟨29, 29, .pulse, 0⟩, ⟨28, 28, .ro, 0⟩, ⟨27, 16, .ro, 0⟩, ⟨15, 0, .lv, 0⟩]⟩]

/-- The registers of the Locket window (R219). -/
def locketRegs (v : Variant) : List RegDesc :=
  [⟨0x000, 1, 4, [⟨1, 1, .ro, 1⟩, ⟨0, 0, .lv, 0⟩]⟩,
   ⟨0x004, 1, 4, [⟨12, 8, .ro, v.lkWays⟩, ⟨3, 0, .st, 4⟩]⟩,
   ⟨0x008, 1, 4, [⟨5, 5, .lv, 0⟩, ⟨4, 4, .lv, 0⟩, ⟨3, 3, .lv, 0⟩, ⟨2, 2, .lv, 0⟩, ⟨1, 1, .lv, 0⟩, ⟨0, 0, .lv, 0⟩]⟩,
   ⟨0x00C, 1, 4, [⟨1, 1, .pulse, 0⟩, ⟨0, 0, .pulse, 0⟩]⟩,
   ⟨0x010, 1, 4, [⟨16, 0, .ro, 0⟩]⟩,
   ⟨0x018, 4, 4, [⟨31, 0, .ro, 0⟩]⟩]

/-- The registers of a stream port window (R469). -/
def portRegs : List RegDesc :=
  [⟨0x000, 1, 4, [⟨1, 1, .ro, 1⟩, ⟨0, 0, .lv, 0⟩]⟩,
   ⟨0x004, 1, 4, [⟨20, 16, .st, 16⟩, ⟨13, 8, .st, 32⟩, ⟨2, 2, .lv, 1⟩, ⟨1, 1, .lv, 1⟩, ⟨0, 0, .lv, 1⟩]⟩,
   ⟨0x008, 1, 4, [⟨31, 24, .ro, 0⟩, ⟨23, 23, .ro, 0⟩, ⟨22, 20, .ro, 0⟩, ⟨19, 15, .ro, 0⟩, ⟨12, 0, .ro, 0⟩]⟩,
   ⟨0x010, 4, 4, [⟨31, 0, .lv, 0⟩]⟩]

/-- The registers of a sub-channel window (R266). -/
def chanRegs : List RegDesc :=
  [⟨0x000, 1, 4, [⟨1, 1, .ro, 1⟩, ⟨0, 0, .lv, 0⟩]⟩,
   ⟨0x004, 1, 4, [⟨5, 5, .st, 0⟩, ⟨4, 3, .st, 2⟩, ⟨2, 2, .st, 0⟩, ⟨1, 1, .st, 1⟩, ⟨0, 0, .st, 0⟩]⟩,
   ⟨0x008, 1, 4, [⟨19, 0, .ro, 0⟩]⟩,
   ⟨0x010, 1, 4, [⟨19, 16, .lv, 12⟩, ⟨13, 8, .lv, 48⟩, ⟨5, 0, .lv, 16⟩]⟩,
   ⟨0x014, 1, 4, [⟨15, 12, .lv, 6⟩, ⟨11, 8, .lv, 8⟩, ⟨7, 4, .lv, 1⟩, ⟨3, 0, .lv, 2⟩]⟩,
   ⟨0x018, 1, 4, [⟨31, 20, .lv, 256⟩, ⟨14, 8, .lv, 16⟩, ⟨5, 0, .lv, 16⟩]⟩,
   ⟨0x01C, 1, 4, [⟨31, 16, .lv, 256⟩, ⟨15, 14, .lv, 0⟩, ⟨13, 11, .lv, 2⟩, ⟨9, 0, .lv, 64⟩]⟩,
   ⟨0x020, 1, 4, [⟨11, 8, .lv, 2⟩, ⟨7, 4, .lv, 4⟩, ⟨3, 3, .lv, 1⟩, ⟨2, 2, .lv, 0⟩, ⟨0, 0, .st, 1⟩]⟩,
   ⟨0x024, 1, 4, [⟨11, 0, .st, 3900⟩]⟩,
   ⟨0x028, 1, 4, [⟨9, 0, .lv, 100⟩]⟩,
   ⟨0x030, 1, 4, [⟨23, 23, .ro, 0⟩, ⟨22, 16, .ro, 0⟩, ⟨6, 0, .ro, 0⟩]⟩,
   ⟨0x034, 1, 4, [⟨25, 22, .ro, 0⟩, ⟨21, 18, .ro, 0⟩, ⟨17, 12, .ro, 0⟩, ⟨11, 9, .ro, 7⟩, ⟨0, 0, .w1c, 0⟩]⟩,
   ⟨0x040, 2, 4, [⟨31, 0, .lv, 0⟩]⟩]

/-- The registers of the timing parameters (R263). -/
def timingRegs : List RegDesc :=
  [⟨0x100, 1, 4, [⟨11, 0, .st, 62⟩]⟩,
   ⟨0x104, 1, 4, [⟨11, 0, .st, 60⟩]⟩,
   ⟨0x108, 1, 4, [⟨11, 0, .st, 62⟩]⟩,
   ⟨0x10c, 1, 4, [⟨11, 0, .st, 62⟩]⟩,
   ⟨0x110, 1, 4, [⟨11, 0, .st, 141⟩]⟩,
   ⟨0x114, 1, 4, [⟨11, 0, .st, 203⟩]⟩,
   ⟨0x118, 1, 4, [⟨11, 0, .st, 8⟩]⟩,
   ⟨0x11c, 1, 4, [⟨11, 0, .st, 22⟩]⟩,
   ⟨0x120, 1, 4, [⟨11, 0, .st, 47⟩]⟩,
   ⟨0x124, 1, 4, [⟨11, 0, .st, 8⟩]⟩,
   ⟨0x128, 1, 4, [⟨11, 0, .st, 22⟩]⟩,
   ⟨0x12c, 1, 4, [⟨11, 0, .st, 88⟩]⟩,
   ⟨0x130, 1, 4, [⟨11, 0, .st, 132⟩]⟩,
   ⟨0x134, 1, 4, [⟨11, 0, .st, 33⟩]⟩,
   ⟨0x138, 1, 4, [⟨11, 0, .st, 11⟩]⟩,
   ⟨0x13c, 1, 4, [⟨11, 0, .st, 44⟩]⟩,
   ⟨0x140, 1, 4, [⟨11, 0, .st, 14⟩]⟩,
   ⟨0x144, 1, 4, [⟨11, 0, .st, 4⟩]⟩,
   ⟨0x148, 1, 4, [⟨11, 0, .st, 1804⟩]⟩,
   ⟨0x14c, 1, 4, [⟨11, 0, .st, 836⟩]⟩,
   ⟨0x150, 1, 4, [⟨11, 0, .st, 132⟩]⟩,
   ⟨0x154, 1, 4, [⟨11, 0, .st, 33⟩]⟩,
   ⟨0x158, 1, 4, [⟨11, 0, .st, 23⟩]⟩,
   ⟨0x15c, 1, 4, [⟨11, 0, .st, 62⟩]⟩,
   ⟨0x160, 1, 4, [⟨11, 0, .st, 62⟩]⟩,
   ⟨0x164, 1, 4, [⟨11, 0, .st, 132⟩]⟩,
   ⟨0x168, 1, 4, [⟨11, 0, .st, 2⟩]⟩]

/-- The registers of a cluster window (R146 to R152). -/
def clusterRegs : List RegDesc :=
  [⟨0x000, 1, 4, [⟨1, 1, .ro, 1⟩, ⟨0, 0, .lv, 0⟩]⟩,
   ⟨0x004, 1, 4, [⟨13, 12, .st, 3⟩, ⟨11, 0, .st, 0xFFF⟩]⟩,
   ⟨0x008, 1, 4, [⟨28, 16, .ro, 0⟩, ⟨11, 6, .ro, 0⟩, ⟨5, 4, .ro, 0⟩, ⟨1, 1, .ro, 0⟩, ⟨0, 0, .w1c, 0⟩]⟩,
   ⟨0x00C, 2, 4, [⟨31, 30, .ro, 0⟩, ⟨29, 16, .ro, 0⟩, ⟨15, 0, .ro, 0⟩]⟩,
   ⟨0x014, 1, 4, [⟨31, 31, .pulse, 0⟩, ⟨30, 30, .w1c, 0⟩, ⟨29, 16, .lv, 0⟩, ⟨15, 0, .lv, 0⟩]⟩,
   ⟨0x018, 1, 4, [⟨31, 0, .lv, 0⟩]⟩,
   ⟨0x01C, 1, 4, [⟨1, 1, .pulse, 0⟩, ⟨0, 0, .pulse, 0⟩]⟩,
   ⟨0x020, 1, 4, [⟨5, 0, .lv, 0⟩]⟩,
   ⟨0x024, 1, 4, [⟨31, 29, .ro, 0⟩, ⟨28, 25, .ro, 0⟩, ⟨24, 24, .ro, 0⟩, ⟨23, 23, .ro, 0⟩, ⟨22, 11, .ro, 0⟩, ⟨7, 0, .ro, 0⟩]⟩,
   ⟨0x028, 1, 4, [⟨12, 0, .ro, 0⟩]⟩,
   ⟨0x02C, 1, 4, [⟨0, 0, .pulse, 0⟩]⟩,
   ⟨0x030, 2, 4, [⟨31, 0, .w1c, 0⟩]⟩,
   ⟨0x038, 2, 4, [⟨31, 0, .pulse, 0⟩]⟩]

/-- The registers of a channel sequencer or service engine window (R153 to R155, R133). -/
def engRegs : List RegDesc :=
  [⟨0x000, 1, 4, [⟨1, 1, .ro, 1⟩, ⟨0, 0, .lv, 0⟩]⟩,
   ⟨0x004, 1, 4, [⟨1, 0, .st, 3⟩]⟩,
   ⟨0x008, 1, 4, [⟨31, 29, .ro, 0⟩, ⟨28, 25, .ro, 0⟩, ⟨24, 22, .ro, 0⟩, ⟨21, 18, .ro, 0⟩, ⟨5, 4, .ro, 0⟩, ⟨1, 1, .ro, 0⟩, ⟨0, 0, .w1c, 0⟩]⟩,
   ⟨0x00C, 2, 4, [⟨31, 30, .ro, 0⟩, ⟨29, 16, .ro, 0⟩, ⟨15, 0, .ro, 0⟩]⟩,
   ⟨0x014, 1, 4, [⟨31, 31, .pulse, 0⟩, ⟨30, 30, .w1c, 0⟩, ⟨29, 16, .lv, 0⟩, ⟨15, 0, .lv, 0⟩]⟩,
   ⟨0x018, 1, 4, [⟨31, 0, .lv, 0⟩]⟩,
   ⟨0x01C, 1, 4, [⟨1, 1, .pulse, 0⟩, ⟨0, 0, .pulse, 0⟩]⟩,
   ⟨0x020, 1, 4, [⟨11, 11, .lv, 0⟩, ⟨10, 0, .lv, 0⟩]⟩,
   ⟨0x024, 1, 4, [⟨31, 0, .lv, 0⟩]⟩,
   ⟨0x028, 2, 4, [⟨10, 0, .ro, 0⟩]⟩,
   ⟨0x030, 2, 4, [⟨31, 16, .ro, 0⟩, ⟨7, 0, .ro, 0⟩]⟩,
   ⟨0x038, 1, 4, [⟨1, 0, .pulse, 0⟩]⟩,
   ⟨0x040, 16, 4, [⟨31, 0, .lv, 0⟩]⟩]

/-- The registers of the PHY global window (R452, R454) and the clock root (R492). -/
def phyRegs (v : Variant) : List RegDesc :=
  [⟨0x000, 1, 4, [⟨1, 1, .ro, 1⟩, ⟨0, 0, .lv, 0⟩]⟩,
   ⟨0x004, 1, 4, [⟨19, 12, .st, 128⟩, ⟨8, 8, .st, 1⟩, ⟨7, 0, .lv, 64⟩]⟩,
   ⟨0x008, 1, 4, [⟨23, 0, .ro, 0⟩]⟩,
   ⟨0x040, v.scs, 4, [⟨4, 4, .w1c, 0⟩, ⟨3, 3, .pulse, 0⟩, ⟨2, 2, .ro, 0⟩, ⟨1, 1, .pulse, 0⟩, ⟨0, 0, .lv, 0⟩]⟩,
   ⟨0x100, 1, 4, [⟨2, 0, .lv, 0⟩]⟩,
   ⟨0x104, 1, 4, [⟨7, 7, .w1c, 0⟩, ⟨6, 6, .w1c, 0⟩, ⟨5, 3, .ro, 0⟩, ⟨2, 2, .ro, 0⟩, ⟨0, 0, .ro, 0⟩]⟩,
   ⟨0x400, v.slots, 0x20, [⟨19, 16, .lv, 0⟩, ⟨15, 8, .lv, 249⟩, ⟨2, 2, .lv, 0⟩, ⟨0, 0, .lv, 0⟩]⟩,
   ⟨0x404, v.slots, 0x20, [⟨31, 31, .pulse, 0⟩, ⟨30, 30, .lv, 0⟩, ⟨29, 29, .lv, 0⟩, ⟨28, 28, .lv, 0⟩, ⟨27, 26, .lv, 0⟩, ⟨24, 24, .lv, 0⟩, ⟨22, 16, .lv, 0⟩, ⟨15, 0, .lv, 0⟩]⟩,
   ⟨0x408, v.slots, 0x20, [⟨31, 0, .lv, 0⟩]⟩,
   ⟨0x40C, v.slots, 0x20, [⟨31, 0, .ro, 0⟩]⟩,
   ⟨0x410, v.slots, 0x20, [⟨23, 16, .ro, 0⟩, ⟨14, 8, .ro, 0⟩, ⟨4, 4, .ro, 0⟩, ⟨3, 3, .w1c, 0⟩, ⟨2, 2, .w1c, 0⟩, ⟨1, 1, .w1c, 0⟩, ⟨0, 0, .w1c, 0⟩]⟩]

/-- The registers of the integrity registers (R395). -/
def integrityRegs (v : Variant) : List RegDesc :=
  [⟨0x4000, v.scs, 16, [⟨9, 9, .lv, 0⟩, ⟨8, 5, .lv, 0⟩, ⟨4, 4, .lv, 0⟩, ⟨3, 0, .lv, 0⟩]⟩,
   ⟨0x4004, v.scs, 16, [⟨31, 16, .rc, 0⟩, ⟨15, 0, .rc, 0⟩]⟩,
   ⟨0x4008, v.scs, 16, [⟨31, 31, .ro, 0⟩, ⟨30, 30, .ro, 0⟩, ⟨29, 29, .ro, 0⟩, ⟨28, 28, .ro, 0⟩, ⟨24, 24, .ro, 0⟩, ⟨23, 20, .ro, 0⟩, ⟨19, 16, .ro, 0⟩]⟩,
   ⟨0x400C, v.scs, 16, [⟨29, 0, .ro, 0⟩]⟩,
   ⟨0x4200, 1, 4, [⟨0, 0, .lv, 1⟩]⟩,
   ⟨0x4204, 1, 4, [⟨31, 30, .pulse, 0⟩, ⟨20, 0, .lv, 0⟩]⟩,
   ⟨0x4208, 1, 4, [⟨31, 31, .w1c, 0⟩, ⟨14, 8, .ro, 0⟩, ⟨3, 0, .ro, 0⟩]⟩,
   ⟨0x4210, 4, 8, [⟨20, 0, .ro, 0⟩]⟩,
   ⟨0x4214, 4, 8, [⟨14, 0, .ro, 0⟩]⟩,
   ⟨0x4300, 1, 4, [⟨31, 16, .lv, 1440⟩, ⟨0, 0, .lv, 1⟩]⟩,
   ⟨0x4304, 1, 4, [⟨31, 0, .ro, 0⟩]⟩,
   ⟨0x4308, 1, 4, [⟨31, 6, .ro, 0⟩]⟩,
   ⟨0x430C, 1, 4, [⟨13, 0, .ro, 0⟩]⟩,
   ⟨0x4400, 64, 8, [⟨31, 31, .lv, 0⟩, ⟨25, 0, .lv, 0⟩]⟩,
   ⟨0x4404, 64, 8, [⟨25, 0, .lv, 0⟩]⟩]

/-- The registers of the interrupt controller (R583), but for the words kept per source. -/
def intcRegs : List RegDesc :=
  [⟨0x0000, 1, 4, [⟨7, 0, .lv, 0xFF⟩]⟩,
   ⟨0x0040, 1, 4, [⟨2, 0, .ro, 0⟩]⟩,
   ⟨0x0300, 8, 4, [⟨31, 31, .ro, 0⟩, ⟨8, 0, .ro, 0⟩]⟩,
   ⟨0x0400, 8, 4, [⟨31, 31, .ro, 0⟩, ⟨30, 30, .ro, 0⟩, ⟨29, 29, .ro, 0⟩, ⟨28, 28, .ro, 0⟩, ⟨19, 16, .ro, 0⟩, ⟨9, 0, .ro, 0⟩]⟩,
   ⟨0x1000, 8, 4, [⟨31, 31, .ro, 0⟩, ⟨8, 0, .ro, 0⟩]⟩,
   ⟨0x1040, 1, 4, [⟨2, 0, .ro, 0⟩]⟩,
   ⟨0x2000, 64, 16, [⟨31, 31, .lv, 0⟩, ⟨23, 16, .lv, 1⟩, ⟨15, 0, .lv, 0⟩]⟩,
   ⟨0x2004, 64, 16, [⟨15, 0, .ro, 0⟩]⟩]

/-- The registers of a context table entry (R158). -/
def ctxRegs : List RegDesc :=
  [⟨0x00, 1, 4, [⟨3, 0, .pulse, 0⟩]⟩,
   ⟨0x04, 1, 4, [⟨31, 29, .ro, 0⟩, ⟨28, 27, .ro, 0⟩, ⟨26, 26, .ro, 0⟩, ⟨25, 25, .ro, 0⟩, ⟨24, 24, .ro, 0⟩, ⟨23, 23, .w1c, 0⟩, ⟨15, 8, .ro, 0⟩]⟩,
   ⟨0x08, 1, 4, [⟨31, 31, .lv, 0⟩, ⟨30, 30, .lv, 0⟩, ⟨29, 29, .lv, 0⟩, ⟨28, 28, .lv, 0⟩, ⟨27, 22, .lv, 0⟩, ⟨21, 16, .lv, 0⟩, ⟨15, 12, .lv, 0⟩, ⟨11, 8, .lv, 0⟩, ⟨5, 0, .lv, 0⟩]⟩,
   ⟨0x0C, 1, 4, [⟨31, 16, .lv, 0x0400⟩, ⟨4, 4, .lv, 0⟩, ⟨3, 0, .lv, 0⟩]⟩,
   ⟨0x10, 1, 4, [⟨31, 6, .lv, 0⟩]⟩,
   ⟨0x14, 1, 4, [⟨13, 0, .lv, 0⟩]⟩,
   ⟨0x18, 1, 4, [⟨31, 6, .lv, 0⟩]⟩,
   ⟨0x1C, 1, 4, [⟨31, 16, .lv, 0⟩, ⟨13, 0, .lv, 0⟩]⟩,
   ⟨0x20, 1, 4, [⟨31, 4, .lv, 0⟩]⟩,
   ⟨0x24, 1, 4, [⟨13, 0, .lv, 0⟩]⟩,
   ⟨0x28, 1, 4, [⟨31, 6, .ro, 0⟩]⟩,
   ⟨0x2C, 1, 4, [⟨13, 0, .ro, 0⟩]⟩,
   ⟨0x30, 1, 4, [⟨31, 0, .ro, 0⟩]⟩,
   ⟨0x34, 1, 4, [⟨31, 16, .ro, 0⟩, ⟨15, 0, .ro, 0⟩]⟩,
   ⟨0x38, 1, 4, [⟨31, 16, .ro, 0⟩, ⟨15, 0, .ro, 0⟩]⟩,
   ⟨0x3C, 1, 4, [⟨31, 16, .ro, 0⟩]⟩]

/-- The registers of a frame record (R190). -/
def frameRegs : List RegDesc :=
  [⟨0x00, 1, 4, [⟨31, 31, .lv, 0⟩, ⟨30, 30, .lv, 0⟩, ⟨29, 29, .lv, 0⟩, ⟨28, 27, .lv, 0⟩, ⟨26, 25, .lv, 0⟩, ⟨24, 23, .lv, 0⟩]⟩,
   ⟨0x04, 1, 4, [⟨29, 16, .lv, 0⟩, ⟨13, 0, .lv, 0⟩]⟩,
   ⟨0x08, 1, 4, [⟨27, 16, .lv, 0⟩, ⟨10, 0, .lv, 0⟩]⟩,
   ⟨0x0C, 1, 4, [⟨27, 16, .lv, 0⟩, ⟨11, 0, .lv, 0⟩]⟩,
   ⟨0x10, 1, 4, [⟨31, 6, .lv, 0⟩]⟩,
   ⟨0x14, 1, 4, [⟨13, 0, .lv, 0⟩]⟩,
   ⟨0x18, 1, 4, [⟨31, 6, .lv, 0⟩]⟩,
   ⟨0x1c, 1, 4, [⟨13, 0, .lv, 0⟩]⟩,
   ⟨0x20, 1, 4, [⟨31, 6, .lv, 0⟩]⟩,
   ⟨0x24, 1, 4, [⟨13, 0, .lv, 0⟩]⟩,
   ⟨0x28, 1, 4, [⟨31, 6, .lv, 0⟩]⟩,
   ⟨0x2c, 1, 4, [⟨13, 0, .lv, 0⟩]⟩]

/-! ### Fault blocks (R507, R508, R515) -/

/-- The reset severities of the sources of a fault block, source 0 first (R515). -/
def sevReset : FaultRef → List Nat
  | .chan _ => [0, 1, 2, 2, 0, 1, 1, 0, 1, 1, 1, 1]
  | .cluster _ => [1, 1, 1, 1, 1, 1]
  | .locket => [1, 0]
  | .home => [2, 1, 0]
  | .stop _ => [1, 1, 1]
  | .port _ => [1, 1, 1, 1, 1]
  | .phy => [0, 2, 1]
  | .power => [2, 1, 1, 0, 0]
  | .security => [1, 0, 1, 1]

/-- The window offset at which a fault block starts (R507). -/
def faultBase : FaultRef → Nat
  | .chan n => (Win.chan n).base + 0xF00
  | .cluster n => (Win.cluster n).base + 0xF00
  | .locket => Win.locket.base + 0xF00
  | .home => Win.home.base + 0xD00
  | .stop n => Win.home.base + 0xD80 + 0x80 * n
  | .port n => (Win.port n).base + 0x380
  | .phy => Win.phy.base + 0x7F00
  | .power => Win.power.base + 0xF00
  | .security => Win.sec.base + 0xF00

/-- Every fault block of a configuration. -/
def faultBlocks (v : Variant) : List FaultRef :=
  (List.range v.scs).map .chan ++ (List.range v.clusters).map .cluster ++ [.locket, .home] ++
  (List.range v.stops).map .stop ++ (List.range v.ports).map .port ++ [.phy, .power, .security]

/-- One field per source that the block has, of class `c`; the bits of other sources read 0 and ignore writes. -/
def srcFlds (c : Cls) (n : Nat) : List Fld :=
  (List.range 32).map fun s => ⟨s, s, if s < n then c else .zero, 0⟩

/-- The severity fields of sources `first` to `first + 15`. -/
def sevFlds (sev : List Nat) (first : Nat) : List Fld :=
  (List.range 16).map fun s =>
    match sev[first + s]? with
    | some r => ⟨2 * s + 1, 2 * s, .lv, r⟩
    | none => ⟨2 * s + 1, 2 * s, .zero, 0⟩

/-- The registers of a fault block at window offset `b` (R508). -/
def faultRegs (b : Nat) (sev : List Nat) : List RegDesc :=
  [⟨b, 1, 4, srcFlds .ro sev.length⟩, ⟨b + 0x04, 1, 4, srcFlds .ro sev.length⟩,
   ⟨b + 0x08, 1, 4, srcFlds .pulse sev.length⟩, ⟨b + 0x0C, 1, 4, srcFlds .pulse sev.length⟩,
   ⟨b + 0x10, 1, 4, sevFlds sev 0⟩, ⟨b + 0x14, 1, 4, sevFlds sev 16⟩,
   ⟨b + 0x18, 1, 4, [⟨2, 2, .pulse, 0⟩, ⟨1, 1, .lv, 1⟩, ⟨0, 0, .lv, 1⟩]⟩,
   ⟨b + 0x1C, 1, 4, [⟨31, 31, .ro, 0⟩, ⟨30, 30, .ro, 0⟩, ⟨4, 0, .ro, 0⟩]⟩,
   ⟨b + 0x20, 1, 4, [⟨23, 17, .ro, 0⟩, ⟨16, 16, .w1c, 0⟩, ⟨12, 8, .ro, 0⟩, ⟨3, 0, .lv, 0⟩]⟩,
   ⟨b + 0x24, 4, 4, [⟨31, 0, .ro, 0⟩]⟩]

/-! ### Interrupt sources (R572) -/

/-- Whether an interrupt source number is used in the configuration (R572). -/
def srcPresent (v : Variant) (s : Nat) : Bool :=
  s < 64 || (64 ≤ s && s < 64 + v.scs) || (88 ≤ s && s < 88 + v.clusters) || s == 100 || s == 101 ||
  (102 ≤ s && s < 102 + v.stops) || (104 ≤ s && s < 104 + v.ports) || (116 ≤ s && s ≤ 120) ||
  (121 ≤ s && s < 121 + v.slots)

/-- The registers that hold a bit or a word per interrupt source (R583). -/
def intcSrcFlds (v : Variant) (o : Nat) : List Fld :=
  if (0x100 ≤ o ∧ o < 0x140) ∨ (0x200 ≤ o ∧ o < 0x240) then
    ((List.range 32).filter fun b => srcPresent v (32 * (o % 0x40 / 4) + b)).map fun b => ⟨b, b, .lv, 0⟩
  else if 0x800 ≤ o ∧ o < 0x1000 ∧ srcPresent v ((o - 0x800) / 4) then
    [⟨9, 9, .ro, if (o - 0x800) / 4 < 64 then 1 else 0⟩, ⟨8, 8, .lv, 0⟩, ⟨7, 0, .lv, 1⟩]
  else []

/-! ### The layout of a register -/

/-- The fields of the register at an offset of a list of descriptions; none where no register lies there. -/
def findReg : List RegDesc → Nat → List Fld
  | [], _ => []
  | d :: ds, o =>
    if d.off ≤ o ∧ (o - d.off) % d.stride = 0 ∧ (o - d.off) / d.stride < d.count then d.flds else findReg ds o

/-- The registers of ring stop `n` at home window offset `b` (R338). -/
def stopRegs (b n : Nat) : List RegDesc :=
  [⟨b, 1, 4, [⟨8, 8, .lv, 1⟩, ⟨6, 0, .st, 64 + n⟩]⟩, ⟨b + 4, 1, 4, [⟨0, 0, .ro, 0⟩]⟩,
   ⟨b + 0x40, 16, 4, [⟨29, 24, .lv, 0⟩, ⟨21, 16, .lv, 0⟩, ⟨13, 8, .lv, 0⟩, ⟨5, 0, .lv, 0⟩]⟩]

/-- The registers of the home window at offset `o` (R336). -/
def homeFlds (v : Variant) (o : Nat) : List Fld :=
  if o < 0x100 then findReg (homeRegs v) o
  else if o < 0x600 then findReg (stopRegs 0x400 0) o
  else if o < 0x800 then (if v.stops = 2 then findReg (stopRegs 0x600 1) o else [])
  else if o < 0xC00 then findReg claspRegs o
  else if o < 0xD00 then findReg (mapRegs v) o
  else if o < 0xD80 then findReg (faultRegs 0xD00 (sevReset .home)) o
  else if o < 0xE00 then findReg (faultRegs 0xD80 (sevReset (.stop 0))) o
  else if o < 0xE80 ∧ v.stops = 2 then findReg (faultRegs 0xE00 (sevReset (.stop 1))) o
  else []

/-- The fields of the register at word offset `o` of a window; the empty list where the offset is reserved (R48). -/
def regFlds (v : Variant) (w : Win) (o : Nat) : List Fld :=
  match w with
  | .glob => findReg (globRegs v) o
  | .power => if o < 0xF00 then findReg (powerRegs v) o else findReg (faultRegs 0xF00 (sevReset .power)) o
  | .sec => if o < 0xF00 then findReg secRegs o else findReg (faultRegs 0xF00 (sevReset .security)) o
  | .charm => findReg (charmRegs v) o
  | .trellis _ => findReg trellisRegs o
  | .home => homeFlds v o
  | .locket => if o < 0xF00 then findReg (locketRegs v) o else findReg (faultRegs 0xF00 (sevReset .locket)) o
  | .port n => if o < 0x380 then findReg portRegs o else findReg (faultRegs 0x380 (sevReset (.port n))) o
  | .chan n =>
    if o < 0x100 then findReg chanRegs o else if o < 0x200 then findReg timingRegs o
    else findReg (faultRegs 0xF00 (sevReset (.chan n))) o
  | .cluster n => if o < 0xF00 then findReg clusterRegs o else findReg (faultRegs 0xF00 (sevReset (.cluster n))) o
  | .seq _ => findReg engRegs o
  | .svc _ => findReg engRegs o
  | .phy =>
    if o < 0x4000 then findReg (phyRegs v) o else if o < 0x7F00 then findReg (integrityRegs v) o
    else findReg (faultRegs 0x7F00 (sevReset .phy)) o
  | .intc =>
    if (0x100 ≤ o ∧ o < 0x140) ∨ (0x200 ≤ o ∧ o < 0x240) ∨ (0x800 ≤ o ∧ o < 0x1000) then intcSrcFlds v o
    else findReg intcRegs o
  | .ctx _ => findReg ctxRegs o
  | .frame _ => findReg frameRegs o
  | .store _ => [⟨31, 0, .lv, 0⟩]

/-- The reset value of a word from its fields; ID.STEP is the silicon's (R63). -/
def resetOfFlds (fs : List Fld) : Nat := fs.foldl (fun acc f => acc + f.rst % 2 ^ (f.hi + 1 - f.lo) * 2 ^ f.lo) 0

/-- The reset value of the register at window offset `off`. -/
def resetWord (v : Variant) (off : Nat) : W32 :=
  if off = 0 then BitVec.ofNat 32 (resetOfFlds (regFlds v .glob 0) + Config.silicon.toNat * 2 ^ 12) else
  match locate v off with
  | some (w, o) => BitVec.ofNat 32 (resetOfFlds (regFlds v w o))
  | none => 0

/-- The window offsets of the low words of the two-word values (R49): TBASE, WAKE_AT, DBG_CHAL, DBG_MADDR, TR_AT, the
map's limits, reserves, watermark and end, LK_HITS, LK_MISSES, SP_RD, SP_WR, GRANTS, SCRUB_POS, the pairs HEAD, TAIL,
REC and CUR of a context and Y, C, HY and HC of a frame record. -/
def isLow (w : Win) (o : Nat) : Bool :=
  match w with
  | .glob => o == 0x20
  | .power => o == 0x18
  | .sec => o == 0x10 || o == 0x58
  | .charm => o == 0x48
  | .home => o == 0xC08 || o == 0xC10 || o == 0xC48 || o == 0xC50 || o == 0xC88 || o == 0xC90
  | .locket => o == 0x18 || o == 0x20
  | .port _ => o == 0x10 || o == 0x18
  | .chan _ => o == 0x40
  | .phy => o == 0x4308
  | .ctx _ => o == 0x10 || o == 0x18 || o == 0x20 || o == 0x28
  | .frame _ => o == 0x10 || o == 0x18 || o == 0x20 || o == 0x28
  | _ => false

/-- The unit whose UNIT_CTRL governs the ST fields of a window (R42, R337). -/
def stUnit : Win → Option UnitRef
  | .home => some .home
  | .locket => some .locket
  | .port n => some (.port n)
  | .chan n => some (.chan n)
  | .cluster n => some (.cluster n)
  | .seq n => some (.seq n)
  | .svc n => some (.svc n)
  | .phy => some .phy
  | _ => none

/-- The window of a unit that has a UNIT_CTRL (R42). -/
def unitWin : UnitRef → Win
  | .home => .home
  | .locket => .locket
  | .port n => .port n
  | .chan n => .chan n
  | .cluster n => .cluster n
  | .seq n => .seq n
  | .svc n => .svc n
  | .phy => .phy

end Sys2Proof.Machine

namespace Sys2Proof

/-- Whether the configuration has the unit of a fault block (R507). -/
def FaultRef.present (v : Variant) : FaultRef → Bool
  | .chan n => n < v.scs
  | .cluster n => n < v.clusters
  | .stop n => n < v.stops
  | .port n => n < v.ports
  | _ => true

/-- Whether the configuration has a unit. -/
def UnitRef.present (v : Variant) : UnitRef → Bool
  | .port n => n < v.ports
  | .chan n => n < v.scs
  | .cluster n => n < v.clusters
  | .seq n => n < v.scs
  | .svc n => n < v.scs
  | _ => true

end Sys2Proof
end

