-- ==== Sys2Proof/Machine/State.lean ====
section
/-! DEFINITION. The state of the block as plain data, its reset, and the reasons a step can stop.

Software-visible register words have ONE home, the table `regs` (by window offset; an unlisted word holds its reset
value of the register tables). The other fields are the state behind the registers. Fields marked MODEL'S OWN are not
the spec's: their use is named in the assumption log. -/

namespace Sys2Proof.Machine

/-- Why a step stops with a fault: no command of this block stops one, since the spec gives each an effect or a free
one (R48; log entry 9). -/
inductive Fault where
deriving DecidableEq, Repr

/-- Why a step is refused. -/
inductive Refusal where
  /-- The command has no meaning yet. Raised by no meaning. Safe. -/
  | notModelled (mnemonic : String)
deriving DecidableEq, Repr

/-! ### What the block drives outward -/

/-- Commands of a channel unit on its DDR5 pins (R125 to R129, R248, R257, R405, R590). `cs` is the chip select. -/
inductive DramCmd where
  | act (cs bg bank row : Nat)
  | pre (cs bg bank : Nat)
  | preAll (cs : Nat)
  | rd (cs bg bank col : Nat) (auto : Bool)
  | wr (cs bg bank col : Nat) (auto : Bool) (burst : BitVec 640)
  | refAb (cs : Nat)
  | refSb (cs bank : Nat)
  | mrw (cs mr value dev : Nat)
  | mrr (cs mr : Nat)
  | ca (cs : Nat) (bits : BitVec 29)
  | pdEnter (cs : Nat)
  | pdExit (cs : Nat)
  | srEnter (cs : Nat)
  | srExit (cs : Nat)
  | pattern (cs pat step : Nat) (bits : List Bool)
deriving DecidableEq, Repr

/-- One thing the block sends to its surroundings. -/
inductive Out where
  /-- the response of a configuration or debug port access (R33 to R36) -/
  | portRsp (p : Port) (value : W32) (err : Bool)
  /-- a stream port response beat (R463) -/
  | spRsp (sp kind tid status : Nat) (tmo : Bool) (hm : Hm) (data : Line)
  /-- credits granted to a requester (R465): request channel or write data channel -/
  | spCredit (sp : Nat) (wd : Bool) (n : Nat)
  /-- a flit placed on the ring (R588) -/
  | flit (stop : Nat) (cw : Bool) (f : Flit)
  /-- a pulse of RS_WAKE (R473) -/
  | rsWake (stop : Nat)
  /-- a command on the pins of a sub-channel, with the levels of DPAR, one for each transfer on DCA0 to DCA6 (R435) -/
  | dram (sc : Nat) (c : DramCmd) (dpar : List Bool)
  /-- a pulse of EVT_OUT (R479) -/
  | evtPulse (line : Nat)
  | keyErr
  | elapsedAck
  /-- ACK, ERR and the data inserted into a Service Chain frame with its new CRC (R476, R477) -/
  | hsc (ack err : Bool) (data : Option (W32 × BitVec 8))
  /-- DRST_n of a slot takes a level (R443) -/
  | drst (slot : Nat) (level : Bool)
  /-- PC_DONE with PC_RESULT (R551) -/
  | pcDone (result : Nat)
  /-- a sideband transfer put on the bus of a slot: the bytes the controller sends (R438, R440) -/
  | sideband (slot : Nat) (bytes : List (BitVec 8))
deriving DecidableEq, Repr

/-! ### Engines -/

/-- The states of a thread (R70). -/
inductive ThrState where
  | idle
  | run
  | wait
  | faulted
  | offline
deriving DecidableEq, Repr

/-- What a thread in WAIT waits for, with what its wake needs (R70, R151). -/
inductive Wait where
  | none
  /-- FENCE.L, FENCE.P or FENCE.G (R346): scope 0, 1 or 2 -/
  | fence (scope : Nat)
  /-- the FENCE.G of a Clasp release (R356) -/
  | relFence (clasp : Nat) (repair : Bool)
  | acquire (clasp d : Nat)
  /-- a Clasp acquire that found the wait list full (R357) -/
  | acquireFull (clasp d : Nat)
  | events (mask : W64) (d us : Nat)
  /-- the compression pipe job with this number -/
  | pipe (job : Nat)
  /-- a descriptor read of NEXTD (R168); `d` is the destination register -/
  | descriptor (d : Nat)
  /-- the first descriptor read of a dispatch (R165) -/
  | start
  | packet (d : Nat)
  | doneFence
  | yieldFence
  /-- a retired DONE or an aborted run of the context waits for a report slot; of a FAULTED thread, a halted one (R187) -/
  | runSlot (ctx : Nat)
  | twait (ck : Nat)
  | evtQueue (line : Nat)
  | maint
deriving DecidableEq, Repr

/-- A line buffer of a thread (R78, R94, R96). -/
structure LineBuf where
  data : Line
  hm : Hm
  hmValid : Bool
  poison : Bool
  pending : Bool
  locked : Bool
  /-- the status of a read that failed: 0 none, 8 decode error, 9 not ready (codes of R131) -/
  err : Nat
deriving DecidableEq, Repr

/-- A fast command packet in a queue or in execution (R181 to R185). -/
structure Packet where
  sp : Nat
  tag : Nat
  data : BitVec 256
  /-- its port was reset: its responses are discarded (R467) -/
  dead : Bool
deriving DecidableEq, Repr

/-- A hardware thread (R68, R70, R71, R151). -/
structure Thread where
  st : ThrState
  wait : Wait
  bank : Nat
  pc : Nat
  g : Tab W64
  lb : Tab LineBuf
  desc : Line
  /-- the link word as the last descriptor read returned it (R168) -/
  link : W64
  ctx : Option Nat
  fault : Nat
  trap : Nat
  /-- a line read of the run was answered with a channel timeout (R173) -/
  tmoHalt : Bool
  packet : Option Packet
  /-- line operations of the instruction in issue that have been issued (R79, R176) -/
  prog : Nat
  /-- MODEL'S OWN: how often the thread went from IDLE to RUN; names the run of R345 -/
  epoch : Nat
deriving DecidableEq, Repr

/-- A line that has come back for a multi-line instruction, with the place of its line operation among those issued. -/
structure GotLine where
  idx : Nat
  line : Nat
  data : Line
  poison : Bool
deriving DecidableEq, Repr

/-- One compression unit a job expands or packs (R195, R212). `phase`: 0 waits for its header line, 1 waits for its
sectors, 2 is ready for a pipe, 3 is finished. -/
structure PUnit where
  chroma : Bool
  row : Nat
  col : Nat
  phase : Nat
  entry : W64
  samples : List Nat
deriving DecidableEq, Repr

/-- What a job does. -/
inductive JobKind where
  | gather (size : Nat) (addrs : List Nat)
  | unpk
  | blk2d (x y : Int) (plane width height layout : Nat) (toPort : Option (Nat × Nat))
  /-- a PACK in its pipe: the input bytes of the buffers and whether any was poisoned or failed its check -/
  | pack (force : Bool) (input : List Line) (bad : Bool)
  /-- a PACK whose sectors are written: the header entry to merge once they meet FENCE.P (R207) -/
  | packHeader (entry : W64)
deriving DecidableEq, Repr

/-- A multi-line instruction in progress (GATHER, BLK2D, UNPK, PACK). -/
structure Job where
  id : Nat
  cl : Nat
  t : ThreadRef
  kind : JobKind
  /-- the frame record as read at issue (R191) -/
  frame : List W32
  lb : Nat
  cnt : Nat
  otag : Nat
  units : List PUnit
  /-- lines still to be requested, in order; for a PACK header, the numbers of its sector writes -/
  want : List Nat
  /-- line reads issued -/
  sent : Nat
  got : List GotLine
  /-- the run the job counts to (R345) -/
  run : Option (Nat × Nat)
  /-- a line came back poisoned or failed its check, or a unit failed its own (R105, R107, R378) -/
  bad : Bool
  /-- a read was answered with a channel timeout (R244) -/
  tmo : Bool
  /-- the status of a read that failed: 0 none, 2 decode error, 3 not ready (R463) -/
  err : Nat
deriving DecidableEq, Repr

/-! ### Requests -/

/-- A place in DRAM: sub-channel, local line number, rank, bank group, bank, row, column (R229). -/
structure Place where
  sc : Nat
  ell : Nat
  rank : Nat
  bg : Nat
  bank : Nat
  row : Nat
  col : Nat
deriving DecidableEq, Repr

/-- Whether the line of a request is placed in the Locket (R215); `policy` names the bit of LK_POLICY that says so (R219). -/
inductive Placing where
  | never
  | always
  | policy (bit : Nat)
deriving DecidableEq, Repr

/-- Who made a request (R339). -/
inductive Src where
  | port (n : Nat)
  | agent (stop : Nat) (cw : Bool) (a : Nat)
  | thread (t : ThreadRef)
  | ctx (n : Nat)
  | dbg
  | block
deriving DecidableEq, Repr

/-- What a request asks of the home (R316, R319). -/
inductive ReqKind where
  | rd
  | wr
  /-- a write of `len` bytes from byte `off` (R100) -/
  | merge (off len : Nat)
  /-- PREF (R98) -/
  | pref
  | rdS
  | rdU
  | upg
  | rdNc
  | wrBack
  | evict
  | wrFull
  | stash (target : Nat)
  | atom (op off : Nat)
  /-- a write made by the block itself: snooped dirty data, agent-reset poison (R318, R335) -/
  | blockWr
  /-- a forced invalidation of a filter victim (R324) -/
  | forced
  | scrubWr
  /-- the migration mover asks the home to block a line (R232 step 4) -/
  | move
deriving DecidableEq, Repr

/-- Where the answer of a request goes. -/
inductive Dest where
  | none
  | port (tid : Nat)
  | buf (t : ThreadRef) (lb : Nat)
  | job (id idx : Nat)
  | desc (ctx : Nat)
  | ring (txn : Nat)
  | dbg
deriving DecidableEq, Repr

/-- The values a request takes at entry and keeps (R270, R11). -/
structure Stamp where
  charm : Nat
  cls : Nat
  base : Nat
  target : Nat
  degraded : Bool
  overBudget : Bool
  entry : W64
deriving DecidableEq, Repr

/-- A request on its way (R8). -/
structure Req where
  /-- MODEL'S OWN: a number that names the request -/
  id : Nat
  src : Src
  kind : ReqKind
  line : Nat
  data : Line
  hm : Hm
  poison : Bool
  otag : Nat
  dest : Dest
  /-- whether the line is placed in the Locket (R215) -/
  place : Placing
  /-- whether the request is of the Locket's header class (R215) -/
  hdr : Bool
  /-- the run a fence counts it to: context and RUN_SEQ (R345) -/
  run : Option (Nat × Nat)
  stamp : Stamp
  /-- MODEL'S OWN: its place in home order, set when it enters it (R300) -/
  seq : Nat
deriving DecidableEq, Repr

/-- What a transaction leaves in the snoop filter when it ends (R326). -/
inductive FiltUpd where
  | keep
  | clear
  | sh
  | fw (x : Nat)
  | ex (x : Nat)
deriving DecidableEq, Repr

/-- What an open transaction waits for. -/
inductive Stage where
  /-- a way of the snoop filter (R323 to R325) -/
  | way
  /-- the end of the hold time before its snoop (R327): the snoop type of R305 -/
  | hold (snoop : Nat)
  /-- its snoop's completion (R320) -/
  | snoop (kind : Nat)
  /-- a sprout slot (R381) -/
  | sprout
  /-- an early-write table entry (R383) -/
  | ewt
  /-- the fill write of the same line to take its queue entry (R383) -/
  | fill
  /-- a sub-channel that is not ready or disabled (R500), with the BRINGUP_HOLD it read -/
  | notReady (holdUs : Nat)
  /-- a queue entry and a ledger entry (R242) -/
  | queue
  /-- the same, for a request that was held under R500: these enter in home order -/
  | released
  /-- its data (R8 steps 7 to 9) -/
  | data
  /-- RSP_STASH (R330) -/
  | stash
  /-- CMP_ACK (R314) -/
  | ack
  /-- nothing more: TRANSACTION_END may come -/
  | ended
deriving DecidableEq, Repr

/-- An open transaction: a tracker of the home (R313 to R315). -/
structure Trk where
  /-- the tracker number that its snoops carry (R303) -/
  num : Nat
  req : Req
  line : Nat
  stage : Stage
  /-- the memory phase is a write -/
  wr : Bool
  data : Line
  hm : Hm
  poison : Bool
  /-- the snoop has returned, and its result bits HIT, FWD, WB (R309) -/
  snpBack : Bool
  snpFwd : Bool
  snpWb : Bool
  wb : Option (Line × Bool)
  /-- the state granted to a ring requester (R307) -/
  grant : Nat
  /-- served far (R333) -/
  far : Bool
  filt : FiltUpd
  /-- holds a claimed filter way -/
  claimed : Bool
  /-- the line whose forced invalidation it waits for (R324) -/
  victim : Option Nat
  /-- its lookup has begun, and a Locket fill of its data is still allowed (R218, R387) -/
  fillOk : Bool
  /-- whether its line is placed in the Locket, as LK_POLICY stood when it reached step 3 (R219) -/
  placing : Option Bool
  /-- where step 5 put its line (R12) -/
  spot : Option Place
  /-- the stamp of the write in progress: that of its request, or of data a snoop brought (R586) -/
  stamp : Stamp
  /-- its requester was reset or discards the answer (R335, R467) -/
  gone : Bool
  /-- the error its end is answered with: 0 ok, 2 decode error, 3 not ready -/
  err : Nat
  /-- its snoop timed out: the filter entry is left unchanged (R321) -/
  snpTmo : Bool
  /-- the response that grants its state has been sent (R314, R589) -/
  answered : Bool
  stop : Nat
deriving DecidableEq, Repr

/-- The owner of a queue entry of a channel unit. -/
inductive QOwner where
  | trk (line : Nat)
  | move (line : Nat)
  | fill (line : Nat)
  | copy (l : Nat)
  | scrub (line : Nat)
deriving DecidableEq, Repr

/-- An entry of a read or write queue (R242), or of the migration, scrub or copy work of a channel unit. -/
structure QEnt where
  owner : QOwner
  wr : Bool
  /-- requester in the order of R246: 0 read queue, 1 write queue, 4 scrub, 5 migration -/
  rq : Nat
  /-- physical line address -/
  line : Nat
  /-- local line number of R229 -/
  ell : Nat
  cs : Nat
  bg : Nat
  bank : Nat
  row : Nat
  col : Nat
  data : Line
  hm : Hm
  poison : Bool
  stamp : Stamp
  /-- CHAN_TIMEOUT as it stood at entry (R244) -/
  tmoUs : Nat
  /-- its column command has been issued -/
  issued : Bool
  /-- answered by timeout; waits only for its burst (R244) -/
  timedOut : Bool
  /-- written before the isolation of its sub-channel began (R514) -/
  old : Bool
  /-- raw stored bits are written as they are (R413) -/
  raw : Option (BitVec 640)
  /-- the data is the stored form: moves, fills, copies and scrub write-backs neither encrypt nor decrypt (R560) -/
  cipher : Bool
deriving DecidableEq, Repr

/-- A run of a requester (R248, R249). -/
structure Run where
  rq : Nat
  cs : Nat
  bank : Nat
  row : Nat
  /-- lines issued: the progress count -/
  issued : Nat
  reserved : Bool
  stamp : Stamp
  /-- a reserved grant's one line is still to be issued -/
  oneLine : Bool
  /-- the entry that started the run, until its line is issued (R248) -/
  starter : Option QOwner
  /-- it has held the grant for HOG_LIMIT mc and ends at its next line boundary (R252) -/
  hogged : Bool
deriving DecidableEq, Repr

/-- One bank's tracked state (R125, R254). -/
structure Bank where
  row : Option Nat
  hist : BitVec 4
  /-- rows remembered after auto-precharge whose shift PAGE_IDLE mc later is still due, the oldest first, each with whether
  an access has named it since (R254) -/
  last : List (Nat × Bool)
  /-- the open row is kept by a deciding run -/
  kept : Bool
  /-- another access came to the kept row after the deciding run's last column command -/
  hit : Bool
deriving DecidableEq, Repr

/-- One rank's tracked state (R256, R258, R587). -/
structure Rank where
  armed : Bool
  owed : Int
  powerDown : Bool
  /-- the power-down was entered by a DCMD (R125) -/
  pdByProgram : Bool
  selfRefresh : Bool
  /-- a sleep state has put the rank into self-refresh, and the channel unit takes it out (R536, R548) -/
  sleeping : Bool
  /-- same-bank refreshes made of the interval in discharge (R257) -/
  sbDone : Nat
  urgent : Bool
deriving DecidableEq, Repr

/-- What a maintenance requester asks (R125 to R130, R399, R405). -/
inductive MaintCmd where
  | dcmd (bits : BitVec 29) (cs : Nat) (raw : Bool)
  | mrw (mr value cs : Nat) (both : Bool) (dev : Nat)
  | mrr (d mr cs : Nat) (high : Bool)
  | sweep (d knob lane rank pat start step count s : Nat) (result : W64)
  | commit (rank : Nat)
deriving DecidableEq, Repr

/-- A maintenance request of a sequencer thread. -/
structure Maint where
  t : ThreadRef
  cmd : MaintCmd
  /-- granted; a sweep step waits for its samples -/
  granted : Bool
deriving DecidableEq, Repr

/-- A channel unit (R242 to R267, R396 to R414, R435 to R437). -/
structure Chan where
  /-- queue entries and the migration, scrub and copy work, in order of entry (R242) -/
  ents : List QEnt
  /-- maintenance requests of the sequencer's threads, in order -/
  maint : List Maint
  banks : Tab Bank
  ranks : Tab Rank
  run : Option Run
  susp : List Run
  drain : Bool
  /-- grants since the last reserved grant (R253) -/
  sinceRes : Nat
  /-- requesters, the one granted longest ago first (R253) -/
  waitOrder : List Nat
  /-- the requester that may not be granted (R252) -/
  hogBan : Option Nat
  /-- the sub-channel reports ready (R398) -/
  ready : Bool
  blocked : Bool
  isolated : Bool
  /-- sources whose containment isolates, by fault block key and source, not yet acknowledged -/
  isoBy : List (Nat × Nat)
  fails : Nat
  lastReason : Nat
  /-- 0 NONE, 1 COPYING, 2 SPARED -/
  spare : Nat
  copyPtr : Nat
  /-- the local lines whose copy is in flight, and the one whose copy begins next (R413) -/
  copies : List Nat
  copyNext : Nat
  clearing : Bool
  /-- next line CLEAR writes, counted over all ranks -/
  clearPtr : Nat
  cleared : Bool
  /-- ALERT_n processing (R436): 0 none, 1 stopped, 2 persistent -/
  alert : Nat
  replays : Nat
  /-- a replay is in progress -/
  replaying : Bool
  /-- commands issued, newest first, that an alert may ask to repeat: whether each was a RAW DCMD, and the row that its bank
  had open (R436) -/
  window : List (DramCmd × Bool × Nat)
  /-- Q_CFG as it stood at the last line boundary (R251) -/
  qCfg : W32
deriving DecidableEq, Repr

/-! ### The home, the Locket and the Seed Map -/

/-- A line of the Locket (R213 to R216). -/
structure LkLine where
  line : Nat
  data : Line
  hm : Hm
  poison : Bool
  hdr : Bool
deriving DecidableEq, Repr

/-- An entry of the snoop filter (R312, R323); `sum`: 0 SH, 1 FW, 2 EX, 3 a way claimed and not yet in use. -/
structure SfEnt where
  line : Nat
  sum : Nat
  agent : Nat
deriving DecidableEq, Repr

/-- The states of a Clasp (R351). -/
inductive ClaspSt where
  | free
  | held
  | broken
deriving DecidableEq, Repr

/-- A Clasp (R351 to R354). -/
structure Clasp where
  st : ClaspSt
  owner : Nat
  repair : Bool
  /-- HOLD_TO in force for this acquisition, and TBASE at it (R354) -/
  limit : Nat
  since : W64
deriving DecidableEq, Repr

/-- An acquire that waits for a Clasp (R351, R357): its Clasp, the 12-bit OWNER of its source, and for a ring agent
the stop, the direction it came in and its TXN. -/
structure ClaspWait where
  clasp : Nat
  owner : Nat
  ring : Option (Nat × Bool × Nat)
deriving DecidableEq, Repr

/-- A sprouting plot in its slot (R381, R382). -/
structure Sprout where
  plot : Nat
  fp : Nat
  next : Nat
  /-- lines of the plot whose fill write is issued and has no queue entry yet -/
  fly : List Nat
deriving DecidableEq, Repr

/-- A line in the mover's flight (R232): phase 0 asked of the home, 1 blocked and to be read, 2 being read,
3 to be written, 4 in its write queue. -/
structure Move where
  line : Nat
  phase : Nat
  data : Line
  hm : Hm
  poison : Bool
deriving DecidableEq, Repr

/-! ### Ports, contexts and the rest -/

/-- A request that a stream port has accepted and not yet passed on: the request word, SP_CFG as it stood when it came
(R469), whether the port may command the context it names (R159), and for a READ or WRITE what it took at entry (R271). -/
structure HeldReq where
  word : BitVec 128
  cfg : W32
  may : Bool
  id : Nat
  stamp : Stamp
deriving DecidableEq, Repr

/-- A write data beat that is not yet taken, with SP_CFG as it stood when it came (R469) and whether the port may command
the context that a packet in it names (R159). -/
structure HeldBeat where
  beat : Beat
  cfg : W32
  may : Bool
deriving DecidableEq, Repr

/-- A FLUSH that waits (R349, R350): its TID and the writes it waits for. -/
structure FlushWait where
  tid : Nat
  ids : List Nat
  /-- its port was reset: the response is discarded when it arises (R467) -/
  dead : Bool
deriving DecidableEq, Repr

/-- A stream port response that waits for a response credit (R465). -/
structure SpRsp where
  kind : Nat
  tid : Nat
  status : Nat
  tmo : Bool
  hm : Hm
  data : Line
  /-- the stamp of the READ that it answers (R292) -/
  stamp : Option Stamp
deriving DecidableEq, Repr

/-- A stream port (R456 to R469). -/
structure SPort where
  link : Bool
  ready : Bool
  reqCr : Nat
  wdCr : Nat
  rdCr : Nat
  /-- write data beats not yet taken -/
  beats : List HeldBeat
  /-- requests the port has not yet passed on, in order -/
  held : List HeldReq
  flushes : List FlushWait
  /-- responses that wait for a credit, the oldest first -/
  rsps : List SpRsp
deriving DecidableEq, Repr

/-- A ring stop: its pass-through slice, and what its attach slice holds (R470 to R474). -/
structure Stop where
  attached : Bool
  /-- the stop identity last latched (R473) -/
  ident : Option Nat
  inReset : Bool
  /-- requests taken off the ring for which credits have stopped, in order (R14, R472) -/
  slice : List Req
deriving DecidableEq, Repr

/-- The hidden part of a stream context (R160 to R187). -/
structure Ctx where
  queue : List Packet
  /-- the run has ended and is not yet reported: its outcome of R158 LAST_RUN -/
  outcome : Option Nat
  cause : Nat
  late : Bool
  /-- 0 report not begun, 1 record written and not yet through FENCE.P -/
  rep : Nat
  /-- event lines whose pulse of step 5 waits for room (R479) -/
  pulses : List Nat
  /-- the report counts in the cluster's bound of 32 (R187) -/
  counted : Bool
  /-- a descriptor read of a re-arm is outstanding (R170) -/
  rearm : Bool
  /-- CLUSTER, ENTRY and FAST as read at KICK (R159) -/
  cluster : Nat
  entry : Nat
  fast : Bool
  /-- LINES at the last YIELD of the run (R175) -/
  yieldLines : Nat
  /-- ended packets whose data responses are not all returned: the packet and its end status -/
  ending : List (Packet × Nat)
deriving DecidableEq, Repr

/-- Data or a status that has come back for a thread or a context and is not yet taken (R78, R167). -/
structure Arrival where
  dest : Dest
  src : Src
  line : Nat
  data : Line
  hm : Hm
  poison : Bool
  /-- 0 ok, 2 decode error, 3 not ready (R463) -/
  status : Nat
  tmo : Bool
  stamp : Stamp
deriving DecidableEq, Repr

/-- An entry of a fault history (R508, R517). -/
structure HistEnt where
  tbase : W64
  source : Nat
  forced : Bool
  escalated : Bool
  sev : Nat
  kind : Nat
  seq : Nat
  info : BitVec 46
deriving DecidableEq, Repr

/-- The arbiter's memory of one charm's queue (R284): the request at its head, its finish tag if it has one, and
the finish tag of the head before it. -/
structure CharmQ where
  head : Nat
  tag : Option W32
  prev : W32
  woken : Bool
deriving DecidableEq, Repr

/-- A register access that waits in the configuration port (R35, R498). -/
inductive HeldAcc where
  | write (p : Port) (off : Nat) (v : W32)
  | read (p : Port) (off : Nat)
  /-- an access of a wrong width or alignment (R33) -/
  | bad (p : Port) (off : Nat) (wr : Bool)
deriving DecidableEq, Repr

/-- The write whose response the configuration port has still to return (R387, R490). -/
inductive PortBusy where
  | none
  | relock
  | trim
deriving DecidableEq, Repr

/-- Where the power unit stands (R536, R546). -/
inductive PwrPhase where
  | stable
  /-- an entry to state `target`: the step of R536 in progress -/
  | entry (target step : Nat)
  /-- a wake from state `left`: the step of R546 in progress -/
  | wake (left step : Nat)
deriving DecidableEq, Repr

/-- What step 5 of an entry to DOZE saves (R534). -/
structure Saved where
  regs : Tab W32
  knobs : Tab Nat
  chans : Tab (Nat × Bool × Nat × Nat)
  /-- which SRAM banks were retained -/
  retain : W64
deriving DecidableEq, Repr

/-- A debug memory access in progress (R563). -/
structure DbgAcc where
  line : Nat
  rnw : Bool
  status : Nat
  data : Line
  finished : Bool
deriving DecidableEq, Repr

/-- The state of the block. -/
structure State where
  variant : Variant
  pending : List Instr
  /-- register words, by window offset (R61); an unlisted one holds its reset value -/
  regs : Tab W32
  /-- read and write shadows of two-word values, by port and low offset (R49 to R51) -/
  rdShadow : Tab W32
  wrShadow : Tab W32
  /-- words 1 to 3 of the history entry last read, by port and fault block (R518) -/
  histShadow : Tab (W32 × W32 × W32)
  cfgBusy : PortBusy
  cfgQueue : List HeldAcc
  /-- debug port accesses that are not finished, in order (R477, R561) -/
  dbgQueue : List HeldAcc
  /-- the timebase (R502) -/
  tbase : W64
  /-- REFCLK runs -/
  refclk : Bool
  /-- BLK_RST_N is low -/
  inReset : Bool
  /-- functions that have initialised since the reset (R496) -/
  inited : List Func
  /-- the rate a relock goes to (R489) -/
  relockTo : Nat
  /-- waiting for ELAPSED after REFCLK returned (R504) -/
  wantElapsed : Bool
  threads : Tab Thread
  /-- scratch words, by engine and word (R68) -/
  scratch : List (Nat × W64)
  /-- engines that fault containment holds offline (R514), by engine -/
  engHold : Tab Bool
  /-- instruction store words, by bank owner, bank and index (R68) -/
  store : List (Nat × W32)
  jobs : List Job
  arrivals : List Arrival
  /-- threads waiting in WAITEV, the longest first (R118) -/
  evWaiters : List ThreadRef
  evf : W64
  /-- pulses pending per EVT_OUT line (R479) -/
  evtPend : Tab Nat
  ctxs : Tab Ctx
  /-- contexts that are READY, per cluster, in the order they became so (R164, R165) -/
  readyQ : Tab (List Nat)
  /-- MODEL'S OWN: the next request number -/
  nextId : Nat
  /-- requests before the port arbiter, in order of entry (R281) -/
  pool : List Req
  vtime : W32
  charmQ : Tab CharmQ
  /-- admitted requests waiting for their line, in home order (R315) -/
  homeQ : List Req
  trks : List Trk
  /-- lines under the hold time of R327 -/
  heldLines : List Nat
  /-- snoop filter sets: entries, the least recently granted first (R322, R323) -/
  filter : Tab (List SfEnt)
  atomPred : Tab Nat
  clasps : Tab Clasp
  claspWaits : List ClaspWait
  /-- engine acquires that found the wait list full, in order (R357) -/
  claspFull : List ClaspWait
  /-- agents whose reset waits or is walked, the one walked first, each with the numbers of its requests that had reached
  the home before its reset (R335) -/
  walks : List (Nat × List Nat)
  /-- Locket sets: lines, the least recently used first (R213, R216) -/
  locket : Tab (List LkLine)
  /-- sets of the Locket whose tag array holds a parity error; it is an upset of the array, which no command makes (R515) -/
  tagBad : List Nat
  /-- plots whose Seed Map bit is 1 (R380) -/
  plots : Tab Bool
  sprouts : Tab Sprout
  /-- the early-write table (R383) -/
  ewt : List Nat
  /-- slot the filler serves next (R382) -/
  fillTurn : Nat
  /-- the plot whose TRIM walk is in progress (R387) -/
  trimming : Option Nat
  moves : List Move
  /-- the line whose scrub read is outstanding, and whether the home has accepted a write to it since (R390) -/
  scrubLine : Option Nat
  scrubDirty : Bool
  /-- a corrected scrub read that has not entered yet: its line, data and poison mark (R14, R390) -/
  scrubWb : Option (Nat × Line × Bool)
  /-- lines of the scrub walk in progress (R389) -/
  scrubN : Nat
  chans : Tab Chan
  /-- knob values by sub-channel, knob, rank and lane: live, then shadow (R396) -/
  live : Tab Nat
  shadow : Tab Nat
  sports : Tab SPort
  stops : Tab Stop
  /-- misses and the largest delay of each charm in the sample period (R291) -/
  charmAcc : Tab (Nat × Nat)
  /-- the time a takeover was armed for (R288) -/
  trAt : W64
  /-- fault histories by fault block, the newest entry first (R517) -/
  hist : Tab (List HistEnt)
  /-- synchronised TPRIO and TSLEEP (R485) -/
  tprio : Tab Nat
  tsleep : Tab Bool
  /-- routing: the target of each delivered source, plus one (R574) -/
  assigned : Tab Nat
  /-- moderators whose timer runs (R578) -/
  modTimer : Tab Bool
  pwr : PwrPhase
  /-- the wake event an entry has met: code and argument (R541) -/
  wakeEv : Option (Nat × Nat)
  /-- MODEL'S OWN: the newest request number when the entry in progress began (R537) -/
  entryMark : Nat
  /-- the request in progress came from the power controller -/
  byPc : Bool
  /-- RAIL_OK of the rails, in the order logic, PHY, engines -/
  rails : List Rail
  saved : Option Saved
  /-- ring stops, ports and threads stopped by the entry (R536) -/
  portsStopped : Bool
  clustersStopped : Bool
  stopsLowered : Bool
  /-- the level the ALIVE bump drives, whether a FAULT_N pulse runs, and whether an onset has come in compatibility mode
  (R525, R527) -/
  alive : Bool
  pulse : Bool
  onsetSeen : Bool
  /-- VDD_AON is present (R481) -/
  vddAon : Bool
  /-- the watchdog has been armed by a kick -/
  wdArmed : Bool
  /-- region keys by slot (R557), and the beats gathered for a load (R483) -/
  keys : List (Nat × BitVec 512)
  keySlot : Nat
  keyBeats : List W64
  /-- the unlock token, and the level a judgement is awaited for (R565) -/
  token : BitVec 256
  authLevel : Nat
  dbgAcc : Option DbgAcc
  /-- the offset of a debug READ whose result is kept for the next frame, and the result with whether the access was
  answered with an error, once the read is finished (R477) -/
  hscKept : Option (BitVec 22 × Option (W32 × Bool))
  /-- SB_CMD of the sideband transfer in progress on a slot (R440) -/
  sbCmd : Tab W32
  /-- the last sample of PRSNT_n of a slot (R451) -/
  prsnt : Tab Bool
  /-- driver calibration codes of a PHY group (R434) -/
  zqCodes : Tab Nat
  /-- HZQ_MS of the calibration interval in progress of a group that has calibrated since its logic powered up (R455) -/
  zqMs : Tab Nat
  /-- groups held in Float; the other held groups are in Latch (R444, R445) -/
  padFloat : Tab Bool
  /-- groups that have issued no command since their release (R447) -/
  padQuiet : Tab Bool
  /-- the last level driven on DRST_n of a slot (R444) -/
  drst : Tab Bool
  /-- MODEL'S OWN: the free-value counter -/
  free : Nat
  /-- MODEL'S OWN: what the block has sent, newest first -/
  out : List Out
deriving DecidableEq, Repr

/-! ### Values of the units at reset -/

/-- An empty line buffer: 64 zero bytes, which carry their Hallmark (R94; its value follows from R375). -/
def LineBuf.init : LineBuf :=
  { data := 0, hm := 0x03C8EB67#32, hmValid := true, poison := false, pending := false, locked := false, err := 0 }

/-- A thread at reset (R70). -/
def Thread.init : Thread :=
  { st := .idle, wait := .none, bank := 0, pc := 0, g := [], lb := [], desc := 0, link := 0, ctx := none,
    fault := 0, trap := 0, tmoHalt := false, packet := none, prog := 0, epoch := 0 }

/-- The hidden part of a context at reset (R158, R160). -/
def Ctx.init : Ctx :=
  { queue := [], outcome := none, cause := 0, late := false, rep := 0, pulses := [], counted := false, rearm := false,
    cluster := 0, entry := 0, fast := false, yieldLines := 0, ending := [] }

/-- A bank of a rank with no open row (R254). -/
def Bank.init : Bank := { row := none, hist := 0, last := [], kept := false, hit := false }

/-- A rank at reset (R258). -/
def Rank.init : Rank :=
  { armed := false, owed := 0, powerDown := false, pdByProgram := false, selfRefresh := false, sleeping := false,
    sbDone := 0, urgent := false }

/-- A channel unit at reset. -/
def Chan.init : Chan :=
  { ents := [], maint := [], banks := [], ranks := [], run := none, susp := [], drain := false, sinceRes := 0,
    waitOrder := [0, 1, 2, 3, 4, 5], hogBan := none, ready := false, blocked := false, isolated := false,
    isoBy := [], fails := 0, lastReason := 0, spare := 0, copyPtr := 0, copies := [], copyNext := 0, clearing := false,
    clearPtr := 0, cleared := false, alert := 0, replays := 0, replaying := false, window := [],
    qCfg := 0x000C3010#32 }

/-- A Clasp at reset: FREE (R359). -/
def Clasp.init : Clasp := { st := .free, owner := 0, repair := false, limit := 0, since := 0 }

/-- A sprouting slot that holds no plot is not listed; this value fills a look-up of it. -/
def Sprout.init : Sprout := { plot := 0, fp := 0, next := 0, fly := [] }

/-- A stream port at reset: SP_RST_N low (R467). -/
def SPort.init : SPort :=
  { link := false, ready := false, reqCr := 0, wdCr := 0, rdCr := 0, beats := [], held := [],
    flushes := [], rsps := [] }

/-- A ring stop at reset: bypassed (R471). -/
def Stop.init : Stop := { attached := false, ident := none, inReset := false, slice := [] }

/-- The arbiter's memory of an empty charm queue (R284). -/
def CharmQ.init : CharmQ := { head := 0, tag := none, prev := 0, woken := false }

/-- The block of configuration `v` right after BLK_RST_N was released for the first time (R493, R496): every register
at its reset value, no function initialised, the PLL not yet locked, memory and tables empty. The lifecycle sampled is
BLANK, whose debug level is FULL (R556); log entry 2. -/
def State.resetOf (v : Variant) : State :=
  { variant := v, pending := [], regs := [(0x2000, 0x20000000#32)], rdShadow := [], wrShadow := [], histShadow := [],
    cfgBusy := .none, cfgQueue := [], dbgQueue := [], tbase := 0, refclk := true, inReset := false, inited := [], relockTo := 0,
    wantElapsed := false, threads := [], scratch := [], engHold := [], store := [], jobs := [], arrivals := [], evWaiters := [],
    evf := 0, evtPend := [], ctxs := [], readyQ := [], nextId := 0, pool := [], vtime := 0, charmQ := [], homeQ := [],
    trks := [], heldLines := [], filter := [], atomPred := [], clasps := [], claspWaits := [], claspFull := [],
    walks := [], locket := [], tagBad := [], plots := [], sprouts := [], ewt := [], fillTurn := 0, trimming := none, moves := [],
    scrubLine := none, scrubDirty := false, scrubWb := none, scrubN := 0, chans := [], live := [], shadow := [], sports := [], stops := [],
    charmAcc := [], trAt := 0, hist := [], tprio := [], tsleep := [], assigned := [], modTimer := [], pwr := .stable,
    wakeEv := none, entryMark := 0, byPc := false, rails := [.logic, .phy, .eng], saved := none, portsStopped := false,
    clustersStopped := false, stopsLowered := false, alive := false, pulse := false, onsetSeen := false, vddAon := true, wdArmed := false, keys := [],
    keySlot := 0, keyBeats := [], token := 0, authLevel := 0, dbgAcc := none, hscKept := none, sbCmd := [],
    prsnt := [], zqCodes := [], zqMs := [], padFloat := [], padQuiet := [], drst := [], free := 0, out := [] }

/-- The machine right after reset: the reference configuration OVM-2440 (R2; log entry 2). -/
def State.reset : State := State.resetOf .ovm2440

end Sys2Proof.Machine
end

