-- ==== Sys2Proof/Machine/Ops.lean ====
section
/-! DEFINITION. The shared operations on state: sparse tables in canonical form, register words and their fields,
readiness of the functions, threads, and what the block sends out. -/

namespace Sys2Proof.Machine

/-! ### Sparse tables: keys strictly rising, no entry equal to the default -/

/-- The entry of a key. -/
def tfind {α : Type} : Tab α → Nat → Option α
  | [], _ => none
  | (k', v) :: t, k => if k' = k then some v else tfind t k

/-- The table with `v` at `k`, in its place. -/
def tput {α : Type} : Tab α → Nat → α → Tab α
  | [], k, v => [(k, v)]
  | (k', v') :: t, k, v =>
    if k < k' then (k, v) :: (k', v') :: t
    else if k = k' then (k, v) :: t
    else (k', v') :: tput t k v

/-- The table without an entry at `k`. -/
def terase {α : Type} : Tab α → Nat → Tab α
  | [], _ => []
  | (k', v') :: t, k => if k' = k then t else (k', v') :: terase t k

/-- The value at a key; an unlisted key reads as `d`. -/
def tget {α : Type} (d : α) (t : Tab α) (k : Nat) : α := (tfind t k).getD d

/-- The table with `v` at `k`; writing what an unlisted key reads as removes the entry. -/
def tset {α : Type} [DecidableEq α] (d : α) (t : Tab α) (k : Nat) (v : α) : Tab α :=
  if v = d then terase t k else tput t k v

/-- The table with every value changed by `f`; an entry that becomes the default `d` is dropped. -/
def tmap {α β : Type} [DecidableEq β] (d : β) (f : α → β) (t : Tab α) : Tab β :=
  (t.map fun e => (e.1, f e.2)).filter fun e => decide (e.2 ≠ d)

/-- Whether every key of a table is above `lo`, and the keys rise strictly. -/
def keysAbove {α : Type} : Nat → Tab α → Bool
  | _, [] => true
  | lo, (k, _) :: t => lo ≤ k && keysAbove (k + 1) t

/-- The canonical form of a table: keys strictly rising, no entry equal to the default of its key. -/
def Tab.wf {α : Type} [DecidableEq α] (d : Nat → α) (t : Tab α) : Bool :=
  keysAbove 0 t && t.all fun e => decide (e.2 ≠ d e.1)

/-! ### Bit fields -/

/-- A word with bits `hi` to `lo` replaced by the low bits of `n`. -/
def putBits (w : W32) (hi lo n : Nat) : W32 :=
  BitVec.ofNat 32 (w.toNat - bitsOf w hi lo * 2 ^ lo + n % 2 ^ (hi + 1 - lo) * 2 ^ lo)

/-- One as a number where the condition holds. -/
def b2n (b : Bool) : Nat := if b then 1 else 0

/-- A number of `w` bits read as two's complement. -/
def signed (w n : Nat) : Int := if n % 2 ^ w < 2 ^ (w - 1) then ((n % 2 ^ w : Nat) : Int) else ((n % 2 ^ w : Nat) : Int) - 2 ^ w

/-- The number in `w` bits that stands for an integer in two's complement. -/
def unsigned (w : Nat) (i : Int) : Nat := (i % (2 ^ w : Int)).toNat

/-- A value brought into a range (the nearest bound where it lies outside). -/
def clamp (lo hi n : Nat) : Nat := min hi (max lo n)

/-! ### Register words (R38: the stored value) -/

/-- The stored register word at a window offset. -/
def State.reg (s : State) (a : Nat) : W32 := tget (resetWord s.variant a) s.regs a

/-- Stores a register word. -/
def State.setReg (s : State) (a : Nat) (v : W32) : State :=
  { s with regs := tset (resetWord s.variant a) s.regs a v }

/-- A stored field. -/
def State.fld (s : State) (a hi lo : Nat) : Nat := bitsOf (s.reg a) hi lo

/-- Stores a field. -/
def State.setFld (s : State) (a hi lo n : Nat) : State := s.setReg a (putBits (s.reg a) hi lo n)

/-- A stored bit. -/
def State.flag (s : State) (a i : Nat) : Bool := bitOf (s.reg a) i

/-- Stores a bit. -/
def State.setFlag (s : State) (a i : Nat) (b : Bool) : State := s.setFld a i i (b2n b)

/-- A stored two-word value (R49). -/
def State.reg2 (s : State) (a : Nat) : Nat := (s.reg a).toNat + 2 ^ 32 * (s.reg (a + 4)).toNat

/-- Stores a two-word value. -/
def State.setReg2 (s : State) (a n : Nat) : State :=
  (s.setReg a (BitVec.ofNat 32 n)).setReg (a + 4) (BitVec.ofNat 32 (n / 2 ^ 32))

/-- Adds one to a 64-bit count held in two words. -/
def State.count2 (s : State) (a : Nat) : State := s.setReg2 a (s.reg2 a + 1)

/-- The value of the free-value counter, and the state with the counter advanced. -/
def State.draw (s : State) : State := { s with free := s.free + 1 }

/-- Records something the block sends. -/
def State.emit (s : State) (o : Out) : State := { s with out := o :: s.out }

/-! ### Enables, clocks and readiness (R43, R487, R496) -/

/-- The UNIT_CTRL of a unit. -/
def unitCtrl (u : UnitRef) : Nat := (unitWin u).base

/-- UNIT_CTRL.EN. -/
def State.en (s : State) (u : UnitRef) : Bool := s.flag (unitCtrl u) 0

/-- A unit is disabled while EN reads 0 and QUIESCED reads 1 (R44). -/
def State.disabled (s : State) (u : UnitRef) : Bool := !s.en u && s.flag (unitCtrl u) 1

/-- FLT_STATE.GRAVE of a fault block (R520). -/
def State.grave (s : State) (b : FaultRef) : Bool := s.flag (faultBase b + 0x1C) 31

/-- CLK_STATUS (R492). -/
def clkStatus : Nat := 0x38104

/-- CK, MC and SVC run (R488, R490, R491). -/
def State.clocksRun (s : State) : Bool := s.flag clkStatus 0 && !s.flag clkStatus 2

/-- The logic domain is powered and out of reset, and a wake that returns it has reached step 4 (R546). -/
def State.logicUp (s : State) : Bool :=
  s.rails.contains .logic && !s.inReset &&
    (match s.pwr with | .wake left step => decide (left ≤ 2 ∨ (left = 4 ∧ step = 4)) | _ => true)

/-- The logic domain works. -/
def State.running (s : State) : Bool := s.logicUp && s.clocksRun

/-- RDY_CFG. -/
def State.cfgReady (s : State) : Bool := s.running && s.inited.contains .cfg

/-- RDY_HOME. -/
def State.homeReady (s : State) : Bool :=
  s.running && s.inited.contains .home && s.en .home && !s.grave .home

/-- RDY_LOCKET. -/
def State.locketReady (s : State) : Bool :=
  s.running && s.inited.contains .locket && s.en .locket && !s.grave .locket

/-- RDY_RS[n]. -/
def State.stopReady (s : State) (n : Nat) : Bool :=
  s.homeReady && decide (n < s.variant.stops) && s.inited.contains (.stop n) && !s.grave (.stop n) && !s.stopsLowered

/-- RDY_CL[c]. -/
def State.clusterReady (s : State) (c : Nat) : Bool :=
  s.running && s.inited.contains (.cluster c) && s.en (.cluster c)

/-- RDY_INTC. -/
def State.intcReady (s : State) : Bool := s.running && s.inited.contains .intc

/-- The channel unit of a sub-channel. -/
def State.chan (s : State) (n : Nat) : Chan := tget Chan.init s.chans n

/-- Stores a channel unit. -/
def State.setChan (s : State) (n : Nat) (c : Chan) : State := { s with chans := tset Chan.init s.chans n c }

/-- The sub-channel reports ready: its program has written READY = 1 and it is enabled (R398, R496). -/
def State.reportsReady (s : State) (n : Nat) : Bool := (s.chan n).ready && s.en (.chan n)

/-- RDY_SC[n]. -/
def State.scReady (s : State) (n : Nat) : Bool := s.running && s.reportsReady n

/-- SEC_STATUS.LC and LEVEL (R555, R561). -/
def State.lifecycle (s : State) : Nat := s.fld 0x2000 31 30
def State.dbgLevel (s : State) : Nat := s.fld 0x2000 29 28

/-- PWR_STATUS.STATE: 0 ACTIVE, 1 IDLE, 2 NAP, 3 DOZE, 4 OFF. -/
def State.pstate (s : State) : Nat := s.fld 0x1004 31 29

/-- The block services requests: ACTIVE, IDLE or NAP with its logic running. -/
def State.awake (s : State) : Bool := s.running && decide (s.pstate ≤ 2)

/-! ### Threads (R68, R70) -/

/-- The table key of a thread. -/
def tkey (t : ThreadRef) : Nat :=
  (match t.kind with | .stream => 0 | .seq => 65536 | .svc => 131072) + 256 * t.unit + t.idx

/-- The table key of the engine a thread belongs to: stream engines by cluster and engine, the others by unit. -/
def engKey (t : ThreadRef) : Nat :=
  match t.kind with
  | .stream => 256 * t.unit + t.idx / 4
  | .seq => 65536 + 256 * t.unit
  | .svc => 131072 + 256 * t.unit

/-- The window of the unit that a thread's engine belongs to. -/
def engWin (t : ThreadRef) : Win :=
  match t.kind with
  | .stream => .cluster t.unit
  | .seq => .seq t.unit
  | .svc => .svc t.unit

/-- The stored thread. -/
def State.thr (s : State) (t : ThreadRef) : Thread := tget Thread.init s.threads (tkey t)

/-- Stores a thread. -/
def State.setThr (s : State) (t : ThreadRef) (th : Thread) : State :=
  { s with threads := tset Thread.init s.threads (tkey t) th }

/-- A thread is OFFLINE while its stream engine is disabled in ENG_EN, fault containment holds its engine, or its
cluster is in GRAVE (R70, R514, R520). -/
def State.heldOffline (s : State) (t : ThreadRef) : Bool :=
  tget false s.engHold (engKey t) ||
  (t.kind == .stream && (!s.flag (0x28004 + 0x1000 * t.unit) (t.idx / 4) || s.grave (.cluster t.unit)))

/-- The state of a thread; a thread that was offline is IDLE again once nothing holds it (R70). -/
def State.thrSt (s : State) (t : ThreadRef) : ThrState :=
  if s.heldOffline t then .offline else if (s.thr t).st = .offline then .idle else (s.thr t).st

/-- The 12-bit OWNER value of a thread (R352). -/
def ownerOf (t : ThreadRef) : Nat :=
  match t.kind with
  | .stream => 1024 + 64 * t.unit + t.idx
  | .seq => 2048 + 2 * t.unit + t.idx
  | .svc => 3072 + 2 * t.unit + t.idx

/-- The hidden part of a context. -/
def State.ctx (s : State) (n : Nat) : Ctx := tget Ctx.init s.ctxs n

/-- Stores the hidden part of a context. -/
def State.setCtx (s : State) (n : Nat) (c : Ctx) : State := { s with ctxs := tset Ctx.init s.ctxs n c }

/-- Where the entry of a context lies in the window (R157). -/
def ctxBase (n : Nat) : Nat := 0x100000 + 0x40 * n

/-- CTX_STATUS.STATE: 0 OFF, 1 IDLE, 2 READY, 3 RUNNING, 4 RESIDENT, 5 HALTED. -/
def State.ctxState (s : State) (n : Nat) : Nat := s.fld (ctxBase n + 4) 31 29

/-- Stores CTX_STATUS.STATE. -/
def State.setCtxState (s : State) (n st : Nat) : State := s.setFld (ctxBase n + 4) 31 29 st

/-- The run of R345 that a thread's line operations count to. -/
def State.runOf (s : State) (t : ThreadRef) : Option (Nat × Nat) :=
  match (s.thr t).ctx with
  | some c => some (c, s.fld (ctxBase c + 0x34) 31 16)
  | none => some (8192 + tkey t, (s.thr t).epoch)

/-- The charm of a thread's requests (R10, R73). -/
def State.charmOf (s : State) (t : ThreadRef) : Nat :=
  match (s.thr t).ctx with
  | some c => s.fld (ctxBase c + 8) 5 0
  | none => 0

/-- The threads of a cluster in rising number. -/
def clusterThreads (c : Nat) : List ThreadRef := (List.range 48).map fun i => ⟨.stream, c, i⟩

/-- The thread that serves a context, if one does. -/
def State.servant (s : State) (ctx : Nat) : Option ThreadRef :=
  (clusterThreads (s.ctx ctx).cluster).find? fun t => decide ((s.thr t).ctx = some ctx)

/-! ### Latency and misses (R292) -/

/-- The data of a read with status ok has left the block, or has reached its engine thread: its latency enters the sample,
and a miss of its target is counted and, where reported, sets MISS (R292). Nothing is gathered while PERIOD is 0 (R291). -/
def State.readDone (s : State) (t : Stamp) : State :=
  let lat := (s.tbase - t.entry).toNat
  let acc := tget (0, 0) s.charmAcc t.charm
  let miss := decide (t.charm ≠ 0 ∧ t.cls ≠ 0 ∧ lat > t.target)
  let acc' := (acc.1 + b2n miss, max acc.2 (min 16777215 lat))
  let s := if s.fld 0x3028 15 0 = 0 then s else { s with charmAcc := tset (0, 0) s.charmAcc t.charm acc' }
  if miss && !t.overBudget && !t.degraded then s.setFlag (0x3018 + 4 * (t.charm / 32)) (t.charm % 32) true else s

/-! ### The stream port's response channel (R463 to R465) -/

/-- A stream port. -/
def State.sp (s : State) (n : Nat) : SPort := tget SPort.init s.sports n

/-- Stores a stream port. -/
def State.setSp (s : State) (n : Nat) (p : SPort) : State := { s with sports := tset SPort.init s.sports n p }

/-- The port's link is up and its home is ready (R467). -/
def State.spUp (s : State) (n : Nat) : Bool :=
  (s.sp n).link && s.homeReady && !s.grave (.port n)

/-- Sends one response beat; a READ's data with status ok completes its read (R292). -/
def State.spEmit (s : State) (n : Nat) (r : SpRsp) : State :=
  let s := if r.kind = 0 then s.count2 ((Win.port n).base + 0x10) else s
  let s := if r.status = 0 then r.stamp.elim s s.readDone else s
  s.emit (.spRsp n r.kind r.tid r.status r.tmo r.hm r.data)

/-- Sends the waiting responses while credits last. -/
def spDrain : Nat → Nat → State → State
  | 0, _, s => s
  | fuel + 1, n, s =>
    let p := s.sp n
    match p.rsps with
    | [] => s
    | r :: rest =>
      if p.rdCr = 0 ∨ s.spUp n = false then s
      else spDrain fuel n ((s.setSp n { p with rdCr := p.rdCr - 1, rsps := rest }).spEmit n r)

/-- Hands a response to a port; it waits where the port holds no response credit (R465), and is discarded where the
port is reset (R467). -/
def State.spRespond (s : State) (n : Nat) (r : SpRsp) : State :=
  let p := s.sp n
  if p.link = false then s
  else spDrain (p.rsps.length + 1) n (s.setSp n { p with rsps := p.rsps ++ [r] })

/-- A response without data (kinds 1, 2 and 4 of R463). -/
def plainRsp (kind tid status : Nat) (data : Line) : SpRsp :=
  { kind := kind, tid := tid, status := status, tmo := false, hm := 0, data := data, stamp := none }

/-! ### Event outputs (R479) -/

/-- Whether a line can take one more pulse. -/
def State.evtRoom (s : State) (line : Nat) : Bool := tget 0 s.evtPend line < 255

/-- Queues a pulse. -/
def State.evtQueue (s : State) (line : Nat) : State :=
  { s with evtPend := tset 0 s.evtPend line (min 255 (tget 0 s.evtPend line + 1)) }

/-! ### Knob values (R397, R432) -/

/-- The reset value of a knob's lane. -/
def knobReset (knob lane : Nat) : Nat :=
  match knob with
  | 0x01 => 64
  | 0x02 => 64
  | 0x04 => 32
  | 0x06 => 32
  | 0x07 => 32
  | 0x08 => 40
  | 0x0A => if lane < 50 then 6 else 8
  | 0x0B => 8
  | _ => 0

/-- The table key of a knob value, and the knob and lane of a key. -/
def knobKey (sc knob rank lane : Nat) : Nat := ((sc * 16 + knob) * 2 + rank) * 64 + lane
def keyReset (k : Nat) : Nat := knobReset (k / 128 % 16) (k % 64)

/-- A live or shadow value. -/
def knobAt (t : Tab Nat) (k : Nat) : Nat := tget (keyReset k) t k

/-- Stores a value. -/
def knobPut (t : Tab Nat) (k v : Nat) : Tab Nat := tset (keyReset k) t k v

/-! ### The invariant of the tables -/

/-- The tables that hold registers and units are in canonical form, so that equal contents are equal data. -/
abbrev State.Canonical (s : State) : Prop :=
  Tab.wf (resetWord s.variant) s.regs = true ∧ Tab.wf (fun _ => Thread.init) s.threads = true ∧
    Tab.wf (fun _ => Ctx.init) s.ctxs = true ∧ Tab.wf (fun _ => Chan.init) s.chans = true ∧
    Tab.wf (fun _ => SPort.init) s.sports = true ∧ Tab.wf (fun _ => Clasp.init) s.clasps = true ∧
    Tab.wf (fun _ => 0) s.evtPend = true ∧ Tab.wf (fun _ => []) s.readyQ = true ∧
    Tab.wf (fun k => resetWord s.variant (k / 2 + 4)) s.rdShadow = true ∧
    Tab.wf (fun k => resetWord s.variant (k / 2)) s.wrShadow = true ∧ Tab.wf (fun _ => []) s.filter = true ∧
    Tab.wf (fun _ => false) s.plots = true ∧ Tab.wf (fun _ => Stop.init) s.stops = true ∧
    Tab.wf keyReset s.live = true ∧ Tab.wf keyReset s.shadow = true ∧ Tab.wf (fun _ => 0) s.assigned = true ∧
    Tab.wf (fun _ => false) s.padFloat = true ∧ Tab.wf (fun _ => false) s.padQuiet = true ∧
    Tab.wf (fun _ => false) s.drst = true ∧ keysAbove 0 s.sbCmd = true ∧ (s.threads.all fun e => Tab.wf (fun _ => 0) e.2.g) = true ∧
    (s.chans.all fun e => Tab.wf (fun _ => Bank.init) e.2.banks && Tab.wf (fun _ => Rank.init) e.2.ranks) = true ∧
    (s.saved.all fun v => Tab.wf keyReset v.knobs) = true

end Sys2Proof.Machine
end

