-- ==== Sys2Proof/Machine/AddrMap.lean ====
section
/-! DEFINITION. The address map: two generations, the watermark, and the place of a line inside its sub-channel
(R221 to R230). -/

namespace Sys2Proof.Machine

/-- Where the registers of CURRENT and of NEXT start (R241). -/
def genCur : Nat := 0x6C00
def genNext : Nat := 0x6C40

/-- MIG_CTRL, MIG_STATUS, MIG_WM and MIG_END (R241). -/
def migCtrl : Nat := 0x6C80
def migStatus : Nat := 0x6C84
def migWm : Nat := 0x6C88
def migEnd : Nat := 0x6C90

/-- The way count of a WAYS code as p and t of W = 2^p x 3^t (R225, R241); none for a reserved code. -/
def waysPT : Nat → Option (Nat × Nat)
  | 0 => some (0, 0)
  | 1 => some (1, 0)
  | 2 => some (0, 1)
  | 3 => some (2, 0)
  | 4 => some (1, 1)
  | 5 => some (3, 0)
  | 6 => some (2, 1)
  | 7 => some (4, 0)
  | 8 => some (3, 1)
  | _ => none

/-- A generation as its registers hold it. -/
structure Gen where
  valid : Bool
  evac : Bool
  slot : Nat
  gran : Nat
  ways : Nat
  limit : Nat
  rsv : Nat
  tab : List Nat
deriving DecidableEq, Repr

/-- The generation whose registers start at `b`. -/
def State.gen (s : State) (b : Nat) : Gen :=
  { valid := s.flag b 31, evac := s.flag b 30, slot := s.fld b 29 26, gran := s.fld b 7 4, ways := s.fld b 3 0,
    limit := s.reg2 (b + 8), rsv := s.reg2 (b + 0x10),
    tab := (List.range 24).map fun w => s.fld (b + 0x20 + 4 * (w / 4)) (8 * (w % 4) + 4) (8 * (w % 4)) }

/-- W of a generation; 0 for a reserved code. -/
def Gen.w (g : Gen) : Nat := (waysPT g.ways).elim 0 fun pt => 2 ^ pt.1 * 3 ^ pt.2

/-- The granule size G in bytes. -/
def Gen.g (g : Gen) : Nat := 256 * 2 ^ g.gran

/-- The sub-channels of ways 0 to W − 1. -/
def Gen.scs (g : Gen) : List Nat := g.tab.take g.w

/-- Whether a sub-channel is evacuated by the redirect. -/
def Gen.evacuated (g : Gen) (sc : Nat) : Bool := sc / 2 == g.slot

/-- R224: a known way count and granule, distinct ways that name sub-channels of the configuration. -/
def Gen.okWays (v : Variant) (g : Gen) : Bool :=
  decide (0 < g.w ∧ g.w ≤ v.scs ∧ g.gran ≤ 4) && g.scs.all (fun n => decide (n < v.scs)) && decide g.scs.Nodup

/-- R226: what the evacuation redirect requires. -/
def Gen.okEvac (g : Gen) : Bool :=
  let stripe := g.w * g.g
  let sr := g.rsv / stripe
  let st := (g.limit + stripe - 1) / stripe
  !g.evac ||
    (g.scs.contains (2 * g.slot) && g.scs.contains (2 * g.slot + 1) &&
     decide (4 ≤ g.w ∧ g.rsv % stripe = 0 ∧ g.rsv < g.limit ∧ 2 * sr ≤ (g.w - 2) * (st - sr)))

/-- A generation that R224 and R226 allow. -/
def Gen.ok (v : Variant) (g : Gen) : Bool := g.valid && g.okWays v && g.okEvac

/-- The pseudocode of R225: the sub-channel and the local address of a physical address. -/
def Gen.translate (g : Gen) (a : Nat) : Option (Nat × Nat) :=
  match waysPT g.ways with
  | none => none
  | some (p, t) =>
    if a ≥ g.limit ∨ (g.evac = true ∧ a ≥ g.rsv) then none else
    let gn := a / g.g
    let off := a % g.g
    let wlo := gn % 2 ^ p
    let h := gn / 2 ^ p
    let whi := if t = 1 then h % 3 else 0
    let st := if t = 1 then h / 3 else h
    let way := wlo + 2 ^ p * whi
    let sc := g.tab.getD way 0
    if g.evac && g.evacuated sc then
      let j := 2 * st + sc % 2
      let live := g.scs.filter fun n => !g.evacuated n
      let st := g.rsv / (g.w * g.g) + j / (g.w - 2)
      some (live.getD (j % (g.w - 2)) 0, st * g.g + off)
    else some (sc, st * g.g + off)

/-- SC_DECODE of a sub-channel. -/
def scDecode (sc : Nat) : Nat := 0x10004 + 0x1000 * sc

/-- SC_DECODE names a module: POPULATED with a density that is not the reserved code (R266). -/
def State.populated (s : State) (sc : Nat) : Bool := s.flag (scDecode sc) 0 && decide (s.fld (scDecode sc) 4 3 ≠ 3)

/-- x8 devices. -/
def State.isX8 (s : State) (sc : Nat) : Bool := s.flag (scDecode sc) 2

/-- Two ranks. -/
def State.twoRanks (s : State) (sc : Nat) : Bool := s.flag (scDecode sc) 1

/-- The row count of the density (R230). -/
def State.rowCount (s : State) (sc : Nat) : Nat :=
  match s.fld (scDecode sc) 4 3 with
  | 0 => 65536
  | 1 => 98304
  | _ => 131072

/-- The lines of one rank: rows x 4 banks x the lines of a row set (R229). -/
def State.rankLines (s : State) (sc : Nat) : Nat := s.rowCount sc * 4 * (if s.isX8 sc then 512 else 1024)

/-- SC_CAP.MIB (R228, R266). -/
def State.capMib (s : State) (sc : Nat) : Nat :=
  if s.populated sc then s.rankLines sc * (if s.twoRanks sc then 2 else 1) / 16384 else 0

/-- The split of a local line number (R229, R230). -/
def State.splitLocal (s : State) (sc ell : Nat) : Place :=
  let x8 := s.isX8 sc
  let cb := if x8 then 6 else 7
  let n := ell / 2 ^ (3 + cb)
  let bank := n % 4
  let two := s.twoRanks sc
  let rank := if two then n / 4 % 2 else 0
  let row := if two then n / 8 else n / 4
  let xr := s.flag (scDecode sc) 5
  { sc := sc, ell := ell, rank := rank, bg := if xr then Nat.xor (ell % 8) (row % 8) else ell % 8,
    bank := if xr then Nat.xor bank (row / 8 % 4) else bank, row := row, col := ell / 8 % 2 ^ cb * 16 }

/-- The place of a line under a generation; none is a decode error (R225, R228, R230). -/
def State.placeIn (s : State) (g : Gen) (line : Nat) : Option Place :=
  match g.translate (64 * line) with
  | none => none
  | some (sc, loc) =>
    if loc ≥ s.capMib sc * 1048576 then none
    else
      let p := s.splitLocal sc (loc / 64)
      if p.row ≥ s.rowCount sc then none else some p

/-- The physical line that a generation would place at a local line number of a sub-channel, read off R225 backwards. -/
def Gen.untranslate (g : Gen) (sc ell : Nat) : Nat :=
  match waysPT g.ways with
  | none => 0
  | some (p, t) =>
    let loc := 64 * ell
    let st := loc / g.g
    let sr := g.rsv / (g.w * g.g)
    let moved := g.evac && decide (st ≥ sr)
    let live := g.scs.filter fun n => !g.evacuated n
    let j := (st - sr) * (g.w - 2) + live.idxOf sc
    let way := g.scs.idxOf (if moved then 2 * g.slot + j % 2 else sc)
    let st := if moved then j / 2 else st
    ((st * 3 ^ t + way / 2 ^ p) * 2 ^ p + way % 2 ^ p) * (g.g / 64) + ell % (g.g / 64)

/-- The generation that translates a line now (R222). -/
def State.genOf (s : State) (line : Nat) : Gen := if 64 * line < s.reg2 migWm then s.gen genNext else s.gen genCur

/-- The place of a line now (R12, R222). -/
def State.place (s : State) (line : Nat) : Option Place := s.placeIn (s.genOf line) line

/-- The physical line held now at a local line number of a sub-channel, if one is. -/
def State.lineAt (s : State) (sc ell : Nat) : Option Nat :=
  [(s.gen genCur).untranslate sc ell, (s.gen genNext).untranslate sc ell].find? fun l =>
    (s.place l).elim false fun p => p.sc == sc && p.ell == ell

/-- A line that lies in the reserve of R238: the redirect of a generation in use leaves it unused. -/
def State.inReserve (s : State) (line : Nat) : Bool :=
  let c := s.gen genCur
  let n := s.gen genNext
  (c.evac && decide (64 * line ≥ c.rsv)) || (s.flag migStatus 0 && n.evac && decide (64 * line ≥ n.rsv))

end Sys2Proof.Machine
end

