-- ==== Sys2Proof/Machine/Charm.lean ====
section
/-! DEFINITION. Charms: contracts, budgets, effective priority, the guarantee sum, the port arbiter's pool and its
choice, Trellis gates and samples (R268 to R293). -/

namespace Sys2Proof.Machine

/-- CH_CFG, CH_BUDGET, CH_TARGET and CH_USED of a charm (R296). -/
def chCfg (c : Nat) : Nat := 0x3400 + 0x10 * c
def chBudget (c : Nat) : Nat := 0x3404 + 0x10 * c
def chTarget (c : Nat) : Nat := 0x3408 + 0x10 * c
def chUsed (c : Nat) : Nat := 0x340C + 0x10 * c

/-- CLASS: 0 Elastic, 1 Guaranteed, 2 Fast; 3 acts as 0; charm 0 reads Elastic (R268, R269, R296). -/
def State.chClass (s : State) (c : Nat) : Nat :=
  let k := s.fld (chCfg c) 31 30
  if c = 0 ∨ k = 3 then 0 else k

/-- WINDOW in µs (R296). -/
def State.chWindow (s : State) (c : Nat) : Nat := clamp 1 1000 (s.fld (chCfg c) 21 12)

/-- GROUP; charm 0 reads 0 (R269). -/
def State.chGroup (s : State) (c : Nat) : Nat := if c = 0 then 0 else s.fld (chCfg c) 25 22

/-- DEGRADED bit of a charm (R278). -/
def State.degraded (s : State) (c : Nat) : Bool := s.flag (0x3010 + 4 * (c / 32)) (c % 32)

/-- The OVER bit of a charm (R273); charm 0 has none (R269). -/
def State.overBit (s : State) (c : Nat) : Bool := decide (c ≠ 0 ∧ s.fld (chUsed c) 23 0 ≥ s.fld (chBudget c) 23 0)

/-- What a request takes at entry and keeps (R270, R273). -/
def State.stamp (s : State) (c : Nat) : Stamp :=
  { charm := c, cls := s.chClass c, base := s.fld (chCfg c) 29 26, target := clamp 10 1000000 (s.fld (chTarget c) 19 0),
    degraded := s.degraded c, overBudget := s.overBit c, entry := s.tbase }

/-- The stamp of a request the block makes by itself: charm 0, neither over budget nor degraded (R586). -/
def State.blockStamp (s : State) : Stamp := { s.stamp 0 with degraded := false, overBudget := false }

/-- A request counts one line against its charm when it enters (R271, R269). -/
def State.countLine (s : State) (c : Nat) : State :=
  if c = 0 then s else s.setFld (chUsed c) 23 0 (min 16777215 (s.fld (chUsed c) 23 0 + 1))

/-- The effective priority of a stamped request (R274). -/
def State.effPrio (s : State) (t : Stamp) : Nat :=
  if t.overBudget then s.fld 0x3000 3 0
  else
    let ceil := if t.cls = 2 then 15 else if t.cls = 1 ∧ t.degraded = false then s.fld 0x3000 7 4 else s.fld 0x3000 11 8
    let c := max t.base ceil
    let a := (s.tbase - t.entry).toNat
    if 2 * a < t.target then t.base
    else if a ≥ t.target then c
    else t.base + (c - t.base) * (2 * a - t.target) / t.target

/-! ### The guarantee sum (R277, R278) -/

/-- Whether a charm counts in the sum. -/
def State.guaranteed (s : State) (c : Nat) : Bool := decide (c ≠ 0) && s.chClass c == 1

/-- The share of a charm: ⌈BUDGET / WINDOW⌉. -/
def State.share (s : State) (c : Nat) : Nat := (s.fld (chBudget c) 23 0 + s.chWindow c - 1) / s.chWindow c

/-- The Guaranteed charms ranked: highest BASE first, lowest number first among equals. -/
def State.ranking (s : State) : List Nat :=
  (List.range 16).flatMap fun k =>
    (List.range 64).filter fun c => s.guaranteed c && s.fld (chCfg c) 29 26 == 15 - k

/-- The smallest bottom of a ranking whose removal brings the sum to `limit` or below; `ls` is the ranking reversed. -/
def bottomOf (share : Nat → Nat) (limit : Nat) : List Nat → Nat → List Nat
  | [], _ => []
  | c :: cs, sum => if sum ≤ limit then [] else c :: bottomOf share limit cs (sum - share c)

/-- The end of a recomputation: GUAR_SUM, OVERSUB with OVERSUB_EV, DEGRADED, and SUM_BUSY 0 (R277, R278). -/
def State.recompute (s : State) : State :=
  let rank := s.ranking
  let exact := (rank.map s.share).sum
  let sum := min 16777215 exact
  let limit := s.fld 0x3004 15 0
  let isOver := decide (sum > limit)
  let deg := if isOver then bottomOf s.share limit rank.reverse exact else []
  let mask := fun h => ((deg.filter fun c => c / 32 == h).map fun c => 2 ^ (c % 32)).sum
  let s := if isOver && !s.flag 0x3008 0 then s.setFlag 0x3008 1 true else s
  let s := (s.setFlag 0x3008 0 isOver).setFlag 0x3008 2 false
  let s := s.setFld 0x300C 23 0 sum
  (s.setReg 0x3010 (BitVec.ofNat 32 (mask 0))).setReg 0x3014 (BitVec.ofNat 32 (mask 1))

/-! ### The pool (R281 to R284) -/

/-- A charm's group is open, or it is charm 0 (R282); MASK stands in TR_STATUS. -/
def State.groupOpen (s : State) (c : Nat) : Bool := c == 0 || s.flag 0x3044 (16 + s.chGroup c)

/-- A charm's queue in the pool. -/
def State.queueOf (s : State) (c : Nat) : List Req := s.pool.filter fun r => r.stamp.charm == c

/-- A head that is bound for the fast path: Fast and not over budget (R282, R283). -/
def fastBound (r : Req) : Bool := r.stamp.cls == 2 && !r.stamp.overBudget

/-- The arbiter's memory of a charm's queue. -/
def State.cq (s : State) (c : Nat) : CharmQ := tget CharmQ.init s.charmQ c

/-- Stores it. -/
def State.setCq (s : State) (c : Nat) (q : CharmQ) : State := { s with charmQ := tset CharmQ.init s.charmQ c q }

/-- A request that has become the head of its queue takes its finish tag (R284); a queue that is empty, or whose group is
closed, has woken. -/
def State.settle (s : State) (c : Nat) : State :=
  let q := s.cq c
  match s.queueOf c with
  | [] => s.setCq c { q with head := 0, tag := none, woken := true }
  | r :: _ =>
    let q' :=
      if q.head = r.id then q
      else if fastBound r then { q with head := r.id, tag := none }
      else
        let start := if q.woken then s.vtime else q.prev
        let w := max 1 (s.fld (chCfg c) 7 0)
        { q with head := r.id, tag := some (start + BitVec.ofNat 32 (65536 / w)), woken := false }
    s.setCq c (if s.groupOpen c then q' else { q' with woken := true })

/-- Whether the pool can take a request (R281). -/
def State.poolRoom (s : State) : Bool := s.pool.length < 512

/-- A request enters the pool at the end of its charm's queue. -/
def State.poolAdd (s : State) (r : Req) : State := ({ s with pool := s.pool ++ [r] }).settle r.stamp.charm

/-- Two requests have one source: a stream port, an engine thread, or a ring agent by whatever stop and direction its
requests come (R282, R339). -/
def Src.same (a b : Src) : Bool :=
  match a, b with
  | .agent _ _ x, .agent _ _ y => x == y
  | _, _ => a == b

/-- A head may pass: no earlier request of its source waits in another charm queue to the same line, or, on a stream
port, with the same non-zero tag (R282). -/
def State.mayPass (s : State) (h : Req) : Bool :=
  (s.pool.takeWhile fun r => r.id != h.id).all fun r =>
    !(r.src.same h.src && r.stamp.charm != h.stamp.charm &&
      (r.line == h.line ||
        (match h.src with | .port _ => h.otag != 0 && r.otag == h.otag | _ => false)))

/-- The eligible heads in rising charm number (R282). -/
def State.heads (s : State) : List Req :=
  (List.range 64).filterMap fun c =>
    match s.queueOf c with
    | [] => none
    | r :: _ => if s.groupOpen c && s.mayPass r then some r else none

/-- Tag `x` is earlier than tag `y` (R284). -/
def tagEarlier (x y : W32) : Bool := decide ((x - y).toNat ≥ 2 ^ 31)

/-- Of two heads, the one whose finish tag is earlier; the first of them among equals. -/
def State.earlierOf (s : State) (a b : Req) : Req :=
  match (s.cq a.stamp.charm).tag, (s.cq b.stamp.charm).tag with
  | some x, some y => if tagEarlier y x then b else a
  | _, _ => a

/-- Of two Fast heads, the one that entered first (R283). Each request enters at a moment of its own: requests come to ports
and stops by one command each, and an engine's memory port issues one line operation per mc (R79), so no two have entered in
one mc (DESIGN CHOICE, log entry 96). -/
def firstEntered (a b : Req) : Req := if b.id < a.id then b else a

/-- The choice of R283. -/
def State.choose (s : State) : Option Req :=
  let hs := s.heads
  match hs.filter fastBound with
  | f :: fs => some (fs.foldl firstEntered f)
  | [] =>
    match hs with
    | [] => none
    | h :: rest => some (rest.foldl s.earlierOf h)

/-- The chosen request leaves the pool; the virtual time takes its finish tag on the weighted path (R283, R284). -/
def State.poolTake (s : State) (r : Req) : State :=
  let c := r.stamp.charm
  let q := s.cq c
  let s := match q.tag with
    | some f => { (s.setCq c { q with prev := f }) with vtime := f }
    | none => s.setCq c { q with woken := true }
  ({ s with pool := s.pool.filter fun x => x.id != r.id }).settle c

/-- Queues whose group is closed have woken (R284). -/
def State.settleAll (s : State) : State := (List.range 64).foldl State.settle s

/-! ### Entry of requests -/

/-- A request enters: it is counted, and takes the next number and its stamp (R270, R271). The number tells which of two
requests entered first (R283). -/
def State.admitReq (s : State) (charm : Nat) (r : Req) : Req × State :=
  ({ r with id := s.nextId + 1, stamp := s.stamp charm }, { s.countLine charm with nextId := s.nextId + 1 })

/-- A request enters and goes into the pool. -/
def State.enter (s : State) (charm : Nat) (r : Req) : State :=
  let e := s.admitReq charm r
  e.2.poolAdd e.1

/-- A request with the fields that most requests leave empty. -/
def Req.mk0 (src : Src) (kind : ReqKind) (line : Nat) : Req :=
  { id := 0, src := src, kind := kind, line := line, data := 0, hm := 0, poison := false, otag := 0, dest := .none,
    place := .never, hdr := false, run := none,
    stamp := { charm := 0, cls := 0, base := 0, target := 0, degraded := false, overBudget := false, entry := 0 }, seq := 0 }

/-! ### Samples (R291) -/

/-- One charm's sample registers take the period just ended (R291). -/
def State.sampleOne (s : State) (c : Nat) : State :=
  let acc := tget (0, 0) s.charmAcc c
  let s := s.setReg (0x3800 + 8 * c)
    (BitVec.ofNat 32 (min 65535 acc.1 * 65536 + min 1023 (s.queueOf c).length))
  s.setReg (0x3804 + 8 * c) (BitVec.ofNat 32 acc.2)

/-- The sample of every charm together (R291). -/
def State.sampleAll (s : State) : State := { (List.range 64).foldl State.sampleOne s with charmAcc := [] }

/-! ### Trellis (R285 to R290) -/

/-- LEN of a bank; above 256 acts as 256 (R297). -/
def State.trLen (s : State) (b : Nat) : Nat := min 256 (s.fld (0x4000 + 0x1000 * b) 8 0)

/-- TR_CTRL.EN, PENDING and ACTIVE_BANK. -/
def State.trEn (s : State) : Bool := s.flag 0x3040 0
def State.trPending (s : State) : Bool := s.flag 0x3040 9
def State.trActive (s : State) : Nat := s.fld 0x3040 8 8

/-- The mask of a slot takes effect (R287). -/
def State.trEnter (s : State) (b slot : Nat) : State :=
  let mask := s.fld (0x4400 + 0x1000 * b + 4 * slot) 31 16
  ((s.setFld 0x3044 31 16 mask).setFld 0x3044 7 0 slot).settleAll

/-- The takeover of R288: the inactive bank becomes active at its slot 0. -/
def State.trTakeover (s : State) : State :=
  let b := 1 - s.trActive
  ((s.setFld 0x3040 8 8 b).setFlag 0x3040 9 false).trEnter b 0

/-- A slot's duration has ended (R287, R288). -/
def State.trBoundary (s : State) : State :=
  if s.trPending && decide (s.tbase ≥ s.trAt) then s.trTakeover
  else
    let b := s.trActive
    s.trEnter b ((s.fld 0x3044 7 0 + 1) % max 1 (s.trLen b))

/-- The active list restarts at slot 0 at wake; a takeover whose time has passed takes effect there (R290). -/
def State.trRestart (s : State) : State :=
  if !s.trEn then s
  else if s.trPending && decide (s.tbase ≥ s.trAt) then s.trTakeover else s.trEnter s.trActive 0

/-- EN changes from 0 to 1: the bank that BANK names starts (R286). -/
def State.trStart (s : State) : State :=
  let b := s.fld 0x3040 4 4
  ((s.setFlag 0x3040 0 true).setFld 0x3040 8 8 b).trEnter b 0

/-- EN changes from 1 to 0: every group opens, and a pending takeover is cancelled (R286). -/
def State.trStop (s : State) : State :=
  (((s.setFlag 0x3040 0 false).setFlag 0x3040 9 false).setReg 0x3044 0xFFFF0000#32).settleAll

/-- A TBASE step zeroes every CH_USED (R272, R505). -/
def State.usedClear (s : State) : State := (List.range 64).foldl (fun s c => s.setFld (chUsed c) 23 0 0) s

end Sys2Proof.Machine
end

