-- ==== Sys2Proof/Machine/Codes.lean ====
section
/-! DEFINITION. The check codes of the block: CRC-32C (R375), the CRC-8 of the sideband bus and of the Service Chain
(R438, R592), and multiplication in the fields of 256 elements. -/

namespace Sys2Proof.Machine

/-- One bit of the reflected CRC-32C. -/
def crc32cBit (c : Nat) : Nat := if c % 2 = 1 then Nat.xor (c / 2) 0x82F63B78 else c / 2

/-- One byte of the CRC-32C. -/
def crc32cByte (c b : Nat) : Nat :=
  let c := Nat.xor c b
  crc32cBit (crc32cBit (crc32cBit (crc32cBit (crc32cBit (crc32cBit (crc32cBit (crc32cBit c)))))))

/-- The CRC-32C of bytes in order: reflected, initial value and final XOR all ones (R375). -/
def crc32c (bs : List Nat) : Nat := Nat.xor (bs.foldl crc32cByte 0xFFFFFFFF) 0xFFFFFFFF

/-- The bytes of a line as numbers, byte 0 first. -/
def lineNats (l : Line) : List Nat := (lineBytes l).map BitVec.toNat

/-- A line from bytes given as numbers. -/
def lineOfNats (bs : List Nat) : Line := lineOfBytes (bs.map (BitVec.ofNat 8))

/-- The line Hallmark (R375). -/
def hallmark (l : Line) : Hm := BitVec.ofNat 32 (crc32c (lineNats l))

/-- One bit of the CRC-8 with polynomial 0x07, fed as R592 says. -/
def crc8Bit (c : Nat) (b : Bool) : Nat :=
  let f := xor b (c / 128 % 2 == 1)
  let c := c * 2 % 256
  if f then Nat.xor c 0x07 else c

/-- The CRC-8 of bits in the order in which they are sent (R592). -/
def crc8Bits (bs : List Bool) : Nat := bs.foldl crc8Bit 0

/-- The bits of a number, bit 0 first. -/
def bitsLsb (w n : Nat) : List Bool := (List.range w).map fun i => n / 2 ^ i % 2 == 1

/-- The packet error check of bytes, each byte most significant bit first (R438). -/
def pec (bs : List Nat) : Nat := crc8Bits (bs.flatMap fun b => (bitsLsb 8 b).reverse)

/-- Doubling in a field of 256 elements whose modulus is `poly`. -/
def gdouble (poly a : Nat) : Nat := if a < 128 then a * 2 else Nat.xor (a * 2) poly

/-- Multiplication in a field of 256 elements, by the bits of the second factor. -/
def gmul (poly a b : Nat) : Nat :=
  let step := fun (st : Nat × Nat) (i : Nat) =>
    (if b / 2 ^ i % 2 = 1 then Nat.xor st.1 st.2 else st.1, gdouble poly st.2)
  ((List.range 8).foldl step (0, a)).1

/-- A power in a field of 256 elements. -/
def gpow (poly a : Nat) : Nat → Nat
  | 0 => 1
  | n + 1 => gmul poly (gpow poly a n) a

/-- The inverse in a field of 256 elements: the 254th power, by squarings (zero for zero). -/
def ginv (poly a : Nat) : Nat :=
  let a2 := gmul poly a a
  let a4 := gmul poly a2 a2
  let a8 := gmul poly a4 a4
  let a16 := gmul poly a8 a8
  let a32 := gmul poly a16 a16
  let a64 := gmul poly a32 a32
  let a128 := gmul poly a64 a64
  gmul poly a128 (gmul poly a64 (gmul poly a32 (gmul poly a16 (gmul poly a8 (gmul poly a4 a2)))))

end Sys2Proof.Machine
end

