-- ==== Sys2Proof/Machine/Fault.lean ====
section
/-! DEFINITION. Fault blocks: recording an event (R509 to R511, R517), the containments that stop no thread (R514), and
what GRAVE stops in units without threads (R520, R521). The engine side stands in Halt.lean. -/

namespace Sys2Proof.Machine

/-! ### The status a channel unit keeps in MBOX12 (R403) -/

/-- MBOX12 of a channel sequencer. -/
def mbox12 (sc : Nat) : Nat := 0x34070 + 0x100 * sc

/-- The word MBOX12 holds (R403). -/
def mboxWord (en : Bool) (c : Chan) : W32 :=
  BitVec.ofNat 32 (c.spare * 2 ^ 30 + b2n c.clearing * 2 ^ 29 + b2n c.cleared * 2 ^ 28 + b2n (c.ready && en) * 2 ^ 27 +
    b2n c.blocked * 2 ^ 26 + b2n c.isolated * 2 ^ 25 + min 15 c.fails * 2 ^ 20 + c.lastReason % 256 * 2 ^ 8)

/-- Stores a channel unit and rewrites MBOX12 where a field of it changed. -/
def State.updChan (s : State) (sc : Nat) (f : Chan → Chan) : State :=
  let c := s.chan sc
  let c' := f c
  let en := s.en (.chan sc)
  if mboxWord en c = mboxWord en c' then s.setChan sc c' else (s.setChan sc c').setReg (mbox12 sc) (mboxWord en c')

/-! ### Recording (R510) -/

/-- SEV(src), the programmed severity (R509). -/
def State.sevOf (s : State) (b : FaultRef) (src : Nat) : Nat :=
  s.fld (faultBase b + 0x10 + 4 * (src / 16)) (2 * (src % 16) + 1) (2 * (src % 16))

/-- Whether an event of the source is escalated now (R511). -/
def State.escalates (s : State) (b : FaultRef) (src : Nat) : Bool :=
  s.flag (faultBase b + 0x18) 1 && s.flag (faultBase b) src

/-- The effective severity of an event of the source now (R511). -/
def State.effSev (s : State) (b : FaultRef) (src : Nat) : Nat := min 3 (s.sevOf b src + b2n (s.escalates b src))

/-- Adds an entry to the history (R517). -/
def State.addHist (s : State) (b : FaultRef) (e : HistEnt) : State :=
  let old := tget [] s.hist (faultBase b)
  let s := if old.length ≥ 16 then s.setFlag (faultBase b + 0x20) 16 true else s
  let s := s.setFld (faultBase b + 0x20) 23 17 e.seq
  let s := s.setFld (faultBase b + 0x20) 12 8 (min 16 (old.length + 1))
  { s with hist := tset [] s.hist (faultBase b) ((e :: old).take 16) }

/-- FAULT_N starts, or restarts, a pulse: an onset of a fault condition in compatibility mode (R527). -/
def State.onset (s : State) : State :=
  if s.flag 0x1E00 31 then { s with pulse := true, alive := false, onsetSeen := true } else s

/-- GRAVE is entered: GRAVE, GRAVE_SRC and, where it cannot be left, LATCHED (R520, R521). -/
def State.enterGrave (s : State) (b : FaultRef) (src : Nat) : State :=
  if s.grave b then s
  else
    let a := faultBase b + 0x1C
    let s := (s.setFlag a 31 true).setFld a 4 0 src
    let s := if s.variant.graveAuto = false ∨ b = .power then s.setFlag a 30 true else s
    s.onset

/-- Records an event of source `src` in one step (R510, steps 1 to 3, and the entry into GRAVE). `kind` and `info` are
those of R515. -/
def State.record (s : State) (b : FaultRef) (src kind info : Nat) (forced : Bool) : State :=
  let eff := s.effSev b src
  let e : HistEnt :=
    { tbase := s.tbase, source := src, forced := forced, escalated := s.escalates b src, sev := eff, kind := kind,
      seq := (s.fld (faultBase b + 0x20) 23 17 + 1) % 128, info := BitVec.ofNat 46 info }
  let s := s.setFlag (faultBase b) src true
  let s := if eff ≥ 1 then s.setFlag (faultBase b + 4) src true else s
  let s := s.addHist b e
  if eff = 3 then s.enterGrave b src else s

/-! ### Containments without threads (R514) -/

/-- The run that holds the grant gives it up where its requester is granted no more: refresh, maintenance and the read queue
keep theirs under isolation, and refresh alone in GRAVE (R514, R520). A maintenance command not yet carried out is granted
again later. -/
def Chan.cut (c : Chan) (grave : Bool) : Chan :=
  match c.run with
  | none => c
  | some r =>
    if r.rq = 3 then
      (if grave then { c with run := none, maint := c.maint.map fun m => { m with granted := false } } else c)
    else if r.rq = 0 ∧ grave = false then c
    else { c with run := none, susp := c.susp ++ [{ r with oneLine := false }] }

/-- The sub-channel is no longer ready, and the entries queued so far are marked (R514). -/
def Chan.shut (c : Chan) (grave : Bool) : Chan :=
  { c.cut grave with
    ready := false, isolated := true, ents := if c.isolated then c.ents else c.ents.map fun e => { e with old := true } }

/-- Isolates a sub-channel until the source is acknowledged (R514). -/
def State.isolate (s : State) (sc : Nat) (b : FaultRef) (src : Nat) : State :=
  s.updChan sc fun c =>
    { c.shut false with
      isoBy := if c.isoBy.contains (faultBase b, src) then c.isoBy else (faultBase b, src) :: c.isoBy }

/-- Whether the containment of a source isolates a sub-channel (R515). -/
def isolating : FaultRef → Nat → Bool
  | .chan _, s => s == 1 || s == 2 || s == 3 || s == 6
  | .phy, s => s == 1
  | _, _ => false

/-- The sub-channel that an isolating event names (R514, R515). -/
def isoTarget : FaultRef → Nat → Nat
  | .chan n, _ => n
  | _, info => info % 32

/-- A pending request, tracker or packet of a port whose answers are to be discarded (R467). -/
def dropReq (n : Nat) (r : Req) : Req :=
  if r.src = .port n ∧ r.kind = .rd then { r with dest := .none } else r

/-- A packet of a port whose responses are to be discarded (R467). -/
def dropPkt (n : Nat) (p : Packet) : Packet := if p.sp = n then { p with dead := true } else p

/-- A block fetch for a packet of a port whose responses are to be discarded delivers to nothing (R467). -/
def dropJobPort (n : Nat) (j : Job) : Job :=
  match j.kind with
  | .blk2d x y plane width height layout (some (sp, _)) =>
    if sp = n then { j with kind := .blk2d x y plane width height layout none } else j
  | _ => j

/-- What the fall of SP_RST_N does to a port and to what it has under way (R467). -/
def State.portFall (s : State) (n : Nat) : State :=
  let p := s.sp n
  let s := s.setSp n { p with ready := false, reqCr := 0, wdCr := 0, rdCr := 0, beats := [], held := [],
                              flushes := p.flushes.map fun f => { f with dead := true }, rsps := [] }
  { s with
    pool := s.pool.map (dropReq n), homeQ := s.homeQ.map (dropReq n),
    trks := s.trks.map fun t => { t with req := dropReq n t.req },
    ctxs := tmap Ctx.init (fun x =>
      { x with queue := x.queue.map (dropPkt n), ending := x.ending.map fun q => (dropPkt n q.1, q.2) }) s.ctxs,
    threads := tmap Thread.init (fun th => { th with packet := th.packet.map (dropPkt n) }) s.threads,
    jobs := s.jobs.map (dropJobPort n) }

/-- Every port loses its credits when the home is no longer ready (R467, R498). -/
def State.portsDown (s : State) : State :=
  { s with sports := tmap SPort.init (fun p => { p with ready := false, reqCr := 0, wdCr := 0, rdCr := 0 }) s.sports }

/-- Security enters GRAVE: in DEPLOYED the level drops, and an outstanding judgement is withdrawn (R567). -/
def State.levelDrop (s : State) : State :=
  if s.lifecycle ≠ 2 then s
  else
    let s := if s.flag 0x2000 27 then { (s.setFlag 0x2000 24 true) with token := 0 } else s
    (s.setFlag 0x2000 27 false).setFld 0x2000 29 28 0

/-- The units without threads that an entry into GRAVE stops (R520). What is not listed here reads the GRAVE bit where
it decides. -/
def State.graveStop (s : State) (b : FaultRef) (src : Nat) : State :=
  match b with
  | .chan n => s.updChan n fun c => c.shut true
  | .locket => { s with locket := [] }
  | .home => s.portsDown
  | .port n => s.portFall n
  | .phy => (List.range s.variant.scs).foldl (fun s n => (s.isolate n .phy src).updChan n fun c => c.cut true) s
  | .security => s.levelDrop
  | _ => s

/-- The reaction to an event of effective severity `eff` in a block without threads (R513, R514, R520). `was` says
whether the block was in GRAVE before the event. -/
def State.reactLow (s : State) (b : FaultRef) (src info eff : Nat) (was : Bool) : State :=
  let s := if eff ≥ 2 ∧ isolating b src = true then s.isolate (isoTarget b info) b src else s
  if eff = 3 ∧ was = false then s.graveStop b src else s

/-- Records an event of a block other than a cluster and of a source that takes no engine offline, with its reaction. -/
def State.raiseLow (s : State) (b : FaultRef) (src kind info : Nat) : State :=
  (s.record b src kind info false).reactLow b src info (s.effSev b src) (s.grave b)

/-! ### The end of an isolation (R514) -/

/-- ISOLATED becomes 0 once no unacknowledged source isolates the sub-channel and neither fault block is in GRAVE. -/
def State.endIsolation (s : State) (sc : Nat) : State :=
  let c := s.chan sc
  if c.isolated ∧ c.isoBy = [] ∧ s.grave (.chan sc) = false ∧ s.grave .phy = false then
    s.updChan sc fun c => { c with isolated := false, ents := c.ents.map fun e => { e with old := false } }
  else s

/-- The isolations of every sub-channel that a fault block could hold are looked at again. -/
def State.endIsolations (s : State) : State := (List.range s.variant.scs).foldl State.endIsolation s

end Sys2Proof.Machine
end

