-- ==== Sys2Proof/Machine/Clasp.lean ====
section
/-! DEFINITION. Ring flits as the block builds them (R303, R588), and the Clasps (R351 to R359). -/

namespace Sys2Proof.Machine

/-! ### Flits -/

/-- The fields of a flit header (R303). -/
structure Hdr where
  type : Nat
  src : Nat
  dst : Nat
  txn : Nat
  ladr : Nat
  pv : Bool
  poison : Bool
  state : Nat
  bcast : Bool
  op : Nat
  offset : Nat
  err : Nat
  hm : Nat
deriving DecidableEq, Repr

/-- A header with every optional field 0. -/
def Hdr.plain (type src dst txn ladr : Nat) : Hdr :=
  { type := type, src := src, dst := dst, txn := txn, ladr := ladr, pv := false, poison := false, state := 0,
    bcast := false, op := 0, offset := 0, err := 0, hm := 0 }

/-- The header word (R303). -/
def Hdr.word (h : Hdr) : BitVec 128 :=
  BitVec.ofNat 128 (h.type % 256 + h.src % 128 * 2 ^ 8 + h.dst % 128 * 2 ^ 15 + h.txn % 4096 * 2 ^ 22 +
    h.ladr % 2 ^ 40 * 2 ^ 34 + b2n h.pv * 2 ^ 74 + b2n h.poison * 2 ^ 75 + h.state % 8 * 2 ^ 76 +
    b2n h.bcast * 2 ^ 79 + h.op % 256 * 2 ^ 80 + h.offset % 64 * 2 ^ 88 + h.err % 4 * 2 ^ 94 + h.hm % 2 ^ 32 * 2 ^ 96)

/-- The fields of a header word (R303). -/
def Hdr.ofWord (w : BitVec 128) : Hdr :=
  { type := bitsOf w 7 0, src := bitsOf w 14 8, dst := bitsOf w 21 15, txn := bitsOf w 33 22, ladr := bitsOf w 73 34,
    pv := bitOf w 74, poison := bitOf w 75, state := bitsOf w 78 76, bcast := bitOf w 79, op := bitsOf w 87 80,
    offset := bitsOf w 93 88, err := bitsOf w 95 94, hm := bitsOf w 127 96 }

/-- NODE_ID of a stop; values below 64 act as 64 + n (R338). -/
def State.nodeId (s : State) (n : Nat) : Nat :=
  let v := s.fld (0x6400 + 0x200 * n) 6 0
  if v < 64 then 64 + n else v

/-- Places a message for a single node: opposite to the direction in which the request came (R588). -/
def State.ringSend (s : State) (stop : Nat) (cw : Bool) (h : Hdr) (payload : Line) : State :=
  s.emit (.flit stop (!cw) { hdr := h.word, payload := payload })

/-! ### Thread registers that a Clasp result goes to -/

/-- Writes a general register; g0 discards (R69). -/
def Thread.setG (th : Thread) (d : Nat) (v : W64) : Thread :=
  if d = 0 then th else { th with g := tset 0 th.g d v }

/-- Reads a general register; g0 is never listed and reads 0 (R69). -/
def Thread.getG (th : Thread) (a : Nat) : W64 := if a = 0 then 0 else tget 0 th.g a

/-- The thread of an engine OWNER value (R352). -/
def threadOfOwner (o : Nat) : ThreadRef :=
  if o < 2048 then ⟨.stream, o / 64 % 16, o % 64⟩
  else if o < 3072 then ⟨.seq, o % 64 / 2, o % 2⟩
  else ⟨.svc, o % 64 / 2, o % 2⟩

/-! ### Clasps -/

/-- A Clasp. -/
def State.clasp (s : State) (n : Nat) : Clasp := tget Clasp.init s.clasps n

/-- Stores a Clasp. -/
def State.setClasp (s : State) (n : Nat) (c : Clasp) : State := { s with clasps := tset Clasp.init s.clasps n c }

/-- HOLD_TO of a Clasp (R359). -/
def State.holdTo (s : State) (n : Nat) : Nat := s.fld (0x6800 + 4 * n) 15 0

/-- CLSP_RSP to a ring requester (R358). -/
def State.claspRsp (s : State) (n owner : Nat) (r : Nat × Bool × Nat) (result : Nat) : State :=
  s.ringSend r.1 r.2.1
    { Hdr.plain 0x43 (s.nodeId r.1) (owner % 64) r.2.2 0 with op := n, state := result } 0

/-- Gives the result of an acquire to the source that waits for it: the ring message, or the thread's register with the
thread back in RUN past its instruction (R114, R351). -/
def State.claspResult (s : State) (w : ClaspWait) (result : Nat) : State :=
  match w.ring with
  | some r => s.claspRsp w.clasp w.owner r result
  | none =>
    let t := threadOfOwner w.owner
    let th := s.thr t
    match th.wait with
    | .acquire _ d => s.setThr t { (th.setG d (BitVec.ofNat 64 result)) with st := .run, wait := .none, pc := th.pc + 1 }
    | .acquireFull _ d => s.setThr t { (th.setG d (BitVec.ofNat 64 result)) with st := .run, wait := .none, pc := th.pc + 1 }
    | _ => s

/-- The Clasp held by `owner` from now (R351, R354). -/
def State.claspHold (s : State) (n owner : Nat) (repair : Bool) : State :=
  s.setClasp n { st := .held, owner := owner, repair := repair, limit := s.holdTo n, since := s.tbase }

/-- An acquire that finds the Clasp not HELD takes it; the result is 0 from FREE and 1 from BROKEN (R351). -/
def State.claspTake (s : State) (w : ClaspWait) : State :=
  let broken := (s.clasp w.clasp).st == .broken
  (s.claspHold w.clasp w.owner broken).claspResult w (b2n broken)

/-- A free entry of the wait list is taken by the acquires that found it full, in their order (R357). An acquire whose
Clasp is no longer HELD takes it. -/
def claspRefill : Nat → State → State
  | 0, s => s
  | fuel + 1, s =>
    match s.claspFull with
    | [] => s
    | w :: rest =>
      if s.claspWaits.length ≥ 128 then s
      else
        let s := { s with claspFull := rest }
        let t := threadOfOwner w.owner
        let th := s.thr t
        let s := match th.wait with
          | .acquireFull n d => s.setThr t { th with wait := .acquire n d }
          | _ => s
        if (s.clasp w.clasp).st = .held then claspRefill fuel { s with claspWaits := s.claspWaits ++ [w] }
        else claspRefill fuel (s.claspTake w)

/-- A Clasp that became FREE or BROKEN is taken in the same step by its longest-waiting acquire (R351). -/
def State.claspHandOn (s : State) (n : Nat) : State :=
  match s.claspWaits.find? fun w => w.clasp == n with
  | none => s
  | some w =>
    let s := { s with claspWaits := s.claspWaits.erase w }
    claspRefill (s.claspFull.length + 1) (s.claspTake w)

/-- A Clasp becomes FREE; the last holder is remembered for OWNER while BROKEN (R359). -/
def State.claspFree (s : State) (n : Nat) : State :=
  (s.setClasp n { Clasp.init with owner := (s.clasp n).owner }).claspHandOn n

/-- A Clasp becomes BROKEN; OWNER names the last holder (R359). -/
def State.claspBreakNow (s : State) (n : Nat) : State :=
  let c := s.clasp n
  (s.setClasp n { c with st := .broken, repair := false, limit := 0, since := 0 }).claspHandOn n

/-- An owner loss of a HELD Clasp: the Clasp-broken source is raised with the Clasp and the lost OWNER, and the Clasp
goes BROKEN (R353, R354). -/
def State.claspLoss (s : State) (n : Nat) : State :=
  let c := s.clasp n
  if c.st = .held then ((s.raiseLow .home 1 3 (n + 256 * c.owner))).claspBreakNow n else s

/-- A release by `owner` (R351): whether it was accepted, and the state after. -/
def State.claspRelease (s : State) (n owner : Nat) (repair : Bool) : Option State :=
  let c := s.clasp n
  if c.st = .held ∧ c.owner = owner then
    some (if repair ∨ c.repair = false then s.claspFree n else s.claspBreakNow n)
  else none

/-- Acquires of a source that is lost are withdrawn (R353). -/
def State.claspWithdraw (s : State) (owner : Nat) : State :=
  let s := { s with claspWaits := s.claspWaits.filter fun w => w.owner != owner,
                    claspFull := s.claspFull.filter fun w => w.owner != owner }
  claspRefill (s.claspFull.length + 1) s

/-- An owner loss for every Clasp a source holds, its waiting acquires withdrawn first (R353). -/
def State.claspLossAll (s : State) (owner : Nat) : State :=
  let held := (s.clasps.filter fun e => e.2.st == .held && e.2.owner == owner).map Prod.fst
  held.foldl State.claspLoss (s.claspWithdraw owner)

end Sys2Proof.Machine
end

