-- ==== Sys2Proof/Machine/Locket.lean ====
section
/-! DEFINITION. The Locket (R213 to R219): lookups, placements, updates and invalidations. -/

namespace Sys2Proof.Machine

/-- The set of a line, in the Locket and in the snoop filter alike (R213, R322). -/
def setIndex (line : Nat) : Nat :=
  Nat.xor (Nat.xor (line % 4096) (line / 2 ^ 12 % 4096)) (Nat.xor (line / 2 ^ 24 % 4096) (line / 2 ^ 36 % 16))

/-- LK_CFG.HDR_WAYS as it acts (R216, R219). -/
def State.hdrWays (s : State) : Nat := min (min 8 (s.variant.lkWays - 1)) (s.fld 0x7004 3 0)

/-- A bit of LK_POLICY: 0 LDL, 1 STL, 2 PORT_RD, 3 PORT_WR, 4 PACK_SECT, 5 RING (R219). -/
def State.lkPolicy (s : State) (i : Nat) : Bool := s.flag 0x7008 i

/-- Whether a request that reaches step 3 now places its line (R215, R219). -/
def State.placesNow (s : State) : Placing → Bool
  | .never => false
  | .always => true
  | .policy i => s.lkPolicy i

/-- A set, the least recently used line first. -/
def State.lkSet (s : State) (i : Nat) : List LkLine := tget [] s.locket i

/-- Stores a set. -/
def State.setLkSet (s : State) (i : Nat) (l : List LkLine) : State := { s with locket := tset [] s.locket i l }

/-- The copy of a line. -/
def State.lkFind (s : State) (line : Nat) : Option LkLine := (s.lkSet (setIndex line)).find? fun l => l.line == line

/-- The way a line placed in a full set takes: the least recently used eligible one (R216). -/
def lkVictim (hdr : Bool) (hdrWays : Nat) (set : List LkLine) : Option LkLine :=
  if hdr ∨ (set.filter fun l => l.hdr).length > hdrWays then set.head? else set.find? fun l => !l.hdr

/-- Fills a line, or updates and upgrades the copy already present (R215, R216). A fill counts as use. -/
def State.lkPlace (s : State) (l : LkLine) : State :=
  if s.locketReady = false then s
  else
    let i := setIndex l.line
    let set := s.lkSet i
    match set.find? fun x => x.line == l.line with
    | some x => s.setLkSet i (set.erase x ++ [{ l with hdr := l.hdr || x.hdr }])
    | none =>
      if set.length < s.variant.lkWays then s.setLkSet i (set ++ [l])
      else
        match lkVictim l.hdr s.hdrWays set with
        | some x => s.setLkSet i (set.erase x ++ [l])
        | none => s

/-- A write that hits updates the copy, its Hallmark and its poison mark (R214); it is no use of the line (R216). -/
def State.lkUpdate (s : State) (l : LkLine) : State :=
  if s.locketReady = false then s
  else
    let i := setIndex l.line
    s.setLkSet i ((s.lkSet i).map fun x => if x.line = l.line then { l with hdr := l.hdr || x.hdr } else x)

/-- A lookup that meets a parity error of the tag array: the source is raised, every line of the set is invalidated, and the
lookup misses (R515; log entry 95). -/
def State.tagCheck (s : State) (line : Nat) : State :=
  let i := setIndex line
  if s.locketReady && s.tagBad.contains i then
    { s.setLkSet i [] with tagBad := s.tagBad.filter (· != i) }.raiseLow .locket 1 3 i
  else s

/-- What a write does to the Locket: a hit is updated, and a line that is not present is placed where its source's policy
says so (R214 to R216). -/
def State.lkWrite (s : State) (place : Bool) (l : LkLine) : State :=
  let s := s.tagCheck l.line
  if place && (s.lkFind l.line).isNone then s.lkPlace l else s.lkUpdate l

/-- A copy leaves the Locket. -/
def State.lkDrop (s : State) (line : Nat) : State :=
  let i := setIndex line
  s.setLkSet i ((s.lkSet i).filter fun x => x.line != line)

/-- A hit: the line becomes the most recently used, takes the header class from a header-class source, and its Hallmark
is checked on the way out (R216, R377). -/
def State.lkHit (s : State) (hdr : Bool) (x : LkLine) : LkLine × State :=
  let i := setIndex x.line
  let s := s.setLkSet i ((s.lkSet i).erase x ++ [{ x with hdr := hdr || x.hdr }])
  if hallmark x.data = x.hm then (x, s)
  else ({ x with poison := true }, s.raiseLow .locket 0 1 (64 * x.line))

/-- A read lookup (R215, R219): the copy if there is one, and the state after it. -/
def State.lkLookup (s : State) (hdr : Bool) (line : Nat) : Option LkLine × State :=
  if s.locketReady = false then (none, s)
  else
    let s := s.tagCheck line
    match s.lkFind line with
    | some x => let r := (s.count2 0x7018).lkHit hdr x; (some r.1, r.2)
    | none => (none, s.count2 0x7020)

/-- Every line of a plot leaves the Locket, and no fill of one whose lookup has begun is placed (R387). -/
def State.lkTrim (s : State) (plot : Nat) : State :=
  { s with
    locket := tmap [] (fun l => l.filter fun x => x.line / 16384 != plot) s.locket,
    trks := s.trks.map fun t => if t.line / 16384 = plot then { t with fillOk := false } else t }

/-- Every line leaves the Locket, and no fill whose lookup has begun is placed (R218). -/
def State.lkInval (s : State) : State :=
  { s with locket := [], tagBad := [], trks := s.trks.map fun t => { t with fillOk := false } }

end Sys2Proof.Machine
end

