-- ==== Sys2Proof/Machine/Filter.lean ====
section
/-! DEFINITION. Trackers (R313, R314), the snoop filter (R312, R322 to R326), snoops as they leave (R305, R320, R327)
and the answers of the home to its requesters (R302 to R305, R317, R463). -/

namespace Sys2Proof.Machine

/-! ### Trackers -/

/-- The tracker that blocks a line. -/
def State.trk (s : State) (line : Nat) : Option Trk := s.trks.find? fun t => t.line == line

/-- Stores a tracker in its place. -/
def State.setTrk (s : State) (t : Trk) : State :=
  { s with trks := s.trks.map fun x => if x.line = t.line then t else x }

/-- A line is blocked: by a transaction, or by the migration mover (R232, R314). -/
def State.blocked (s : State) (line : Nat) : Bool :=
  (s.trks.any fun t => t.line == line) || (s.moves.any fun m => m.line == line && decide (m.phase ≠ 0))

/-- The stop at which a request arrived, if it is a ring request. -/
def ringStop (r : Req) : Option Nat :=
  match r.src with
  | .agent st _ _ => some st
  | _ => none

/-- A tracker of the forced-invalidation pool (R313). -/
def Trk.forced (t : Trk) : Bool := decide (t.req.kind = .forced)

/-- Trackers that the requests of a ring stop hold. -/
def State.stopTrks (s : State) (n : Nat) : Nat := (s.trks.filter fun t => !t.forced && ringStop t.req == some n).length

/-- RING_RSV (R337). -/
def State.ringRsv (s : State) : Nat := s.fld 0x6004 15 8

/-- Trackers of the shared part that are in use: every tracker but the forced ones, the moves, and those a stop holds
within its reserve (R313). -/
def State.sharedTrks (s : State) : Nat :=
  (s.trks.filter fun t => !t.forced && (ringStop t.req).isNone).length +
    ((List.range s.variant.stops).map fun n => s.stopTrks n - s.ringRsv).sum

/-- A tracker that the requests of a stop, or of any other source, may use: of the shared part, or of the stop's reserve;
`more` requests come before (R313). -/
def State.trkFree (s : State) (stop : Option Nat) (more : Nat) : Bool :=
  decide (s.sharedTrks + more < 2000 - s.ringRsv * s.variant.stops) ||
    stop.elim false fun n => decide (s.stopTrks n + more < s.ringRsv)

/-- A source finds a tracker it may use (R313). -/
def State.trkRoom (s : State) (r : Req) : Bool := decide (r.kind = .move) || s.trkFree (ringStop r) 0

/-- Tracker numbers not in use; which one is taken the spec leaves open. -/
def State.freeTrkNum (s : State) : Nat :=
  let free := (List.range 2048).filter fun n => !(s.trks.any fun t => t.num == n)
  free.getD (Config.choice s.free % free.length) 0

/-- A new tracker for a request. -/
def Trk.ofReq (num : Nat) (r : Req) : Trk :=
  { num := num, req := r, line := r.line, stage := .ended, wr := false, data := r.data, hm := r.hm, poison := r.poison,
    snpBack := false, snpFwd := false, snpWb := false, wb := none, grant := 0, far := false, filt := .keep,
    claimed := false, victim := none, fillOk := false, placing := none, spot := none, stamp := r.stamp, gone := false,
    err := 0, snpTmo := false,
    answered := false, stop := (ringStop r).getD 0 }

/-! ### The snoop filter -/

/-- A set of the filter, the least recently granted entry first. -/
def State.sfSet (s : State) (i : Nat) : List SfEnt := tget [] s.filter i

/-- Stores a set. -/
def State.setSfSet (s : State) (i : Nat) (l : List SfEnt) : State := { s with filter := tset [] s.filter i l }

/-- The summary entry of a line (R312). -/
def State.sf (s : State) (line : Nat) : Option SfEnt :=
  (s.sfSet (setIndex line)).find? fun e => e.line == line && e.sum != 3

/-- The entry of a line is removed; a claimed way is freed alike. -/
def State.sfClear (s : State) (line : Nat) : State :=
  let i := setIndex line
  s.setSfSet i ((s.sfSet i).filter fun e => e.line != line)

/-- The entry of a line takes a summary state; a granted state makes it the most recently granted (R323). -/
def State.sfPut (s : State) (line sum agent : Nat) (granted : Bool) : State :=
  let i := setIndex line
  let e : SfEnt := { line := line, sum := sum, agent := agent }
  let set := s.sfSet i
  if granted then s.setSfSet i ((set.filter fun x => x.line != line) ++ [e])
  else if set.any fun x => x.line == line then s.setSfSet i (set.map fun x => if x.line = line then e else x)
  else s.setSfSet i (set ++ [e])

/-- What a transaction leaves in the filter (R326). -/
def State.sfApply (s : State) (line : Nat) : FiltUpd → State
  | .keep => s
  | .clear => s.sfClear line
  | .sh => s.sfPut line 0 0 false
  | .fw x => s.sfPut line 1 x true
  | .ex x => s.sfPut line 2 x true

/-- The victim of a full set: unblocked, first among SH, then FW, then EX, the least recently granted (R323). -/
def State.sfVictim (s : State) (i : Nat) : Option SfEnt :=
  let open_ := (s.sfSet i).filter fun e => e.sum != 3 && !s.blocked e.line
  [0, 1, 2].findSome? fun k => open_.find? fun e => e.sum == k

/-- Whether an agent is marked as caching (R337). -/
def State.caching (s : State) (x : Nat) : Bool := s.flag (0x6028 + 4 * (x / 32 % 2)) (x % 32)

/-! ### Messages -/

/-- The type code of a snoop (R305). -/
def snpS : Nat := 0x20
def snpI : Nat := 0x21
def snpIHome : Nat := 0x22
def snpIDrop : Nat := 0x23
def snpRc : Nat := 0x24

/-- The requester a snoop names: the agent, or the stop for a snoop of the home's own (R305). -/
def State.snoopFor (s : State) (t : Trk) : Nat :=
  match t.req.src with
  | .agent _ _ a => a
  | _ => s.nodeId t.stop

/-- Sends a snoop, clockwise from the stop of its request, or holds it while the line's hold time runs (R320, R327). -/
def State.snoop (s : State) (t : Trk) (kind : Nat) : State :=
  if s.heldLines.contains t.line ∧ kind ≠ snpRc then s.setTrk { t with stage := .hold kind }
  else
    let h : Hdr := { Hdr.plain kind (s.nodeId t.stop) 0 t.num t.line with bcast := true, op := s.snoopFor t }
    (s.setTrk { t with stage := .snoop kind, snpBack := false, snpFwd := false, snpWb := false, wb := none }).emit
      (.flit t.stop true { hdr := h.word, payload := 0 })

/-- An answer: data, Hallmark, poison mark, status (0 ok, 2 decode error, 3 not ready) and timeout qualifier. -/
structure Ans where
  data : Line
  hm : Hm
  poison : Bool
  status : Nat
  tmo : Bool
deriving DecidableEq, Repr

/-- An answer that carries a line. -/
def Ans.ok (d : Line) (hm : Hm) (poison : Bool) : Ans := { data := d, hm := hm, poison := poison, status := 0, tmo := false }

/-- An answer whose data bytes the spec does not give. -/
def State.openAns (s : State) (status : Nat) (poison tmo : Bool) : Ans × State :=
  let d := Config.openLine s.free
  ({ data := d, hm := hallmark d, poison := poison, status := status, tmo := tmo }, s.draw)

/-- The line of zeroes (R16). -/
def zeroAns : Ans := Ans.ok 0 (hallmark 0) false

/-- The check of a line that leaves the block: a mismatch poisons it and raises source `src` (R377). -/
def State.exitCheck (s : State) (b : FaultRef) (src line : Nat) (a : Ans) : Ans × State :=
  if hallmark a.data = a.hm then (a, s) else ({ a with poison := true }, s.raiseLow b src 1 (64 * line))

/-- ERR of a ring response (R303). -/
def errCode (status : Nat) (tmo : Bool) : Nat := if tmo then 3 else if status = 2 then 1 else if status = 3 then 2 else 0

/-- The data of a read leaves with its answer: with status ok the read is complete (R292). -/
def State.readOut (s : State) (t : Stamp) (a : Ans) : State :=
  if a.status = 0 ∧ a.poison = false then s.readDone t else s

/-- A DAT flit to a ring requester (R305). -/
def State.sendDat (s : State) (t : Trk) (st : Nat) (cw : Bool) (x txn grant : Nat) (a : Ans) : State :=
  let r := s.exitCheck (.stop st) 1 t.line a
  let a := r.1
  (r.2.ringSend st cw
    { Hdr.plain 0x40 (r.2.nodeId st) x txn t.line with
      pv := true, poison := a.poison, state := grant, op := 2 * b2n t.far, err := errCode a.status a.tmo,
      hm := a.hm.toNat } a.data).readOut t.req.stamp a

/-- A CMP flit to a ring requester (R305). -/
def State.sendCmp (s : State) (t : Trk) (st : Nat) (cw : Bool) (x txn grant : Nat) (dfwd : Bool) : State :=
  s.ringSend st cw
    { Hdr.plain 0x41 (s.nodeId st) x txn t.line with state := grant, op := b2n dfwd + 2 * b2n t.far } 0

/-- A WR_ACK flit (R305, R314). -/
def State.sendWrAck (s : State) (t : Trk) (stale : Bool) : State :=
  match t.req.src, t.req.dest with
  | .agent st cw x, .ring txn =>
    if t.gone then s
    else s.ringSend st cw
      { Hdr.plain 0x42 (s.nodeId st) x txn t.line with op := b2n stale, err := errCode t.err false } 0
  | _, _ => s

/-- A line operation of a run has completed: LINES of its context counts it (R158), unless the run has been aborted
(R175, R176). -/
def State.lineDone (s : State) (run : Option (Nat × Nat)) : State :=
  match run with
  | some (c, q) =>
    if c < 8192 ∧ s.fld (ctxBase c + 0x34) 31 16 = q ∧ (s.ctx c).outcome ≠ some 2 then
      s.setFld (ctxBase c + 0x38) 15 0 (min 65535 (s.fld (ctxBase c + 0x38) 15 0 + 1))
    else s
  | none => s

/-- RD_STATUS of a stream port response (R463). -/
def rdStatus (a : Ans) : Nat := if a.status ≠ 0 then a.status else b2n a.poison

/-- A read's answer goes to where it was asked from; `grant` is the state a ring requester is granted. A discarded answer
goes nowhere (R335, R467). -/
def State.deliver (s : State) (t : Trk) (a : Ans) (grant : Nat) : State :=
  let s := if t.req.kind = .pref then s.lineDone t.req.run else s
  if t.gone then s
  else
    match t.req.src, t.req.dest with
    | .port n, .port tid =>
      let r := s.exitCheck (.port n) 1 t.line a
      r.2.spRespond n { kind := 0, tid := tid, status := rdStatus r.1, tmo := r.1.tmo, hm := r.1.hm, data := r.1.data,
                        stamp := some t.req.stamp }
    | .agent st cw x, .ring txn => s.sendDat t st cw x txn grant a
    | _, .dbg =>
      match s.dbgAcc with
      | some d => { s.readOut t.req.stamp a with dbgAcc := some { d with status := rdStatus a, data := a.data, finished := true } }
      | none => s
    | _, .none => s
    | src, dest =>
      { s with arrivals := s.arrivals ++
          [{ dest := dest, src := src, line := t.line, data := a.data, hm := a.hm, poison := a.poison,
             status := a.status, tmo := a.tmo, stamp := t.req.stamp }] }

end Sys2Proof.Machine
end

