-- ==== Sys2Proof/Machine/Pins.lean ====
section
/-! DEFINITION. What a command drives on the command bumps of its group: the transfers on DCA0 to DCA6 and DPAR (R428, R435).
R424 names JESD79-5 and the RCD documents; the encodings and the order of the transfers are theirs (PRESUMED, log entry
90). -/

namespace Sys2Proof.Machine

/-- CA bits of a command as R125 numbers them: those of the first cycle from bit 0, those of the second from bit 14, and bit
28 for a command of two cycles. -/
def DramCmd.caBits : DramCmd → Nat
  | .act _ bg bank row =>
    row % 16 * 4 + bank * 64 + bg * 256 + row / 16 % 2 ^ 13 * 2 ^ 14 + row / 2 ^ 17 % 2 * 2 ^ 27 + 2 ^ 28
  | .pre _ bg bank => 0x1B + bank * 64 + bg * 256
  | .preAll _ => 0x0B
  | .rd _ bg bank col auto => 0x3D + bank * 64 + bg * 256 + col / 4 % 512 * 2 ^ 14 + b2n (!auto) * 2 ^ 24 + 2 ^ 28
  | .wr _ bg bank col auto _ => 0x2D + bank * 64 + bg * 256 + col / 4 % 512 * 2 ^ 14 + b2n (!auto) * 2 ^ 24 + 2 ^ 28
  | .refAb _ => 0x213
  | .refSb _ bank => 0x613 + bank * 64
  | .mrw _ mr value _ => 0x05 + mr % 256 * 32 + value % 256 * 2 ^ 14 + 2 ^ 28
  | .mrr _ mr => 0x15 + mr % 256 * 32 + 2 ^ 28
  | .ca _ bits => bits.toNat
  | .pdEnter _ => 0x417
  | .pdExit _ => 0x1F
  | .srEnter _ => 0x017
  | .srExit _ => 0x1F
  | .pattern _ _ _ _ => 0

/-- The transfers on DCA0 to DCA6 of one command: each cycle carries its CA bits 0 to 6, then 7 to 13. -/
def caTransfers (ca : Nat) : List Nat :=
  let one := [ca % 128, ca / 2 ^ 7 % 128]
  if ca / 2 ^ 28 % 2 = 1 then one ++ [ca / 2 ^ 14 % 128, ca / 2 ^ 21 % 128] else one

/-- The bits of a list as a number, the first bit least significant. -/
def bitsNum (bs : List Bool) : Nat := bs.foldr (fun b acc => b2n b + 2 * acc) 0

/-- The transfers of a CA training step: DCA0 to DCA6 of one ck take the next seven bits (R590). -/
def patternTransfers : Nat → List Bool → List Nat
  | 0, _ => []
  | n + 1, bs => bitsNum (bs.take 7) :: patternTransfers n (bs.drop 7)

/-- The levels that a command drives on DCA0 to DCA6, one number for each transfer. A CS step holds them low for its 32 ck,
and a WL step for its six (R590). -/
def DramCmd.dca : DramCmd → List Nat
  | .pattern _ pat _ bits =>
    if pat = 1 then patternTransfers 32 bits else List.replicate (if pat = 0 then 32 else 6) 0
  | c => caTransfers c.caBits

/-- The even parity of one transfer: DCA0 to DCA6 and DPAR together hold an even number of ones (R435). -/
def evenParity (x : Nat) : Bool := ((List.range 7).filter fun i => x / 2 ^ i % 2 == 1).length % 2 == 1

/-- The levels of DPAR, one for each transfer (R435). -/
def DramCmd.dpar (c : DramCmd) : List Bool := c.dca.map evenParity

/-- The chip select, bank group and bank of a column command. -/
def DramCmd.colBank : DramCmd → Option (Nat × Nat × Nat)
  | .rd cs bg bank _ _ => some (cs, bg, bank)
  | .wr cs bg bank _ _ _ => some (cs, bg, bank)
  | _ => none

end Sys2Proof.Machine
end

