-- ==== Sys2Proof/Machine/Queue.lean ====
section
/-! DEFINITION. The read and write queues and the ledgers (R242 to R245): room, entry, forwarding, drain, and the knob
tables and chip selects a channel unit works with. -/

namespace Sys2Proof.Machine

/-- A register of a sub-channel window. -/
def scReg (sc o : Nat) : Nat := 0x10000 + 0x1000 * sc + o

/-- The sub-channel takes requests: ready and enabled (R267, R500). Clocks that have stopped hold nothing at step 6: the
request then stays where it is (R490, R491). -/
def State.scOpen (s : State) (sc : Nat) : Bool := s.reportsReady sc

/-- An entry of the read queue (R242). -/
def QEnt.inRead (e : QEnt) : Bool := !e.wr && (e.rq == 0 || e.rq == 5)

/-- An entry of the write queue, or the write entry a copy read has taken with its read entry (R242). -/
def QEnt.inWrite (e : QEnt) : Bool :=
  (e.wr && (e.rq == 1 || e.rq == 5)) || (match e.owner with | .copy _ => !e.wr && !e.timedOut | _ => false)

/-- Read and write queue entries in use. -/
def Chan.rqUsed (c : Chan) : Nat := (c.ents.filter QEnt.inRead).length
def Chan.wqUsed (c : Chan) : Nat := (c.ents.filter QEnt.inWrite).length

/-- Read and write ledger entries in use (R242). -/
def State.readLedger (s : State) : Nat := ((List.range s.variant.scs).map fun n => (s.chan n).rqUsed).sum
def State.writeLedger (s : State) : Nat := ((List.range s.variant.scs).map fun n => (s.chan n).wqUsed).sum

/-- A read can take a queue entry and a ledger entry. -/
def State.readRoom (s : State) (sc : Nat) : Bool := decide ((s.chan sc).rqUsed < 96 ∧ s.readLedger < 4096)

/-- A write can take a queue entry and a ledger entry. -/
def State.writeRoom (s : State) (sc : Nat) : Bool := decide ((s.chan sc).wqUsed < 64 ∧ s.writeLedger < 2048)

/-- CHAN_TIMEOUT in µs (R266). -/
def State.chanTmo (s : State) (sc : Nat) : Nat := clamp 1 1000 (s.fld (scReg sc 0x28) 9 0)

/-- A new entry for a place. -/
def QEnt.mk0 (owner : QOwner) (wr : Bool) (rq line : Nat) (p : Place) (stamp : Stamp) (tmoUs : Nat) : QEnt :=
  { owner := owner, wr := wr, rq := rq, line := line, ell := p.ell, cs := p.rank, bg := p.bg, bank := p.bank,
    row := p.row, col := p.col, data := 0, hm := 0, poison := false, stamp := stamp, tmoUs := tmoUs, issued := false,
    timedOut := false, old := false, raw := none, cipher := false }

/-- Writes enter or leave drain by the entries held, under Q_CFG as it stood at the last line boundary (R245, R251). -/
def State.drainNow (s : State) (sc : Nat) : State :=
  s.updChan sc fun c =>
    { c with drain := decide (c.wqUsed ≥ bitsOf c.qCfg 13 8) || (c.drain && decide (c.wqUsed > bitsOf c.qCfg 5 0)) }

/-- A decision of the arbiter uses Q_CFG as it now stands (R251). -/
def State.latchQ (s : State) (sc : Nat) : State :=
  (s.updChan sc fun c => { c with qCfg := s.reg (scReg sc 0x10) }).drainNow sc

/-- A rank of a channel unit. -/
def Chan.rank (c : Chan) (r : Nat) : Rank := tget Rank.init c.ranks r

/-- Stores a rank. -/
def Chan.setRank (c : Chan) (r : Nat) (k : Rank) : Chan := { c with ranks := tset Rank.init c.ranks r k }

/-- PADn of a PHY group, and its HELD bit (R454). -/
def padReg (g : Nat) : Nat := 0x38040 + 4 * g
def State.held (s : State) (g : Nat) : Bool := s.flag (padReg g) 2

/-- A channel unit can drive its pins: it runs, its PHY group is not held (R447), no sleep has put a rank into self-refresh
(R530, R531, R548), and an entry to OFF has not stopped it (R536). -/
def State.pinsLive (s : State) (sc : Nat) : Bool :=
  s.running && !s.held sc && ([0, 1].all fun r => !((s.chan sc).rank r).sleeping) &&
    (match s.pwr with | .entry 4 step => decide (step ≤ 4) | _ => true)

/-- A channel unit issues commands: no alert has stopped it (R436, R515). -/
def State.mayIssue (s : State) (sc : Nat) : Bool := s.pinsLive sc && decide ((s.chan sc).alert = 0)

/-- The channel unit gives a chip select commands of its own: chip select 0 none once the spare serves its rank (R414). -/
def Chan.drives (c : Chan) (r : Nat) : Bool := !(c.spare == 2 && r == 0)

/-- The ranks that a POPULATED sub-channel refreshes: both of a two-rank module, else chip select 0 (R412). -/
def State.ranksOf (s : State) (sc : Nat) : List Nat := if s.twoRanks sc then [0, 1] else [0]

/-- The chip selects that the channel unit works with: the spare too while a copy runs, and alone once it serves the rank
(R412 to R414). -/
def State.cmdRanks (s : State) (sc : Nat) : List Nat :=
  if (s.chan sc).spare = 2 then [1] else if (s.chan sc).spare = 1 then [0, 1] else s.ranksOf sc

/-- The table key of a bank. -/
def bankKey (cs bg bank : Nat) : Nat := 32 * cs + 4 * bg + bank

/-- A bank. -/
def Chan.bank (c : Chan) (k : Nat) : Bank := tget Bank.init c.banks k

/-- Stores a bank. -/
def Chan.setBank (c : Chan) (k : Nat) (b : Bank) : Chan := { c with banks := tset Bank.init c.banks k b }

/-- The row that the bank of a column command has open; 0 for other commands. -/
def Chan.colRow (c : Chan) (m : DramCmd) : Nat :=
  m.colBank.elim 0 fun x => ((c.bank (bankKey x.1 x.2.1 x.2.2)).row).getD 0

/-- A command goes out on the sub-channel's pins; those an alert can ask to repeat are remembered: ALERT_WIN is at most 255 ck
(R436). `raw` marks a RAW DCMD. A released group no longer drives the levels of Latch (R447). -/
def State.dramCmd (s : State) (sc : Nat) (c : DramCmd) (raw : Bool) : State :=
  let s := s.updChan sc fun k => { k with window := ((c, raw, k.colRow c) :: k.window).take 256 }
  { s with padQuiet := terase s.padQuiet sc }.emit (.dram sc c c.dpar)

/-- The rank leaves power-down (R256). -/
def State.pdWake (s : State) (sc r : Nat) : State :=
  if ((s.chan sc).rank r).powerDown then
    (s.updChan sc fun c => c.setRank r { c.rank r with powerDown := false, pdByProgram := false }).dramCmd sc (.pdExit r) false
  else s

/-- The chip select that serves a line of rank `r` now: a line whose copy has its write entry is served by the spare (R413,
R414). -/
def Chan.csNow (c : Chan) (r ell : Nat) : Nat :=
  if c.spare = 2 then 1
  else if c.spare = 1 then (if ell < c.copyPtr ∨ (ell < c.copyNext ∧ ¬c.copies.contains ell) then 1 else 0)
  else r

/-- The chip select of an entry: the one its command was issued to, or the one that serves it now (R413). -/
def Chan.entCs (c : Chan) (e : QEnt) : Nat :=
  if e.issued then e.cs
  else match e.owner with
    | .copy _ => if e.wr then 1 else 0
    | _ => c.csNow e.cs e.ell

/-- An entry is added; the rank that serves it leaves power-down as soon as commands may be issued (R256), and drain is looked
at again. -/
def State.enqueue (s : State) (sc : Nat) (e : QEnt) : State :=
  let s := s.updChan sc fun c => { c with ents := c.ents ++ [e] }
  (if s.mayIssue sc then s.pdWake sc ((s.chan sc).entCs e) else s).drainNow sc

/-- The write queue entry that holds a line: the newest, where an issued one has not completed yet (R243). -/
def Chan.writeOf (c : Chan) (line : Nat) : Option QEnt :=
  c.ents.reverse.find? fun e => e.wr && e.line == line && (e.rq == 1 || e.rq == 5)

/-- A write replaces the data of the entry that holds its line and keeps the entry's age (R243). -/
def State.replaceWrite (s : State) (sc : Nat) (e : QEnt) (data : Line) (hm : Hm) (poison cipher : Bool) : State :=
  s.updChan sc fun c =>
    { c with ents := c.ents.map fun x =>
        if x = e then { x with data := data, hm := hm, poison := poison, cipher := cipher, raw := none } else x }

/-- A write takes its queue entry at a place, or replaces the data of the entry that already holds its line, as long as
that entry's command has not been issued (R242, R243). None while neither is possible. -/
def State.queueWrite (s : State) (owner : QOwner) (rq line : Nat) (p : Place) (stamp : Stamp) (data : Line) (hm : Hm)
    (poison cipher : Bool) : Option State :=
  match (s.chan p.sc).ents.find? fun e => e.wr && e.line == line && (e.rq == 1 || e.rq == 5) && !e.issued with
  | some e => some (s.replaceWrite p.sc e data hm poison cipher)
  | none =>
    if s.writeRoom p.sc then
      some (s.enqueue p.sc
        { QEnt.mk0 owner true rq line p stamp 0 with data := data, hm := hm, poison := poison, cipher := cipher })
    else none

/-- A line forwarded from a write queue entry, with the check of R377: data, Hallmark and poison mark. -/
def State.forward (s : State) (sc : Nat) (e : QEnt) : (Line × Hm × Bool) × State :=
  if hallmark e.data = e.hm then ((e.data, e.hm, e.poison), s)
  else ((e.data, e.hm, true), s.raiseLow (.chan sc) 5 1 (64 * e.line))

end Sys2Proof.Machine
end

