-- ==== Sys2Proof/Machine/Entry.lean ====
section
/-! DEFINITION. When a request may enter: what stops the credits of its source (R14, R242, R281, R313). -/

namespace Sys2Proof.Machine

/-- A request of this kind takes a read queue entry: a read, or the read of a merge, an atomic or a move (R8, R100, R232). -/
def ReqKind.needsRead : ReqKind → Bool
  | .rd | .pref | .rdS | .rdU | .upg | .rdNc | .merge _ _ | .atom _ _ | .move => true
  | _ => false

/-- A request of this kind takes a write queue entry (R8, R100, R332). -/
def ReqKind.needsWrite : ReqKind → Bool
  | .wr | .merge _ _ | .wrBack | .wrFull | .stash _ | .atom _ _ | .blockWr | .scrubWr => true
  | _ => false

/-- The queues of the line's sub-channel and the ledgers have the entries that a request would need (R14, R242); a line with
no place needs none. -/
def State.queueRoom (s : State) (r : Req) : Bool :=
  (s.place r.line).all fun p =>
    (!r.kind.needsRead || s.readRoom p.sc) && (!r.kind.needsWrite || s.writeRoom p.sc)

/-- Credits of the source of a request are not stopped: the pool has room (R281), the queue and ledger that the request would
need have room (R14), and its source finds a tracker it may use (R313). Which line each source's next request needs is read off
that request (DESIGN CHOICE, log entry 87). -/
def State.mayEnter (s : State) (r : Req) : Bool := s.poolRoom && s.queueRoom r && s.trkRoom r

/-- Requests that the attach slice of a ring stop holds enter in order, as far as credits allow (R14, R472). -/
def sliceGo : Nat → Nat → State → State
  | 0, _, s => s
  | fuel + 1, n, s =>
    let p := tget Stop.init s.stops n
    match p.slice with
    | [] => s
    | r :: rest =>
      if s.mayEnter r then
        sliceGo fuel n ({ s with stops := tset Stop.init s.stops n { p with slice := rest } }.poolAdd r)
      else s

/-- Every attach slice passes on what it holds. -/
def State.slicesGo (s : State) : State :=
  (List.range s.variant.stops).foldl (fun s n => sliceGo (tget Stop.init s.stops n).slice.length n s) s

/-- A scrub write-back that waits enters once its credits are not stopped (R14, R27, R390). -/
def State.scrubGo (s : State) : State :=
  match s.scrubWb with
  | none => s
  | some (line, data, poison) =>
    let r := { Req.mk0 .block .scrubWr line with data := data, hm := hallmark data, poison := poison }
    if s.mayEnter r then { s with scrubWb := none }.enter 0 r else s

end Sys2Proof.Machine
end

