-- ==== Sys2Proof/Machine/Halt.lean ====
section
/-! DEFINITION. How runs and threads end: context halts (R172 to R174), thread faults (R131, R132), engines taken
offline (R70, R514), and the events of every fault block with their whole reaction (R513 to R520). -/

namespace Sys2Proof.Machine

/-! ### Ending a run -/

/-- Reports in progress of a cluster (R187). -/
def State.reports (s : State) (cl : Nat) : Nat :=
  ((s.ctxs.filter fun e => e.2.cluster == cl).map fun e => b2n e.2.counted + e.2.pulses.length).sum

/-- The end response of a packet (R185); nothing is sent for a port that was reset. -/
def State.packetRsp (s : State) (p : Packet) (status : Nat) : State :=
  if p.dead then s else s.spRespond p.sp (plainRsp 4 p.tag status 0)

/-- A packet in execution ends with a status; its end response waits for its data responses (R185). -/
def State.endPacket (s : State) (ctx : Nat) (p : Packet) (status : Nat) : State :=
  s.setCtx ctx { s.ctx ctx with ending := (s.ctx ctx).ending ++ [(p, status)] }

/-- The ready order of a cluster (R164, R165). -/
def State.ready (s : State) (cl : Nat) : List Nat := tget [] s.readyQ cl

/-- Stores a ready order. -/
def State.setReady (s : State) (cl : Nat) (l : List Nat) : State := { s with readyQ := tset [] s.readyQ cl l }

/-- A descriptor read of a context, if outstanding, is discarded when it arrives. -/
def dropDescReq (ctx : Nat) (r : Req) : Req := if r.dest = .desc ctx then { r with dest := .none } else r

/-- Descriptor reads of a context are discarded. -/
def State.dropDesc (s : State) (ctx : Nat) : State :=
  { s with pool := s.pool.map (dropDescReq ctx), homeQ := s.homeQ.map (dropDescReq ctx),
           trks := s.trks.map fun k => { k with req := dropDescReq ctx k.req },
           arrivals := s.arrivals.filter fun a => a.dest != Dest.desc ctx }

/-- The run of a context has ended with an outcome of R158 LAST_RUN and a cause; it leaves the ready order, and its
queued packets are answered with status not ready where the run was halted or aborted (R185). A report slot is taken if
one is free (R187). -/
def State.endRun (s : State) (ctx outcome cause : Nat) : State :=
  let c := s.ctx ctx
  let s := s.dropDesc ctx
  let s := s.setReady c.cluster ((s.ready c.cluster).filter (· != ctx))
  let s := if outcome = 1 then s else c.queue.foldl (fun s p => s.packetRsp p 3) s
  s.setCtx ctx { c with outcome := some outcome, cause := cause, rep := 0, late := c.late && decide (outcome = 1),
                        counted := decide (s.reports c.cluster < 32),
                        queue := if outcome = 1 then c.queue else [] }

/-- A thread whose run ended without a report slot waits for one (R187): it is in WAIT, or stays FAULTED. -/
def State.slotWait (s : State) (t : ThreadRef) (c : Nat) (st : ThrState) : State :=
  if (s.ctx c).counted then s else s.setThr t { s.thr t with st := st, wait := .runSlot c }

/-- Reads of a thread whose data no longer has a taker (R132, R174, R176). -/
def dropThreadReq (t : ThreadRef) (r : Req) : Req :=
  if r.src = .thread t ∧ r.dest ≠ .none then { r with dest := .none } else r

/-- A PACK whose sectors are written: its header entry follows whatever becomes of the thread (R132, R174, R207). -/
def JobKind.afterPipe : JobKind → Bool
  | .packHeader _ => true
  | _ => false

/-- The maintenance requests of a sequencer thread are withdrawn. -/
def State.dropMaint (s : State) (t : ThreadRef) : State :=
  if t.kind = .seq then s.updChan t.unit fun c => { c with maint := c.maint.filter fun m => m.t != t } else s

/-- A thread gives up what it holds: its reads are discarded when they arrive, its Clasps are lost, it waits for
nothing, and its packet ends with the given status (R132, R174, R176, R353). -/
def State.leave (s : State) (t : ThreadRef) (status : Nat) : State :=
  let th := s.thr t
  let s := (s.claspLossAll (ownerOf t)).dropMaint t
  let s := match th.packet, th.ctx with
    | some p, some c => s.endPacket c p status
    | _, _ => s
  let th := s.thr t
  let s := s.setThr t { th with wait := .none, packet := none, ctx := none, tmoHalt := false, prog := 0,
                                lb := tmap LineBuf.init (fun b => { b with pending := false, locked := false }) th.lb }
  { s with
    pool := s.pool.map (dropThreadReq t), homeQ := s.homeQ.map (dropThreadReq t),
    trks := s.trks.map fun k => { k with req := dropThreadReq t k.req },
    arrivals := s.arrivals.filter fun a => a.src != .thread t,
    jobs := s.jobs.filter fun j => j.t != t || j.kind.afterPipe,
    evWaiters := s.evWaiters.filter (· != t) }

/-- The halt of a context is recorded in its cluster's fault block with the context and the cause (R174, R515). -/
def State.haltEvent (s : State) (ctx cause : Nat) : State :=
  let cl := (s.ctx ctx).cluster
  if cl < s.variant.clusters then s.record (.cluster cl) 1 3 (ctx + 4096 * cause) false else s

/-- A thread goes OFFLINE: the context it serves halts with ENGINE_OFFLINE (R172, R353). -/
def State.offline (s : State) (t : ThreadRef) : State :=
  let th := s.thr t
  let s := s.leave t 3
  let s := s.setThr t { s.thr t with st := .offline }
  match th.ctx with
  | some c => (s.endRun c 3 0x16).haltEvent c 0x16
  | none => s

/-- Every engine of a cluster goes OFFLINE (R520). -/
def State.clusterStop (s : State) (cl : Nat) : State := (clusterThreads cl).foldl State.offline s

/-- A cluster that entered GRAVE since `was` was read stops. -/
def State.clusterCheck (s : State) (cl : Nat) (was : Bool) : State :=
  if s.grave (.cluster cl) ∧ was = false then s.clusterStop cl else s

/-- The threads of the engine of a thread. -/
def engThreads (t : ThreadRef) : List ThreadRef :=
  match t.kind with
  | .stream => (List.range 4).map fun i => ⟨.stream, t.unit, 4 * (t.idx / 4) + i⟩
  | k => [⟨k, t.unit, 0⟩, ⟨k, t.unit, 1⟩]

/-- Fault containment takes the engine of a thread offline, until its source is acknowledged (R514). -/
def State.engineOffline (s : State) (t : ThreadRef) : State :=
  (engThreads t).foldl State.offline { s with engHold := tset false s.engHold (engKey t) true }

/-- The engine that an engine-offline source names; INFO holds the thread number from bit 0 (R515). -/
def offlineTarget (b : FaultRef) (src info : Nat) : Option ThreadRef :=
  match b with
  | .cluster c => if src = 0 then some ⟨.stream, c, info % 64⟩ else none
  | .chan n => if src = 9 then some ⟨.seq, n, info % 2⟩ else if src = 10 then some ⟨.svc, n, info % 2⟩ else none
  | _ => none

/-- An event of source `src` with its whole reaction (R510, R513, R514, R520). -/
def State.raiseF (s : State) (b : FaultRef) (src kind info : Nat) (forced : Bool) : State :=
  let eff := s.effSev b src
  let was := s.grave b
  let s := s.record b src kind info forced
  let s := match offlineTarget b src info with
    | some t => if eff ≥ 2 then s.engineOffline t else s
    | none => s
  match b with
  | .cluster c => s.clusterCheck c was
  | _ => s.reactLow b src info eff was

/-- An event that was not injected. -/
def State.raise (s : State) (b : FaultRef) (src kind info : Nat) : State := s.raiseF b src kind info false

/-- A context halts without a thread fault: at a KICK, before the first instruction of a dispatch, or by a descriptor
read of a re-arm (R172). -/
def State.haltCtx (s : State) (ctx cause : Nat) : State :=
  let cl := (s.ctx ctx).cluster
  let was := s.grave (.cluster cl)
  ((s.endRun ctx 3 cause).haltEvent ctx cause).clusterCheck cl was

/-- A thread fault (R132): the thread is FAULTED with the code, its Clasps are lost, its context halts with the cause,
and the fault block of its unit records both. -/
def State.threadFault (s : State) (t : ThreadRef) (code cause : Nat) : State :=
  let th := s.thr t
  let s := s.leave t 3
  let s := s.setThr t { s.thr t with st := .faulted, fault := code }
  match t.kind with
  | .stream =>
    let s := match th.ctx with
      | some c => (s.endRun c 3 cause).slotWait t c .faulted
      | none => s
    let s := s.raise (.cluster t.unit) 0 3 (t.idx + 64 * code)
    match th.ctx with
    | some c =>
      let was := s.grave (.cluster t.unit)
      (s.haltEvent c cause).clusterCheck t.unit was
    | none => s
  | .seq => s.raise (.chan t.unit) 9 3 (t.idx + 2 * code)
  | .svc => s.raise (.chan t.unit) 10 3 (t.idx + 2 * code)

/-- A thread returns to IDLE: for a sequencer or service thread that is an owner loss (R353). -/
def State.toIdle (s : State) (t : ThreadRef) : State :=
  let s := s.leave t 0
  s.setThr t { s.thr t with st := .idle }

end Sys2Proof.Machine
end

