-- ==== Sys2Proof/Machine/Aes.lean ====
section
/-! DEFINITION. AES-256-XTS under IEEE Std 1619, as R392 names it. The cipher itself is that of FIPS 197, which the spec
names by the standard only (PRESUMED, log entry 12). -/

namespace Sys2Proof.Machine

/-- Multiplication in the field of AES. -/
def aesMul (a b : Nat) : Nat := gmul 0x11B a b

/-- Rotation of a byte to the left. -/
def rotl8 (x n : Nat) : Nat := x * 2 ^ n % 256 + x / 2 ^ (8 - n)

/-- The substitution of AES. -/
def aesS (x : Nat) : Nat :=
  let y := ginv 0x11B x
  Nat.xor (Nat.xor (Nat.xor (Nat.xor (Nat.xor y (rotl8 y 1)) (rotl8 y 2)) (rotl8 y 3)) (rotl8 y 4)) 0x63

/-- The inverse substitution. -/
def aesSInv (x : Nat) : Nat :=
  ginv 0x11B (Nat.xor (Nat.xor (Nat.xor (rotl8 x 1) (rotl8 x 3)) (rotl8 x 6)) 0x05)

/-- The next word of the key schedule of a 256-bit key; `ws` holds the words made so far, the newest first. -/
def keyWord (ws : List (List Nat)) (i : Nat) : List Nat :=
  let prev := ws.getD 0 []
  let t := if i % 8 = 0 then
      xorBytes ((prev.rotateLeft 1).map aesS) [gpow 0x11B 2 (i / 8 - 1), 0, 0, 0]
    else if i % 8 = 4 then prev.map aesS else prev
  xorBytes (ws.getD 7 []) t
where
  /-- Pairwise exclusive or. -/
  xorBytes (a b : List Nat) : List Nat := List.zipWith Nat.xor a b

/-- The fifteen round keys of a key of 32 bytes. -/
def roundKeys (key : List Nat) : List (List Nat) :=
  let w0 := (List.range 8).map fun i => (key.drop (4 * i)).take 4
  let ws := (List.range 52).foldl (fun ws i => keyWord ws (i + 8) :: ws) w0.reverse
  let ws := ws.reverse
  (List.range 15).map fun r => ((ws.drop (4 * r)).take 4).flatten

/-- Byte `i` of a block of 16. -/
def blk (b : List Nat) (i : Nat) : Nat := b.getD i 0

/-- The row shift; byte `r + 4 c` comes from column `c + r`. -/
def shiftRows (b : List Nat) : List Nat := (List.range 16).map fun i => blk b ((i + 4 * (i % 4)) % 16)

/-- The inverse row shift. -/
def shiftRowsInv (b : List Nat) : List Nat := (List.range 16).map fun i => blk b ((i + 12 * (i % 4)) % 16)

/-- The column mix with the coefficients of row 0. -/
def mixWith (k : List Nat) (b : List Nat) : List Nat :=
  (List.range 16).map fun i =>
    (List.range 4).foldl (fun acc j =>
      Nat.xor acc (aesMul (blk b (4 * (i / 4) + (i % 4 + j) % 4)) (k.getD j 0))) 0

/-- Encrypts one block of 16 bytes. -/
def aesEnc (ks : List (List Nat)) (b : List Nat) : List Nat :=
  let x := List.zipWith Nat.xor
  let mid := (List.range 13).foldl (fun b r =>
    x (mixWith [2, 3, 1, 1] (shiftRows (b.map aesS))) (ks.getD (r + 1) [])) (x b (ks.getD 0 []))
  x (shiftRows (mid.map aesS)) (ks.getD 14 [])

/-- Decrypts one block of 16 bytes. -/
def aesDec (ks : List (List Nat)) (b : List Nat) : List Nat :=
  let x := List.zipWith Nat.xor
  let mid := (List.range 13).foldl (fun b r =>
    mixWith [14, 11, 13, 9] (x ((shiftRowsInv b).map aesSInv) (ks.getD (13 - r) []))) (x b (ks.getD 14 []))
  x ((shiftRowsInv mid).map aesSInv) (ks.getD 0 [])

/-- The bytes of a number, least significant first. -/
def leBytes (count n : Nat) : List Nat := (List.range count).map fun i => n / 256 ^ i % 256

/-- The number of bytes given least significant first. -/
def ofLeBytes (bs : List Nat) : Nat := bs.foldr (fun b acc => b + 256 * acc) 0

/-- The next tweak: multiplication by x in GF(2^128), little-endian. -/
def nextTweak (t : Nat) : Nat := if t < 2 ^ 127 then t * 2 else Nat.xor ((t * 2) % 2 ^ 128) 0x87

/-- The four blocks of a line through a cipher under the tweaks of line address `a` (R392). -/
def xts (enc : Bool) (key : BitVec 512) (a : Nat) (l : Line) : Line :=
  let kb := leBytes 64 key.toNat
  let k1 := roundKeys (kb.take 32)
  let k2 := roundKeys (kb.drop 32)
  let t0 := ofLeBytes (aesEnc k2 (leBytes 16 a))
  let t1 := nextTweak t0
  let t2 := nextTweak t1
  let t3 := nextTweak t2
  let one := fun (j t : Nat) =>
    let b := (lineNats l).drop (16 * j) |>.take 16
    let tb := leBytes 16 t
    let x := List.zipWith Nat.xor
    x (if enc then aesEnc k1 (x b tb) else aesDec k1 (x b tb)) tb
  lineOfNats (one 0 t0 ++ one 1 t1 ++ one 2 t2 ++ one 3 t3)

end Sys2Proof.Machine
end

