-- ==== Sys2Proof/Machine/Seed.lean ====
section
/-! DEFINITION. The Seed Map's decisions (R380 to R387) and the protected regions (R391, R392, R559, R560). -/

namespace Sys2Proof.Machine

/-- SEED_CTRL, SEED_CMD and SEED_STATUS (R395). -/
def seedCtrl : Nat := 0x3C200
def seedCmd : Nat := 0x3C204
def seedStatus : Nat := 0x3C208

/-- The plot of a line. -/
def plotOf (line : Nat) : Nat := line / 16384

/-- SEED_CTRL.EN. -/
def State.seedEn (s : State) : Bool := s.flag seedCtrl 0

/-- The slot that a sprouting plot holds (R381). -/
def State.sproutSlot (s : State) (plot : Nat) : Option Nat :=
  (s.sprouts.find? fun e => e.2.plot == plot).map Prod.fst

/-- The sprout in a slot. -/
def State.sprout (s : State) (slot : Nat) : Option Sprout := tfind s.sprouts slot

/-- Stores a sprout in its slot. -/
def State.setSprout (s : State) (slot : Nat) (p : Sprout) : State := { s with sprouts := tput s.sprouts slot p }

/-- Free slots. -/
def State.freeSlots (s : State) : List Nat := (List.range 4).filter fun i => (s.sprout i).isNone

/-- The plot's bit is 1, or lies beyond the map (R380). -/
def State.plotBit (s : State) (plot : Nat) : Bool := decide (plot ≥ s.variant.plots) || tget false s.plots plot

/-- The plot is sprouting (R381). -/
def State.sprouting (s : State) (plot : Nat) : Bool := (s.sproutSlot plot).isSome

/-- The Seed Map marks the plot unwritten (R380). -/
def State.unwritten (s : State) (plot : Nat) : Bool := s.seedEn && !s.plotBit plot

/-- A line of a sprouting plot is below its fill pointer (R383). -/
def State.belowFp (s : State) (line : Nat) : Bool :=
  match s.sproutSlot (plotOf line) with
  | some i => (s.sprout i).elim true fun p => decide (line % 16384 < p.fp)
  | none => true

/-- Whether a read that missed the Locket goes to DRAM; otherwise it is a line of zeroes (R16, R384). -/
def State.seedReads (s : State) (line : Nat) : Bool :=
  if s.sprouting (plotOf line) then s.belowFp line || s.ewt.contains line else !s.unwritten (plotOf line)

/-- A fill write of the line is in flight (R383). -/
def State.fillFlies (s : State) (line : Nat) : Bool :=
  match s.sproutSlot (plotOf line) with
  | some i => (s.sprout i).elim false fun p => p.fly.contains (line % 16384)
  | none => false

/-- A plot takes a free slot; which one the spec leaves open (R381, R387). -/
def State.startSprout (s : State) (plot : Nat) : State :=
  match s.freeSlots with
  | [] => s
  | a :: rest =>
    let slot := (a :: rest).getD (Config.choice s.free % (rest.length + 1)) a
    { (s.draw.setSprout slot { plot := plot, fp := 0, next := 0, fly := [] }) with plots := tset false s.plots plot true }

/-- What a write at step 4 has to wait for (R381, R383). -/
inductive SeedWait where
  | go
  | slot
  | table
  | fill
deriving DecidableEq, Repr

/-- A write at step 4 in a sprouting plot (R383). -/
def State.seedEarly (s : State) (line : Nat) : SeedWait × State :=
  if s.belowFp line then (.go, s)
  else if s.ewt.contains line then (if s.fillFlies line then (.fill, s) else (.go, s))
  else if s.ewt.length ≥ 64 then (.table, s)
  else (if s.fillFlies line then .fill else .go, { s with ewt := s.ewt ++ [line] })

/-- A write at step 4 (R381, R383). -/
def State.seedWrite (s : State) (line : Nat) : SeedWait × State :=
  let plot := plotOf line
  if s.sprouting plot then s.seedEarly line
  else if s.unwritten plot then
    (if s.freeSlots = [] then (.slot, s) else (s.startSprout plot).seedEarly line)
  else (.go, s)

/-! ### Regions (R391) -/

/-- Whether region `r` is enabled and covers a plot. -/
def State.regionCovers (s : State) (r plot : Nat) : Bool :=
  s.flag (0x3C400 + 8 * r) 31 && decide (s.fld (0x3C400 + 8 * r) 25 0 ≤ plot ∧ plot ≤ s.fld (0x3C404 + 8 * r) 25 0)

/-- The region a line lies in. -/
def State.region (s : State) (line : Nat) : Option Nat :=
  (List.range 64).find? fun r => s.regionCovers r (plotOf line)

/-- The key in a slot. -/
def State.key (s : State) (r : Nat) : Option (BitVec 512) := (s.keys.find? fun e => e.1 == r).map Prod.snd

/-- A line lies in a Sealed region (R559). -/
def State.isSealed (s : State) (line : Nat) : Bool := (s.region line).elim false fun r => (s.key r).isNone

/-- A refusal under R560 raises the Sealed-access source with the address. -/
def State.sealedEvent (s : State) (line : Nat) : State := s.raiseLow .security 0 1 (64 * line)

/-- The line as an encryption pipe leaves it (R391, R392); `enc` encrypts. -/
def State.crypt (s : State) (enc : Bool) (line : Nat) (d : Line) : Line :=
  match (s.region line).bind s.key with
  | some k => xts enc k line d
  | none => d

end Sys2Proof.Machine
end

