-- ==== Sys2Proof/Machine/Home.lean ====
section
/-! DEFINITION. The home's transactions: how a request takes its line (R315, R344), what it does to the filter and the
ring caches (R316 to R321, R329 to R334), its memory phase (steps 3 to 6 of R8), and how it ends (R314). -/

namespace Sys2Proof.Machine

/-! ### Atomics (R331) -/

/-- SIZE of an ATOM in bytes. -/
def atomSize (op : Nat) : Nat := 2 ^ (op / 8 % 4)

/-- An ATOM that the home answers with a decode error (R331). -/
def atomBad (op off : Nat) : Bool := op / 32 % 8 == 7 || off % atomSize op != 0

/-- The value an atomic operation stores, from the old value, the operand and the new value of a CAS, all of `w` bits. -/
def atomNew (aop w old x y : Nat) : Nat :=
  match aop with
  | 0 => (old + x) % 2 ^ w
  | 1 => x
  | 2 => if old = x then y else old
  | 3 => if signed w old ≤ signed w x then old else x
  | 4 => if signed w old ≥ signed w x then old else x
  | 5 => min old x
  | _ => max old x

/-- Bytes `off` to `off + len - 1` of a line, as a number. -/
def lineField (l : Line) (off len : Nat) : Nat := l.toNat / 2 ^ (8 * off) % 2 ^ (8 * len)

/-- The line with those bytes replaced. -/
def setLineField (l : Line) (off len n : Nat) : Line :=
  BitVec.ofNat 512 (l.toNat - lineField l off len * 2 ^ (8 * off) + n % 2 ^ (8 * len) * 2 ^ (8 * off))

/-- An atomic on a line: the line it leaves and the payload that answers it (R331, R332). -/
def atomApply (op off : Nat) (payload mem : Line) : Line × Line :=
  let n := atomSize op
  let old := lineField mem off n
  let v := atomNew (op / 32 % 8) (8 * n) old (lineField payload 0 n) (lineField payload 8 n)
  (setLineField mem off n v, BitVec.ofNat 512 old)

/-- The line that a merge of R100 leaves. -/
def mergeLine (new old : Line) (off len : Nat) : Line := setLineField old off len (lineField new off len)

/-- The prediction counter of a line (R334). -/
def predIndex (line : Nat) : Nat :=
  Nat.xor (Nat.xor (line % 256) (line / 2 ^ 8 % 256)) (Nat.xor (Nat.xor (line / 2 ^ 16 % 256) (line / 2 ^ 24 % 256)) (line / 2 ^ 32 % 256))

/-! ### Ends -/

/-- What a transaction leaves in the filter if the state it was to grant is not taken: its snoops have been obeyed, and
nothing names the requester (R326, R335). -/
def State.lostFilt (s : State) (t : Trk) : FiltUpd :=
  match t.filt with
  | .fw _ => if (s.sf t.line).isSome then .sh else .clear
  | .ex _ => .clear
  | f => f

/-- A transaction grants nothing. -/
def State.noGrant (s : State) (t : Trk) : Trk := { t with grant := 0, filt := s.lostFilt t }

/-- A transaction has nothing more to do, but for the acknowledgement of a state it granted (R314). -/
def State.settleTrk (s : State) (t : Trk) : State :=
  s.setTrk { t with stage := if t.grant ≠ 0 ∧ t.gone = false then .ack else .ended }

/-- The fault block and source that a not-ready write is raised at (R501). -/
def State.notReadySrc (s : State) : Src → Option (FaultRef × Nat)
  | .port n => some (.port n, 4)
  | .agent st _ _ => some (.stop st, 2)
  | .thread t => match t.kind with
    | .stream => some (.cluster t.unit, 5)
    | _ => some (.chan t.unit, 11)
  | .ctx n => some (.cluster (s.ctx n).cluster, 5)
  | _ => none

/-- A write ends with an error: it is discarded and its source's unit raises it (R464, R501); a completion record that
meets a decode error raises the record-write source (R179). A debug write shows its status. -/
def State.failEvent (s : State) (r : Req) (err : Nat) : State :=
  let s := match s.dbgAcc, r.dest with
    | some d, .dbg => { s with dbgAcc := some { d with status := err, finished := true } }
    | _, _ => s
  if err = 3 then
    match s.notReadySrc r.src with
    | some b => s.raise b.1 b.2 1 (64 * r.line)
    | none => s
  else
    match r.src with
    | .port n => s.raise (.port n) 3 1 (64 * r.line)
    | .ctx c => s.raise (.cluster (s.ctx c).cluster) 2 3 c
    | _ => s

/-- A read that the home answers without memory: refused, in error, or timed out. Nothing is granted. -/
def State.refuseRead (s : State) (t : Trk) (status : Nat) (poison tmo : Bool) : State :=
  let r := s.openAns status poison tmo
  let t := r.2.noGrant t
  (r.2.deliver t r.1 0).settleTrk t

/-- A debug write has ended well. -/
def State.dbgWritten (s : State) (t : Trk) : State :=
  match s.dbgAcc, t.req.dest with
  | some d, .dbg => { s with dbgAcc := some { d with finished := true } }
  | _, _ => s

/-! ### The memory phase -/

/-- The sub-channel of a line takes no request now: the request is held under R500 with the BRINGUP_HOLD it reads. -/
def State.holdTrk (s : State) (t : Trk) : State := s.setTrk { t with stage := .notReady (s.fld 0x8 23 0) }

/-- The home has accepted a write to a line: a scrub of it that is outstanding is not written back (R27, R390). -/
def State.dirties (s : State) (line : Nat) : State :=
  { s with scrubDirty := s.scrubDirty || decide (s.scrubLine = some line) }

/-- A request at step 3: whether its line is placed is decided by LK_POLICY as it now stands, once (R219). -/
def State.reach3 (s : State) (t : Trk) : Trk := { t with placing := some (t.placing.getD (s.placesNow t.req.place)) }

/-- Step 5: a request is translated once, while its line is blocked (R12). -/
def State.spotOf (s : State) (t : Trk) : Option Place := t.spot.or (s.place t.line)

/-- Step 6: the request waits for its queue and ledger entries, or is held while its sub-channel takes none (R242, R500). -/
def State.toQueue (s : State) (t : Trk) (p : Place) : State :=
  let t := { t with spot := some p }
  if s.scOpen p.sc then s.setTrk { t with stage := .queue } else s.holdTrk t

/-- A write at steps 3 to 6 (R381, R383, R17, R500). -/
def State.memWriteWith (s : State) (t : Trk) (fail : State → Trk → State) : State :=
  let t := { s.reach3 t with wr := true }
  let s := if t.req.kind = .scrubWr then s else s.dirties t.line
  let r := s.seedWrite t.line
  let s := r.2
  match r.1 with
  | .slot => s.setTrk { t with stage := .sprout }
  | .table => s.setTrk { t with stage := .ewt }
  | .fill => s.setTrk { t with stage := .fill }
  | .go => (s.spotOf t).elim (fail s t) (s.toQueue t)

/-- Data of a read that came from memory may be placed in the Locket (R215, R218). -/
def State.fill (s : State) (t : Trk) (a : Ans) : State :=
  if t.placing = some true ∧ t.fillOk = true ∧ a.status = 0 ∧ a.tmo = false then
    s.lkPlace { line := t.line, data := a.data, hm := a.hm, poison := a.poison, hdr := t.req.hdr }
  else s

/-- A write that took its queue entry, or was discarded: what its transaction does next. `rd` is the memory phase of a
read, and `got` what comes once a read has its data. The write of data that a snoop brought comes before the transaction's
own (R318). -/
def State.wroteWith (s : State) (t : Trk) (rd : State → Trk → State) (got : State → Trk → Ans → State) : State :=
  match t.wb with
  | some w =>
    let t := { t with wb := none, wr := false, stamp := t.req.stamp }
    match t.req.kind with
    | .rdS => if t.snpFwd then s.settleTrk t else rd s t
    | .merge _ _ | .atom _ _ => got s t (Ans.ok w.1 (hallmark w.1) w.2)
    | _ => s.settleTrk t
  | none =>
    match t.req.kind with
    | .atom _ _ =>
      if t.err ≠ 0 then s.refuseRead t t.err false false
      else
        let a := Ans.ok t.req.data (hallmark t.req.data) false
        (s.deliver t a 0).settleTrk t
    | _ => (s.dbgWritten t).settleTrk t

/-- A write that cannot be made (R464, R501). One of data that a snoop brought has the ring stop of the snoop as its
source's unit. -/
def State.failWriteWith (s : State) (t : Trk) (err : Nat) (rd : State → Trk → State) (got : State → Trk → Ans → State) : State :=
  if t.wb.isSome then
    let s := if err = 3 then s.raise (.stop t.stop) 2 1 (64 * t.line) else s
    (s.setTrk t).wroteWith t rd got
  else
    let t := { t with err := err }
    ((s.failEvent t.req err).setTrk t).wroteWith t rd got

/-- Data has come for a request that reads memory (R8 steps 3 to 9; R100, R316, R332). `wr` is the memory phase of a
write. -/
def State.gotDataWith (s : State) (t : Trk) (a : Ans) (wr : State → Trk → State) : State :=
  match t.req.kind with
  | .merge off len =>
    if a.status ≠ 0 then
      let t := { t with err := a.status }
      (s.failEvent t.req a.status).settleTrk t
    else
      let d := mergeLine t.req.data a.data off len
      let t := { t with data := d, hm := hallmark d, poison := a.poison || t.req.poison }
      wr (s.setTrk t) t
  | .atom op off =>
    let r := atomApply op off t.req.data a.data
    if a.status ≠ 0 then (s.deliver t a 0).settleTrk t
    else if a.poison then (s.deliver t { a with data := r.2, hm := hallmark r.2 } 0).settleTrk t
    else
      let t := { t with data := r.1, hm := hallmark r.1, poison := t.req.poison, req := { t.req with data := r.2 } }
      wr (s.setTrk t) t
  | _ =>
    let t := if a.status ≠ 0 ∨ a.tmo then s.noGrant t else t
    (s.deliver t a t.grant).settleTrk { t with answered := true }

/-- A read at steps 3 to 6 (R15 to R18). -/
def State.memReadWith (s : State) (t : Trk) (wr : State → Trk → State) : State :=
  let r := s.lkLookup t.req.hdr t.line
  let t := { s.reach3 t with fillOk := true }
  let s := r.2
  match r.1 with
  | some x => s.gotDataWith t (Ans.ok x.data x.hm x.poison) wr
  | none =>
    if s.seedReads t.line = false then s.gotDataWith t zeroAns wr
    else
      match s.spotOf t with
      | none => let o := s.openAns 2 false false; o.2.gotDataWith t o.1 wr
      | some p => s.toQueue t p

/-- The last write of a transaction: none follows it. -/
def State.memWriteLast (s : State) (t : Trk) : State :=
  s.memWriteWith t fun s t => s.failWriteWith t 2 (fun s t => s.settleTrk t) fun s t _ => s.settleTrk t

/-- The memory phase of a write. One of data that a snoop brought is followed by the transaction's own read or write; a
merge or atomic never returns to its read phase. -/
def State.memWrite (s : State) (t : Trk) : State :=
  s.memWriteWith t fun s t => s.failWriteWith t 2 (fun s t => s.memReadWith t State.memWriteLast)
    fun s t a => s.gotDataWith t a State.memWriteLast

/-- The memory phase of a read. -/
def State.memRead (s : State) (t : Trk) : State := s.memReadWith t State.memWrite

/-- Data has come for a request. -/
def State.gotData (s : State) (t : Trk) (a : Ans) : State := s.gotDataWith t a State.memWrite

/-- A write has taken its queue entry. -/
def State.wrote (s : State) (t : Trk) : State := s.wroteWith t State.memRead State.gotData

/-- A write cannot be made. -/
def State.failWrite (s : State) (t : Trk) (err : Nat) : State := s.failWriteWith t err State.memRead State.gotData

/-! ### What a transaction does when it has its line (R316, R319) -/

/-- The requester of a ring request; 64, which names no agent, for the others. -/
def reqAgent (r : Req) : Nat :=
  match r.src with
  | .agent _ _ x => x
  | _ => 64

/-- The memory phase of whatever kind the request is. -/
def State.memPhase (s : State) (t : Trk) : State :=
  match t.req.kind with
  | .wr | .wrFull | .wrBack | .stash _ | .blockWr | .scrubWr => s.memWrite t
  | .evict | .forced => s.settleTrk t
  | _ => s.memRead t

/-- Sends the stashed line to its target (R330 step 3), with the check of R377 as it leaves. Like every snoop it names the
requester (R305). -/
def State.sendStash (s : State) (t : Trk) (target : Nat) : State :=
  let r := s.exitCheck (.stop t.stop) 1 t.line (Ans.ok t.data t.hm t.poison)
  let h : Hdr := { Hdr.plain 0x25 (s.nodeId t.stop) target t.num t.line with
    pv := true, poison := r.1.poison, state := 4, op := s.snoopFor t, hm := t.hm.toNat }
  (r.2.setTrk { t with stage := .stash }).emit (.flit t.stop true { hdr := h.word, payload := t.data })

/-- A transaction whose line has no entry goes on once it holds its way (R323, R330). -/
def State.afterWay (s : State) (t : Trk) : State :=
  match t.req.kind with
  | .stash x => s.sendStash t x
  | _ => s.memRead t

/-- A forced invalidation of a victim line begins (R324). -/
def State.forceOut (s : State) (v : SfEnt) : State :=
  let r := { Req.mk0 .block .forced v.line with stamp := s.blockStamp }
  let t := { Trk.ofReq s.freeTrkNum r with filt := .clear }
  let s := { s.draw with trks := s.trks ++ [t] }
  (s.setReg 0x601C (s.reg 0x601C + 1)).snoop t snpIHome

/-- A transaction claims a way of the filter, or waits for one (R323 to R325). -/
def State.claim (s : State) (t : Trk) : State :=
  let i := setIndex t.line
  if (s.sfSet i).length < s.variant.sfWays then
    let t := { t with claimed := true, victim := none }
    let s := s.setSfSet i (s.sfSet i ++ [{ line := t.line, sum := 3, agent := 0 }])
    (s.setTrk t).afterWay t
  else
    match t.victim with
    | some _ => s.setTrk { t with stage := .way }
    | none =>
      match s.sfVictim i with
      | some v =>
        if (s.trks.filter Trk.forced).length < 32 then (s.setTrk { t with stage := .way, victim := some v.line }).forceOut v
        else s.setTrk { t with stage := .way }
      | none => s.setTrk { t with stage := .way }

/-- Whether every way of a set is blocked (R329). -/
def State.waysBlocked (s : State) (line : Nat) : Bool :=
  let i := setIndex line
  decide ((s.sfSet i).length ≥ s.variant.sfWays) && (s.sfVictim i).isNone

/-! ### Waiters (R315, R344) -/

/-- Two requests of one source with one order tag. -/
def sameTag (a b : Req) : Bool := a.src == b.src && b.otag != 0 && a.otag == b.otag

/-- A request is held by its tag (R344): an earlier request of its source with the same tag has not ended its transaction. -/
def State.tagHeld (s : State) (r : Req) : Bool :=
  (s.trks.any fun t => sameTag t.req r) || (s.pool ++ s.homeQ).any fun e => decide (e.id < r.id) && sameTag e r

/-- Requests with whether each is held under R344: by its tag, or behind a held request of its source and line. `before` are
the requests that come first. -/
def State.heldFrom (s : State) : List (Req × Bool) → List Req → List (Req × Bool)
  | before, [] => before
  | before, r :: rest =>
    s.heldFrom (before ++ [(r, s.tagHeld r || before.any fun e => e.2 && e.1.src == r.src && e.1.line == r.line)]) rest

/-- The waiting requests with whether each is held. -/
def State.heldNow (s : State) : List (Req × Bool) := s.heldFrom [] s.homeQ

/-- A far atomic, or one that finds its mode, by HOME_CFG.ATOM_MODE and the prediction (R334): whether it is near, and
the state with the counter and the counts changed. -/
def State.atomChoice (s : State) (t : Trk) : Bool × State :=
  let r := reqAgent t.req
  let mode := s.fld 0x6004 1 0
  let i := predIndex t.line
  let c := tget 0 s.atomPred i
  let contended := ((s.sf t.line).elim false fun e => (e.sum == 1 || e.sum == 2) && e.agent != r) ||
    s.heldNow.any fun e => !e.2 && e.1.line == t.line && e.1.id != t.req.id
  let predicted := mode == 0 || mode == 3
  let near := !s.caching r || mode == 1 || (predicted && decide (c ≥ 2))
  let s := if s.caching r && predicted then
      { s with atomPred := tset 0 s.atomPred i (if contended then min 3 (c + 1) else c - 1) }
    else s
  (near, if near then s.setReg 0x6020 (s.reg 0x6020 + 1) else s.setReg 0x6024 (s.reg 0x6024 + 1))

/-- A request for ownership (RD_U, UPG, a far ATOM) of R316. -/
def State.takeOwned (s : State) (t : Trk) : State :=
  let t := { t with grant := 3, filt := .ex (reqAgent t.req) }
  match s.sf t.line with
  | none => s.claim t
  | some _ => s.snoop t snpI

/-- A request that only reads the line (R316 RD_NC, R319). -/
def State.takeRead (s : State) (t : Trk) : State :=
  match s.sf t.line with
  | some e => if e.sum = 2 then s.snoop t snpRc else s.memRead t
  | none => s.memRead t

/-- A full-line write that drops every copy (R316 WR_FULL, R319, R329). -/
def State.takeWrite (s : State) (t : Trk) : State :=
  let t := { t with filt := .clear }
  match s.sf t.line with
  | some _ => s.snoop t snpIDrop
  | none => s.memWrite t

/-- What a request does when it has taken its line, decided from the filter as it then stands (R315). -/
def State.decideTake (s : State) (t : Trk) : State :=
  let r := reqAgent t.req
  match t.req.kind with
  | .rd | .rdNc | .pref => s.takeRead t
  | .wr | .wrFull => s.takeWrite t
  | .blockWr => s.memWrite t
  | .scrubWr => if s.scrubDirty then s.setTrk t else s.memWrite t
  | .merge _ _ =>
    let t := { t with filt := .clear }
    match s.sf t.line with
    | some e => s.snoop t (if e.sum = 2 then snpIHome else snpIDrop)
    | none => s.memRead t
  | .rdS =>
    if s.caching r = false then s.refuseRead t 2 false false
    else
      match s.sf t.line with
      | none =>
        let excl := s.flag 0x6004 2
        s.claim { t with grant := if excl then 3 else 2, filt := if excl then .ex r else .fw r }
      | some e =>
        let t := { t with grant := 2, filt := .fw r }
        if e.sum = 0 then s.memRead t else s.snoop t snpS
  | .rdU => if s.caching r = false then s.refuseRead t 2 false false else s.takeOwned t
  | .upg => if s.caching r = false then s.refuseRead t 2 false false else s.takeOwned t
  | .wrBack =>
    match s.sf t.line with
    | some e => if e.sum = 2 ∧ e.agent = r then s.memWrite { t with filt := .clear } else s.setTrk { t with far := true }
    | none => s.setTrk { t with far := true }
  | .evict =>
    match s.sf t.line with
    | some e =>
      if e.agent = r ∧ e.sum = 2 then s.setTrk { t with filt := .clear }
      else if e.agent = r ∧ e.sum = 1 then s.setTrk { t with filt := .sh }
      else s.setTrk { t with far := true }
    | none => s.setTrk { t with far := true }
  | .stash x =>
    if s.caching x = false ∨ x = r ∨ s.waysBlocked t.line then
      s.takeWrite { t with req := { t.req with kind := .wrFull } }
    else
      let t := { t with filt := .ex x }
      match s.sf t.line with
      | some _ => s.snoop t snpIDrop
      | none => s.claim t
  | .atom op off =>
    if atomBad op off then s.refuseRead t 2 false false
    else
      let c := s.atomChoice t
      if c.1 then
        let t := { t with filt := .clear }
        match c.2.sf t.line with
        | some _ => c.2.snoop t snpIHome
        | none => c.2.memRead t
      else c.2.takeOwned { t with far := true, req := { t.req with kind := .rdU } }
  | .forced => s
  | .move => s

/-- Whether a request is a read that is answered with data (R560). -/
def ReqKind.reads : ReqKind → Bool
  | .rd | .pref | .rdS | .rdU | .upg | .rdNc | .atom _ _ => true
  | _ => false

/-- Whether a request is a write that R560 refuses. -/
def ReqKind.writes : ReqKind → Bool
  | .wr | .merge _ _ | .wrBack | .wrFull | .stash _ => true
  | _ => false

/-- The mover's line is blocked for it (R232 step 4). -/
def State.moveTake (s : State) (line : Nat) : State :=
  { s with moves := s.moves.map fun m => if m.line = line then { m with phase := 1 } else m }

/-- A request takes its line with a tracker (R315); one for a line in a Sealed region is refused here (R560). -/
def State.takeTrk (s : State) (r : Req) : State :=
  let t := Trk.ofReq s.freeTrkNum r
  let s := { s.draw with trks := s.trks ++ [t] }
  if s.isSealed r.line && r.kind.reads then (s.sealedEvent r.line).refuseRead t 0 true false
  else if s.isSealed r.line && r.kind.writes then (s.sealedEvent r.line).setTrk t
  else s.decideTake t

/-- A request takes its line (R315). -/
def State.take (s : State) (r : Req) : State := if r.kind = .move then s.moveTake r.line else s.takeTrk r

/-! ### Which waiter goes next (R313, R315, R335) -/

/-- A request of an agent whose reset waits or is walked, that reached the home after the reset (R335). -/
def State.walkHeld (s : State) (r : Req) : Bool :=
  s.walks.any fun w => w.1 == reqAgent r && !w.2.contains r.id

/-- The first waiter whose line is free and that finds a tracker (R313, R315). -/
def State.nextTake (s : State) : Option Req :=
  let hs := s.heldNow
  (hs.zipIdx.find? fun e =>
    let r := e.1.1
    !e.1.2 && !s.blocked r.line && s.trkRoom r && !s.walkHeld r &&
      (hs.take e.2).all fun b => b.2 || s.walkHeld b.1 || b.1.line != r.line).map fun e => e.1.1

/-- Every waiter that can take its line takes it. -/
def pumpFuel : Nat → State → State
  | 0, s => s
  | fuel + 1, s =>
    match s.nextTake with
    | none => s
    | some r => pumpFuel fuel ({ s with homeQ := s.homeQ.filter fun q => q.id != r.id }.take r)

/-- The home works: powered, clocked and initialised. A disabled home still completes what it holds (R43). -/
def State.homeWorks (s : State) : Bool := s.running && s.inited.contains .home

/-- Waiters are looked at again. -/
def State.pump (s : State) : State := if s.homeWorks then pumpFuel s.homeQ.length s else s

/-- Requests that were held under R344 and no longer are take their places after the other waiters, and before the requests
that are still held (R344). -/
def State.requeue (s : State) (was : List (Req × Bool)) : State :=
  let now := s.heldNow
  let freed := fun (e : Req × Bool) => !e.2 && was.any fun w => w.1.id == e.1.id && w.2
  { s with homeQ := ((now.filter fun e => !e.2 && !freed e) ++ now.filter freed ++ now.filter fun e => e.2).map Prod.fst }

/-- A request enters home order (R300). -/
def State.enterHome (s : State) (r : Req) : State :=
  let s := if r.kind.writes || r.kind == ReqKind.blockWr then s.dirties r.line else s
  { s with homeQ := s.homeQ ++ [{ r with seq := s.nextId + 1 }], nextId := s.nextId + 1 }.pump

/-! ### The end of a transaction (R314) -/

/-- Transactions that wait for a way, and have no victim on its way out, try again in order (R324, R325). -/
def State.retryWays (s : State) : State :=
  (s.trks.filter fun t => t.stage == .way).foldl
    (fun s t => match s.trk t.line with
      | some t => if t.stage = .way ∧ t.victim = none then s.claim t else s
      | none => s) s

/-- The forced invalidation of a line is over: the transaction that claimed its way takes it (R324). -/
def State.freeVictim (s : State) (line : Nat) : State :=
  (s.trks.find? fun t => t.victim == some line).elim s fun t => s.claim { t with victim := none }

/-- What the filter takes when a transaction ends: nothing names a requester that was reset (R326, R335). -/
def State.endFilt (s : State) (t : Trk) : FiltUpd :=
  if t.snpTmo then .keep
  else if t.gone then s.lostFilt t
  else t.filt

/-- The filter takes the value that a transaction leaves; a claimed way that holds nothing is freed (R326). -/
def State.takeFilt (s : State) (t : Trk) : State :=
  let f := s.endFilt t
  if t.claimed ∧ (f = .keep ∨ f = .clear) then s.sfClear t.line else s.sfApply t.line f

/-- A transaction ends: the filter takes its value, WR_ACK goes out, and the line passes to its first waiter (R314, R315,
R326). -/
def State.endTrk (s : State) (t : Trk) : State :=
  let was := s.heldNow
  let s := { s with trks := s.trks.filter fun x => x.line != t.line }.takeFilt t
  let s := match t.req.kind with
    | .wrFull | .wrBack | .evict | .stash _ =>
      s.sendWrAck t (t.far && (t.req.kind == ReqKind.wrBack || t.req.kind == ReqKind.evict))
    | _ => s
  let s := if t.forced then s.freeVictim t.line else s
  ((s.retryWays).requeue was).pump

/-- A line comes under the hold time (R327). -/
def State.holdLine (s : State) (line : Nat) : State :=
  if s.heldLines.contains line then s else { s with heldLines := s.heldLines ++ [line] }

/-- A grant is acknowledged, or ends as though it were (R314, R327, R335): the hold time of its line begins and its
transaction ends. A write of snooped data that has not taken its queue entry yet goes on as a transaction of the block's
own, which keeps the line blocked (DESIGN CHOICE, log entry 86). -/
def State.ackTrk (s : State) (t : Trk) : State :=
  let s := s.holdLine t.line
  if t.stage = .ack then s.endTrk t
  else (s.takeFilt t).setTrk
    { t with req := { t.req with kind := .blockWr, src := .block, dest := .none }, grant := 0, filt := .keep, claimed := false }

end Sys2Proof.Machine
end

