-- ==== Sys2Proof/Machine/Symbol.lean ====
section
/-! DEFINITION. The symbol code of a stored line: RS(22,18) over GF(2^8), its placement on the bus, and its decoding
with poison and misaddress (R360 to R371). -/

namespace Sys2Proof.Machine

/-- Multiplication modulo x^8 + x^4 + x^3 + x^2 + 1 (R361). -/
def rsMul (a b : Nat) : Nat := gmul 0x11D a b

/-- The inverse in the same field. -/
def rsInv (a : Nat) : Nat := ginv 0x11D a

/-- The fold F of the line address that the virtual symbols carry (R363); `a` is address bits 45:6. -/
def addrFold (a : Nat) : Nat := Nat.xor (Nat.xor (a % 65536) (a / 65536 % 65536)) (a / 4294967296 % 256)

/-- The locator of symbol position `j`: α to the power 21 − j. -/
def locator (j : Nat) : Nat := gpow 0x11D 2 (21 - j)

/-- One step of the division by g(x) = x^4 + 15 x^3 + 54 x^2 + 120 x + 64 (R361): the remainder, x^3 first. -/
def rsStep (r : Nat × Nat × Nat × Nat) (c : Nat) : Nat × Nat × Nat × Nat :=
  let f := Nat.xor c r.1
  (Nat.xor r.2.1 (rsMul f 15), Nat.xor r.2.2.1 (rsMul f 54), Nat.xor r.2.2.2 (rsMul f 120), rsMul f 64)

/-- The check symbols c_18 to c_21 of symbols c_0 to c_17 (R361). -/
def rsCheck (d : List Nat) : List Nat :=
  let r := d.foldl rsStep (0, 0, 0, 0)
  [r.1, r.2.1, r.2.2.1, r.2.2.2]

/-- The poison constant (R366). -/
def poisonP : List Nat := [0x5B, 0xC1, 0x2E, 0x97]

/-- Pairwise exclusive or. -/
def xorL (a b : List Nat) : List Nat := List.zipWith Nat.xor a b

/-- The four syndromes of 22 symbols: the word evaluated at 1, α, α^2, α^3. -/
def syndromes (r : List Nat) : List Nat :=
  [1, 2, 4, 8].map fun x => r.foldl (fun acc c => Nat.xor (rsMul acc x) c) 0

/-- The syndromes of the poison pattern: P in positions 18 to 21. -/
def poisonSyn : List Nat := syndromes (List.replicate 18 0 ++ poisonP)

/-- The symbols of codeword `k` of a line at line address `a` (R362, R363, R366). -/
def encodeCw (l : Line) (a k : Nat) (poison : Bool) : List Nat :=
  let f := addrFold a
  let d := (List.range 16).map (fun j => (lineByte l (16 * k + j)).toNat) ++ [f % 256, f / 256]
  let c := rsCheck d
  d ++ (if poison then xorL c poisonP else c)

/-- Where bit `b` of symbol `j` (0 to 15, or 18 to 21) of codeword `k` travels: its beat and its lane (R364). -/
def place (x8 : Bool) (k j b : Nat) : Nat × Nat :=
  if x8 then
    if j < 16 then (4 * k + j % 4, 8 * (j / 4) + b) else (4 * k + (j - 18), 32 + b)
  else
    if j < 16 then (4 * k + 2 * (j % 2) + b / 4, 4 * (j / 2) + b % 4)
    else (4 * k + 2 * ((j - 18) % 2) + b / 4, 4 * (8 + (j - 18) / 2) + b % 4)

/-- The stored symbol positions. -/
def stored : List Nat := List.range 16 ++ [18, 19, 20, 21]

/-- The burst of 640 bits of a line: bit 40 x beat + lane. -/
def encodeBurst (x8 : Bool) (l : Line) (a : Nat) (poison : Bool) : BitVec 640 :=
  let cw := fun k =>
    let c := encodeCw l a k poison
    stored.foldl (fun acc j => (List.range 8).foldl (fun acc b =>
      if (c.getD j 0) / 2 ^ b % 2 = 1 then acc + 2 ^ (40 * (place x8 k j b).1 + (place x8 k j b).2) else acc) acc) 0
  BitVec.ofNat 640 (cw 0 + cw 1 + cw 2 + cw 3)

/-- The 22 symbols of codeword `k` read from a burst, the virtual ones made from the address. -/
def readCw (x8 : Bool) (burst : BitVec 640) (a k : Nat) : List Nat :=
  let n := burst.toNat
  let sym := fun j => (List.range 8).foldl (fun acc b =>
    acc + n / 2 ^ (40 * (place x8 k j b).1 + (place x8 k j b).2) % 2 * 2 ^ b) 0
  let f := addrFold a
  (List.range 16).map sym ++ [f % 256, f / 256] ++ [18, 19, 20, 21].map sym

/-- How a codeword is decoded (R365). -/
inductive EccMode where
  | full
  | erasure (dev : Nat)
  | x8
deriving DecidableEq, Repr

/-- The symbol positions of an x4 device (R364). -/
def devPos (dev : Nat) : List Nat := if dev < 8 then [2 * dev, 2 * dev + 1] else [18 + 2 * (dev - 8), 19 + 2 * (dev - 8)]

/-- The device that stores a symbol position. -/
def posDev (x8 : Bool) (j : Nat) : Nat :=
  if x8 then (if j < 16 then j / 4 else 4) else (if j < 16 then j / 2 else 8 + (j - 18) / 2)

/-- What a correction changes: positions and the values XORed in; none where it fails. -/
abbrev Fix := Option (List (Nat × Nat))

/-- Correction of one or two errors anywhere in the 22 positions from four syndromes (modes FULL and X8). -/
def correct2 (s : List Nat) : Fix :=
  let s0 := s.getD 0 0
  let s1 := s.getD 1 0
  let s2 := s.getD 2 0
  let s3 := s.getD 3 0
  let det := Nat.xor (rsMul s0 s2) (rsMul s1 s1)
  if det = 0 then
    match (List.range 22).find? fun j =>
        let x := locator j
        s0 ≠ 0 && rsMul s0 x == s1 && rsMul s1 x == s2 && rsMul s2 x == s3 with
    | some j => some [(j, s0)]
    | none => none
  else
    let di := rsInv det
    let l1 := rsMul (Nat.xor (rsMul s0 s3) (rsMul s1 s2)) di
    let l2 := rsMul (Nat.xor (rsMul s1 s3) (rsMul s2 s2)) di
    let roots := (List.range 22).filter fun j =>
      let x := locator j
      Nat.xor (Nat.xor (rsMul x x) (rsMul l1 x)) l2 == 0
    match roots with
    | [i, j] =>
      let xi := locator i
      let xj := locator j
      let ej := rsMul (Nat.xor s1 (rsMul s0 xi)) (rsInv (Nat.xor xi xj))
      let ei := Nat.xor s0 ej
      if ei = 0 ∨ ej = 0 then none else some [(i, ei), (j, ej)]
    | _ => none

/-- The syndromes with the two erased positions eliminated. -/
def erasedSyn (p q : Nat) (s : List Nat) : Nat × Nat :=
  let x := locator p
  let y := locator q
  let a := Nat.xor x y
  let b := rsMul x y
  (Nat.xor (Nat.xor (s.getD 2 0) (rsMul a (s.getD 1 0))) (rsMul b (s.getD 0 0)),
   Nat.xor (Nat.xor (s.getD 3 0) (rsMul a (s.getD 2 0))) (rsMul b (s.getD 1 0)))

/-- The values of two erased positions from the syndromes left after every other error is removed. -/
def fillErased (p q : Nat) (s : List Nat) : List (Nat × Nat) :=
  let x := locator p
  let y := locator q
  let eq := rsMul (Nat.xor (s.getD 1 0) (rsMul (s.getD 0 0) x)) (rsInv (Nat.xor x y))
  [(p, Nat.xor (s.getD 0 0) eq), (q, eq)]

/-- One error outside the two erased positions (mode ERASURE). -/
def correct1 (p q : Nat) (s : List Nat) : Fix :=
  let t := erasedSyn p q s
  match (List.range 22).find? fun j => j ≠ p && j ≠ q && t.1 ≠ 0 && rsMul t.1 (locator j) == t.2 with
  | none => none
  | some j =>
    let z := locator j
    let k := rsMul (Nat.xor z (locator p)) (Nat.xor z (locator q))
    some [(j, rsMul t.1 (rsInv k))]

/-- The syndromes of a single change. -/
def synOf (f : List (Nat × Nat)) : List Nat :=
  [0, 1, 2, 3].map fun i => f.foldl (fun acc e => Nat.xor acc (rsMul e.2 (gpow 0x11D (locator e.1) i))) 0

/-- The result of decoding a codeword (R367): 0 clean, 1 corrected, 2 poisoned, 3 uncorrectable; the positions changed
outside the retired device; whether misaddress was set; the symbols delivered. -/
structure CwOut where
  kind : Nat
  fixed : List Nat
  misaddr : Bool
  syms : List Nat
deriving DecidableEq, Repr

/-- Applies changes to symbols. -/
def applyFix (r : List Nat) (f : List (Nat × Nat)) : List Nat :=
  (List.range 22).map fun j => Nat.xor (r.getD j 0) ((f.find? fun e => e.1 == j).elim 0 Prod.snd)

/-- Whether a correction names a virtual position. -/
def namesVirtual (f : Fix) : Bool := f.elim false fun l => l.any fun e => e.1 == 16 || e.1 == 17

/-- The pseudocode of R367 with the mode's own tests: `zero` says that syndromes (under the erasures) are zero,
`fix` corrects, `fill` recomputes the erased symbols. -/
def decodeWith (zero : List Nat → Bool) (fix : List Nat → Fix) (fill : List Nat → List (Nat × Nat)) (r : List Nat) :
    CwOut :=
  let s := syndromes r
  let sp := xorL s poisonSyn
  if zero s then ⟨0, [], false, applyFix r (fill s)⟩
  else if zero sp then ⟨2, [], false, applyFix r (fill sp)⟩
  else
    let a := fix s
    let b := fix sp
    let mis := namesVirtual a || namesVirtual b
    let done := fun (kind : Nat) (s : List Nat) (f : List (Nat × Nat)) =>
      (⟨kind, f.map Prod.fst, mis, applyFix (applyFix r f) (fill (xorL s (synOf f)))⟩ : CwOut)
    match b, namesVirtual b with
    | some f, false => done 2 sp f
    | _, _ =>
      match a, namesVirtual a with
      | some f, false => done 1 s f
      | _, _ => ⟨3, [], mis, r⟩

/-- Decodes one codeword in a mode (R365, R367). -/
def decodeCw (m : EccMode) (r : List Nat) : CwOut :=
  match m with
  | .erasure d =>
    match devPos d with
    | [p, q] => decodeWith (fun s => erasedSyn p q s == (0, 0)) (correct1 p q) (fillErased p q) r
    | _ => ⟨3, [], false, r⟩
  | _ => decodeWith (fun s => s == [0, 0, 0, 0]) correct2 (fun _ => []) r

/-- The outcome of a line (R368). -/
structure LineOut where
  data : Line
  poison : Bool
  ce : Bool
  ue : Bool
  misaddr : Bool
  /-- a codeword decoded as poisoned -/
  poisoned : Bool
  /-- the device of every corrected symbol, 15 if several or for UE -/
  device : Nat
  /-- bit k: codeword k was not clean -/
  cw : Nat
deriving DecidableEq, Repr

/-- Decodes a burst read for the line address `a` (R367, R368). -/
def decodeBurst (m : EccMode) (burst : BitVec 640) (a : Nat) : LineOut :=
  let x8 := m == .x8
  let raw := (List.range 4).map (readCw x8 burst a)
  let outs := raw.map (decodeCw m)
  let ue := outs.any fun o => o.kind == 3
  let syms := if ue then raw else outs.map (·.syms)
  let fixed := outs.flatMap (·.fixed)
  let devs := (fixed.map (posDev x8)).dedup
  { data := lineOfNats (syms.flatMap (List.take 16)),
    poison := ue || outs.any fun o => o.kind == 2,
    ce := !ue && !fixed.isEmpty,
    ue := ue,
    misaddr := outs.any (·.misaddr),
    poisoned := outs.any fun o => o.kind == 2,
    device := match ue, devs with
      | false, [d] => d
      | _, _ => 15,
    cw := ((List.range 4).map fun k => if (outs.getD k ⟨0, [], false, []⟩).kind = 0 then 0 else 2 ^ k).sum }

end Sys2Proof.Machine
end

