-- ==== Sys2Proof/Machine/Channel.lean ====
section
/-! DEFINITION. The channel units: queue entry, the arbiter and its runs, page policy, refresh, timeouts, returned data,
alerts and rank sparing (R242 to R267, R360 to R377, R412 to R414, R436). -/

namespace Sys2Proof.Machine

/-! ### Priorities (R247, R275) -/

/-- An entry that a grant can take now: not issued, not answered by timeout; while its sub-channel is isolated only the
reads queued before, and those only outside GRAVE (R514, R520); not a line whose copy is in flight (R413). -/
def State.takeable (s : State) (sc : Nat) (e : QEnt) : Bool :=
  let c := s.chan sc
  !e.issued && !e.timedOut &&
    (!c.isolated || (e.rq == 0 && e.old && !s.grave (.chan sc) && !s.grave .phy)) &&
    (match e.owner with | .copy _ => true | _ => !c.copies.contains e.ell)

/-- The entries a requester could be granted. -/
def State.workOf (s : State) (sc rq : Nat) : List QEnt := (s.chan sc).ents.filter fun e => e.rq == rq && s.takeable sc e

/-- ARB_PRIO and Q_CFG fields (R266). -/
def State.refPrio (s : State) (sc : Nat) : Nat := s.fld (scReg sc 0x14) 15 12
def State.maintPrio (s : State) (sc : Nat) : Nat := s.fld (scReg sc 0x14) 11 8
def State.scrubPrio (s : State) (sc : Nat) : Nat := s.fld (scReg sc 0x14) 7 4
def State.migPrio (s : State) (sc : Nat) : Nat := s.fld (scReg sc 0x14) 3 0
def State.wdrainPrio (s : State) (sc : Nat) : Nat := s.fld (scReg sc 0x10) 19 16

/-- An entry's priority, as its requester reckons it (R245, R247). -/
def State.entPrio (s : State) (sc : Nat) (e : QEnt) : Nat :=
  if e.rq = 1 ∧ (s.chan sc).drain then s.wdrainPrio sc
  else if e.rq = 4 then s.scrubPrio sc
  else if e.rq = 5 then s.migPrio sc
  else s.effPrio e.stamp

/-- The first entry of highest priority, the oldest among equals (R248). -/
def State.bestEnt (s : State) (sc : Nat) : List QEnt → Option QEnt
  | [] => none
  | e :: es => some (es.foldl (fun b x => if s.entPrio sc x > s.entPrio sc b then x else b) e)

/-- A rank whose refresh is due (R258); one in self-refresh is not refreshed (R531). -/
def State.dueRank (s : State) (sc : Nat) : Option Nat :=
  let c := s.chan sc
  let due := [0, 1].filter fun r => (c.rank r).armed && !(c.rank r).selfRefresh && decide (1 ≤ (c.rank r).owed)
  (due.find? fun r => (c.rank r).urgent).or due.head?

/-- Refresh is urgent (R259). -/
def Chan.urgent (c : Chan) : Bool := [0, 1].any fun r => (c.rank r).armed && (c.rank r).urgent

/-- Whether the maintenance requester has work: a sequencer command, or a line of CLEAR; not in GRAVE (R520). -/
def State.maintWork (s : State) (sc : Nat) : Bool :=
  let c := s.chan sc
  ((c.maint.any fun m => !m.granted) || c.clearing) && !s.grave (.chan sc) && !s.grave .phy

/-- Whether a requester has pending work. -/
def State.hasWork (s : State) (sc rq : Nat) : Bool :=
  if rq = 2 then (s.dueRank sc).isSome else if rq = 3 then s.maintWork sc else !(s.workOf sc rq).isEmpty

/-- A requester's priority at this decision; 16 for an urgent refresh (R247). -/
def State.rqPrio (s : State) (sc rq : Nat) : Nat :=
  if rq = 2 then (if (s.chan sc).urgent then 16 else s.refPrio sc)
  else if rq = 3 then s.maintPrio sc
  else (s.bestEnt sc (s.workOf sc rq)).elim 0 (s.entPrio sc)

/-- Equal priorities are resolved in this order of requesters (R247). -/
def tieOrder : List Nat := [2, 3, 0, 1, 5, 4]

/-- The requester of highest priority among some. -/
def State.bestRq (s : State) (sc : Nat) : List Nat → Option Nat
  | [] => none
  | r :: rs => some (rs.foldl (fun b x => if s.rqPrio sc x > s.rqPrio sc b then x else b) r)

/-! ### Banks (R254, R255) -/

/-- A bit shifts into the history of a bank (R254). -/
def Bank.shift (b : Bank) (h : Bool) : Bank := { b with hist := BitVec.ofNat 4 (2 * b.hist.toNat + b2n h) }

/-- The open row of a bank is closed, and its history shifts (R254). -/
def Chan.closeRow (c : Chan) (k : Nat) : Chan :=
  let b := c.bank k
  if b.row.isNone then c else c.setBank k { b.shift b.hit with row := none, kept := false, hit := false }

/-- The open row of a bank is precharged. -/
def State.closeBank (s : State) (sc k : Nat) : State :=
  if ((s.chan sc).bank k).row.isNone then s
  else (s.updChan sc fun c => c.closeRow k).dramCmd sc (.pre (k / 32) (k / 4 % 8) (k % 4)) false

/-- The banks of a rank, or of one bank number of it, are closed (R257). -/
def State.closeBanks (s : State) (sc cs : Nat) (bank : Option Nat) : State :=
  ((List.range 32).filter fun i => bank.all fun b => i % 4 == b).foldl (fun s i => s.closeBank sc (32 * cs + i)) s

/-- An access names a row of a bank: a kept row that is open takes a hit, and so does every remembered one (R254). -/
def Bank.access (b : Bank) (row : Nat) : Bank :=
  if b.row = some row then { b with hit := b.hit || b.kept }
  else { b with row := some row, kept := false, hit := false,
                last := b.last.map fun e => if e.1 = row then (row, true) else e }

/-- A row is opened for an access, if it is not open yet (R254). -/
def State.openRow (s : State) (sc k row : Nat) : State :=
  if ((s.chan sc).bank k).row = some row then s.updChan sc fun c => c.setBank k ((c.bank k).access row)
  else
    ((s.closeBank sc k).updChan sc fun c => c.setBank k ((c.bank k).access row)).dramCmd sc
      (.act (k / 32) (k / 4 % 8) (k % 4) row) false

/-- Whether the last column command of a run closes its row (R255). -/
def State.autoPre (s : State) (sc k : Nat) : Bool :=
  let h := ((s.chan sc).bank k).hist.toNat
  let ones := h % 2 + h / 2 % 2 + h / 4 % 2 + h / 8 % 2
  match s.fld (scReg sc 0x1C) 15 14 with
  | 0 => decide (ones < min 4 (s.fld (scReg sc 0x1C) 13 11))
  | 2 => false
  | _ => true

/-- The decision on a bank at a run's last column command (R254, R255): the row is kept, or closed by auto-precharge and
remembered; what follows counts as a hit. -/
def State.decideRow (s : State) (sc k : Nat) (auto : Bool) : State :=
  s.updChan sc fun c =>
    let b := c.bank k
    c.setBank k
      (if auto then { b with row := none, kept := false, hit := false, last := b.last ++ (b.row.toList.map fun r => (r, false)) }
       else { b with kept := true, hit := false })

/-! ### Refresh (R257 to R262) -/

/-- Refresh commands of one rank: one REFab, or the next REFsb of the interval (R257). -/
def State.refreshRank (s : State) (sc r : Nat) : State :=
  let s := s.pdWake sc r
  let upd := fun (k : Rank) =>
    let owed := k.owed - 1
    { k with owed := owed, sbDone := 0, urgent := k.urgent && decide (owed > 1) }
  if s.flag (scReg sc 0x20) 0 then
    let k := (s.chan sc).rank r
    let s := (s.closeBanks sc r (some k.sbDone)).dramCmd sc (.refSb r k.sbDone) false
    s.updChan sc fun c =>
      c.setRank r (if k.sbDone ≥ 3 then upd (c.rank r) else { c.rank r with sbDone := k.sbDone + 1 })
  else
    let s := ((s.closeBanks sc r none).dramCmd sc (.preAll r) false).dramCmd sc (.refAb r) false
    s.updChan sc fun c => c.setRank r (upd (c.rank r))

/-- The refresh of a rank is armed, its intervals counted from 0 (R587). -/
def Chan.arm (c : Chan) (r : Nat) : Chan :=
  if (c.rank r).armed then c else c.setRank r { c.rank r with armed := true, owed := 0, sbDone := 0, urgent := false }

/-- The refresh of a rank is disarmed, and its count held at 0 (R587). -/
def Chan.disarm (c : Chan) (r : Nat) : Chan :=
  c.setRank r { c.rank r with armed := false, owed := 0, sbDone := 0, urgent := false }

/-- Arms the ranks of a populated sub-channel, at CLEAR and at READY (R587). A rank in self-refresh stays disarmed; with
a spare in service chip select 1 serves the rank. -/
def State.armRanks (s : State) (sc : Nat) : State :=
  if s.populated sc = false then s
  else
    s.updChan sc fun c => (s.cmdRanks sc).foldl (fun c r => if (c.rank r).selfRefresh then c else c.arm r) c

/-! ### Runs (R248 to R253) -/

/-- RUN_MAX_LINES and RESERVE_EVERY (R266). -/
def State.runMax (s : State) (sc : Nat) : Nat :=
  let n := s.fld (scReg sc 0x18) 5 0
  if n = 0 then 64 else n
def State.reserveEvery (s : State) (sc : Nat) : Nat := clamp 4 64 (s.fld (scReg sc 0x18) 14 8)

/-- An entry lies in the row set of a run (R229, R248). -/
def Chan.inRun (c : Chan) (r : Run) (e : QEnt) : Bool :=
  e.rq == r.rq && c.entCs e == r.cs && e.bank == r.bank && e.row == r.row

/-- Suspended runs whose queue holds no entry of their row set end (R250). -/
def State.pruneRuns (s : State) (sc : Nat) : State :=
  s.updChan sc fun c => { c with susp := c.susp.filter fun r => c.ents.any fun e => c.inRun r e && !e.issued && !e.timedOut }

/-- A replay has ended without a new alert once the unit decides again (R436). -/
def Chan.replayEnded (c : Chan) : Chan := if c.replaying then { c with replaying := false, replays := 0 } else c

/-- The grant goes to a requester: it is counted, and the requester waits longest last (R253). A run that was banned may
be granted again (R252). -/
def State.granted (s : State) (sc rq : Nat) (reserved : Bool) : State :=
  let s := s.count2 (scReg sc 0x40)
  s.updChan sc fun c =>
    { c.replayEnded with
      sinceRes := if reserved then 0 else c.sinceRes + 1, waitOrder := c.waitOrder.filter (· != rq) ++ [rq],
      hogBan := if c.hogBan = some rq then c.hogBan else none }

/-- The requester that the arbiter grants now, and whether the grant is a reserved one (R247, R252, R253). -/
def State.grantChoice (s : State) (sc : Nat) : Option (Nat × Bool) :=
  let c := s.chan sc
  let work := tieOrder.filter (s.hasWork sc)
  let allowed := work.filter fun r => c.hogBan != some r
  let cand := if allowed.isEmpty then work else allowed
  if c.sinceRes + 1 ≥ s.reserveEvery sc then
    (c.waitOrder.find? fun r => cand.contains r).map fun r => (r, true)
  else (s.bestRq sc cand).map fun r => (r, false)

/-- A queue, scrub or migration requester takes the grant: its suspended run resumes, or a new run starts with its
highest-priority entry (R248, R250, R253). -/
def State.startRun (s : State) (sc rq : Nat) (reserved : Bool) : State :=
  let c := s.chan sc
  match c.susp.find? fun r => r.rq == rq with
  | some r =>
    s.updChan sc fun c => { c with run := some { r with oneLine := reserved, hogged := false }, susp := c.susp.filter fun x => x.rq != rq }
  | none =>
    match s.bestEnt sc (s.workOf sc rq) with
    | some e =>
      s.updChan sc fun c =>
        { c with run := some { rq := rq, cs := c.entCs e, bank := e.bank, row := e.row, issued := 0, reserved := reserved,
                               stamp := e.stamp, oneLine := false, starter := some e.owner, hogged := false } }
    | none => s

/-- The arbiter can decide: no run holds the grant, and the unit may issue commands. -/
def State.arbFree (s : State) (sc : Nat) : Bool := decide ((s.chan sc).run = none) && s.mayIssue sc

/-- A grant (R248). -/
def State.arbiterGrant (s : State) (sc : Nat) : State :=
  if s.arbFree sc = false then s
  else
    let s := s.latchQ sc
    match s.grantChoice sc with
    | none => s
    | some (rq, reserved) =>
      let s := s.granted sc rq reserved
      if rq = 2 then (s.dueRank sc).elim s fun r => s.refreshRank sc r
      else if rq = 3 then
        s.updChan sc fun c =>
          { c with run := some { rq := 3, cs := 0, bank := 0, row := 0, issued := 0, reserved := reserved,
                                 stamp := s.blockStamp, oneLine := true, starter := none, hogged := false } }
      else s.startRun sc rq reserved

/-- ARBITER_GRANT (R248). -/
def execArbiterGrant (sc : Nat) (s : State) : Host.Outcome State Fault Refusal := .next (s.arbiterGrant sc)

/-- The priority of a run at a boundary (R245, R247, R276). -/
def State.runPrio (s : State) (sc : Nat) (r : Run) : Nat :=
  if r.rq = 1 ∧ (s.chan sc).drain then s.wdrainPrio sc
  else if r.rq = 4 then s.scrubPrio sc
  else if r.rq = 5 then s.migPrio sc
  else s.effPrio r.stamp

/-- A waiting entry of the run's own queue ranks higher than the run (R276). -/
def State.outranked (s : State) (sc : Nat) (r : Run) (left : List QEnt) : Bool :=
  decide (r.rq ≤ 1) && left.any fun e => e.rq == r.rq && decide (s.entPrio sc e > s.runPrio sc r)

/-- Whether a run is over with the line it issues now: all its lines, a reserved grant's one line, HOG_LIMIT, no entry of its
row set left, or a waiting entry of its own queue that ranks higher (R248, R252, R253, R276). -/
def State.runOver (s : State) (sc : Nat) (r : Run) (left : List QEnt) : Bool :=
  decide (r.issued + 1 ≥ s.runMax sc) || r.reserved || r.hogged || !(left.any fun e => (s.chan sc).inRun r e) ||
    s.outranked sc r left

/-- Whether another requester preempts a run at this boundary; a reserved grant's line yields only to urgent refresh (R249,
R253, R259). -/
def State.preempted (s : State) (sc : Nat) (r : Run) : Bool :=
  if r.reserved ∨ r.oneLine then (s.chan sc).urgent
  else tieOrder.any fun q => q != r.rq && s.hasWork sc q && decide (s.rqPrio sc q > s.runPrio sc r)

/-- The running run is suspended with its progress count (R249). -/
def State.suspend (s : State) (sc : Nat) (r : Run) : State :=
  s.updChan sc fun c => { c with run := none, susp := c.susp ++ [{ r with oneLine := false }] }

/-- The running run has ended. -/
def State.dropRun (s : State) (sc : Nat) : State := s.updChan sc fun c => { c with run := none }

/-- What becomes of the run whose line has been issued: it ends, is suspended after a reserved grant's one line, or goes on
(R249, R250). -/
def State.boundary (s : State) (sc : Nat) (r : Run) (e : QEnt) (isOver : Bool) : State :=
  let r := { r with issued := r.issued + 1, starter := if r.starter = some e.owner then none else r.starter }
  if isOver then s.dropRun sc
  else if r.oneLine then s.suspend sc r
  else s.updChan sc fun c => { c with run := some r }

/-- The entries that a run takes, each with its index: its starter, and then the entries of its row set in age order, up to
RUN_MAX_LINES lines in all, one for a reserved grant (R248, R253). -/
def State.runTakes (s : State) (sc : Nat) (r : Run) : List (QEnt × Nat) :=
  let c := s.chan sc
  let mine := c.ents.zipIdx.filter fun e => c.inRun r e.1 && s.takeable sc e.1
  let first := fun (e : QEnt × Nat) => r.starter == some e.1.owner
  (mine.filter first ++ mine.filter fun e => !first e).take (if r.reserved then 1 else s.runMax sc - r.issued)

/-- Step 8 of R8 for a write: the Hallmark check, then encryption, then the symbol code; the burst driven (R377, R393). -/
def State.writeBurst (s : State) (sc : Nat) (e : QEnt) : BitVec 640 × State :=
  match e.raw with
  | some b => (b, s)
  | none =>
    let bad := decide (hallmark e.data ≠ e.hm)
    let s := if bad then s.raise (.chan sc) 5 1 (64 * e.line) else s
    let d := if e.cipher then e.data else s.crypt true e.line e.data
    (encodeBurst (s.isX8 sc) d e.line (e.poison || bad), s)

/-- The column command of an entry. -/
def State.column (s : State) (sc : Nat) (e : QEnt) (auto : Bool) : State :=
  let cs := (s.chan sc).entCs e
  if e.wr then
    let b := s.writeBurst sc e
    b.2.dramCmd sc (.wr cs e.bg e.bank e.col auto b.1) false
  else s.dramCmd sc (.rd cs e.bg e.bank e.col auto) false

/-- An entry is marked as issued, to the chip select that serves it. -/
def State.markIssued (s : State) (sc k : Nat) : State :=
  s.updChan sc fun c => { c with ents := c.ents.modify k fun e => { e with issued := true, cs := c.entCs e } }

/-- An entry leaves the sub-channel: its queue and ledger entries are freed (R242). -/
def State.dropEnt (s : State) (sc k : Nat) : State :=
  ((s.updChan sc fun c => { c with ents := c.ents.eraseIdx k }).drainNow sc).pruneRuns sc

/-- A write that step 8 refuses because its region was sealed after the home took the line (R560): it is discarded, and no
copy of it stays in the Locket. -/
def State.refuseWrite (s : State) (sc k : Nat) (e : QEnt) : State :=
  ((s.sealedEvent e.line).lkDrop e.line).dropEnt sc k

/-- The line of an entry is issued by the running run. What ends the run ends it with this line, whose column command is then
its last (R249, R255; DEDUCED, log entry 91). -/
def State.issueLine (s : State) (sc k : Nat) (r : Run) (e : QEnt) : State :=
  let left := (((s.chan sc).ents.eraseIdx k).filter fun x => s.takeable sc x)
  let isOver := s.runOver sc r left
  let key := bankKey r.cs e.bg e.bank
  let s := (s.pdWake sc r.cs).openRow sc key e.row
  let auto := isOver && s.autoPre sc key
  let s := (s.column sc e auto).markIssued sc k
  let s := if isOver then s.decideRow sc key auto else s
  (s.boundary sc r e isOver).pruneRuns sc

/-- A line boundary of a run of a queue, of scrub or of migration (R249): the run ends if it has nothing to take; another
requester preempts it before its next line; or entry `k`, which is among those it takes, is issued. A run that HOG ends is not
suspended any more, and neither is one that an entry of its own queue outranks (R252, R276). -/
def State.atBoundary (s : State) (sc k : Nat) (r : Run) : State :=
  let takes := s.runTakes sc r
  if takes.isEmpty then s.dropRun sc
  else if !r.hogged && s.preempted sc r then
    (if s.outranked sc r ((s.chan sc).ents.filter fun x => s.takeable sc x) then s.dropRun sc else s.suspend sc r)
  else
    match takes.find? fun e => e.2 == k with
    | none => s
    | some (e, _) =>
      if e.wr && !e.cipher && e.raw.isNone && s.isSealed e.line then s.refuseWrite sc k e
      else s.issueLine sc k r e

/-- LINE_BOUNDARY (R249): entry `k` of the sub-channel is the line that the DDR5 timing rules allow next. -/
def State.lineBoundary (s : State) (sc k : Nat) : State :=
  match (s.chan sc).run with
  | none => s
  | some r =>
    if r.rq = 3 ∨ s.mayIssue sc = false then s
    else ((s.updChan sc Chan.replayEnded).latchQ sc).atBoundary sc k r

def execLineBoundary (sc k : Nat) (s : State) : Host.Outcome State Fault Refusal := .next (s.lineBoundary sc k)

/-- HOG (R252): a run that has held the grant too long ends at its next line boundary; a maintenance run, which is one command,
ends with its command. -/
def State.hog (s : State) (sc : Nat) : State :=
  match (s.chan sc).run with
  | none => s
  | some r =>
    if r.hogged then s
    else
      let s := s.updChan sc fun c => { c with run := some { r with hogged := true }, hogBan := some r.rq }
      (s.setFlag (scReg sc 0x34) 0 true).raise (.chan sc) 4 3 r.rq

def execHog (sc : Nat) (s : State) : Host.Outcome State Fault Refusal := .next (s.hog sc)

/-! ### Queue entry (R242, R243) -/

/-- ECC_CFG of a sub-channel (R395). -/
def eccCfg (sc : Nat) : Nat := 0x3C000 + 0x10 * sc

/-- The mode in which a chip select is decoded (R365, R371, R412). -/
def State.eccMode (s : State) (sc cs : Nat) : EccMode :=
  if s.isX8 sc then .x8
  else
    let dev := if cs = 0 then s.fld (eccCfg sc) 3 0 else s.fld (eccCfg sc) 8 5
    let en := if cs = 0 then s.flag (eccCfg sc) 4 else s.flag (eccCfg sc) 9
    if en ∧ dev ≤ 9 then .erasure dev else .full

/-- What a write queue entry holds of its line, with the check of R377: data, Hallmark and poison mark. The 640 zero bits that a
copy writes (R413) stand for the line that a read of them would decode. -/
def State.entryData (s : State) (sc : Nat) (e : QEnt) : (Line × Hm × Bool) × State :=
  match e.raw with
  | some b => let o := decodeBurst (s.eccMode sc 1) b e.line; ((o.data, hallmark o.data, o.poison), s)
  | none => s.forward sc e

/-- The answer that a write queue entry gives a read: its data as held, or as step 9 would return it if the entry holds the
stored form (R243, R377, R560). -/
def State.forwardAns (s : State) (sc : Nat) (e : QEnt) : Ans × State :=
  let r := s.entryData sc e
  if e.cipher then
    if r.2.isSealed e.line then (r.2.sealedEvent e.line).openAns 0 true false
    else
      let d := r.2.crypt false e.line r.1.1
      (Ans.ok d (hallmark d) r.1.2.2, r.2)
  else (Ans.ok r.1.1 r.1.2.1 r.1.2.2, r.2)

/-- A transaction's read is answered from a write queue entry (R243). -/
def State.answerFrom (s : State) (sc : Nat) (t : Trk) (e : QEnt) : State :=
  let r := s.forwardAns sc e
  (r.2.fill t r.1).gotData t r.1

/-- A read at step 6 (R242, R243). -/
def State.queueRead (s : State) (t : Trk) (p : Place) : State :=
  match (s.chan p.sc).writeOf t.line with
  | some e => s.answerFrom p.sc t e
  | none =>
    if s.readRoom p.sc then
      (s.setTrk { t with stage := .data }).enqueue p.sc
        (QEnt.mk0 (.trk t.line) false 0 t.line p t.req.stamp (s.chanTmo p.sc))
    else s

/-- What a write that has taken its queue entry does to the Locket (R214, R215): a scrub write-back, which holds the stored
form, updates a copy with the line it stands for. -/
def State.lkWritten (s : State) (t : Trk) : State :=
  let place := t.placing == some true
  if t.req.kind ≠ .scrubWr then
    s.lkWrite place { line := t.line, data := t.data, hm := t.hm, poison := t.poison, hdr := t.req.hdr }
  else if s.isSealed t.line then s
  else
    let d := s.crypt false t.line t.data
    s.lkWrite false { line := t.line, data := d, hm := hallmark d, poison := t.poison, hdr := false }

/-- A write at step 6: it takes its queue entry with the stamp of its request, or of the data a snoop brought, and the Locket's
copy is updated with it (R214, R242, R243, R586). -/
def State.queueWriteOf (s : State) (t : Trk) (p : Place) : State :=
  (s.queueWrite (.trk t.line) 1 t.line p t.stamp t.data t.hm t.poison (t.req.kind == ReqKind.scrubWr)).elim s
    fun s => (s.lkWritten t).wrote t

/-- The data of a move whose read is answered (R234). -/
def State.moveData (s : State) (line : Nat) (d : Line) (poison : Bool) : State :=
  { s with moves := s.moves.map fun m =>
      if m.line = line then { m with phase := 3, data := d, hm := hallmark d, poison := poison } else m }

/-- A line of the mover reaches a phase. -/
def State.movePhase (s : State) (line k : Nat) : State :=
  { s with moves := s.moves.map fun m => if m.line = line then { m with phase := k } else m }

/-- A move is answered from a write queue entry, in the stored form. -/
def State.moveFrom (s : State) (sc ln : Nat) (e : QEnt) : State :=
  let r := s.entryData sc e
  r.2.moveData ln (if e.cipher then r.1.1 else r.2.crypt true ln r.1.1) r.1.2.2

/-- A line of the mover at step 6: it is read at its CURRENT place, or written at its NEXT place (R232 step 5). A read that
finds its line in the write queue is answered from there. -/
def State.queueMove (s : State) (ln : Nat) (p : Place) : State :=
  match s.moves.find? fun m => m.line == ln with
  | none => s
  | some m =>
    if m.phase = 1 then
      if s.scOpen p.sc = false then s
      else
        match ((s.chan p.sc).writeOf ln).filter fun e => e.cipher || !s.isSealed ln with
        | some e => s.moveFrom p.sc ln e
        | none =>
          if s.readRoom p.sc then
            (s.movePhase ln 2).enqueue p.sc
              { QEnt.mk0 (.move ln) false 5 ln p s.blockStamp (s.chanTmo p.sc) with cipher := true }
          else s
    else if m.phase = 3 then
      match s.placeIn (s.gen genNext) ln with
      | none => s.movePhase ln 4
      | some q =>
        if s.scOpen q.sc = false then s
        else
          match s.queueWrite (.move ln) 5 ln q s.blockStamp m.data m.hm m.poison true with
          | some s => s.movePhase ln 4
          | none => s
    else s

/-- A request that was held under R500 enters the queues of its sub-channel only after the others that were held with it and
come before it in home order. -/
def State.releaseTurn (s : State) (t : Trk) (p : Place) : Bool :=
  t.stage == .queue ||
    (t.stage == .released && s.trks.all fun x =>
      !(x.stage == .released && (x.spot.elim false fun q => q.sc == p.sc) && decide (x.req.seq < t.req.seq)))

/-- A transaction at step 6, at the place that step 5 gave its line (R12, R242). -/
def State.queueTrk (s : State) (t : Trk) (p : Place) : State :=
  if t.stage ≠ .queue ∧ t.stage ≠ .released then s
  else if s.scOpen p.sc = false then s.holdTrk t
  else if s.releaseTurn t p = false then s
  else if t.wr then s.queueWriteOf t p
  else s.queueRead t p

/-- QUEUE_ENTRY (R242): the transaction, or the mover, on line `ln` at step 6. -/
def State.queueEntry (s : State) (ln : Nat) : State :=
  if s.running = false then s
  else
    match s.trk ln with
    | some t => t.spot.elim s (s.queueTrk t)
    | none => (s.place ln).elim s (s.queueMove ln)

def execQueueEntry (ln : Nat) (s : State) : Host.Outcome State Fault Refusal := .next (s.queueEntry ln)

/-- Requests held for a sub-channel that now takes requests may enter its queues (R500). -/
def State.releaseHeld (s : State) (sc : Nat) : State :=
  if s.scOpen sc = false then s
  else
    { s with trks := s.trks.map fun t =>
        match t.stage with
        | .notReady _ => if t.spot.elim false (fun p => p.sc == sc) then { t with stage := .released } else t
        | _ => t }

/-! ### The copy of a rank (R413, R414) -/

/-- The copy pointer passes every line at its front whose copy has its write entry; past the last line the spare serves the
rank (R413, R414). -/
def State.copyAdvance (s : State) (sc n : Nat) : State :=
  let last := s.rankLines sc
  s.updChan sc fun c =>
    let copies := c.copies.filter (· != n)
    let cp := copies.foldl min c.copyNext
    let c := { c with copies := copies, copyPtr := cp }
    if cp ≥ last ∧ copies = [] then { c with spare := 2 }.disarm 0 else c

/-- A request for the line that waited in its queue for the copy's write entry `w` is served from it, or merged into it (R243,
R413). -/
def State.serveWaiter (s : State) (sc k : Nat) (w e : QEnt) : State :=
  if e.wr then (s.replaceWrite sc w e.data e.hm e.poison e.cipher).dropEnt sc k
  else
    let s := s.dropEnt sc k
    match e.owner with
    | .trk line => (s.trk line).elim s fun t => s.answerFrom sc t w
    | .move line => s.moveFrom sc line w
    | _ => s

/-- Every request that waited for the copy of local line `n` is served, the oldest first. -/
def serveWaiters : Nat → Nat → Nat → State → State
  | 0, _, _, s => s
  | fuel + 1, sc, n, s =>
    let ents := (s.chan sc).ents
    let isCopy := fun (e : QEnt) => e.owner == QOwner.copy n && e.wr
    match ents.find? isCopy, ents.zipIdx.find? fun e => e.1.ell == n && !e.1.issued && !e.1.timedOut && !isCopy e.1 with
    | some w, some (e, k) => serveWaiters fuel sc n (s.serveWaiter sc k w e)
    | _, _ => s

/-- The copy's write takes its entry (R413). -/
def State.copyWrite (s : State) (sc n : Nat) (e : QEnt) : State :=
  let w := { e with owner := .copy n, wr := true, rq := 5, cs := 1, issued := false, timedOut := false, cipher := true }
  let s := s.enqueue sc w
  (serveWaiters (s.chan sc).ents.length sc n s).copyAdvance sc n

/-- ECC_CNT, ECC_LAST, ECC_LAST_LINE and the sources of a read that was not clean (R368). -/
def State.eccEvent (s : State) (sc cs ell : Nat) (o : LineOut) : State :=
  if !o.ce && !o.ue then s
  else
    let cnt := eccCfg sc + 4
    let s := if o.ue then s.setFld cnt 31 16 (min 65535 (s.fld cnt 31 16 + 1)) else s.setFld cnt 15 0 (min 65535 (s.fld cnt 15 0 + 1))
    let w := 2 ^ 31 + b2n o.ue * 2 ^ 30 + b2n o.misaddr * 2 ^ 29 + b2n o.poisoned * 2 ^ 28 + cs % 2 * 2 ^ 24 +
      (if o.ue then 15 else o.device % 16) * 2 ^ 20 + o.cw % 16 * 2 ^ 16
    let s := (s.setReg (eccCfg sc + 8) (BitVec.ofNat 32 w)).setReg (eccCfg sc + 12) (BitVec.ofNat 32 (ell % 2 ^ 30))
    s.raise (.chan sc) (if o.ue then (if o.misaddr then 2 else 1) else 0) 2 (ell % 2 ^ 30 + cs % 2 * 2 ^ 30)

/-- A copy read has returned: its write takes its entry, corrected and coded again (R413). A line whose 640 bits are zero is
written as it is, and so is one that no physical line maps to. -/
def State.copyBack (s : State) (sc : Nat) (e : QEnt) (n : Nat) (burst : BitVec 640) : State :=
  if burst = 0 ∨ s.lineAt sc n = none then s.copyWrite sc n { e with raw := some burst }
  else
    let o := decodeBurst (s.eccMode sc 0) burst e.line
    (s.eccEvent sc 0 n o).copyWrite sc n { e with data := o.data, hm := hallmark o.data, poison := o.poison }

/-! ### Timeouts and returned data -/

/-- The owner of a read that timed out gets 64 zero bytes, poison and the timeout qualifier (R244); the line of a copy is
written with them. -/
def State.timeoutOwner (s : State) (sc : Nat) (e : QEnt) : State :=
  match e.owner with
  | .trk line =>
    (s.trk line).elim s fun t =>
      s.gotData t { data := 0, hm := hallmark 0, poison := true, status := 0, tmo := true }
  | .move line => s.moveData line 0 true
  | .copy n => s.copyWrite sc n { e with data := 0, hm := hallmark 0, poison := true }
  | _ => s

/-- CHANNEL_TIMEOUT (R244): the read at entry `k` is answered and leaves the queue; its entry is freed at once if no
command was issued for it. -/
def State.channelTimeout (s : State) (sc k : Nat) : State :=
  match (s.chan sc).ents[k]? with
  | some e =>
    if s.running && e.inRead && !e.timedOut then
      let s := if e.issued then
          s.updChan sc fun c => { c with ents := c.ents.modify k fun e => { e with timedOut := true } }
        else s.dropEnt sc k
      (s.timeoutOwner sc e).raise (.chan sc) 3 1 (64 * e.line)
    else s
  | none => s

def execChannelTimeout (sc k : Nat) (s : State) : Host.Outcome State Fault Refusal := .next (s.channelTimeout sc k)

/-- Step 9 of R8: the decoded line as it returns to its source (R377, R560). -/
def State.readAns (s : State) (line : Nat) (o : LineOut) : Ans × State :=
  if s.isSealed line then (s.sealedEvent line).openAns 0 true false
  else
    let d := s.crypt false line o.data
    (Ans.ok d (hallmark d) o.poison, s)

/-- A corrected scrub read is written back through the home, once its credits are not stopped (R14, R27, R390). -/
def State.scrubBack (s : State) (line : Nat) (o : LineOut) : State :=
  if o.ce then { s with scrubWb := some (line, o.data, o.poison) }.scrubGo else s

/-- A read command whose data has arrived and decoded clean or corrected is not replayed (R436). -/
def Chan.arrived (c : Chan) (e : QEnt) : Chan :=
  { c with window := c.window.eraseP fun m => m.1.colBank == some (e.cs, e.bg, e.bank) && m.2.2 == e.row &&
      (match m.1 with | .rd _ _ _ col _ => col == e.col | _ => false) }

/-- The decoded line of a read reaches its owner (R8 step 9, R368). -/
def State.readBack (s : State) (sc : Nat) (e : QEnt) (burst : BitVec 640) (o : LineOut) : State :=
  match e.owner with
  | .copy n => s.copyBack sc e n burst
  | .trk line =>
    let s := s.eccEvent sc e.cs e.ell o
    (s.trk line).elim s fun t =>
      let r := s.readAns line o
      (r.2.fill t r.1).gotData t r.1
  | .move line => (s.eccEvent sc e.cs e.ell o).moveData line o.data o.poison
  | .scrub line => (s.eccEvent sc e.cs e.ell o).scrubBack line o
  | .fill _ => s

/-- A burst has arrived for entry `k` (R8 step 9, R365 to R368). While an alert waits for its replay, a read that did not decode
returns nothing: the replay reads it again (R436; DEDUCED, log entry 92). -/
def State.dramReadData (s : State) (sc k : Nat) (burst : BitVec 640) : State :=
  match (s.chan sc).ents[k]? with
  | some e =>
    if e.wr || !e.issued then s
    else
      let o := decodeBurst (s.eccMode sc e.cs) burst e.line
      if o.ue && !e.timedOut && decide ((s.chan sc).alert = 1) then s
      else
        let s := (if o.ue then s else s.updChan sc fun c => c.arrived e).dropEnt sc k
        if e.timedOut then s else s.readBack sc e burst o
  | none => s

/-- DRAM_READ_DATA (R8). -/
def execDramReadData (sc k : Nat) (burst : BitVec 640) (s : State) : Host.Outcome State Fault Refusal :=
  .next (s.dramReadData sc k burst)

/-- DRAM_WRITE_COMPLETE (R242): the command of the write at entry `k` has completed; its entries are freed. -/
def State.dramWriteComplete (s : State) (sc k : Nat) : State :=
  match (s.chan sc).ents[k]? with
  | some e => if e.wr && e.issued then s.dropEnt sc k else s
  | none => s

def execDramWriteComplete (sc k : Nat) (s : State) : Host.Outcome State Fault Refusal := .next (s.dramWriteComplete sc k)

/-! ### Idle banks and ranks, refresh intervals -/

/-- A run that holds the grant works on a bank. -/
def Chan.runOn (c : Chan) (k : Nat) : Bool := c.run.any fun r => r.rq != 3 && r.cs == k / 32 && r.bank == k % 4

/-- PAGE_IDLE (R254, R255): the shift that auto-precharge left due is made; without one, a row that is kept is precharged. -/
def State.pageIdle (s : State) (sc k : Nat) : State :=
  if s.running = false then s
  else
    match ((s.chan sc).bank k).last with
    | (_, h) :: rest => s.updChan sc fun c => c.setBank k { (c.bank k).shift h with last := rest }
    | [] => if s.mayIssue sc && (s.chan sc).drives (k / 32) && !(s.chan sc).runOn k then s.closeBank sc k else s

def execPageIdle (sc bank : Nat) (s : State) : Host.Outcome State Fault Refusal := .next (s.pageIdle sc bank)

/-- A rank may enter power-down: RANK_PD_IDLE is not 0, every bank is precharged, nothing is queued for it (R256). -/
def State.mayPowerDown (s : State) (sc r : Nat) : Bool :=
  let c := s.chan sc
  s.mayIssue sc && (s.cmdRanks sc).contains r && decide (s.fld (scReg sc 0x1C) 31 16 ≠ 0) &&
    !(c.rank r).powerDown && !(c.rank r).selfRefresh &&
    (List.range 32).all (fun i => (c.bank (32 * r + i)).row == none) && c.ents.all fun e => c.entCs e != r

/-- POWER_DOWN_ENTRY (R256). -/
def State.powerDownEntry (s : State) (sc r : Nat) : State :=
  if s.mayPowerDown sc r then
    (s.updChan sc fun c => c.setRank r { c.rank r with powerDown := true }).dramCmd sc (.pdEnter r) false
  else s

def execPowerDownEntry (sc rank : Nat) (s : State) : Host.Outcome State Fault Refusal := .next (s.powerDownEntry sc rank)

/-- REF_POSTPONE_MAX and REF_PULLIN_MAX (R266). -/
def State.postponeMax (s : State) (sc : Nat) : Nat := min 4 (s.fld (scReg sc 0x20) 7 4)
def State.pullinMax (s : State) (sc : Nat) : Nat := min 4 (s.fld (scReg sc 0x20) 11 8)

/-- REFRESH_INTERVAL (R258, R259, R531): an armed rank that is not in self-refresh owes one more interval. -/
def State.refreshInterval (s : State) (sc r : Nat) : State :=
  let k := (s.chan sc).rank r
  if k.armed && !k.selfRefresh then
    s.updChan sc fun c =>
      c.setRank r { k with owed := k.owed + 1, urgent := k.urgent || decide (k.owed + 1 ≥ s.postponeMax sc + 1) }
  else s

def execRefreshInterval (sc rank : Nat) (s : State) : Host.Outcome State Fault Refusal :=
  .next (s.refreshInterval sc rank)

/-- IDLE_PULL_IN (R260): with no queued request, an interval of an armed rank is discharged early. -/
def State.idlePullIn (s : State) (sc r : Nat) : State :=
  let c := s.chan sc
  if c.ents.isEmpty && s.arbFree sc && (c.rank r).armed && decide ((c.rank r).owed > -(s.pullinMax sc : Int)) then
    (s.granted sc 2 false).refreshRank sc r
  else s

def execIdlePullIn (sc rank : Nat) (s : State) : Host.Outcome State Fault Refusal := .next (s.idlePullIn sc rank)

/-! ### Rank sparing (R413) -/

/-- SPARE_COPY_LINE (R413): the copy of the next local line begins, with one read and one write entry; up to 8 are in
flight. -/
def State.spareCopyLine (s : State) (sc : Nat) : State :=
  let c := s.chan sc
  let n := c.copyNext
  if s.running && decide (c.spare = 1 ∧ c.copies.length < 8 ∧ n < s.rankLines sc) && s.readRoom sc && s.writeRoom sc then
    let p := s.splitLocal sc n
    let e := QEnt.mk0 (.copy n) false 5 ((s.lineAt sc n).getD (2 ^ 40)) p s.blockStamp (s.chanTmo sc)
    (s.updChan sc fun c => { c with copies := c.copies ++ [n], copyNext := n + 1 }).enqueue sc e
  else s

def execSpareCopyLine (sc : Nat) (s : State) : Host.Outcome State Fault Refusal := .next (s.spareCopyLine sc)

/-! ### CLEAR (R405) -/

/-- Lines that CLEAR writes: those of both chip selects. -/
def State.clearLines (s : State) (sc : Nat) : Nat := 2 * s.rankLines sc

/-- One line of CLEAR is written with 640 zero bits, within a maintenance grant (R405). -/
def State.clearLine (s : State) (sc : Nat) : State :=
  let n := (s.chan sc).clearPtr
  let ell := n % s.rankLines sc
  let cs := n / s.rankLines sc
  let cb := if s.isX8 sc then 6 else 7
  let bank := ell / 2 ^ (3 + cb) % 4
  let s := (s.pdWake sc cs).openRow sc (bankKey cs (ell % 8) bank) (ell / 2 ^ (5 + cb))
  (s.updChan sc fun c => { c with clearPtr := n + 1 }).dramCmd sc
    (.wr cs (ell % 8) bank (ell / 8 % 2 ^ cb * 16) false 0) false

/-- CLEARED (R405): the last clearing write has completed. -/
def State.clearDone (s : State) (sc : Nat) : State :=
  if (s.chan sc).clearing ∧ (s.chan sc).clearPtr ≥ s.clearLines sc then
    s.updChan sc fun c => { c with clearing := false, cleared := true }
  else s

def execCleared (sc : Nat) (s : State) : Host.Outcome State Fault Refusal := .next (s.clearDone sc)

/-! ### ALERT_n (R436, R437) -/

/-- Whether the newest command an alert may concern was a RAW DCMD. -/
def Chan.rawLast (c : Chan) : Bool := (c.window.head?).elim false fun m => m.2.1

/-- ALERT (R436, R437): a falling edge stops issue and raises the alert source with the replay count; 0 for a RAW DCMD,
which is not replayed. ALERT_n of a held group is ignored (R444). -/
def State.alertEdge (s : State) (sc : Nat) : State :=
  if s.flag 0x38004 8 = false ∨ s.running = false ∨ s.held sc = true then s
  else
    let n := if (s.chan sc).rawLast then 0 else (s.chan sc).replays
    let s := s.updChan sc fun c => { c with alert := if c.alert = 2 then 2 else 1 }
    s.raise .phy 0 3 (sc + 32 * min 15 n)

def execAlert (sc : Nat) (s : State) : Host.Outcome State Fault Refusal := .next (s.alertEdge sc)

/-- Reissues one command of the window with its row, which is reopened first (R436). A column command with auto-precharge
closes it again. -/
def State.reissue (s : State) (sc : Nat) (m : DramCmd) (row : Nat) : State :=
  let col := fun (cs bg bank : Nat) (auto : Bool) =>
    let k := bankKey cs bg bank
    let s := (s.openRow sc k row).emit (.dram sc m m.dpar)
    if auto then s.updChan sc fun c => c.setBank k { c.bank k with row := none } else s
  match m with
  | .rd cs bg bank _ auto => col cs bg bank auto
  | .wr cs bg bank _ auto _ => col cs bg bank auto
  | .act cs bg bank r => s.openRow sc (bankKey cs bg bank) r
  | .pre cs bg bank => s.closeBank sc (bankKey cs bg bank)
  | _ => s.emit (.dram sc m m.dpar)

/-- Every open row of a sub-channel is closed by a precharge of all banks of its ranks. -/
def State.prechargeAll (s : State) (sc : Nat) : State :=
  (s.cmdRanks sc).foldl (fun s r =>
    (s.updChan sc fun c => (List.range 32).foldl (fun c i => c.closeRow (32 * r + i)) c).emit
      (.dram sc (.preAll r) (DramCmd.preAll r).dpar)) s

/-- ALERT_REPLAY (R436): ALERT_n is high again; the third replay without a clean end stops the unit. How many of the
commands remembered lie within ALERT_WIN ck of the edge the model leaves free. -/
def State.alertReplay (s : State) (sc : Nat) : State :=
  let c := s.chan sc
  if c.alert ≠ 1 ∨ s.pinsLive sc = false then s
  else if c.replays ≥ 2 then
    (s.updChan sc fun c => { c with alert := 2, replays := c.replays + 1 }).raise .phy 1 3 sc
  else
    let n := Config.choice s.free % (c.window.length + 1)
    let cmds := (c.window.take n).reverse.filter fun m => !m.2.1
    let s := s.draw.prechargeAll sc
    let s := cmds.foldl (fun s m => s.reissue sc m.1 m.2.2) s
    s.updChan sc fun c => { c with alert := 0, replays := c.replays + 1, replaying := true }

def execAlertReplay (sc : Nat) (s : State) : Host.Outcome State Fault Refusal := .next (s.alertReplay sc)

end Sys2Proof.Machine
end

