-- ==== Sys2Proof/Machine/Operands.lean ====
section
/-! DEFINITION. The fields of a Daxry instruction (R81, R82), and the instruction a thread stands at: banks, images and
the instruction store (R68, R135, R136). -/

namespace Sys2Proof.Machine

/-! ### Fields (R81, R82) -/

/-- The opcode. -/
def opOf (w : W32) : Nat := bitsOf w 31 26

/-- Format A and I: d and a; format A: b and fn; format I: imm. -/
def fD (w : W32) : Nat := bitsOf w 25 21
def fA (w : W32) : Nat := bitsOf w 20 16
def fB (w : W32) : Nat := bitsOf w 15 11
def fFn (w : W32) : Nat := bitsOf w 10 0
def fImm (w : W32) : Nat := bitsOf w 15 0

/-- imm sign-extended and zero-extended to 64 bits. -/
def immS (w : W32) : W64 := BitVec.ofInt 64 (signed 16 (fImm w))
def immZ (w : W32) : W64 := BitVec.ofNat 64 (fImm w)

/-- Format M: lb, a, cnt (0 means 64) and mode. -/
def mLb (w : W32) : Nat := bitsOf w 25 22
def mA (w : W32) : Nat := bitsOf w 21 17
def mCnt (w : W32) : Nat := if bitsOf w 16 11 = 0 then 64 else bitsOf w 16 11
def mMode (w : W32) : Nat := bitsOf w 10 0

/-- Format B: cond, a and off, a signed count of instructions. -/
def bCond (w : W32) : Nat := bitsOf w 25 22
def bA (w : W32) : Nat := bitsOf w 21 17
def bOff (w : W32) : Int := signed 17 (bitsOf w 16 0)

/-! ### Banks (R136, R148 to R150, R153) -/

/-- The owner of the banks that a thread runs from. -/
def bankOf (t : ThreadRef) : BankRef :=
  match t.kind with
  | .stream => .cluster t.unit
  | .seq => .seq t.unit
  | .svc => .svc t.unit

/-- Where the window of a bank owner starts. -/
def bankBase : BankRef → Nat
  | .cluster n => (Win.cluster n).base
  | .seq n => (Win.seq n).base
  | .svc n => (Win.svc n).base

/-- Instructions that a bank holds (R68). -/
def bankSize : BankRef → Nat
  | .cluster _ => 8192
  | _ => 2048

/-- Whether the configuration has a bank owner. -/
def bankPresent (v : Variant) : BankRef → Bool
  | .cluster n => decide (n < v.clusters)
  | .seq n => decide (n < v.scs)
  | .svc n => decide (n < v.scs)

/-- Bank states: 0 EMPTY, 1 LOADED, 2 ACTIVE, 3 OUTGOING (R149). -/
def State.bankSt (s : State) (b : BankRef) (i : Nat) : Nat := s.fld (bankBase b + 0xC + 4 * i) 31 30
def State.bankLen (s : State) (b : BankRef) (i : Nat) : Nat := s.fld (bankBase b + 0xC + 4 * i) 29 16
def State.bankVer (s : State) (b : BankRef) (i : Nat) : Nat := s.fld (bankBase b + 0xC + 4 * i) 15 0

/-- Stores a bank's STATE. LEN and VERSION keep the image's values where a bank becomes EMPTY (DESIGN CHOICE, log
entry 84). -/
def State.setBankSt (s : State) (b : BankRef) (i st : Nat) : State := s.setFld (bankBase b + 0xC + 4 * i) 31 30 st

/-- GRAFT_STATE: 0 EMPTY, 1 STABLE, 2 GRAFTING (R148). -/
def State.graftState (s : State) (b : BankRef) : Nat := s.fld (bankBase b + 8) 5 4

/-- The bank in a state, if there is one: of two the lower (DESIGN CHOICE, log entry 85). -/
def State.bankIn (s : State) (b : BankRef) (st : Nat) : Option Nat := [0, 1].find? fun i => s.bankSt b i == st

/-- The key of an instruction store word. -/
def storeKey (b : BankRef) (bank idx : Nat) : Nat :=
  (match b with | .cluster n => n | .seq n => 16 + n | .svc n => 64 + n) * 16384 + bank * 8192 + idx % 8192

/-- An instruction store word; one that nothing has written holds an open value. -/
def State.instrAt (s : State) (b : BankRef) (bank idx : Nat) : W32 :=
  (tfind s.store (storeKey b bank idx)).getD (Config.storeInit (storeKey b bank idx))

/-- Writes an instruction store word. -/
def State.setInstr (s : State) (b : BankRef) (bank idx : Nat) (w : W32) : State :=
  { s with store := tput s.store (storeKey b bank idx) w }

/-! ### Threads that execute -/

/-- Whether the configuration has a thread (R68). -/
def threadPresent (v : Variant) (t : ThreadRef) : Bool :=
  match t.kind with
  | .stream => decide (t.unit < v.clusters ∧ t.idx < 48)
  | _ => decide (t.unit < v.scs ∧ t.idx < 2)

/-- The unit whose EN enables a thread's engine. -/
def engUnit (t : ThreadRef) : UnitRef :=
  match t.kind with
  | .stream => .cluster t.unit
  | .seq => .seq t.unit
  | .svc => .svc t.unit

/-- Engines execute: the block is in ACTIVE, no wake is in progress, and a cluster has initialised (R496, R536, R546). -/
def State.engUp (s : State) (t : ThreadRef) : Bool :=
  s.running && decide (s.pstate = 0) && (match s.pwr with | .wake _ _ => false | _ => true) &&
    (t.kind != .stream || s.inited.contains (.cluster t.unit))

/-- The length of the image a thread runs. -/
def State.imageLen (s : State) (t : ThreadRef) : Nat := s.bankLen (bankOf t) (s.thr t).bank

/-- The instruction a thread stands at; none past the end of its image (R91). -/
def State.fetch (s : State) (t : ThreadRef) : Option W32 :=
  let th := s.thr t
  if th.pc < s.imageLen t then some (s.instrAt (bankOf t) th.bank th.pc) else none

/-- A sequencer or service thread that a sleep entry has stopped: it stands at a GRAFTPT, WAITEV or TWAIT, or waits in one
of the latter two (R536 step 2, R538). -/
def State.thrStopped (s : State) (t : ThreadRef) : Bool :=
  s.clustersStopped && t.kind != .stream &&
    (match (s.thr t).st, (s.thr t).wait with
     | .wait, .events _ _ _ => true
     | .wait, .twait _ => true
     | .run, _ => (s.fetch t).elim false fun w => opOf w == 0x32 || opOf w == 0x39 || opOf w == 0x3D
     | _, _ => false)

/-- A thread executes instructions: its engine does, no sleep entry has stopped it, and it is in RUN (R70). -/
def State.thrRuns (s : State) (t : ThreadRef) : Bool :=
  threadPresent s.variant t && s.engUp t && !s.thrStopped t && decide (s.thrSt t = .run)

end Sys2Proof.Machine
end

