-- ==== Sys2Proof/Machine/Issue.lean ====
section
/-! DEFINITION. The issue of an instruction (R77 to R85), the line operations of engines and their bounds (R79, R187), and
the line reads of multi-line instructions. -/

namespace Sys2Proof.Machine

/-! ### Line operations -/

/-- A kind of request that is outstanding until its data arrives (R187). -/
def ReqKind.isRead : ReqKind → Bool
  | .rd | .pref | .rdS | .rdU | .upg | .rdNc | .atom _ _ => true
  | _ => false

/-- A request of the stream engine that a thread belongs to. -/
def ofEngine (t : ThreadRef) (r : Req) : Bool :=
  match r.src with
  | .thread u => engKey u == engKey t
  | _ => false

/-- Line operations of a stream engine that are outstanding: writes until the home accepts them, reads until their data
arrives (R187). -/
def State.outstanding (s : State) (t : ThreadRef) : Nat :=
  (s.pool.filter (ofEngine t)).length + (s.homeQ.filter fun r => ofEngine t r && r.kind.isRead).length +
    (s.trks.filter fun k => ofEngine t k.req && k.req.kind.isRead && k.stage != .ended).length +
    (s.arrivals.filter fun a => match a.src with | .thread u => engKey u == engKey t | _ => false).length

/-- Whether a line operation can be issued now (R187, R281); its engine stalls while its credits are stopped (R14, R21). -/
def State.opRoom (s : State) (t : ThreadRef) (r : Req) : Bool :=
  (t.kind != .stream || decide (s.outstanding t < 32)) && s.mayEnter r

/-- A line operation of a thread enters, with the thread's charm and run (R10, R73, R345). -/
def State.lineOp (s : State) (t : ThreadRef) (r : Req) : State := s.enter (s.charmOf t) { r with run := s.runOf t }

/-- The reads of a job that can be issued now are issued; header lines go first (R102, R106, R212). -/
def pumpJob : Nat → Nat → State → State
  | 0, _, s => s
  | fuel + 1, id, s =>
    match s.jobs.find? fun j => j.id == id with
    | none => s
    | some j =>
      match j.want with
      | [] => s
      | l :: rest =>
        let r := { Req.mk0 (.thread j.t) .rd l with
          dest := .job j.id j.sent, place := if j.units.isEmpty then .never else .always,
          hdr := j.units.any fun u => u.phase == 0 }
        if s.opRoom j.t r = false then s
        else
          let step := fun (x : Job) => if x.id = id then { x with want := rest, sent := x.sent + 1 } else x
          let s := { s with jobs := s.jobs.map step }
          pumpJob fuel id (s.lineOp j.t r)

/-- The reads of some jobs that can be issued now are issued, the oldest job first. -/
def State.pumpJobs (s : State) (p : Job → Bool) : State :=
  (s.jobs.filter fun j => p j && !j.kind.afterPipe).foldl (fun s j => pumpJob j.want.length j.id s) s

/-! ### Line buffers -/

/-- A line buffer of a thread. -/
def Thread.buf (th : Thread) (k : Nat) : LineBuf := tget LineBuf.init th.lb k

/-- Stores a line buffer. -/
def Thread.setBuf (th : Thread) (k : Nat) (b : LineBuf) : Thread := { th with lb := tset LineBuf.init th.lb k b }

/-- What an instruction that touches a line buffer meets: a stall on a pending one, or on one it would write that is
read-locked, and the fault of a read that failed (R78, R96). -/
inductive Touch where
  | ok
  | stall
  | fault (code : Nat)
deriving DecidableEq, Repr

/-- Touching one buffer. -/
def LineBuf.touch (b : LineBuf) (write : Bool) : Touch :=
  if b.pending then .stall
  else if b.err ≠ 0 then .fault b.err
  else if write && b.locked then .stall
  else .ok

/-- Touching `n` buffers from `lb` on: the first that is not free decides. -/
def Thread.touchAll (th : Thread) (write : Bool) (lb n : Nat) : Touch :=
  ((List.range n).map fun i => (th.buf (lb + i)).touch write).foldl (fun a b => if a = .ok then b else a) .ok

/-! ### Issue -/

/-- What an instruction does: it completes, or branches, or faults, or stalls without effect, or leaves the thread where
the state says (it waits, has more line operations to issue, or has ended its thread's run). -/
inductive Eff where
  | done (s : State)
  | branch (target : Int) (s : State)
  | fault (code : Nat)
  | stall
  | hold (s : State)

/-- The thread goes on at an instruction. -/
def State.goTo (s : State) (t : ThreadRef) (pc : Nat) : State := s.setThr t { s.thr t with pc := pc, prog := 0 }

/-- The thread goes on at its next instruction. -/
def State.nextPc (s : State) (t : ThreadRef) : State := s.goTo t ((s.thr t).pc + 1)

/-- The thread is in RUN again, past the instruction it waited in. -/
def State.wake (s : State) (t : ThreadRef) : State :=
  (s.setThr t { s.thr t with st := .run, wait := .none }).nextPc t

/-- The thread is in WAIT. -/
def State.sleep (s : State) (t : ThreadRef) (w : Wait) : State := s.setThr t { s.thr t with st := .wait, wait := w }

/-- A thread fault of R131; the thread's context halts with the same code as cause. -/
def State.fault1 (s : State) (t : ThreadRef) (code : Nat) : State := s.threadFault t code code

/-- What an instruction did, applied; a fault leaves no other effect (R132). -/
def Eff.apply (s : State) (t : ThreadRef) : Eff → State
  | .done s' => s'.nextPc t
  | .branch a s' => if 0 ≤ a ∧ a < (s.imageLen t : Int) then s'.goTo t a.toNat else s.fault1 t 5
  | .fault code => s.fault1 t code
  | .stall => s
  | .hold s' => s'

/-- Issues the instruction a thread stands at, if it is the one asked for: opcode `op`, further selected by `pick` where
the table gives one opcode several rows. The engine kinds that may run it are `kinds`; on another kind it is ILLEGAL_OP
(R85). A run that a channel timeout halts ends here (R173), and a sequencer or service thread whose unit is disabled
becomes IDLE (R70). -/
def State.issue (s : State) (t : ThreadRef) (op : Nat) (kinds : List EngKind) (pick : W32 → Bool)
    (f : State → Thread → W32 → Eff) : State :=
  if s.thrRuns t = false then s
  else if t.kind ≠ .stream ∧ s.en (engUnit t) = false then s.toIdle t
  else
    match s.fetch t with
    | none => s
    | some w =>
      if decide (opOf w ≠ op) || !pick w then s
      else if (s.thr t).tmoHalt then s.threadFault t 0xF 0x11
      else if kinds.contains t.kind = false then s.fault1 t 1
      else
        let s := s.pumpJobs fun j => j.t == t
        (f s (s.thr t) w).apply s t

/-- Every engine kind. -/
def allKinds : List EngKind := [.stream, .seq, .svc]

/-- The kinds with line operations. -/
def lineKinds : List EngKind := [.stream, .svc]

/-- No further selection. -/
def anyWord : W32 → Bool := fun _ => true

end Sys2Proof.Machine
end

