-- ==== Sys2Proof/Machine/Fence.lean ====
section
/-! DEFINITION. Fences (R345 to R348), Clasp instructions (R114, R115, R351, R356, R357), event flags and EVT
(R116 to R118, R479, R526). -/

namespace Sys2Proof.Machine

/-! ### The conditions of R346 -/

/-- A write of an engine (R345): a full-line write or a merge. -/
def ReqKind.isWrite : ReqKind → Bool
  | .wr => true
  | .merge _ _ => true
  | _ => false

/-- Every write that `p` selects has been admitted by the port arbiter, and none is held under R344. -/
def State.admitted (s : State) (p : Req → Bool) : Bool :=
  !(s.pool.any fun r => r.kind.isWrite && p r) && !(s.heldNow.any fun e => e.2 && e.1.kind.isWrite && p e.1)

/-- Every write that `p` selects has ended its transaction (R314). -/
def State.wroteAll (s : State) (p : Req → Bool) : Bool :=
  !(s.homeQ.any fun r => r.kind.isWrite && p r) && !(s.trks.any fun k => k.req.kind.isWrite && p k.req)

/-- A job that still has writes to make: a PACK or its header (R345). -/
def JobKind.writes : JobKind → Bool
  | .pack _ _ _ => true
  | .packHeader _ => true
  | _ => false

/-- Every read of a thread has returned its data or status. -/
def State.readsDone (s : State) (t : ThreadRef) : Bool :=
  let mine := fun (r : Req) => r.src == Src.thread t && r.kind.isRead
  !(s.pool.any mine) && !(s.homeQ.any mine) && !(s.trks.any fun k => mine k.req && k.stage != .ended) &&
    !(s.arrivals.any fun a => a.src == Src.thread t) && !(s.jobs.any fun j => j.t == t && !j.kind.writes)

/-- A write of a run. -/
def ofRun (run : Option (Nat × Nat)) (r : Req) : Bool := r.run == run

/-- Whether a fence of scope 0 (L), 1 (P) or 2 (G) holds for a thread (R346). -/
def State.fenceHolds (s : State) (t : ThreadRef) (scope : Nat) : Bool :=
  let run := s.runOf t
  let local_ := s.readsDone t && s.admitted (fun r => r.src == Src.thread t) && !(s.jobs.any fun j => j.t == t && j.kind.writes)
  let program := s.admitted (ofRun run) && !(s.jobs.any fun j => j.run == run && j.kind.writes)
  local_ && (decide (scope = 0) || program) && (decide (scope < 2) || s.wroteAll (ofRun run))

/-- FENCE of a scope: it retires at once where its condition holds (R348). -/
def fenceEff (scope : Nat) (s : State) (t : ThreadRef) (w : W32) : Eff :=
  if fD w ≠ 0 ∨ fA w ≠ 0 ∨ fB w ≠ 0 then .fault 1
  else if s.fenceHolds t scope then .done s
  else .hold (s.sleep t (.fence scope))

/-- FENCE_L; an fn that names no fence is ILLEGAL_OP. -/
def execFenceL (t : ThreadRef) (s : State) : Host.Outcome State Fault Refusal :=
  .next (s.issue t 0x30 allKinds (fun w => decide (fFn w ≠ 1 ∧ fFn w ≠ 2)) fun s _ w =>
    if fFn w ≠ 0 then .fault 1 else fenceEff 0 s t w)

/-- FENCE_P. -/
def execFenceP (t : ThreadRef) (s : State) : Host.Outcome State Fault Refusal :=
  .next (s.issue t 0x30 allKinds (fun w => decide (fFn w = 1)) fun s _ w => fenceEff 1 s t w)

/-- FENCE_G. -/
def execFenceG (t : ThreadRef) (s : State) : Host.Outcome State Fault Refusal :=
  .next (s.issue t 0x30 allKinds (fun w => decide (fFn w = 2)) fun s _ w => fenceEff 2 s t w)

/-- A thread waits, on an engine that works. -/
def State.thrWaits (s : State) (t : ThreadRef) : Bool :=
  threadPresent s.variant t && s.engUp t && !s.thrStopped t && decide (s.thrSt t = .wait)

/-- The release reaches the Clasp (R115, R351). -/
def State.releaseNow (s : State) (t : ThreadRef) (n : Nat) (repair : Bool) : Option State :=
  s.claspRelease n (ownerOf t) repair

/-- FENCE_RETIRE (R346, R356): the waiting thread's condition holds. -/
def State.fenceRetire (s : State) (t : ThreadRef) : State :=
  if s.thrWaits t = false then s
  else
    let s := s.pumpJobs fun j => j.t == t
    match (s.thr t).wait with
    | .fence scope => if s.fenceHolds t scope then s.wake t else s
    | .relFence n repair =>
      if s.fenceHolds t 2 then
        match s.releaseNow t n repair with
        | some s => s.wake t
        | none => s.fault1 t 0xC
      else s
    | _ => s

def execFenceRetire (t : ThreadRef) (s : State) : Host.Outcome State Fault Refusal := .next (s.fenceRetire t)

/-! ### Clasps (R114) -/

/-- The checks of a CLSP instruction: the reserved fields, then the Clasp number. `f` acts on the Clasp named. -/
def clspEff (th : Thread) (w : W32) (dZero : Bool) (f : Nat → Eff) : Eff :=
  if fFn w ≥ 4 ∨ fB w ≠ 0 ∨ (dZero = true ∧ fD w ≠ 0) then .fault 1
  else if (th.getG (fA w)).toNat ≥ 256 then .fault 2
  else f (th.getG (fA w)).toNat

/-- The acquire of a thread. -/
def threadWait (t : ThreadRef) (n : Nat) : ClaspWait := { clasp := n, owner := ownerOf t, ring := none }

/-- CLSP_ACQ (R351, R357). -/
def execClspAcq (t : ThreadRef) (s : State) : Host.Outcome State Fault Refusal :=
  .next (s.issue t 0x31 allKinds (fun w => decide (fFn w % 4 = 0)) fun s th w => clspEff th w false fun n =>
    let a := threadWait t n
    if (s.clasp n).st ≠ .held then .hold ((s.sleep t (.acquire n (fD w))).claspTake a)
    else if s.claspWaits.length ≥ 128 then
      .hold { s.sleep t (.acquireFull n (fD w)) with claspFull := s.claspFull ++ [a] }
    else .hold { s.sleep t (.acquire n (fD w)) with claspWaits := s.claspWaits ++ [a] })

/-- CLSP_ACQ_TRY (R351). -/
def execClspAcqTry (t : ThreadRef) (s : State) : Host.Outcome State Fault Refusal :=
  .next (s.issue t 0x31 allKinds (fun w => decide (fFn w % 4 = 1)) fun s th w => clspEff th w false fun n =>
    if (s.clasp n).st ≠ .held then .hold ((s.sleep t (.acquire n (fD w))).claspTake (threadWait t n))
    else .done (s.setThr t (th.setG (fD w) 2)))

/-- A release, which waits as FENCE.G (R356). -/
def clspRelEff (repair : Bool) (s : State) (t : ThreadRef) (n : Nat) : Eff :=
  if s.fenceHolds t 2 then
    match s.releaseNow t n repair with
    | some s => .done s
    | none => .fault 0xC
  else .hold (s.sleep t (.relFence n repair))

/-- CLSP_REL. -/
def execClspRel (t : ThreadRef) (s : State) : Host.Outcome State Fault Refusal :=
  .next (s.issue t 0x31 allKinds (fun w => decide (fFn w % 4 = 2)) fun s th w =>
    clspEff th w true fun n => clspRelEff false s t n)

/-- CLSP_REL_R. -/
def execClspRelR (t : ThreadRef) (s : State) : Host.Outcome State Fault Refusal :=
  .next (s.issue t 0x31 allKinds (fun w => decide (fFn w % 4 = 3)) fun s th w =>
    clspEff th w true fun n => clspRelEff true s t n)

/-! ### Event flags (R116 to R118) -/

/-- A waiting thread takes the flags of its mask that are set (R117); one that a sleep entry has stopped, or whose engine
does not run, stays as it is (R538). -/
def State.evTake (s : State) (t : ThreadRef) : State :=
  if s.thrWaits t = false then s else
  match (s.thr t).wait with
  | .events mask d _ =>
    let hit := s.evf &&& mask
    if hit = 0 then s
    else
      let s := { s with evf := s.evf &&& ~~~hit, evWaiters := s.evWaiters.filter (· != t) }
      (s.setThr t ((s.thr t).setG d hit)).wake t
  | _ => s

/-- Flags that are set wake the threads that wait on them, the longest-waiting first (R118). -/
def State.evDeliver (s : State) : State := s.evWaiters.foldl State.evTake s

/-- Event flags are set (R116, R152). -/
def State.evSet (s : State) (flags : W64) : State := { s with evf := s.evf ||| flags }.evDeliver

/-- WAITEV (R117). -/
def execWaitev (t : ThreadRef) (s : State) : Host.Outcome State Fault Refusal :=
  .next (s.issue t 0x32 allKinds anyWord fun s th w =>
    let mask := th.getG (fA w)
    let hit := s.evf &&& mask
    if mask = 0 then .fault 2
    else if hit ≠ 0 then .done ({ s with evf := s.evf &&& ~~~hit }.setThr t (th.setG (fD w) hit))
    else .hold { s.sleep t (.events mask (fD w) (fImm w)) with evWaiters := s.evWaiters ++ [t] })

/-- WAITEV_TIMEOUT (R117): g[d] becomes 0 and no flag is cleared. -/
def State.waitevTimeout (s : State) (t : ThreadRef) : State :=
  if s.thrWaits t = false then s
  else
    match (s.thr t).wait with
    | .events _ d us =>
      if us = 0 then s
      else
        let s := { s with evWaiters := s.evWaiters.filter (· != t) }
        (s.setThr t ((s.thr t).setG d 0)).wake t
    | _ => s

def execWaitevTimeout (t : ThreadRef) (s : State) : Host.Outcome State Fault Refusal := .next (s.waitevTimeout t)

/-- ALIVE_STATUS (R529). -/
def aliveStatus : Nat := 0x1E0C

/-- A kick (R526): KICKED, the watchdog armed or restarted, and a stall ended. -/
def State.kick (s : State) : State :=
  { (s.setFlag aliveStatus 3 true).setFlag aliveStatus 2 false with wdArmed := true }

/-- EVT (R116, R479, R526): the flag is set at issue; a full pulse queue keeps the thread in WAIT. -/
def execEvt (t : ThreadRef) (s : State) : Host.Outcome State Fault Refusal :=
  .next (s.issue t 0x33 allKinds anyWord fun s _ w =>
    if fD w ≠ 0 ∨ fA w ≠ 0 ∨ fImm w ≥ 64 then .fault 1
    else
      let n := fImm w
      let s := s.evSet (BitVec.ofNat 64 (2 ^ n))
      let s := if t.kind = .svc ∧ s.fld 0x1E00 29 24 = n then s.kick else s
      if s.evtRoom n then .done (s.evtQueue n) else .hold (s.sleep t (.evtQueue n)))

/-- The thread that a table key names. -/
def refOfKey (k : Nat) : ThreadRef :=
  ⟨if k / 65536 = 0 then .stream else if k / 65536 = 1 then .seq else .svc, k % 65536 / 256, k % 256⟩

/-- Threads whose EVT waits for a line. -/
def State.evtWaiting (s : State) (line : Nat) : List ThreadRef :=
  (s.threads.filter fun e => e.2.wait == .evtQueue line && e.2.st == .wait).map fun e => refOfKey e.1

/-- EVT_OUT_PULSE (R479): a pending pulse is emitted, and one EVT that waits for the line, if there is one, queues its
own; which of several the spec leaves open. -/
def State.evtOut (s : State) (line : Nat) : State :=
  let n := tget 0 s.evtPend line
  if n = 0 ∨ s.running = false then s
  else
    let s := { s with evtPend := tset 0 s.evtPend line (n - 1) }.emit (.evtPulse line)
    match s.evtWaiting line with
    | [] => s
    | a :: rest =>
      let t := (a :: rest).getD (Config.choice s.free % (rest.length + 1)) a
      (s.draw.evtQueue line).wake t

def execEvtOutPulse (line : Nat) (s : State) : Host.Outcome State Fault Refusal := .next (s.evtOut line)

end Sys2Proof.Machine
end

