-- ==== Sys2Proof/Machine/Wake.lean ====
section
/-! DEFINITION. Wake events (R541, R544, R545). -/

namespace Sys2Proof.Machine

/-- PWR_STATUS, WAKE_EN and LAST_WAKE (R553). -/
def pwrStatus : Nat := 0x1004
def wakeEn : Nat := 0x1010
def lastWake : Nat := 0x1014

/-- A source is enabled; that of the power controller always is (R544). -/
def State.wakeEnabled (s : State) (code : Nat) : Bool := code == 6 || s.flag wakeEn code

/-- The sleep states in which a source fires (R544): 1 IDLE, 2 NAP, 3 DOZE, 4 OFF. -/
def wakeFires (code st : Nat) : Bool :=
  if code = 6 then 1 ≤ st && st ≤ 4
  else if code = 5 then st == 1 || st == 2
  else if code = 7 then st == 2
  else 1 ≤ st && st ≤ 3

/-- LAST_WAKE takes the event (R541, R545). -/
def State.recordWake (s : State) (src code arg : Nat) (abandon : Bool) : State :=
  s.setReg lastWake (BitVec.ofNat 32 (src % 8 * 2 ^ 29 + b2n abandon * 2 ^ 28 + arg % 256 * 2 ^ 8 + code % 8))

/-- A wake from the sleep state begins; one from IDLE passes to step 4 at once (R545, R546). -/
def State.startWake (s : State) (code arg : Nat) : State :=
  let left := s.pstate
  let s := s.recordWake left code arg false
  { s.setFld pwrStatus 31 29 0 with pwr := .wake left (if left = 1 then 4 else 1), wakeEv := none }

/-- A wake event: it starts a wake, or waits for the next abort point of an entry (R541, R544). Without VDD_AON nothing
detects it (R530). -/
def State.wakeEvent (s : State) (code arg : Nat) : State :=
  if s.vddAon = false ∨ s.wakeEnabled code = false then s
  else
    match s.pwr with
    | .entry _ _ => if s.wakeEv.isNone && code != 7 then { s with wakeEv := some (code, arg) } else s
    | .stable => if wakeFires code s.pstate then s.startWake code arg else s
    | .wake _ _ => s

end Sys2Proof.Machine
end

