-- ==== Sys2Proof/Machine/Irq.lean ====
section
/-! DEFINITION. The interrupt controller: sources, routing, takes, moderators (R572 to R580) and the synchronised inputs
of the targets (R485). -/

namespace Sys2Proof.Machine

/-! ### Sources (R572, R573) -/

/-- ENABLE, PEND and SRC_CFG of a source (R583). -/
def irqEnable (src : Nat) : Nat := 0x40100 + 4 * (src / 32)
def irqPend (src : Nat) : Nat := 0x40200 + 4 * (src / 32)
def srcCfg (src : Nat) : Nat := 0x40800 + 4 * src

/-- Marks a source pending. -/
def State.pend (s : State) (src : Nat) : State := s.setFlag (irqPend src) (src % 32) true

/-- The source of a fault block is active (R519). -/
def State.fltActive (s : State) (b : FaultRef) : Bool :=
  s.flag (faultBase b + 0x18) 0 && decide (s.reg (faultBase b + 4) ≠ 0)

/-- The source of the charm unit is active (R293). -/
def State.charmActive (s : State) : Bool :=
  (s.flag 0x302C 0 && decide (s.reg 0x3018 ≠ 0 ∨ s.reg 0x301C ≠ 0)) || (s.flag 0x302C 1 && s.flag 0x3008 1)

/-- The source of a slot's sideband controller is active (R442). -/
def State.slotActive (s : State) (n : Nat) : Bool :=
  (List.range 4).any fun i => s.flag (0x38410 + 0x20 * n) i && s.flag (0x38400 + 0x20 * n) (16 + i)

/-- The source number of a fault block (R572). -/
def irqOf : FaultRef → Nat
  | .chan n => 64 + n
  | .cluster n => 88 + n
  | .locket => 100
  | .home => 101
  | .stop n => 102 + n
  | .port n => 104 + n
  | .phy => 116
  | .power => 117
  | .security => 118

/-- The level sources that are active (R572). -/
def State.levels (s : State) : List Nat :=
  ((faultBlocks s.variant).filter s.fltActive).map irqOf ++ (if s.charmActive then [119] else []) ++
    (if s.flag 0x6C84 2 then [120] else []) ++
    ((List.range s.variant.slots).filter s.slotActive).map fun n => 121 + n

/-! ### Routing (R574, R575) -/

/-- Targets of a source that TGT_EN allows. -/
def State.eligible (s : State) (src : Nat) : List Nat :=
  (List.range 8).filter fun n => s.flag (srcCfg src) n && s.flag 0x40000 n

/-- CLASS of a source: FAST. -/
def State.irqFast (s : State) (src : Nat) : Bool := s.flag (srcCfg src) 8

/-- The round-robin pointer of a class: NRR or FRR. -/
def rrReg (fast : Bool) : Nat := if fast then 0x41040 else 0x40040

/-- TSLEEP and TPRIO as synchronised. -/
def State.sleeps (s : State) (n : Nat) : Bool := tget false s.tsleep n
def State.prioOf (s : State) (n : Nat) : Nat := tget 0 s.tprio n

/-- The pseudocode of R574. -/
def State.routeOf (s : State) (src : Nat) : Option Nat :=
  let elig := s.eligible src
  let awake := elig.filter fun n => !s.sleeps n
  if awake.isEmpty then elig.head?
  else
    let best := (awake.map s.prioOf).foldl min 16
    let low := awake.filter fun n => s.prioOf n == best
    let rr := s.fld (rrReg (s.irqFast src)) 2 0
    (low.find? fun n => decide (rr ≤ n)).or low.head?

/-- A source is delivered (R574). -/
def State.delivered (s : State) (src : Nat) : Bool :=
  s.flag (irqEnable src) (src % 32) && s.flag (irqPend src) (src % 32) && decide (s.fld (srcCfg src) 7 0 ≠ 0)

/-- The assignment of every source, target plus one, as it stands now. -/
def State.assignment (s : State) : Tab Nat :=
  ((List.range 512).filter s.delivered).filterMap fun src => (s.routeOf src).map fun n => (src, n + 1)

/-- The target of the interrupt wake, if the new assignment makes one: a source that had no target takes one, or a source
moves to a target that sleeps (R544 code 5, R577). -/
def State.irqWake (s : State) (old : Tab Nat) : Option Nat :=
  (s.assigned.find? fun e =>
    decide (tget 0 old e.1 ≠ e.2) && (decide (tget 0 old e.1 = 0) || s.sleeps (e.2 - 1))).map fun e => e.2 - 1

/-- ROUTE (R573 to R575, R577, R580): the level sources set their PEND bits, and every delivered source is assigned. -/
def State.route (s : State) : State :=
  let s' := s.levels.foldl State.pend s
  let s'' := { s' with assigned := s'.assignment }
  match s''.irqWake s.assigned with
  | some n => s''.wakeEvent 5 n
  | none => s''

def execRoute (s : State) : Host.Outcome State Fault Refusal := .next (if s.intcReady then s.route else s)

/-- The sources of a class assigned to a target, the lowest first. -/
def State.assignedTo (s : State) (n : Nat) (fast : Bool) : List Nat :=
  (s.assigned.filter fun e => e.2 == n + 1 && s.irqFast e.1 == fast).map Prod.fst

/-- The word that TAKEn or FTAKEn reads (R583). -/
def State.takeWord (s : State) (n : Nat) (fast : Bool) : W32 :=
  match s.assignedTo n fast with
  | [] => 0
  | src :: _ => BitVec.ofNat 32 (2 ^ 31 + src)

/-- A take (R576): the source leaves PEND and its assignment, and the class's pointer moves past the target. -/
def State.takeIrq (s : State) (n : Nat) (fast : Bool) : State :=
  match s.assignedTo n fast with
  | [] => s
  | src :: _ =>
    let s := (s.setFlag (irqPend src) (src % 32) false).setFld (rrReg fast) 2 0 ((n + 1) % 8)
    { s with assigned := terase s.assigned src }

/-- TGT_STATUSn (R583). -/
def State.tgtStatus (s : State) (n : Nat) : W32 :=
  let norm := s.assignedTo n false
  let fast := s.assignedTo n true
  let all := norm.length + fast.length
  BitVec.ofNat 32 (b2n (s.sleeps n) * 2 ^ 31 + b2n (s.sleeps n && decide (0 < all)) * 2 ^ 30 +
    b2n (decide (norm ≠ [])) * 2 ^ 29 + b2n (decide (fast ≠ [])) * 2 ^ 28 + s.prioOf n * 2 ^ 16 + all)

/-! ### Moderators (R578, R579) -/

/-- MOD_CFG and MOD_STAT of a moderator. -/
def modCfg (m : Nat) : Nat := 0x42000 + 0x10 * m
def modStat (m : Nat) : Nat := 0x42004 + 0x10 * m

/-- COUNT and EN. -/
def State.modCount (s : State) (m : Nat) : Nat := s.fld (modStat m) 15 0
def State.modEn (s : State) (m : Nat) : Bool := s.flag (modCfg m) 31

/-- The count goes to 0 and the timer stops. -/
def State.modZero (s : State) (m : Nat) : State :=
  { s.setFld (modStat m) 15 0 0 with modTimer := tset false s.modTimer m false }

/-- A firing: source m is active for one mc (R578). -/
def State.modFire (s : State) (m : Nat) : State := (s.modZero m).pend m

/-- Every target that route() could choose for source m sleeps (R579). -/
def State.modAsleep (s : State) (m : Nat) : Bool := !(s.eligible m).isEmpty && (s.eligible m).all s.sleeps

/-- The flush towards a sleeping target (R579). -/
def State.modFlush (s : State) (m : Nat) : State :=
  if s.modEn m && decide (s.modCount m ≠ 0) && s.modAsleep m then s.modFire m else s

/-- The flush of every moderator. -/
def State.modFlushAll (s : State) : State := (List.range 64).foldl State.modFlush s

/-- One completion is counted (R578). -/
def State.modComplete (s : State) (m : Nat) : State :=
  if s.modEn m then
    let n := min 65535 (s.modCount m + 1)
    let timed := tget false s.modTimer m || decide (s.fld (modCfg m) 15 0 ≠ 0)
    let s := { s.setFld (modStat m) 15 0 n with modTimer := tset false s.modTimer m timed }
    if n ≥ max 1 (s.fld (modCfg m) 23 16) then s.modFire m else s.modFlush m
  else s

/-- MODERATOR_TIMEOUT (R578): the timer of a moderator that holds completions ends. -/
def State.modTimeout (s : State) (m : Nat) : State :=
  if s.running && s.modEn m && tget false s.modTimer m && decide (s.modCount m ≠ 0) then s.modFire m else s

def execModeratorTimeout (m : Nat) (s : State) : Host.Outcome State Fault Refusal := .next (s.modTimeout m)

/-! ### Target inputs (R485) -/

/-- TPRIO (R485): the synchronised value comes into use; the next ROUTE reads it. -/
def execTprio (n : Nat) (v : BitVec 4) (s : State) : Host.Outcome State Fault Refusal :=
  .next (if s.running && decide (n < 8) then { s with tprio := tset 0 s.tprio n v.toNat } else s)

/-- TSLEEP (R485, R579): the synchronised value comes into use, and moderators whose targets all sleep fire. -/
def execTsleep (n : Nat) (level : Bool) (s : State) : Host.Outcome State Fault Refusal :=
  .next (if s.running && decide (n < 8) then { s with tsleep := tset false s.tsleep n level }.modFlushAll else s)

end Sys2Proof.Machine
end

