-- ==== Sys2Proof/Machine/LineOps.lean ====
section
/-! DEFINITION. Local accesses (R74, R75, R92, R93), line operations (R95 to R100), GATHER and SCAT (R106 to R108), HMCHK
(R123), TRAP (R122) and GRAFTPT (R124, R142, R143). -/

namespace Sys2Proof.Machine

/-! ### The local address space (R74) -/

/-- What lies at a local address; `i` counts words of 8 bytes. -/
inductive Local where
  | scratch (i : Nat)
  | mbox (i : Nat)
  | buf (k j : Nat)
  | desc (j : Nat)
  | bad
deriving DecidableEq, Repr

/-- The table of R74, for an address that is a multiple of 8. -/
def localAt (k : EngKind) (a : Nat) : Local :=
  match k with
  | .stream =>
    if a < 0x1000 then .scratch (a / 8)
    else if a < 0x1400 then .buf ((a - 0x1000) / 64) (a % 64 / 8)
    else if a < 0x1440 then .desc (a % 64 / 8)
    else .bad
  | .seq => if a < 0x800 then .scratch (a / 8) else if a < 0x840 then .mbox ((a - 0x800) / 8) else .bad
  | .svc =>
    if a < 0x800 then .scratch (a / 8)
    else if a < 0x840 then .mbox ((a - 0x800) / 8)
    else if 0x1000 ≤ a ∧ a < 0x1100 then .buf ((a - 0x1000) / 64) (a % 64 / 8)
    else .bad

/-- The key of a scratch word. -/
def scratchKey (t : ThreadRef) (i : Nat) : Nat := engKey t * 512 + i

/-- A scratch word; one that nothing has written holds an open value. -/
def State.scratchAt (s : State) (t : ThreadRef) (i : Nat) : W64 :=
  (tfind s.scratch (scratchKey t i)).getD (Config.scratchInit (scratchKey t i))

/-- The window offset of MBOX(2k) of a thread's engine (R75, R153). -/
def mboxReg (t : ThreadRef) (k : Nat) : Nat := (engWin t).base + 0x40 + 8 * k

/-- Word `j` of a line. -/
def lineWord (l : Line) (j : Nat) : W64 := BitVec.ofNat 64 (lineField l (8 * j) 8)

/-- The line with word `j` replaced. -/
def setLineWord (l : Line) (j : Nat) (v : W64) : Line := setLineField l (8 * j) 8 v.toNat

/-- The result of a local read. -/
inductive LRes where
  | ok (v : W64)
  | stall
  | fault (code : Nat)
deriving DecidableEq, Repr

/-- Reads the 8 bytes at a local address that is a multiple of 8 (R74, R78, R93, R96). -/
def State.localRead (s : State) (t : ThreadRef) (th : Thread) (a : Nat) : LRes :=
  match localAt t.kind a with
  | .scratch i => .ok (s.scratchAt t i)
  | .mbox k => .ok (BitVec.ofNat 64 (s.reg2 (mboxReg t k)))
  | .buf k j =>
    match (th.buf k).touch false with
    | .stall => .stall
    | .fault c => .fault c
    | .ok => if (th.buf k).poison then .fault 6 else .ok (lineWord (th.buf k).data j)
  | .desc j => .ok (lineWord th.desc j)
  | .bad => .fault 4

/-- LDS (R92, R93). -/
def execLds (t : ThreadRef) (s : State) : Host.Outcome State Fault Refusal :=
  .next (s.issue t 0x1C allKinds anyWord fun s th w =>
    let a := (th.getG (fA w) + immS w).toNat
    if a % 8 ≠ 0 then .fault 3
    else
      match s.localRead t th a with
      | .ok v => .done (s.setThr t (th.setG (fD w) v))
      | .stall => .stall
      | .fault c => .fault c)

/-- Stores 8 bytes at a local address (R74, R93). -/
def State.localWrite (s : State) (t : ThreadRef) (th : Thread) (a : Nat) (v : W64) : Eff :=
  match localAt t.kind a with
  | .scratch i => .done { s with scratch := tput s.scratch (scratchKey t i) v }
  | .mbox k => .done (s.setReg2 (mboxReg t k) v.toNat)
  | .buf k j =>
    match (th.buf k).touch true with
    | .stall => .stall
    | .fault c => .fault c
    | .ok => .done (s.setThr t (th.setBuf k { th.buf k with data := setLineWord (th.buf k).data j v, hmValid := false }))
  | .desc j => .done (s.setThr t { th with desc := setLineWord th.desc j v })
  | .bad => .fault 4

/-- STS (R92, R93). -/
def execSts (t : ThreadRef) (s : State) : Host.Outcome State Fault Refusal :=
  .next (s.issue t 0x1D allKinds anyWord fun s th w =>
    let a := (th.getG (fA w) + immS w).toNat
    if a % 8 ≠ 0 then .fault 3 else s.localWrite t th a (th.getG (fD w)))

/-! ### Line reads and writes -/

/-- The number of line buffers of a thread (R68). -/
def bufCount (k : EngKind) : Nat :=
  match k with
  | .stream => 16
  | .seq => 0
  | .svc => 4

/-- The Hallmark source of a thread's unit: that of its cluster, or for a service engine that of its channel unit. -/
def hmSource (t : ThreadRef) : FaultRef × Nat :=
  match t.kind with
  | .stream => (.cluster t.unit, 3)
  | _ => (.chan t.unit, 5)

/-- Issues the `n` line operations of an instruction one after the other, as far as they can be issued now (R79): the
instruction is done when all have been, and otherwise goes on from there. `op` makes the `k`-th: the request, and the state
from which it enters. -/
def lineLoop (n : Nat) (op : State → Nat → Req × State) (s : State) (t : ThreadRef) : Eff :=
  let s := (List.range n).foldl (fun s k =>
    let r := op s k
    if (s.thr t).prog = k ∧ s.opRoom t r.1 = true then
      let s := r.2.lineOp t r.1
      s.setThr t { s.thr t with prog := k + 1 }
    else s) s
  if (s.thr t).prog ≥ n then .done s else .hold s

/-- The checks on the address of LDL, STL and PREF (R95). -/
def lineAddr (g : W64) (cnt : Nat) (ok : Eff) : Eff :=
  if g.toNat % 64 ≠ 0 then .fault 3 else if g.toNat + 64 * cnt > 2 ^ 46 then .fault 0xA else ok

/-- The checks of LDL and STL before the first line operation (R96, R99). -/
def lineChecks (write : Bool) (t : ThreadRef) (th : Thread) (w : W32) (ok : Eff) : Eff :=
  if mMode w ≥ 64 ∨ mMode w % 4 = 3 then .fault 1
  else if mCnt w > 16 ∨ mLb w + mCnt w > bufCount t.kind then .fault 2
  else
    lineAddr (th.getG (mA w)) (mCnt w)
      (match th.touchAll write (mLb w) (mCnt w) with
       | .stall => .stall
       | .fault c => .fault c
       | .ok => ok)

/-- How ALLOC of R99 places a line; `policy` is the bit of LK_POLICY for ALLOC 0. -/
def allocOf (w : W32) (policy : Nat) : Placing :=
  if mMode w % 4 = 1 then .always else if mMode w % 4 = 0 then .policy policy else .never

/-- The line operation `k` of an LDL. -/
def ldlOp (t : ThreadRef) (w : W32) (s : State) (k : Nat) : Req × State :=
  let th := s.thr t
  let i := mLb w + k
  ({ Req.mk0 (.thread t) .rd ((th.getG (mA w)).toNat / 64 + k) with
      otag := mMode w / 4 % 16, dest := .buf t i, place := allocOf w 0 },
    s.setThr t (th.setBuf i { th.buf i with pending := true, err := 0 }))

/-- LDL (R96, R99). -/
def execLdl (t : ThreadRef) (s : State) : Host.Outcome State Fault Refusal :=
  .next (s.issue t 0x24 lineKinds anyWord fun s th w =>
    let go := lineLoop (mCnt w) (ldlOp t w) s t
    if th.prog = 0 then lineChecks true t th w go else go)

/-- A line buffer leaves for memory: whether it goes out poisoned, with the check of R377 at the line it goes to. -/
def State.bufOut (s : State) (t : ThreadRef) (b : LineBuf) (line : Nat) : Bool × State :=
  let bad := b.hmValid && decide (hallmark b.data ≠ b.hm)
  (b.poison || bad, if bad then s.raise (hmSource t).1 (hmSource t).2 1 (64 * line) else s)

/-- The line operation `k` of an STL. -/
def stlOp (t : ThreadRef) (w : W32) (s : State) (k : Nat) : Req × State :=
  let th := s.thr t
  let b := th.buf (mLb w + k)
  let line := (th.getG (mA w)).toNat / 64 + k
  let r := s.bufOut t b line
  ({ Req.mk0 (.thread t) .wr line with
      data := b.data, hm := hallmark b.data, poison := r.1, otag := mMode w / 4 % 16, place := allocOf w 1 }, r.2)

/-- STL (R96, R97, R99). -/
def execStl (t : ThreadRef) (s : State) : Host.Outcome State Fault Refusal :=
  .next (s.issue t 0x25 lineKinds anyWord fun s th w =>
    let go := lineLoop (mCnt w) (stlOp t w) s t
    if th.prog = 0 then lineChecks false t th w go else go)

/-- The line operation `k` of a PREF (R98, R215). -/
def prefOp (t : ThreadRef) (w : W32) (s : State) (k : Nat) : Req × State :=
  ({ Req.mk0 (.thread t) .pref (((s.thr t).getG (mA w)).toNat / 64 + k) with place := .always, hdr := true }, s)

/-- PREF (R98). -/
def execPref (t : ThreadRef) (s : State) : Host.Outcome State Fault Refusal :=
  .next (s.issue t 0x26 lineKinds anyWord fun s th w =>
    if mLb w ≠ 0 ∨ mMode w ≠ 0 then .fault 1
    else lineAddr (th.getG (mA w)) (mCnt w) (lineLoop (mCnt w) (prefOp t w) s t))

/-! ### Index lists (R106 to R108) -/

/-- The index list that starts at local address `a`: `n` indices of `width` bytes. -/
def State.indices (s : State) (t : ThreadRef) (th : Thread) (a width n : Nat) : List LRes :=
  (List.range n).map fun i =>
    let b := a + width * i
    match s.localRead t th (b / 8 * 8) with
    | .ok v => .ok (BitVec.ofNat 64 (v.toNat / 2 ^ (8 * (b % 8)) % 2 ^ (8 * width)))
    | r => r

/-- The first result of a list that is no value, if there is one. -/
def firstBad (l : List LRes) : Option LRes := l.find? fun r => match r with | .ok _ => false | _ => true

/-- Element size and index width of a mode field (R106). -/
def elemSize (w : W32) : Nat := 2 ^ (mMode w % 8)
def idxWidth (w : W32) : Nat := if mMode w / 8 % 2 = 0 then 2 else 4

/-- The checks of GATHER and SCAT, and then what `f` does with the element addresses (R84, R106, R107). -/
def State.elements (s : State) (t : ThreadRef) (th : Thread) (w : W32) (f : List Nat → Eff) : Eff :=
  let base := th.getG (mA w)
  let list := th.getG (mA w + 1)
  if mMode w % 8 = 7 then .fault 1
  else if mA w = 31 ∨ mCnt w * elemSize w > (16 - mLb w) * 64 then .fault 2
  else if base.toNat % elemSize w ≠ 0 ∨ list.toNat % idxWidth w ≠ 0 then .fault 3
  else
    let idx := s.indices t th list.toNat (idxWidth w) (mCnt w)
    match firstBad idx with
    | some (.fault c) => .fault c
    | some _ => .stall
    | none =>
      f (idx.map fun r => match r with
        | .ok v => (base + v * BitVec.ofNat 64 (elemSize w)).toNat
        | _ => 0)

/-- The lines of element addresses, one per line operation: consecutive elements of one line share it (R107). -/
def gatherLines : List Nat → List Nat
  | [] => []
  | [a] => [a / 64]
  | a :: b :: rest => if a / 64 = b / 64 then gatherLines (b :: rest) else a / 64 :: gatherLines (b :: rest)

/-- Buffers from `lb` on that `bytes` bytes take. -/
def bufsFor (bytes : Nat) : Nat := (bytes + 63) / 64

/-- Marks buffers pending. -/
def Thread.pendBufs (th : Thread) (lb n : Nat) : Thread :=
  (List.range n).foldl (fun th i => th.setBuf (lb + i) { th.buf (lb + i) with pending := true, err := 0 }) th

/-- A new job of a thread, its number the next request number. -/
def State.newJob (s : State) (t : ThreadRef) (kind : JobKind) (frame : List W32) (lb cnt otag : Nat)
    (units : List PUnit) (want : List Nat) : Job :=
  { id := s.nextId + 1, cl := t.unit, t := t, kind := kind, frame := frame, lb := lb, cnt := cnt, otag := otag,
    units := units, want := want, sent := 0, got := [], run := s.runOf t, bad := false, tmo := false, err := 0 }

/-- A job begins, and its reads are issued as far as they can be. -/
def State.addJob (s : State) (j : Job) : State :=
  { s with jobs := s.jobs ++ [j], nextId := j.id }.pumpJobs fun x => x.id == j.id

/-- GATHER (R106, R107). -/
def execGather (t : ThreadRef) (s : State) : Host.Outcome State Fault Refusal :=
  .next (s.issue t 0x29 [.stream] anyWord fun s th w =>
    if mMode w ≥ 16 then .fault 1
    else
      s.elements t th w fun addrs =>
        let n := bufsFor (mCnt w * elemSize w)
        match th.touchAll true (mLb w) n with
        | .stall => .stall
        | .fault c => .fault c
        | .ok =>
          let s := s.setThr t (th.pendBufs (mLb w) n)
          .done (s.addJob (s.newJob t (.gather (elemSize w) addrs) [] (mLb w) (mCnt w) 0 [] (gatherLines addrs))))

/-- The line operation `k` of a SCAT (R100, R108). -/
def scatOp (t : ThreadRef) (w : W32) (addrs : List Nat) (s : State) (k : Nat) : Req × State :=
  let th := s.thr t
  let size := elemSize w
  let a := addrs.getD k 0
  let b := th.buf (mLb w + k * size / 64)
  let v := lineField b.data (k * size % 64) size
  let bad := b.poison || (b.hmValid && decide (hallmark b.data ≠ b.hm))
  let s := if k * size % 64 = 0 then (s.bufOut t b (a / 64)).2 else s
  let d := setLineField 0 (a % 64) size v
  ({ Req.mk0 (.thread t) (if size = 64 then .wr else .merge (a % 64) size) (a / 64) with
      data := d, hm := hallmark d, poison := bad, otag := mMode w / 16 % 16 }, s)

/-- SCAT (R108). -/
def execScat (t : ThreadRef) (s : State) : Host.Outcome State Fault Refusal :=
  .next (s.issue t 0x2A [.stream] anyWord fun s th w =>
    if mMode w ≥ 256 then .fault 1
    else
      s.elements t th w fun addrs =>
        match th.touchAll false (mLb w) (bufsFor (mCnt w * elemSize w)) with
        | .stall => .stall
        | .fault c => .fault c
        | .ok => lineLoop (mCnt w) (scatOp t w addrs) s t)

/-! ### HMCHK, TRAP, GRAFTPT -/

/-- The check of one buffer (R123): the code of its fault, or 0. -/
def hmCheck (b : LineBuf) (given : Option Hm) : Nat :=
  if b.poison then 6
  else
    match given with
    | some h => if hallmark b.data = h then 0 else 7
    | none => if b.hmValid = false then 2 else if hallmark b.data = b.hm then 0 else 7

/-- HMCHK (R123). -/
def execHmchk (t : ThreadRef) (s : State) : Host.Outcome State Fault Refusal :=
  .next (s.issue t 0x38 lineKinds anyWord fun s th w =>
    let one := decide (mMode w = 1)
    if mMode w ≥ 2 ∨ (one = false ∧ mA w ≠ 0) then .fault 1
    else if mLb w + mCnt w > bufCount t.kind ∨ (one = true ∧ mCnt w ≠ 1) then .fault 2
    else
      match th.touchAll false (mLb w) (mCnt w) with
      | .stall => .stall
      | .fault c => .fault c
      | .ok =>
        let given := if one then some (BitVec.ofNat 32 (th.getG (mA w)).toNat) else none
        match ((List.range (mCnt w)).map fun i => hmCheck (th.buf (mLb w + i)) given).find? (· != 0) with
        | some c => .fault c
        | none => .done s)

/-- Whether an opcode stands in the table of R85. -/
def opDefined (op : Nat) : Bool :=
  op ≤ 0x0C || op == 0x10 || (0x13 ≤ op && op ≤ 0x1A) || op == 0x1C || op == 0x1D || (0x20 ≤ op && op ≤ 0x26) ||
    (0x28 ≤ op && op ≤ 0x2C) || (0x30 ≤ op && op ≤ 0x3E)

/-- TRAP (R122), and with it what no other row stands for: an opcode that the table does not hold is ILLEGAL_OP (R85), and
execution past the last instruction is PC_RANGE (R91). -/
def State.trapIssue (s : State) (t : ThreadRef) : State :=
  match s.fetch t with
  | none =>
    if s.thrRuns t = false then s
    else if t.kind ≠ .stream ∧ s.en (engUnit t) = false then s.toIdle t
    else s.fault1 t 5
  | some w =>
    if opDefined (opOf w) then
      s.issue t 0x37 allKinds anyWord fun s th w =>
        if fD w ≠ 0 ∨ fA w ≠ 0 then .fault 1
        else .hold ((s.setThr t { th with trap := fImm w }).fault1 t 0xE)
    else s.issue t (opOf w) [] anyWord fun _ _ _ => .stall

def execTrap (t : ThreadRef) (s : State) : Host.Outcome State Fault Refusal := .next (s.trapIssue t)

/-- Whether a channel sequencer's sub-channel has no refresh in progress and owes none (R142). -/
def State.refreshClear (s : State) (sc : Nat) : Bool :=
  [0, 1].all fun r => decide (((s.chan sc).rank r).owed ≤ 0 ∧ ((s.chan sc).rank r).sbDone = 0)

/-- GRAFTPT (R124, R142, R143). -/
def execGraftpt (t : ThreadRef) (s : State) : Host.Outcome State Fault Refusal :=
  .next (s.issue t 0x39 allKinds anyWord fun s th w =>
    if fD w ≠ 0 ∨ fA w ≠ 0 ∨ fB w ≠ 0 ∨ fFn w ≠ 0 then .fault 1
    else if t.kind = .stream ∨ s.bankSt (bankOf t) th.bank ≠ 3 ∨ (t.kind = .seq ∧ s.refreshClear t.unit = false) then
      .done s
    else
      match s.bankIn (bankOf t) 2 with
      | some i => .hold ((s.setThr t { th with bank := i }).goTo t 1)
      | none => .done s)

end Sys2Proof.Machine
end

