-- ==== Sys2Proof/Machine/Context.lean ====
section
/-! DEFINITION. Stream contexts: commands (R161 to R164), dispatch (R165), descriptor chains (R166 to R170), aborts
(R175 to R177), reports (R178, R179) and fast command packets (R180 to R186). The commands that arrive at a port stand in
Ports.lean, those written to a register in RegAccess.lean. -/

namespace Sys2Proof.Machine

/-! ### Fields of a context (R158) -/

/-- GEN of CTX_TAIL and SEEN_GEN. -/
def State.tailGen (s : State) (c : Nat) : Nat := s.fld (ctxBase c + 0x1C) 31 16
def State.seenGen (s : State) (c : Nat) : Nat := s.fld (ctxBase c + 0x3C) 31 16

/-- CTX_CUR, a byte address. -/
def State.curOf (s : State) (c : Nat) : Nat := s.reg2 (ctxBase c + 0x28)

/-- AT_END. -/
def State.setAtEnd (s : State) (c : Nat) (b : Bool) : State := s.setFlag (ctxBase c + 4) 25 b

/-- CMD_IGNORED (R163). -/
def State.cmdIgnored (s : State) (c : Nat) : State := s.setFlag (ctxBase c + 4) 23 true

/-- A run of the context is in progress or its end is not yet reported (R160). -/
def State.runEnded (s : State) (c : Nat) : Bool := (s.ctx c).outcome.isSome

/-! ### Descriptor reads (R167) -/

/-- A descriptor read, made by the thread that dispatch or NEXTD serves, or by the block for a re-arm (R165, R168, R170,
R339). -/
def descReq (src : Src) (c line : Nat) : Req := { Req.mk0 src .rd line with dest := .desc c }

/-- A descriptor read is issued: SEEN_GEN samples GEN in the same step. -/
def State.readDescriptor (s : State) (src : Src) (c : Nat) : State :=
  let s := s.setFld (ctxBase c + 0x3C) 31 16 (s.tailGen c)
  s.enter (s.fld (ctxBase c + 8) 5 0) (descReq src c (s.curOf c / 64))

/-- Whether a descriptor read of a context is on its way. -/
def State.descOut (s : State) (c : Nat) : Bool :=
  let mine := fun (r : Req) => r.dest == Dest.desc c
  s.pool.any mine || s.homeQ.any mine || (s.trks.any fun k => mine k.req) || s.arrivals.any fun a => a.dest == Dest.desc c

/-- The read of a re-arm, once it may enter (R14, R170). -/
def State.rearmRead (s : State) (c : Nat) : State :=
  if (s.ctx c).rearm && !s.descOut c && s.mayEnter (descReq (.ctx c) c (s.curOf c / 64)) then s.readDescriptor (.ctx c) c
  else s

/-- Whether a context may be re-armed (R170). -/
def State.rearmable (s : State) (c : Nat) : Bool :=
  decide (s.ctxState c = 1 ∧ s.fld (ctxBase c + 4) 28 27 = 1 ∧ s.flag (ctxBase c + 4) 25 = true ∧
    s.tailGen c ≠ s.seenGen c) && !s.runEnded c && !(s.ctx c).rearm

/-- A re-arm begins where its condition holds. -/
def State.rearmCheck (s : State) (c : Nat) : State :=
  if s.rearmable c then (s.setCtx c { s.ctx c with rearm := true }).rearmRead c else s

/-- The re-arm of a context, if one is in progress, is given up: a KICK or DISABLE that comes while its descriptor read is
outstanding drops that read (DESIGN CHOICE, log entry 89). -/
def State.rearmDrop (s : State) (c : Nat) : State :=
  if (s.ctx c).rearm then (s.dropDesc c).setCtx c { (s.dropDesc c).ctx c with rearm := false } else s

/-- A new run: the counters of R164, and the context at the end of its cluster's ready order. -/
def State.newRun (s : State) (c cur : Nat) : State :=
  let b := ctxBase c
  let s := s.setReg2 (b + 0x28) cur
  let s := ((((s.setFlag (b + 4) 24 true).setFlag (b + 4) 25 false).setFlag (b + 4) 26 false).setFld (b + 4) 15 8 0)
  let s := (s.setReg (b + 0x30) 0).setReg (b + 0x38) 0
  let s := (s.setFld (b + 0x34) 15 0 0).setFld (b + 0x34) 31 16 (s.fld (b + 0x34) 31 16 + 1)
  let s := s.setCtx c { s.ctx c with outcome := none, cause := 0, late := false, rep := 0, counted := false, rearm := false,
                                          yieldLines := 0 }
  let cl := (s.ctx c).cluster
  (s.setCtxState c 2).setReady cl (s.ready cl ++ [c])

/-! ### Commands (R163) -/

/-- The result of a command: the state, and whether it had no effect. -/
structure CmdRes where
  s : State
  ignored : Bool
deriving DecidableEq, Repr

/-- A command that takes effect, and one that has none. -/
def CmdRes.ok (s : State) : CmdRes := { s := s, ignored := false }
def State.noEffect (s : State) (c : Nat) : CmdRes := { s := s.cmdIgnored c, ignored := true }

/-- ENABLE. -/
def State.cmdEnable (s : State) (c : Nat) : CmdRes :=
  if s.ctxState c = 0 then .ok (s.setCtxState c 1) else s.noEffect c

/-- CUR_VALID and AT_END become 0. -/
def State.forgetCur (s : State) (c : Nat) : State := (s.setFlag (ctxBase c + 4) 24 false).setFlag (ctxBase c + 4) 25 false

/-- DISABLE. -/
def State.cmdDisable (s : State) (c : Nat) : CmdRes :=
  if (s.ctxState c = 1 ∨ s.ctxState c = 5) ∧ s.runEnded c = false then
    .ok (((s.rearmDrop c).setCtxState c 0).forgetCur c)
  else s.noEffect c

/-- Fast contexts of a cluster that are READY or RESIDENT (R164, R180). -/
def State.fastCount (s : State) (cl : Nat) : Nat :=
  (s.ctxs.filter fun e => e.2.fast && e.2.cluster == cl && (s.ctxState e.1 == 2 || s.ctxState e.1 == 4)).length

/-- KICK (R164). -/
def State.cmdKick (s : State) (c : Nat) : CmdRes :=
  if s.ctxState c ≠ 1 ∨ s.runEnded c = true then s.noEffect c
  else
    let s := s.rearmDrop c
    let cfg := ctxBase c + 8
    let cl := s.fld cfg 11 8
    let fast := s.flag cfg 31
    let full := fast && decide (s.fastCount cl ≥ 8)
    let s := s.setCtx c { s.ctx c with cluster := cl, entry := s.fld cfg 15 12, fast := fast }
    if cl ≥ s.variant.clusters then .ok (s.haltCtx c 0x13)
    else if full then .ok (s.haltCtx c 0x14)
    else .ok (s.newRun c (s.reg2 (ctxBase c + 0x10)))

/-- An ABORT finds the run of a thread in progress: the thread becomes IDLE, or waits for a report slot (R176, R187). -/
def State.abortThread (s : State) (t : ThreadRef) (c : Nat) : State :=
  let s := s.leave t 3
  ((s.setThr t { s.thr t with st := .idle }).endRun c 2 0).slotWait t c .wait

/-- ABORT (R175 to R177). A READY context keeps LINES as it stood at its last YIELD. -/
def State.cmdAbort (s : State) (c : Nat) : CmdRes :=
  let st := s.ctxState c
  let x := s.ctx c
  if st = 2 ∧ x.outcome = none then .ok ((s.setFld (ctxBase c + 0x38) 15 0 x.yieldLines).endRun c 2 0)
  else if (st = 3 ∨ st = 4) ∧ x.outcome = none then .ok ((s.servant c).elim (s.endRun c 2 0) fun t => s.abortThread t c)
  else if (st = 3 ∨ st = 4) ∧ x.outcome = some 1 then .ok (s.setCtx c { x with late := true })
  else s.noEffect c

/-- CLEAR. -/
def State.cmdClear (s : State) (c : Nat) : CmdRes :=
  if s.ctxState c = 5 then .ok (((s.setCtxState c 1).setFld (ctxBase c + 4) 15 8 0).forgetCur c) else s.noEffect c

/-- The command of a code (R163); APPEND and SET_HEAD are port commands and have no code here. -/
def State.ctxCmd (s : State) (c code : Nat) : CmdRes :=
  match code with
  | 1 => s.cmdEnable c
  | 2 => s.cmdDisable c
  | 3 => s.cmdKick c
  | 4 => s.cmdAbort c
  | 5 => s.cmdClear c
  | _ => s.noEffect c

/-- APPEND of a port: CTX_TAIL is written in one step, and a context at its end is re-armed (R163, R170). -/
def State.cmdAppend (s : State) (c addr gen : Nat) : CmdRes :=
  let b := ctxBase c
  .ok (((s.setReg2 (b + 0x18) addr).setFld (b + 0x1C) 31 16 gen).rearmCheck c)

/-- SET_HEAD of a port. -/
def State.cmdSetHead (s : State) (c addr : Nat) : CmdRes := .ok (s.setReg2 (ctxBase c + 0x10) addr)

/-! ### Dispatch (R165, R140, R141, R71) -/

/-- The context that a cluster dispatches next: fast contexts first, then in the order they became READY. -/
def State.nextReady (s : State) (cl : Nat) : Option Nat :=
  ((s.ready cl).find? fun c => (s.ctx c).fast) <|> (s.ready cl).head?

/-- The bank of a version, ACTIVE or OUTGOING; version 0 is not yet bound and takes the ACTIVE bank (R140). -/
def State.boundBank (s : State) (b : BankRef) (ver : Nat) : Option Nat :=
  if ver = 0 then s.bankIn b 2
  else [0, 1].find? fun i => s.bankVer b i == ver && (s.bankSt b i == 2 || s.bankSt b i == 3)

/-- A context starts on a thread: the registers and buffers of R71; its descriptor is read. -/
def State.startCtx (s : State) (t : ThreadRef) (c bank : Nat) : State :=
  let x := s.ctx c
  let th := s.thr t
  let s := s.setThr t { Thread.init with
    st := .wait, wait := .start, bank := bank, pc := x.entry, g := tset 0 [] 1 (BitVec.ofNat 64 c), ctx := some c,
    epoch := th.epoch + 1 }
  (s.setCtxState c (if x.fast then 4 else 3)).readDescriptor (.thread t) c

/-- DISPATCH. -/
def State.dispatch (s : State) (cl : Nat) (t : ThreadRef) : State :=
  if t.kind ≠ .stream ∨ t.unit ≠ cl ∨ threadPresent s.variant t = false ∨ s.engUp t = false ∨
      s.clusterReady cl = false ∨ s.clustersStopped = true ∨ s.thrSt t ≠ .idle then s
  else
    match (s.nextReady cl).filter fun c => s.opRoom t (descReq (.thread t) c (s.curOf c / 64)) with
    | none => s
    | some c =>
      let ver := s.fld (ctxBase c + 0x34) 15 0
      match s.boundBank (.cluster cl) ver with
      | none => s
      | some bank =>
        let ver := s.bankVer (.cluster cl) bank
        let s := s.setFld (ctxBase c + 0x34) 15 0 ver
        let s := s.setReady cl ((s.ready cl).filter (· != c))
        if (s.ctx c).entry ≥ clamp 1 16 (Config.entryCount cl ver) then s.haltCtx c 0x13
        else s.startCtx t c bank

def execDispatch (cl : Nat) (t : ThreadRef) (s : State) : Host.Outcome State Fault Refusal := .next (s.dispatch cl t)

/-! ### NEXTD (R120, R168, R184) -/

/-- END, NEXT and the reserved bits of a link word (R166). -/
def linkEnd (l : W64) : Bool := bitOf l 0
def linkNext (l : W64) : Nat := bitsOf l 45 6 * 64
def linkBad (l : W64) : Bool := bitsOf l 63 46 != 0 || bitsOf l 5 1 != 0

/-- What a pass of the loop of R168 decides. -/
inductive Link where
  | hopLimit
  | next
  | stop
  | reread
deriving DecidableEq, Repr

/-- One pass of the loop. -/
def State.linkStep (s : State) (c : Nat) (link : W64) : Link :=
  let limit := if s.fld (ctxBase c + 0xC) 31 16 = 0 then 65535 else s.fld (ctxBase c + 0xC) 31 16
  if linkEnd link = false then
    if s.fld (ctxBase c + 0x38) 31 16 = limit then .hopLimit else .next
  else if s.tailGen c = s.seenGen c then .stop else .reread

/-- The context moves to the next descriptor and reads it (R168). -/
def State.hop (s : State) (t : ThreadRef) (c : Nat) (link : W64) : State :=
  let b := ctxBase c
  let s := s.setFld (b + 0x38) 31 16 (s.fld (b + 0x38) 31 16 + 1)
  let s := s.setReg (b + 0x30) (s.reg (b + 0x30) + 1)
  ((s.setFld (b + 0x38) 15 0 0).setReg2 (b + 0x28) (linkNext link)).readDescriptor (.thread t) c

/-- The thread waits for the descriptor it reads; `again` marks a read of the same descriptor. -/
def State.awaitDesc (s : State) (t : ThreadRef) (d : Nat) (again : Bool) : State :=
  s.setThr t { s.thr t with st := .wait, wait := .descriptor d, prog := b2n again }

/-- NEXTD's result reaches its register. -/
def State.nextdResult (s : State) (t : ThreadRef) (d : Nat) (v : W64) : State := s.setThr t ((s.thr t).setG d v)

/-- A queued packet reaches the descriptor buffer (R184). -/
def State.givePacket (s : State) (t : ThreadRef) (c d : Nat) (p : Packet) (rest : List Packet) : State :=
  let s := s.setCtx c { s.ctx c with queue := rest }
  let th := s.thr t
  (s.setThr t { (th.setG d 0) with desc := BitVec.ofNat 512 p.data.toNat, packet := some p }).wake t

/-- NEXTD in a fast context: the packet in progress ends, and the next one is taken or waited for (R184, R185). -/
def State.nextPacket (s : State) (t : ThreadRef) (c d : Nat) : State :=
  let th := s.thr t
  let s := match th.packet with
    | some p => (s.endPacket c p 0).setThr t { th with packet := none }
    | none => s
  match (s.ctx c).queue with
  | p :: rest => s.givePacket t c d p rest
  | [] => s.sleep t (.packet d)

/-- NEXTD. -/
def execNextd (t : ThreadRef) (s : State) : Host.Outcome State Fault Refusal :=
  .next (s.issue t 0x34 [.stream] anyWord fun s th w =>
    if fA w ≠ 0 ∨ fB w ≠ 0 ∨ fFn w ≠ 0 then .fault 1
    else
      match th.ctx with
      | none => .stall
      | some c =>
        if (s.ctx c).fast then .hold (s.nextPacket t c (fD w))
        else
          match s.linkStep c th.link with
          | .hopLimit => .hold (s.threadFault t 0xF 0x10)
          | .next =>
            if s.opRoom t (descReq (.thread t) c (linkNext th.link / 64)) then
              .hold ((s.hop t c th.link).awaitDesc t (fD w) false)
            else .stall
          | .stop => .done ((s.setAtEnd c true).nextdResult t (fD w) 1)
          | .reread =>
            if s.opRoom t (descReq (.thread t) c (s.curOf c / 64)) then
              .hold ((s.readDescriptor (.thread t) c).awaitDesc t (fD w) true)
            else .stall)

/-! ### DESCRIPTOR_READ_RESPONSE (R166, R167, R170) -/

/-- The cause a descriptor read ends with, if it is not good (R166, R167, R501). -/
def descCause (a : Arrival) (bad : Bool) : Nat :=
  if a.status = 2 then 0x08
  else if a.status = 3 then 0x09
  else if a.tmo then 0x11
  else if a.poison || bad then 0x15
  else if linkBad (lineWord a.data 0) then 0x12
  else 0

/-- The context of a thread halts by a descriptor read of NEXTD: the codes of R131 where R131 has one. -/
def State.nextdHalt (s : State) (t : ThreadRef) (cause : Nat) : State :=
  s.threadFault t (if cause < 0x10 then cause else 0xF) cause

/-- The descriptor buffer and the link word take the line read. -/
def State.fillDesc (s : State) (t : ThreadRef) (d : Line) : State :=
  s.setThr t { s.thr t with desc := d, link := lineWord d 0 }

/-- A re-read of the same descriptor goes round the loop of R168 again. -/
def State.reread (s : State) (t : ThreadRef) (c d : Nat) (data : Line) : State :=
  let s := s.fillDesc t data
  match s.linkStep c (lineWord data 0) with
  | .hopLimit => s.threadFault t 0xF 0x10
  | .next => (s.hop t c (lineWord data 0)).awaitDesc t d false
  | .stop => ((s.setAtEnd c true).nextdResult t d 1).wake t
  | .reread => (s.readDescriptor (.thread t) c).awaitDesc t d true

/-- A descriptor comes back to the thread that serves the context. -/
def State.descForThread (s : State) (t : ThreadRef) (c : Nat) (a : Arrival) (bad : Bool) : State :=
  let cause := descCause a bad
  match (s.thr t).wait with
  | .start =>
    if cause ≠ 0 then
      let s := s.leave t 3
      (s.setThr t { s.thr t with st := .idle }).haltCtx c cause
    else
      let s := s.fillDesc t a.data
      s.setThr t { s.thr t with st := .run, wait := .none }
  | .descriptor d =>
    if cause ≠ 0 then s.nextdHalt t cause
    else if (s.thr t).prog = 0 then (((s.fillDesc t a.data).setAtEnd c false).nextdResult t d 0).wake t
    else s.reread t c d a.data
  | _ => s

/-- The descriptor of a re-arm comes back (R170). -/
def State.descForRearm (s : State) (c : Nat) (a : Arrival) (bad : Bool) : State :=
  let cause := descCause a bad
  let s := s.setCtx c { s.ctx c with rearm := false }
  if cause ≠ 0 then s.haltCtx c cause
  else if linkEnd (lineWord a.data 0) then s.rearmCheck c
  else s.newRun c (linkNext (lineWord a.data 0))

/-- A descriptor that came back is taken: one that NEXTD reads again may have to read on, and then waits until such a read may
enter (R14, R168). -/
def State.descTakes (s : State) (t : ThreadRef) (c : Nat) (a : Arrival) : Bool :=
  match (s.thr t).wait with
  | .descriptor _ =>
    decide ((s.thr t).prog = 0) ||
      (s.opRoom t (descReq (.thread t) c (s.curOf c / 64)) &&
        s.opRoom t (descReq (.thread t) c (linkNext (lineWord a.data 0) / 64)))
  | _ => true

/-- DESCRIPTOR_READ_RESPONSE. Where no read is on its way, a re-arm whose read could not enter is read now. -/
def State.descResponse (s : State) (c : Nat) : State :=
  if s.running = false then s
  else
    match s.arrivals.find? fun a => a.dest == Dest.desc c with
    | none => s.rearmRead c
    | some a =>
      let s' := { s with arrivals := s.arrivals.erase a }
      if (s.servant c).any (fun t => !s'.descTakes t c a) then s
      else
        let bad := decide (a.status = 0 ∧ hallmark a.data ≠ a.hm)
        let s := if bad then s'.raise (.cluster (s'.ctx c).cluster) 3 1 (64 * a.line) else s'
        let s := if a.status = 0 ∧ a.poison = false ∧ bad = false then s.readDone a.stamp else s
        if (s.ctx c).rearm then s.descForRearm c a bad
        else
          match s.servant c with
          | some t => s.descForThread t c a bad
          | none => s

def execDescriptorReadResponse (ctx : Nat) (s : State) : Host.Outcome State Fault Refusal := .next (s.descResponse ctx)

/-! ### YIELD and DONE (R121, R177, R186, R187) -/

/-- All fields of an instruction apart from op are 0. -/
def bare (w : W32) : Bool := bitsOf w 25 0 == 0

/-- A YIELD retires: the context is READY, with no hops, and the thread is IDLE; what LINES stands at is kept (R175). -/
def State.yieldNow (s : State) (t : ThreadRef) (c : Nat) : State :=
  let s := s.toIdle t
  let s := s.setFld (ctxBase c + 0x38) 31 16 0
  let s := s.setCtx c { s.ctx c with yieldLines := s.fld (ctxBase c + 0x38) 15 0 }
  let cl := (s.ctx c).cluster
  (s.setCtxState c 2).setReady cl (s.ready cl ++ [c])

/-- A thread may YIELD once its reads are back and its pipe jobs have ended (log entry on YIELD). -/
def State.yieldReady (s : State) (t : ThreadRef) : Bool := s.readsDone t && !(s.jobs.any fun j => j.t == t && !j.kind.afterPipe)

/-- YIELD. -/
def execYieldCtx (t : ThreadRef) (s : State) : Host.Outcome State Fault Refusal :=
  .next (s.issue t 0x35 [.stream] anyWord fun s th w =>
    if bare w = false then .fault 1
    else
      match th.ctx with
      | none => .stall
      | some c =>
        if (s.ctx c).fast then .hold (s.threadFault t 0xF 0x17)
        else if s.yieldReady t then .hold (s.yieldNow t c)
        else .hold (s.sleep t .yieldFence))

/-- YIELD_RETIRE. -/
def State.yieldRetire (s : State) (t : ThreadRef) : State :=
  if s.thrWaits t = false then s
  else
    let s := s.pumpJobs fun j => j.t == t
    match (s.thr t).wait, (s.thr t).ctx with
    | .yieldFence, some c => if s.yieldReady t then s.yieldNow t c else s
    | _, _ => s

def execYieldRetire (t : ThreadRef) (s : State) : Host.Outcome State Fault Refusal := .next (s.yieldRetire t)

/-- A DONE whose FENCE.P wait is over retires (R177); its thread is IDLE, or waits for a report slot (R187). -/
def State.doneNow (s : State) (t : ThreadRef) (c : Nat) : State := ((s.toIdle t).endRun c 1 0).slotWait t c .wait

/-- DONE. -/
def execDoneRun (t : ThreadRef) (s : State) : Host.Outcome State Fault Refusal :=
  .next (s.issue t 0x36 [.stream] anyWord fun s th w =>
    if bare w = false then .fault 1
    else
      match th.ctx with
      | none => .stall
      | some c => if s.fenceHolds t 1 then .hold (s.doneNow t c) else .hold (s.sleep t .doneFence))

/-- DONE_RETIRE. -/
def State.doneRetire (s : State) (t : ThreadRef) : State :=
  if s.thrWaits t = false then s
  else
    let s := s.pumpJobs fun j => j.t == t
    match (s.thr t).wait, (s.thr t).ctx with
    | .doneFence, some c => if s.fenceHolds t 1 then s.doneNow t c else s
    | _, _ => s

def execDoneRetire (t : ThreadRef) (s : State) : Host.Outcome State Fault Refusal := .next (s.doneRetire t)

/-! ### Reports (R178, R179) -/

/-- The run of a context, as fences count it. -/
def State.ctxRun (s : State) (c : Nat) : Option (Nat × Nat) := some (c, s.fld (ctxBase c + 0x34) 31 16)

/-- The writes of a context's run meet FENCE.P. -/
def State.runFenced (s : State) (c : Nat) : Bool :=
  s.admitted (ofRun (s.ctxRun c)) && !(s.jobs.any fun j => j.run == s.ctxRun c && j.kind.writes)

/-- The completion record (R179). -/
def State.recordOf (s : State) (c : Nat) : Nat :=
  let x := s.ctx c
  let b := ctxBase c
  x.outcome.getD 0 + 4 * b2n x.late + 2 ^ 8 * x.cause + 2 ^ 16 * s.fld (b + 0x34) 31 16 + 2 ^ 32 * (s.reg (b + 0x30)).toNat +
    2 ^ 64 * s.fld (b + 0x38) 15 0 + 2 ^ 80 * s.fld (b + 0x34) 15 0 + 2 ^ 96 * (s.tbase.toNat % 2 ^ 32)

/-- The write of the record to CTX_REC (R178 step 2, R100). -/
def State.recordReq (s : State) (c : Nat) : Req :=
  let a := s.reg2 (ctxBase c + 0x20)
  let d := BitVec.ofNat 512 (s.recordOf c * 2 ^ (8 * (a % 64)))
  { Req.mk0 (.ctx c) (.merge (a % 64) 16) (a / 64) with data := d, hm := hallmark d }

/-- The record is written with the context's charm. -/
def State.writeRecord (s : State) (c : Nat) : State := s.enter (s.fld (ctxBase c + 8) 5 0) (s.recordReq c)

/-- Step 5: the pulse is queued, or waits for room. -/
def State.reportPulse (s : State) (c line : Nat) : State :=
  if s.evtRoom line then s.evtQueue line
  else s.setCtx c { s.ctx c with pulses := (s.ctx c).pulses ++ [line] }

/-- Steps 3 to 5, and the re-arm that may follow. -/
def State.reportEnd (s : State) (c : Nat) : State :=
  let x := s.ctx c
  let o := x.outcome.getD 0
  let b := ctxBase c
  let s := s.setCtxState c (if o = 3 then 5 else 1)
  let s := ((s.setFld (b + 4) 28 27 o).setFlag (b + 4) 26 x.late).setFld (b + 4) 15 8 x.cause
  let s := s.setCtx c { x with outcome := none, cause := 0, late := false, rep := 0, counted := false }
  let s := if s.flag (b + 8) 29 then s.modComplete (s.fld (b + 8) 21 16) else s
  let s := if s.flag (b + 8) 28 then s.reportPulse c (s.fld (b + 8) 27 22) else s
  s.rearmCheck c

/-- A context's run has its report slot: a thread that waited for it is IDLE, or FAULTED with nothing to wait for (R187). -/
def State.slotTaken (s : State) (c : Nat) : State :=
  { s with threads := tmap Thread.init (fun (th : Thread) =>
      if th.wait = .runSlot c then { th with wait := .none, st := if th.st = .wait then .idle else th.st } else th) s.threads }

/-- RUN_REPORT: the run's writes meet FENCE.P; the record is written, or without one the report is made. -/
def State.runReport (s : State) (c : Nat) : State :=
  let x := s.ctx c
  if s.running = false ∨ x.outcome = none ∨ x.rep ≠ 0 ∨ s.runFenced c = false ∨
      (x.counted = false ∧ s.reports x.cluster ≥ 32) ∨
      (s.flag (ctxBase c + 8) 30 = true ∧ s.mayEnter (s.recordReq c) = false) then s
  else
    let s := (s.setCtx c { x with counted := true, rep := 1 }).slotTaken c
    if s.flag (ctxBase c + 8) 30 then s.writeRecord c else s.reportEnd c

def execRunReport (ctx : Nat) (s : State) : Host.Outcome State Fault Refusal := .next (s.runReport ctx)

/-- The record of a context meets FENCE.P. -/
def State.recordAdmitted (s : State) (c : Nat) : Bool := s.admitted fun r => r.src == Src.ctx c

/-- COMPLETION_RECORD; a pulse that waited for room at step 5 is queued once there is room. -/
def State.completionRecord (s : State) (c : Nat) : State :=
  let x := s.ctx c
  match x.pulses with
  | l :: rest => if s.evtRoom l then (s.setCtx c { x with pulses := rest }).evtQueue l else s
  | [] => if s.running = true ∧ x.outcome.isSome = true ∧ x.rep = 1 ∧ s.recordAdmitted c = true then s.reportEnd c else s

def execCompletionRecord (ctx : Nat) (s : State) : Host.Outcome State Fault Refusal := .next (s.completionRecord ctx)

/-! ### Packets (R181 to R185) -/

/-- A port may command a context (R161). -/
def State.mayCommand (s : State) (n c : Nat) : Bool :=
  s.flag (ctxBase c + 0xC) 4 && decide (s.fld (ctxBase c + 0xC) 3 0 = n)

/-- FAST as it acts: during a run, as it was read at its KICK (R159). -/
def State.fastNow (s : State) (c : Nat) : Bool :=
  if 2 ≤ s.ctxState c ∧ s.ctxState c ≤ 4 then (s.ctx c).fast else s.flag (ctxBase c + 8) 31

/-- The status a packet is refused with (R182); `clean` says whether the request and the beat have no non-zero bit that
they do not use, and the port takes packets at all (R460); `may`, whether its port may command the context. -/
def State.packetRefusal (s : State) (d : BitVec 256) (clean may : Bool) : Option Nat :=
  let c := bitsOf d 11 0
  if clean = false ∨ bitsOf d 63 32 ≠ 0 ∨ bitsOf d 15 12 ≠ 0 ∨ c ≥ s.variant.contexts ∨ s.fastNow c = false ∨ may = false then
    some 2
  else if (s.ctxState c ≠ 2 ∧ s.ctxState c ≠ 4) ∨ s.runEnded c = true then some 3
  else none

/-- An accepted packet is queued, and given at once to a thread that waits for it (R183, R184). -/
def State.queuePacket (s : State) (n : Nat) (d : BitVec 256) : State :=
  let c := bitsOf d 11 0
  let p : Packet := { sp := n, tag := bitsOf d 31 24, data := d, dead := false }
  let s := s.setCtx c { s.ctx c with queue := (s.ctx c).queue ++ [p] }
  match s.servant c with
  | none => s
  | some t =>
    match (s.thr t).wait, (s.ctx c).queue with
    | .packet dst, q :: rest => if (s.thr t).st = .wait then s.givePacket t c dst q rest else s
    | _, _ => s

/-- A packet still has data responses to come: a block fetch for it has not delivered (R185). -/
def State.owesData (s : State) (p : Packet) : Bool :=
  s.jobs.any fun j => match j.kind with
    | .blk2d _ _ _ _ _ _ (some (sp, tag)) => sp == p.sp && tag == p.tag
    | _ => false

/-- PACKET_END (R185): the first packet of a context that has ended and owes no data gets its end response. -/
def State.packetEnd (s : State) (c : Nat) : State :=
  let x := s.ctx c
  match x.ending.find? fun e => !s.owesData e.1 with
  | none => s
  | some e => (s.setCtx c { x with ending := x.ending.erase e }).packetRsp e.1 e.2

def execPacketEnd (ctx : Nat) (s : State) : Host.Outcome State Fault Refusal := .next (s.packetEnd ctx)

end Sys2Proof.Machine
end

