-- ==== Sys2Proof/Machine/Graft.lean ====
section
/-! DEFINITION. Program images: loading (R136 to R138), grafts (R139 to R145), the start of sequencer and service threads
(R72, R547), and the end of a thread fault (R133). The register writes that begin these stand in RegAccess.lean. -/

namespace Sys2Proof.Machine

/-! ### Sequencer and service threads -/

/-- A sequencer or service thread is enabled: EN of its unit and its bit of THREAD_EN (R43, R154). -/
def State.thrEnabled (s : State) (t : ThreadRef) : Bool := s.en (engUnit t) && s.flag (bankBase (bankOf t) + 4) t.idx

/-- A thread that is IDLE and enabled goes to RUN while its engine has an active bank: general registers zero but for g1
(R70, R72, R547). Its line buffers keep what they held: R72 names the registers alone (DESIGN CHOICE, log entry 82). -/
def State.startThread (s : State) (t : ThreadRef) (entry : Nat) (g1 : W64) : State :=
  match s.bankIn (bankOf t) 2 with
  | some i =>
    if s.thrEnabled t && decide (s.thrSt t = .idle) then
      s.setThr t { s.thr t with
        st := .run, wait := .none, bank := i, pc := entry, g := tset 0 [] 1 g1, prog := 0, epoch := (s.thr t).epoch + 1 }
    else s
  | none => s

/-- The two threads of a sequencer or service engine. -/
def ownerThreads : BankRef → List ThreadRef
  | .cluster _ => []
  | .seq n => [⟨.seq, n, 0⟩, ⟨.seq, n, 1⟩]
  | .svc n => [⟨.svc, n, 0⟩, ⟨.svc, n, 1⟩]

/-- The threads of an engine start at entry 0 where they can (R72). -/
def State.startThreads (s : State) (b : BankRef) : State := (ownerThreads b).foldl (fun s t => s.startThread t 0 0) s

/-! ### Thread faults (R133) -/

/-- A FAULTED thread leaves FAULTED for IDLE, and its codes become 0. -/
def State.clearFault (s : State) (t : ThreadRef) : State :=
  if s.thrSt t = .faulted then s.setThr t { s.thr t with st := .idle, wait := .none, fault := 0, trap := 0 } else s

/-- THR_CTRL.CLR_FAULT: the thread that THR_SEL names. -/
def State.clearStream (s : State) (cl : Nat) : State :=
  let i := s.fld ((Win.cluster cl).base + 0x20) 5 0
  if i < 48 then s.clearFault ⟨.stream, cl, i⟩ else s

/-- ENG_FCLR: the threads whose bits are 1; a thread that became IDLE starts again as soon as it can. -/
def State.clearEngine (s : State) (b : BankRef) (bits : Nat) : State :=
  let s := (ownerThreads b).foldl (fun s t => if bits / 2 ^ t.idx % 2 = 1 then s.clearFault t else s) s
  s.startThreads b

/-! ### The instruction stores (R136, R154) -/

/-- A write of an instruction store word: none where the bank is ACTIVE or OUTGOING; a LOADED bank becomes EMPTY. -/
def State.storeWord (s : State) (b : BankRef) (bank idx : Nat) (w : W32) : Option State :=
  match s.bankSt b bank with
  | 0 => some (s.setInstr b bank idx w)
  | 1 => some ((s.setBankSt b bank 0).setInstr b bank idx w)
  | _ => none

/-- PROG_ADDR: the bank and the index that PROG_DATA reaches. -/
def State.progBank (s : State) (b : BankRef) : Nat := s.fld (bankBase b + 0x20) 11 11
def State.progIdx (s : State) (b : BankRef) : Nat := s.fld (bankBase b + 0x20) 10 0

/-- INDEX rises by 1 after every PROG_DATA access, wrapping at 2,048. -/
def State.progNext (s : State) (b : BankRef) : State := s.setFld (bankBase b + 0x20) 10 0 (s.progIdx b + 1)

/-- The instruction at PROG_ADDR. -/
def State.progWord (s : State) (b : BankRef) : W32 := s.instrAt b (s.progBank b) (s.progIdx b)

/-! ### Loading (R137, R138) -/

/-- The banks a load can have as its target. -/
def State.loadTargets (s : State) (b : BankRef) : List Nat := [0, 1].filter fun i => decide (s.bankSt b i ≤ 1)

/-- ARM = 1: none while GRAFTING. ARM reads 1 until the check ends. -/
def State.loadArm (s : State) (b : BankRef) : Option State :=
  if s.graftState b = 2 then none else some (s.setFlag (bankBase b + 0x14) 31 true)

/-- LEN and VERSION of LOAD_CTRL. -/
def State.loadLen (s : State) (b : BankRef) : Nat := s.fld (bankBase b + 0x14) 29 16
def State.loadVer (s : State) (b : BankRef) : Nat := s.fld (bankBase b + 0x14) 15 0

/-- The bytes of the first `n` instructions of a bank, in order (R134). -/
def State.codeBytes (s : State) (b : BankRef) (bank n : Nat) : List Nat :=
  (List.range n).flatMap fun i => leBytes 4 (s.instrAt b bank i).toNat

/-- The checks of R138 on the bank that is the target. -/
def State.loadOk (s : State) (b : BankRef) (bank : Nat) : Bool :=
  decide (1 ≤ s.loadLen b ∧ s.loadLen b ≤ bankSize b ∧ s.loadVer b ≠ 0) &&
    (s.bankIn b 2).all (fun i => s.bankVer b i != s.loadVer b) &&
    decide (crc32c (s.codeBytes b bank (s.loadLen b)) = (s.reg (bankBase b + 0x18)).toNat)

/-- The check ends: the target becomes LOADED with its LEN and VERSION, or LOAD_BAD is set and it is EMPTY. Which of two
possible targets a load has the spec does not say. LEN, VERSION, LOAD_CRC and the code are judged as they stand when the
check ends, also where they were written after ARM (DESIGN CHOICE, log entry 83). -/
def State.loadEnd (s : State) (b : BankRef) : State :=
  let ts := s.loadTargets b
  let i := ts.getD (Config.choice s.free % ts.length) 0
  let s := s.draw.setFlag (bankBase b + 0x14) 31 false
  if ts = [] then s.setFlag (bankBase b + 0x14) 30 true
  else if s.loadOk b i then
    s.setReg (bankBase b + 0xC + 4 * i) (BitVec.ofNat 32 (2 ^ 30 + s.loadLen b * 2 ^ 16 + s.loadVer b))
  else (s.setBankSt b i 0).setFlag (bankBase b + 0x14) 30 true

/-- LOAD_CHECK_END (R138). -/
def State.loadCheckEnd (s : State) (b : BankRef) : State :=
  if s.running && bankPresent s.variant b && s.flag (bankBase b + 0x14) 31 then s.loadEnd b else s

def execLoadCheckEnd (b : BankRef) (s : State) : Host.Outcome State Fault Refusal := .next (s.loadCheckEnd b)

/-! ### Grafts -/

/-- GRAFT_STATE and ACTIVE_BANK. -/
def State.setGraft (s : State) (b : BankRef) (st bank : Nat) : State :=
  (s.setFld (bankBase b + 8) 5 4 st).setFld (bankBase b + 8) 1 1 bank

/-- GO (R139): none while no bank is LOADED; of two LOADED banks the lower becomes ACTIVE (DESIGN CHOICE, log entry 85). -/
def State.graftGo (s : State) (b : BankRef) : Option State :=
  match s.bankIn b 1 with
  | none => none
  | some i =>
    let s' := match s.bankIn b 2 with
      | some old => ((s.setBankSt b old 3).setBankSt b i 2).setGraft b 2 i
      | none => (s.setBankSt b i 2).setGraft b 1 i
    some (s'.startThreads b)

/-- ABANDON (R145): a LOADED bank becomes EMPTY, of two the lower (DESIGN CHOICE, log entry 85). -/
def State.abandon (s : State) (b : BankRef) : State :=
  match s.bankIn b 1 with
  | some i => s.setBankSt b i 0
  | none => s

/-- A run of a context that is bound to a version and has not ended (R140, R144). -/
def State.boundRun (s : State) (cl ver c : Nat) : Bool :=
  decide (2 ≤ s.ctxState c ∧ s.ctxState c ≤ 4 ∧ (s.ctx c).cluster = cl ∧ s.fld (ctxBase c + 0x34) 15 0 = ver) &&
    !s.runEnded c

/-- The contexts whose CTX_STATUS the register table lists, each once: the others are OFF. -/
def State.listedCtxs (s : State) : List Nat :=
  (s.regs.filter fun e => decide (0x100000 ≤ e.1 ∧ e.1 < 0x140000 ∧ e.1 % 0x40 = 4)).map fun e => (e.1 - 0x100000) / 0x40

/-- OLD_REFS (R144). -/
def State.oldRefs (s : State) (b : BankRef) : Nat :=
  match b, s.bankIn b 3 with
  | .cluster cl, some i => (s.listedCtxs.filter fun c => s.boundRun cl (s.bankVer b i) c).length
  | _, _ => 0

/-- The threads of a bank owner. -/
def bankThreads : BankRef → List ThreadRef
  | .cluster n => clusterThreads n
  | b => ownerThreads b

/-- OLD_THREADS (R144). -/
def State.oldThreads (s : State) (b : BankRef) : Nat :=
  match s.bankIn b 3 with
  | some i =>
    ((bankThreads b).filter fun t =>
      decide (s.thrSt t = .run ∨ s.thrSt t = .wait) && decide ((s.thr t).bank = i)).length
  | none => 0

/-- GRAFT_DONE (R144): both counts are 0. -/
def State.graftDone (s : State) (b : BankRef) : State :=
  if s.running && bankPresent s.variant b && decide (s.graftState b = 2 ∧ s.oldRefs b = 0 ∧ s.oldThreads b = 0) then
    match s.bankIn b 3 with
    | some i => ((s.setBankSt b i 0).setFld (bankBase b + 8) 5 4 1).setFlag (bankBase b + 8) 0 true
    | none => s
  else s

def execGraftDone (b : BankRef) (s : State) : Host.Outcome State Fault Refusal := .next (s.graftDone b)

end Sys2Proof.Machine
end

