-- ==== Sys2Proof/Machine/Ring.lean ====
section
/-! DEFINITION. Ring stops and the commands of the home: flits that arrive (R298 to R305, R473), snoops that come back
(R317 to R321), grants acknowledged, stashes answered, agent resets, Clasp messages, and the home's own events. -/

namespace Sys2Proof.Machine

/-! ### Flits that reach a stop -/

/-- A ring stop. -/
def State.rs (s : State) (n : Nat) : Stop := tget Stop.init s.stops n

/-- Stores a ring stop. -/
def State.setRs (s : State) (n : Nat) (r : Stop) : State := { s with stops := tset Stop.init s.stops n r }

/-- ATTACH_READY (R471). -/
def State.attachHigh (s : State) (n : Nat) : Bool := s.stopReady n && decide (s.pstate ≤ 2)

/-- The stop is attached: its slice has seen ATTACH_READY, which is still high (R472, R474). -/
def State.attached (s : State) (n : Nat) : Bool := (s.rs n).attached && s.attachHigh n

/-- The stop identity (R473). -/
def State.stopIdent (s : State) (n : Nat) : Nat := (s.rs n).ident.getD (64 + n)

/-- The types an agent may send to the home (R304, R305). -/
def agentTypes : List Nat := [0x01, 0x02, 0x03, 0x04, 0x08, 0x09, 0x0A, 0x0B, 0x0C, 0x10, 0x11, 0x12, 0x13, 0x31, 0x32]

/-- PV of a type (R305). -/
def typePv (type : Nat) : Bool := type == 0x08 || type == 0x0A || type == 0x0B || type == 0x0C || type == 0x31

/-- The bits of OP that a type uses are the only ones set (R303, R305, R330, R331, R358). -/
def opOk (type op : Nat) : Bool :=
  if type = 0x0B then op / 64 == 0
  else if type = 0x0C then op % 8 == 0
  else if type = 0x10 ∨ type = 0x11 then true
  else if type = 0x32 then op / 2 == 0
  else op == 0

/-- A malformed flit (R304). -/
def Hdr.malformed (h : Hdr) : Bool :=
  !agentTypes.contains h.type || decide (h.src ≥ 64) || h.pv != typePv h.type ||
    (!h.pv && (h.poison || decide (h.hm ≠ 0))) || !opOk h.type h.op || h.bcast || decide (h.err ≠ 0) ||
    (decide (h.type ≠ 0x0C) && decide (h.offset ≠ 0)) ||
    (if h.type = 0x10 ∨ h.type = 0x11 then decide (h.state ≥ 2) || decide (h.ladr ≠ 0) else decide (h.state ≠ 0)) ||
    (decide (h.type = 0x12) && decide (h.ladr ≠ 0))

/-- A bypassed stop answers a request flit with CMP and ERR = 2 and pulses RS_WAKE; it discards the others (R473). -/
def State.bypass (s : State) (r : RingIn) (h : Hdr) : State :=
  if agentTypes.contains h.type = true ∧ h.type ≤ 0x12 then
    let a := { Hdr.plain 0x41 (s.stopIdent r.stop) h.src h.txn h.ladr with err := 2 }
    ((s.ringSend r.stop r.cw a 0).emit (.rsWake r.stop)).wakeEvent 1 r.stop
  else s

/-- A flit that enters a stop (R299, R304, R472, R473): `f` is what a well-formed flit of type `code` does. -/
def State.flitIn (s : State) (r : RingIn) (code : Nat) (f : Hdr → State → State) : State :=
  let h := Hdr.ofWord r.flit.hdr
  if (s.rs r.stop).inReset then s
  else if s.attached r.stop = false then
    (if h.dst = s.stopIdent r.stop then s.bypass r h else s.emit (.flit r.stop r.cw r.flit))
  else if h.dst ≠ s.nodeId r.stop then s.emit (.flit r.stop r.cw r.flit)
  else if h.malformed then (s.wakeEvent 1 r.stop).raise (.stop r.stop) 0 1 (64 * h.ladr)
  else if h.type ≠ code then s
  else f h (s.wakeEvent 1 r.stop)

/-- The payload a stop receives: whether it is marked poisoned, with the check of R304. -/
def State.payloadCheck (s : State) (r : RingIn) (h : Hdr) : Bool × State :=
  let bad := s.flag (0x6400 + 0x200 * r.stop) 8 && decide ((hallmark r.flit.payload).toNat ≠ h.hm)
  (h.poison || bad, if bad then s.raise (.stop r.stop) 1 1 (64 * h.ladr) else s)

/-- The charm a stop holds for an agent (R302). -/
def State.ringCharm (s : State) (stop x : Nat) : Nat := s.fld (0x6440 + 0x200 * stop + 4 * (x / 4 % 16)) (8 * (x % 4) + 5) (8 * (x % 4))

/-- The request a flit makes. -/
def State.ringReq (s : State) (r : RingIn) (h : Hdr) (kind : ReqKind) (poison : Bool) : Req :=
  { Req.mk0 (.agent r.stop r.cw h.src) kind h.ladr with
    data := r.flit.payload, hm := hallmark r.flit.payload, poison := poison, dest := .ring h.txn,
    place := .policy 5 }

/-- A request that passes the port arbiter enters (R281, R302); while its source's credits are stopped it waits in the attach
slice (R14, R472). -/
def State.ringEnter (s : State) (r : RingIn) (kind : Hdr → ReqKind) (h : Hdr) : State :=
  let c := if typePv h.type then s.payloadCheck r h else (false, s)
  let e := c.2.admitReq (c.2.ringCharm r.stop h.src) (c.2.ringReq r h (kind h) c.1)
  let p := e.2.rs r.stop
  if p.slice.isEmpty && e.2.mayEnter e.1 then e.2.poolAdd e.1 else e.2.setRs r.stop { p with slice := p.slice ++ [e.1] }

/-- A write-back or eviction notice enters home order at once, with charm 0 (R281, R302). -/
def State.ringDirect (s : State) (r : RingIn) (kind : ReqKind) (h : Hdr) : State :=
  let c := if typePv h.type then s.payloadCheck r h else (false, s)
  let q := { c.2.ringReq r h kind c.1 with id := c.2.nextId + 1, stamp := c.2.blockStamp }
  { c.2 with nextId := c.2.nextId + 1 }.enterHome q

/-- RD_S (R316). -/
def execRdS (r : RingIn) (s : State) : Host.Outcome State Fault Refusal :=
  .next (s.flitIn r 0x01 fun h s => s.ringEnter r (fun _ => .rdS) h)

/-- RD_U (R316). -/
def execRdU (r : RingIn) (s : State) : Host.Outcome State Fault Refusal :=
  .next (s.flitIn r 0x02 fun h s => s.ringEnter r (fun _ => .rdU) h)

/-- UPG (R316). -/
def execUpg (r : RingIn) (s : State) : Host.Outcome State Fault Refusal :=
  .next (s.flitIn r 0x03 fun h s => s.ringEnter r (fun _ => .upg) h)

/-- RD_NC (R316). -/
def execRdNc (r : RingIn) (s : State) : Host.Outcome State Fault Refusal :=
  .next (s.flitIn r 0x04 fun h s => s.ringEnter r (fun _ => .rdNc) h)

/-- WR_BACK (R316). -/
def execWrBack (r : RingIn) (s : State) : Host.Outcome State Fault Refusal :=
  .next (s.flitIn r 0x08 fun h s => s.ringDirect r .wrBack h)

/-- EVICT_CLEAN (R316). -/
def execEvictClean (r : RingIn) (s : State) : Host.Outcome State Fault Refusal :=
  .next (s.flitIn r 0x09 fun h s => s.ringDirect r .evict h)

/-- WR_FULL (R316). -/
def execWrFull (r : RingIn) (s : State) : Host.Outcome State Fault Refusal :=
  .next (s.flitIn r 0x0A fun h s => s.ringEnter r (fun _ => .wrFull) h)

/-- WR_STASH (R330). -/
def execWrStash (r : RingIn) (s : State) : Host.Outcome State Fault Refusal :=
  .next (s.flitIn r 0x0B fun h s => s.ringEnter r (fun h => .stash (h.op % 64)) h)

/-- ATOM (R332). -/
def execAtom (r : RingIn) (s : State) : Host.Outcome State Fault Refusal :=
  .next (s.flitIn r 0x0C fun h s => s.ringEnter r (fun h => .atom h.op h.offset) h)

/-- DAT_FWD (R304): malformed at a stop of the block. -/
def execDatFwd (r : RingIn) (s : State) : Host.Outcome State Fault Refusal :=
  .next (s.flitIn r 0x30 fun _ s => s)

/-! ### Clasp messages (R351, R357, R358) -/

/-- CLSP_ACQ at the home. -/
def State.clspAcqRing (s : State) (r : RingIn) (h : Hdr) : State :=
  let w : ClaspWait := { clasp := h.op, owner := h.src, ring := some (r.stop, r.cw, h.txn) }
  if (s.clasp h.op).st ≠ .held then s.claspTake w
  else if h.state % 2 = 1 ∨ s.claspWaits.length ≥ 128 then s.claspRsp h.op h.src (r.stop, r.cw, h.txn) 2
  else { s with claspWaits := s.claspWaits ++ [w] }

def execClspAcqMsg (r : RingIn) (s : State) : Host.Outcome State Fault Refusal :=
  .next (s.flitIn r 0x10 fun h s => s.clspAcqRing r h)

/-- CLSP_REL at the home. -/
def State.clspRelRing (s : State) (r : RingIn) (h : Hdr) : State :=
  match s.claspRelease h.op h.src (h.state % 2 == 1) with
  | some s => s.claspRsp h.op h.src (r.stop, r.cw, h.txn) 0
  | none => s.claspRsp h.op h.src (r.stop, r.cw, h.txn) 3

def execClspRelMsg (r : RingIn) (s : State) : Host.Outcome State Fault Refusal :=
  .next (s.flitIn r 0x11 fun h s => s.clspRelRing r h)

/-! ### Acknowledgements, snoop answers -/

/-- CMP_ACK (R314, R589): it ends the open grant of its source and transaction; one that matches none is discarded. -/
def State.cmpAckIn (s : State) (h : Hdr) : State :=
  match s.trk h.ladr with
  | some t =>
    if reqAgent t.req = h.src ∧ t.req.dest = .ring h.txn ∧ t.grant ≠ 0 ∧ t.answered = true ∧ t.gone = false then s.ackTrk t
    else s
  | none => s

def execCmpAck (r : RingIn) (s : State) : Host.Outcome State Fault Refusal :=
  .next (s.flitIn r 0x13 fun h s => s.cmpAckIn h)

/-- The data a snoop brought is written to memory at charm 0, stamped as the home issues it (R318, R586). -/
def State.writeBack (s : State) (t : Trk) (wb : Line × Bool) : State :=
  let t := { t with data := wb.1, hm := hallmark wb.1, poison := wb.2, stamp := s.blockStamp }
  (s.setTrk t).memWrite t

/-- A CMP answers the requester of a grant (R317). -/
def State.grantCmp (s : State) (t : Trk) (dfwd : Bool) : State :=
  match t.req.src, t.req.dest with
  | .agent st cw x, .ring txn => if t.gone then s else s.sendCmp t st cw x txn t.grant dfwd
  | _, _ => s

/-- A snoop is complete (R316 to R320, R324, R330, R332). -/
def State.snoopDone (s : State) (t : Trk) : State :=
  let fwd := t.snpFwd
  match t.req.kind with
  | .rdS =>
    let s := if fwd then s.grantCmp t true else s
    let t := { t with answered := fwd }
    match t.wb with
    | some w => s.writeBack t w
    | none => if fwd then s.settleTrk t else s.memRead t
  | .rdU => if fwd then (s.grantCmp t true).settleTrk { t with answered := true } else s.memRead t
  | .upg =>
    match s.sf t.line with
    | some e =>
      if e.sum = 1 ∧ e.agent = reqAgent t.req then (s.grantCmp t false).settleTrk { t with answered := true }
      else if fwd then (s.grantCmp t true).settleTrk { t with answered := true } else s.memRead t
    | none => s.memRead t
  | .rd | .rdNc | .pref =>
    match t.wb with
    | some w => s.gotData { t with wb := none } (Ans.ok w.1 (hallmark w.1) w.2)
    | none => s.memRead t
  | .merge _ _ | .atom _ _ | .forced =>
    match t.wb, t.req.kind with
    | some w, _ => s.writeBack t w
    | none, .forced => s.settleTrk t
    | none, _ => s.memRead t
  | .stash x => s.sendStash t x
  | _ => s.memWrite t

/-- The open transaction on a line, while the clocks run (R490, R491). -/
def State.liveTrk (s : State) (ln : Nat) : Option Trk := if s.running then s.trk ln else none

/-- SNOOP_RETURN (R309, R320): a broadcast snoop has returned to its stop with its result bits HIT, FWD, WB. -/
def State.snoopReturn (s : State) (ln : Nat) (bits : BitVec 3) : State :=
  match s.liveTrk ln with
  | some t =>
    match t.stage with
    | .snoop _ =>
      let t := { t with snpBack := true, snpFwd := bitOf bits 1, snpWb := bitOf bits 2 }
      let s := s.setTrk t
      if t.snpWb && t.wb.isNone then s else s.snoopDone { t with wb := if t.snpWb then t.wb else none }
    | _ => s
  | none => s

def execSnoopReturn (ln : Nat) (bits : BitVec 3) (s : State) : Host.Outcome State Fault Refusal :=
  .next (s.snoopReturn ln bits)

/-- DAT_WB (R318, R320, R589): the data a snoop announced. -/
def State.datWbIn (s : State) (r : RingIn) (h : Hdr) : State :=
  match s.trk h.ladr with
  | some t =>
    match t.stage with
    | .snoop _ =>
      if t.num = h.txn ∧ t.wb = none ∧ (t.snpBack = false ∨ t.snpWb = true) then
        let c := s.payloadCheck r h
        let t := { t with wb := some (r.flit.payload, c.1) }
        let s := c.2.setTrk t
        if t.snpBack then s.snoopDone t else s
      else s
    | _ => s
  | none => s

def execDatWb (r : RingIn) (s : State) : Host.Outcome State Fault Refusal :=
  .next (s.flitIn r 0x31 fun h s => s.datWbIn r h)

/-- RSP_STASH (R330, R589). -/
def State.rspStashIn (s : State) (h : Hdr) : State :=
  match s.trk h.ladr with
  | some t =>
    if t.stage = .stash ∧ t.num = h.txn ∧ t.req.kind = .stash h.src then
      if h.op % 2 = 1 then (s.holdLine t.line).setTrk { t with stage := .ended }
      else s.memWrite { t with filt := .clear }
    else s
  | none => s

def execRspStash (r : RingIn) (s : State) : Host.Outcome State Fault Refusal :=
  .next (s.flitIn r 0x32 fun h s => s.rspStashIn h)

/-- SNOOP_TIMEOUT (R321). -/
def State.snoopTimeout (s : State) (ln : Nat) : State :=
  match s.liveTrk ln with
  | some t =>
    match t.stage with
    | .snoop _ =>
      let t := { t with snpTmo := true, wb := none }
      let s := (s.raise .home 0 1 (64 * ln)).setTrk t
      if t.req.kind.reads then s.refuseRead t 0 true true
      else
        match t.req.kind with
        | .merge _ _ => s.memRead t
        | .forced => s.settleTrk t
        | .stash _ => s.memWrite { t with req := { t.req with kind := .wrFull } }
        | _ => s.memWrite t
    | _ => s
  | none => s

def execSnoopTimeout (ln : Nat) (s : State) : Host.Outcome State Fault Refusal := .next (s.snoopTimeout ln)

/-- HOLD_END (R327): the hold time of a line has passed; a snoop that waited for it leaves. -/
def State.holdEnd (s : State) (ln : Nat) : State :=
  if s.running = false then s
  else
    let s := { s with heldLines := s.heldLines.filter (· != ln) }
    match s.trk ln with
    | some t =>
      match t.stage with
      | .hold k => s.snoop t k
      | _ => s
    | none => s

def execHoldEnd (ln : Nat) (s : State) : Host.Outcome State Fault Refusal := .next (s.holdEnd ln)

/-! ### The port arbiter and ends of transactions -/

/-- A write that the home accepts completes as a line operation (R19, R187), or counts in SP_WR of its port (R469). -/
def State.written (s : State) (r : Req) : State :=
  match r.src, r.kind with
  | .thread _, .wr => s.lineDone r.run
  | .thread _, .merge _ _ => s.lineDone r.run
  | .port n, .wr => s.count2 ((Win.port n).base + 0x18)
  | .port n, .stash _ => s.count2 ((Win.port n).base + 0x18)
  | _, _ => s

/-- The arbiter admits one request (R283): its choice enters home order; a home that is not ready admits none. -/
def State.arbiterAdmit (s : State) : State :=
  if s.homeReady = false then s
  else
    match s.choose with
    | some r => ((s.poolTake r).written r).enterHome r
    | none => s

/-- TRANSACTION_END (R314). -/
def State.transactionEnd (s : State) (ln : Nat) : State :=
  match s.liveTrk ln with
  | some t => if t.stage = .ended then s.endTrk t else s
  | none => s

def execTransactionEnd (ln : Nat) (s : State) : Host.Outcome State Fault Refusal := .next (s.transactionEnd ln)

/-- BRINGUP_HOLD (R500, R501): a request held for a sub-channel is answered NOT_READY. -/
def State.bringupHold (s : State) (ln : Nat) : State :=
  match s.liveTrk ln with
  | some t =>
    match t.stage with
    | .notReady _ =>
      if t.wr then s.failWrite t 3
      else let a := s.openAns 3 false false; a.2.gotData t a.1
    | _ => s
  | none => s

def execBringupHold (ln : Nat) (s : State) : Host.Outcome State Fault Refusal := .next (s.bringupHold ln)

/-- HOLD_TO (R354): a Clasp held for HOLD_TO µs is lost by its holder. -/
def State.claspTimeout (s : State) (n : Nat) : State :=
  let c := s.clasp n
  if s.running = true ∧ c.st = .held ∧ c.limit ≠ 0 ∧ (s.tbase - c.since).toNat ≥ 100 * c.limit then s.claspLoss n else s

def execHoldTo (clasp : Nat) (s : State) : Host.Outcome State Fault Refusal := .next (s.claspTimeout clasp)

/-! ### Agent reset (R335) -/

/-- An open transaction of a reset agent sends it nothing more; a grant ends as though acknowledged (R335 step 2). -/
def State.resetTrk (s : State) (ln : Nat) : State :=
  match s.trk ln with
  | some t =>
    let t := { t with gone := true }
    let s := s.setTrk t
    if t.answered = true ∧ t.grant ≠ 0 then s.ackTrk t else s
  | none => s

/-- A request kind that is answered with data for the requester's own use. -/
def ReqKind.agentRead : ReqKind → Bool
  | .rdS | .rdU | .upg | .rdNc | .atom _ _ => true
  | _ => false

/-- Steps 1 and 2 of an agent reset (R335), for the requests that had reached the home before it: reads are discarded, and
writes complete with no response. -/
def State.walkBegin (s : State) (x : Nat) (ids : List Nat) : State :=
  let s := (s.setFlag 0x600C 31 true).setFld 0x600C 29 24 x
  let mute := fun (r : Req) => if ids.contains r.id then { r with dest := .none } else r
  let s : State := { s with homeQ := (s.homeQ.filter fun (r : Req) => !(ids.contains r.id && r.kind.agentRead)).map mute }
  let s := s.claspWithdraw x
  ((s.trks.filter fun t => reqAgent t.req == x).map (·.line)).foldl State.resetTrk s

/-- AGENT_RESET (R335): a second one waits until the walk in progress ends. -/
def State.agentReset (s : State) (x : Nat) : State :=
  let ids := (s.homeQ.filter fun r => reqAgent r == x).map Req.id
  let s' := { s with walks := s.walks ++ [(x, ids)] }
  if s.walks = [] then s'.walkBegin x ids else s'

def execAgentReset (r : RingIn) (s : State) : Host.Outcome State Fault Refusal :=
  .next (s.flitIn r 0x12 fun h s => s.agentReset h.src)

/-- What the walk makes of one entry (R335 step 3). -/
def walkEntry (x : Nat) (e : SfEnt) : Option SfEnt :=
  if e.agent = x ∧ e.sum = 2 then none else if e.agent = x ∧ e.sum = 1 then some { e with sum := 0, agent := 0 } else some e

/-- A line whose dirty data may be lost is written poisoned at charm 0; the spec gives its bytes no value. -/
def State.poisonLine (s : State) (line : Nat) : State :=
  let d := Config.openLine s.free
  let r := { Req.mk0 .block .blockWr line with
    id := s.nextId + 1, data := d, hm := hallmark d, poison := true, stamp := s.blockStamp }
  { s.draw with nextId := s.nextId + 1 }.enterHome r

/-- AGENT_RESET_WALK_END (R335 steps 3 to 5). The agent's requests that waited for step 5 take their places after the poison
writes; ways that the walk freed go to the allocations that wait for one (R325). -/
def State.walkEnd (s : State) : State :=
  match s.walks with
  | [] => s
  | (x, _) :: rest =>
    if s.running = false then s
    else
      let lost := (s.filter.flatMap fun e => e.2).filter fun (e : SfEnt) => e.agent == x && e.sum == 2
      let s := { s with filter := tmap [] (fun (l : List SfEnt) => l.filterMap (walkEntry x)) s.filter }.retryWays
      let s := if s.flag 0x6004 3 then (lost.map fun (e : SfEnt) => e.line).foldl State.poisonLine s else s
      let s := (s.claspLossAll x).raise .home 2 3 x
      let s := { s with homeQ := (s.homeQ.filter fun r => !s.walkHeld r) ++ s.homeQ.filter s.walkHeld }
      let s := { (s.setFlag 0x600C 31 false) with walks := rest }
      match rest with
      | (y, ids) :: _ => (s.walkBegin y ids).pump
      | [] => s.pump

def execAgentResetWalkEnd (s : State) : Host.Outcome State Fault Refusal := .next s.walkEnd

/-! ### Attachment (R471 to R474, R493) -/

/-- ATTACH_READY (R471): the pass-through slice acts on the level; while it is high the identity is latched (R473). -/
def State.attachUpdate (s : State) (n : Nat) : State :=
  let r := s.rs n
  if r.inReset then s
  else if s.attachHigh n then s.setRs n { r with attached := true, ident := some (s.nodeId n) }
  else s.setRs n { r with attached := false }

def execAttachReady (rs : Nat) (s : State) : Host.Outcome State Fault Refusal := .next (s.attachUpdate rs)

/-- RING_RST_N (R473, R493): a reset of the pass-through slice forgets its identity and bypasses the stop. -/
def State.ringReset (s : State) (n : Nat) (level : Bool) : State :=
  if level then s.setRs n { s.rs n with inReset := false }
  else s.setRs n { attached := false, ident := none, inReset := true, slice := (s.rs n).slice }

def execRingRstN (rs : Nat) (level : Bool) (s : State) : Host.Outcome State Fault Refusal := .next (s.ringReset rs level)

end Sys2Proof.Machine
end

