-- ==== Sys2Proof/Machine/Ports.lean ====
section
/-! DEFINITION. The stream ports: requests and beats (R457 to R462), FLUSH (R349, R350), context commands and packets of a
port (R161, R163, R182), responses and credits (R463 to R465), port reset and readiness (R467, R468, R498), and the
arbiter's admission, which lets held requests go on (R14, R283). -/

namespace Sys2Proof.Machine

/-! ### Fields of the request word (R457) -/

def rqKind (w : BitVec 128) : Nat := bitsOf w 3 0
def rqOtag (w : BitVec 128) : Nat := bitsOf w 7 4
def rqCharm (w : BitVec 128) : Nat := bitsOf w 13 8
def rqTid (w : BitVec 128) : Nat := bitsOf w 27 16
def rqLine (w : BitVec 128) : Nat := bitsOf w 71 32
def rqStash (w : BitVec 128) : Bool := bitOf w 80
def rqAgent (w : BitVec 128) : Nat := bitsOf w 86 81
def rqCtx (w : BitVec 128) : Nat := bitsOf w 99 88
def rqCmd (w : BitVec 128) : Nat := bitsOf w 103 100
def rqGen (w : BitVec 128) : Nat := bitsOf w 119 104

/-- The word with only the fields that its kind uses; other kinds use KIND alone. -/
def rqUsed (w : BitVec 128) : Nat :=
  let tid := rqTid w * 2 ^ 16
  let mem := rqOtag w * 2 ^ 4 + rqCharm w * 2 ^ 8 + rqLine w * 2 ^ 32
  let stash := if rqStash w then 2 ^ 80 + rqAgent w * 2 ^ 81 else 0
  let cmd := rqCtx w * 2 ^ 88 + rqCmd w * 2 ^ 100
  rqKind w + (match rqKind w with
    | 1 => mem + tid
    | 2 => mem + stash
    | 3 => tid
    | 4 => tid + cmd + (if rqCmd w = 6 ∨ rqCmd w = 7 then rqLine w * 2 ^ 32 else 0) +
        (if rqCmd w = 6 then rqGen w * 2 ^ 104 else 0)
    | _ => 0)

/-- A request with a reserved CMD or a non-zero field it does not use (R460). -/
def rqBad (w : BitVec 128) : Bool :=
  decide (w.toNat ≠ rqUsed w) || (rqKind w == 4 && (decide (rqCmd w < 3) || decide (rqCmd w > 7)))

/-- SP_CFG of a port (R469). -/
def spCfg (n : Nat) : Nat := (Win.port n).base + 4

/-- Writes of a port that have not ended their transactions, a stash that is made as a plain write among them (R329,
R349). -/
def portWrite (n : Nat) (r : Req) : Bool :=
  r.src == Src.port n && (match r.kind with | .wr => true | .wrFull => true | .stash _ => true | _ => false)

/-- The numbers of a port's open writes. -/
def State.openWrites (s : State) (n : Nat) : List Nat :=
  ((s.pool ++ s.homeQ ++ s.trks.map Trk.req).filter (portWrite n)).map Req.id

/-! ### Requests -/

/-- A READ (R457, R463): it took its stamp when the port accepted it (R271), and passes once its credits are not stopped. -/
def State.portRead (s : State) (n : Nat) (e : HeldReq) : Option State :=
  let w := e.word
  if rqBad w then
    let r := s.openAns 2 false false
    some (r.2.spRespond n { kind := 0, tid := rqTid w, status := 2, tmo := false, hm := r.1.hm, data := r.1.data, stamp := none })
  else
    let r := { Req.mk0 (.port n) .rd (rqLine w) with
      id := e.id, stamp := e.stamp, otag := rqOtag w, dest := .port (rqTid w), place := .policy 2 }
    if s.mayEnter r then some (s.poolAdd r) else none

/-- A WRITE with its beat (R461, R462): STASH_EN and HM_CHECK are those of SP_CFG when they came in. -/
def State.portWriteIn (s : State) (n : Nat) (e : HeldReq) (x : HeldBeat) : Option State :=
  let w := e.word
  let b := x.beat
  if rqBad w || decide (bitsOf b.attr 7 2 ≠ 0) then some (s.raise (.port n) 2 3 2)
  else
    let own := hallmark b.data
    let bad := bitOf b.attr 0 && bitOf x.cfg 0 && decide (b.hm ≠ own)
    let kind := if rqStash w && bitOf e.cfg 1 then ReqKind.stash (rqAgent w) else .wr
    let r := { Req.mk0 (.port n) kind (rqLine w) with
      id := e.id, stamp := e.stamp, data := b.data, hm := own, poison := bitOf b.attr 1 || bad, otag := rqOtag w,
      place := .policy 3 }
    if s.mayEnter r then
      let s := s.poolAdd r
      some (if bad then s.raise (.port n) 0 1 (64 * rqLine w) else s)
    else none

/-- A FLUSH (R349, R350): at most 4 await their response. -/
def State.portFlush (s : State) (n : Nat) (w : BitVec 128) : Option State :=
  let p := s.sp n
  if rqBad w then some (s.spRespond n (plainRsp 1 (rqTid w) 2 0))
  else if (p.flushes.filter fun f => !f.dead).length ≥ 4 then none
  else some (s.setSp n { p with flushes := p.flushes ++ [{ tid := rqTid w, ids := s.openWrites n, dead := false }] })

/-- The result of a context command: whether it had no effect and the context's STATE (R463, R464); a context beyond the
configuration has no STATE, whose bits are 0 (log entry 49). -/
def State.cmdResult (s : State) (n : Nat) (w : BitVec 128) (status : Nat) (ignored : Bool) : State :=
  let st := if rqCtx w < s.variant.contexts then s.ctxState (rqCtx w) else 0
  s.spRespond n (plainRsp 2 (rqTid w) status (BitVec.ofNat 512 (b2n ignored + 2 * st)))

/-- What a context command of a port does (R163). -/
def State.portCmd (s : State) (w : BitVec 128) : CmdRes :=
  match rqCmd w with
  | 6 => s.cmdAppend (rqCtx w) (64 * rqLine w) (rqGen w)
  | 7 => s.cmdSetHead (rqCtx w) (64 * rqLine w)
  | c => s.ctxCmd (rqCtx w) c

/-- A CTXCMD (R161, R460, R464): whether the port may command the context was judged as it came (R159). -/
def State.portCtx (s : State) (n : Nat) (e : HeldReq) : State :=
  let w := e.word
  if rqBad w || !bitOf e.cfg 2 || decide (rqCtx w ≥ s.variant.contexts) || !e.may then s.cmdResult n w 2 true
  else
    let r := s.portCmd w
    r.s.cmdResult n w 0 r.ignored

/-- A PACKET with its beat (R182, R183, R458): whether the port may command the context was judged as the beat came (R159). -/
def State.portPacket (s : State) (n : Nat) (e : HeldReq) (x : HeldBeat) : Option State :=
  let d := BitVec.ofNat 256 x.beat.data.toNat
  let clean := !rqBad e.word && bitOf e.cfg 2 && decide (bitsOf x.beat.attr 7 2 = 0) && decide (x.beat.data.toNat < 2 ^ 256)
  match s.packetRefusal d clean x.may with
  | some st => some (s.spRespond n (plainRsp 4 (bitsOf d 31 24) st 0))
  | none => if (s.ctx (bitsOf d 11 0)).queue.length ≥ 4 then none else some (s.queuePacket n d)

/-- A request of a reserved kind has no effect; the port's malformed-request source reports its KIND (R460, R515). -/
def State.portReserved (s : State) (n : Nat) (w : BitVec 128) : State := s.raise (.port n) 2 3 (rqKind w)

/-! ### Passing requests on (R14, R458, R465) -/

/-- Whether a kind takes a data beat. -/
def takesBeat (w : BitVec 128) : Bool := rqKind w == 2 || rqKind w == 5

/-- The oldest request passes, if it can: a WRITE or PACKET with its beat. -/
def State.portHandle (s : State) (n : Nat) (e : HeldReq) (beat : Option HeldBeat) : Option State :=
  match rqKind e.word, beat with
  | 1, _ => s.portRead n e
  | 2, some b => s.portWriteIn n e b
  | 2, none => none
  | 3, _ => s.portFlush n e.word
  | 4, _ => some (s.portCtx n e)
  | 5, some b => s.portPacket n e b
  | 5, none => none
  | _, _ => some (s.portReserved n e.word)

/-- A credit returns to the requester (R465): a request credit, or a write data credit. -/
def State.giveCredit (s : State) (n : Nat) (wd : Bool) : State :=
  let p := s.sp n
  if p.ready = false then s
  else
    (s.setSp n (if wd then { p with wdCr := p.wdCr + 1 } else { p with reqCr := p.reqCr + 1 })).emit (.spCredit n wd 1)

/-- The oldest request leaves the port, with its beat. -/
def State.portPass (s : State) (n : Nat) (beat : Bool) : State :=
  let p := s.sp n
  let s := s.setSp n { p with held := p.held.drop 1, beats := if beat then p.beats.drop 1 else p.beats }
  let s := s.giveCredit n false
  if beat then s.giveCredit n true else s

/-- Requests pass on in order as far as they can. -/
def portServe : Nat → Nat → State → State
  | 0, _, s => s
  | fuel + 1, n, s =>
    if s.spUp n = false ∨ s.portsStopped = true then s
    else
      match (s.sp n).held with
      | [] => s
      | e :: _ =>
        match s.portHandle n e (s.sp n).beats.head? with
        | none => s
        | some s' => portServe fuel n (s'.portPass n (takesBeat e.word))

/-- A port passes on what it holds. -/
def State.portGo (s : State) (n : Nat) : State := portServe (s.sp n).held.length n s

/-- Every port passes on what it holds. -/
def State.portsGo (s : State) : State := (List.range s.variant.ports).foldl State.portGo s

/-- REQ_V or WD_V of a port is a wake event: of every port that is ready, and in DOZE of every port whose SP_RST_N is
high (R544). -/
def State.portWake (s : State) (n : Nat) (taken : Bool) : State :=
  if taken || ((s.sp n).link && decide (s.pstate = 3)) then s.wakeEvent 2 n else s

/-- A port takes a request: a READ or WRITE enters, is counted and takes its stamp now (R270, R271); of a context command, what
it may command is judged now (R159). -/
def State.portTake (s : State) (n : Nat) (w : BitVec 128) : State :=
  let line := (rqKind w == 1 || rqKind w == 2) && !rqBad w
  let e := if line then s.admitReq (rqCharm w) (Req.mk0 (.port n) .rd 0) else (Req.mk0 (.port n) .rd 0, s)
  let p := e.2.sp n
  e.2.setSp n { p with
    reqCr := p.reqCr - 1,
    held := p.held ++ [{ word := w, cfg := s.reg (spCfg n), may := s.mayCommand n (rqCtx w), id := e.1.id, stamp := e.1.stamp }] }

/-- A request comes in over REQ (R465): `mine` says whether it is of the command's kind. -/
def State.portRequest (s : State) (n : Nat) (w : BitVec 128) (mine : Bool) : State :=
  let p := s.sp n
  let ok := p.ready && decide (p.reqCr > 0)
  if n ≥ s.variant.ports ∨ mine = false then s
  else if ok then ((s.portTake n w).portGo n).portWake n true
  else s.portWake n false

/-- READ; the request word of a reserved KIND, or of a CTXCMD with a reserved CMD, comes in by this command too (R460). -/
def execRead (sp : Nat) (req : BitVec 128) (s : State) : Host.Outcome State Fault Refusal :=
  .next (s.portRequest sp req (decide (rqKind req = 1 ∨ rqKind req = 0 ∨ rqKind req > 5) ||
    (rqKind req == 4 && (decide (rqCmd req < 3) || decide (rqCmd req > 7)))))

/-- WRITE. -/
def execWrite (sp : Nat) (req : BitVec 128) (s : State) : Host.Outcome State Fault Refusal :=
  .next (s.portRequest sp req (rqKind req == 2))

/-- FLUSH. -/
def execFlush (sp : Nat) (req : BitVec 128) (s : State) : Host.Outcome State Fault Refusal :=
  .next (s.portRequest sp req (rqKind req == 3))

/-- FAST_COMMAND_PACKET. -/
def execFastCommandPacket (sp : Nat) (req : BitVec 128) (s : State) : Host.Outcome State Fault Refusal :=
  .next (s.portRequest sp req (rqKind req == 5))

/-- SET_HEAD. -/
def execSetHead (sp : Nat) (req : BitVec 128) (s : State) : Host.Outcome State Fault Refusal :=
  .next (s.portRequest sp req (rqKind req == 4 && rqCmd req == 7))

/-- WRITE_DATA_BEAT (R458, R465). -/
def State.beatIn (s : State) (n : Nat) (b : Beat) : State :=
  let p := s.sp n
  if n ≥ s.variant.ports then s
  else if p.ready && decide (p.wdCr > 0) then
    let x : HeldBeat := { beat := b, cfg := s.reg (spCfg n), may := s.mayCommand n (bitsOf b.data 11 0) }
    let s := s.setSp n { p with wdCr := p.wdCr - 1, beats := p.beats ++ [x] }
    (s.portGo n).portWake n true
  else s.portWake n false

def execWriteDataBeat (sp : Nat) (beat : Beat) (s : State) : Host.Outcome State Fault Refusal := .next (s.beatIn sp beat)

/-- FLUSH_COMPLETE (R349): the `k`-th FLUSH's writes have ended; a fifth FLUSH may then be taken. -/
def State.flushComplete (s : State) (n k : Nat) : State :=
  let p := s.sp n
  match p.flushes[k]? with
  | none => s
  | some f =>
    if (s.openWrites n).any fun i => f.ids.contains i then s
    else
      let s := s.setSp n { p with flushes := p.flushes.eraseIdx k }
      if f.dead then s else (s.spRespond n (plainRsp 1 f.tid 0 0)).portGo n

def execFlushComplete (sp : Nat) (k : Nat) (s : State) : Host.Outcome State Fault Refusal := .next (s.flushComplete sp k)

/-- A request of the debug port (R563). -/
def ofDbg (r : Req) : Bool := r.src == Src.dbg

/-- The line access of the debug port enters the request path with charm 0, once the pool can take it (R563): a source of
its own under R339. -/
def State.dbgPump (s : State) : State :=
  match s.dbgAcc with
  | none => s
  | some d =>
    let r := { Req.mk0 .dbg (if d.rnw then .rd else .wr) d.line with data := d.data, hm := hallmark d.data, dest := .dbg }
    if d.finished || !s.mayEnter r || s.pool.any ofDbg || s.homeQ.any ofDbg || (s.trks.any fun k => ofDbg k.req) then s
    else s.enter 0 r

/-- PORT_ARBITER_ADMIT (R283): one request enters home order; requests that waited for credits, or for room in a packet queue,
pass on. -/
def execPortArbiterAdmit (s : State) : Host.Outcome State Fault Refusal :=
  .next s.arbiterAdmit.scrubGo.slicesGo.dbgPump.portsGo

/-! ### Link, readiness and response credits (R465, R467, R498) -/

/-- SP_RST_N_FALL. -/
def execSpRstNFall (sp : Nat) (s : State) : Host.Outcome State Fault Refusal :=
  .next (if sp < s.variant.ports then
      let s := s.portFall sp
      s.setSp sp { s.sp sp with link := false }
    else s)

/-- SP_RST_N_RISE: SP_READY waits for the discarded responses to arise. -/
def execSpRstNRise (sp : Nat) (s : State) : Host.Outcome State Fault Refusal :=
  .next (if sp < s.variant.ports then s.setSp sp { s.sp sp with link := true } else s)

/-- A discarded response of a port remains to arise: a read, a FLUSH, or a packet (R467). -/
def State.ghosts (s : State) (n : Nat) : Bool :=
  let rd := fun (r : Req) => r.src == Src.port n && r.kind == ReqKind.rd && r.dest == Dest.none
  let pk := fun (p : Packet) => p.sp == n && p.dead
  s.pool.any rd || s.homeQ.any rd || (s.trks.any fun k => rd k.req && k.stage != .ended) ||
    ((s.sp n).flushes.any fun f => f.dead) ||
    (s.ctxs.any fun e => e.2.queue.any pk || e.2.ending.any fun q => pk q.1) ||
    (s.threads.any fun e => e.2.packet.any pk)

/-- SP_READY rises, and the port grants its credits; requests it still holds keep theirs (R465, R469, R498). -/
def State.spReadyUp (s : State) (n : Nat) : State :=
  let p := s.sp n
  if n ≥ s.variant.ports ∨ p.ready = true ∨ s.spUp n = false ∨ s.en (.port n) = false ∨ s.portsStopped = true ∨
      s.ghosts n = true then s
  else
    let rq := clamp 1 32 (s.fld (spCfg n) 13 8) - p.held.length
    let wd := clamp 1 16 (s.fld (spCfg n) 20 16) - p.beats.length
    ((s.setSp n { p with ready := true, reqCr := rq, wdCr := wd }).emit (.spCredit n false rq)).emit (.spCredit n true wd)

def execSpReady (sp : Nat) (s : State) : Host.Outcome State Fault Refusal := .next (s.spReadyUp sp)

/-! ### What a port owes (R467, R468) -/

/-- READs of a port that have passed it and await their data. -/
def State.outReads (s : State) (n : Nat) : Nat :=
  let mine := fun (r : Req) => r.src == Src.port n && r.kind == ReqKind.rd && r.dest != Dest.none
  (s.pool.filter mine).length + (s.homeQ.filter mine).length +
    (s.trks.filter fun k => mine k.req && k.stage != .ended).length

/-- The requests of a port that can pass with the beats it holds: those before the first WRITE or PACKET without one. -/
def heldLive : List HeldReq → List HeldBeat → List HeldReq
  | [], _ => []
  | e :: es, bs =>
    if takesBeat e.word = false then e :: heldLive es bs
    else
      match bs with
      | [] => []
      | _ :: bs => e :: heldLive es bs

/-- A port has no response, FLUSH or packet end that is formed and not sent. -/
def State.portQuiet (s : State) (n : Nat) : Bool :=
  (s.sp n).rsps.isEmpty && ((s.sp n).flushes.all fun f => f.dead) &&
    s.ctxs.all fun e => e.2.ending.all fun q => q.1.sp != n || q.1.dead

/-- A port owes a response: to a READ, a FLUSH, a context command or a packet (R468). -/
def State.portOwes (s : State) (n : Nat) : Bool :=
  !s.portQuiet n || decide (s.outReads n ≠ 0) || !(heldLive (s.sp n).held (s.sp n).beats).isEmpty ||
    (s.ctxs.any fun e => e.2.queue.any fun q => q.sp == n && !q.dead) ||
    s.threads.any fun e => e.2.packet.any fun q => q.sp == n && !q.dead

/-- RD_CRD (R465): the port holds one more response credit, and sends what waited for one. A port that is not ready ignores it
(R467), but for a disabled one that still owes responses (R468; log entry 28). -/
def State.rdCredit (s : State) (n : Nat) : State :=
  let p := s.sp n
  let takes := p.ready || (!s.en (.port n) && s.portOwes n)
  if n ≥ s.variant.ports ∨ s.spUp n = false ∨ takes = false ∨ p.rdCr ≥ 255 then s
  else spDrain p.rsps.length n (s.setSp n { p with rdCr := p.rdCr + 1 })

def execRdCrd (sp : Nat) (s : State) : Host.Outcome State Fault Refusal := .next (s.rdCredit sp)

end Sys2Proof.Machine
end

