-- ==== Sys2Proof/Machine/Alive.lean ====
section
/-! DEFINITION. The ALIVE bump (R525 to R527), acknowledgement and injection of faults (R512, R516, R517), and recovery
from GRAVE (R522, R523). -/

namespace Sys2Proof.Machine

/-! ### ALIVE and FAULT_N -/

/-- ALIVE_CFG, and its MODE and FAULT_HOLD (R529). -/
def aliveCfg : Nat := 0x1E00
def State.compat (s : State) : Bool := s.flag aliveCfg 31
def State.faultHold (s : State) : Bool := s.flag aliveCfg 30

/-- A fault block is in GRAVE. -/
def State.graveAny (s : State) : Bool := (faultBlocks s.variant).any s.grave

/-- KICKED and STALL. -/
def State.kicked (s : State) : Bool := s.flag aliveStatus 3
def State.stalled (s : State) : Bool := s.flag aliveStatus 2

/-- The conditions under which ALIVE toggles (R525). -/
def State.aliveOk (s : State) : Bool := s.kicked && !s.stalled && !s.graveAny

/-- ALIVE_STATUS.TOGGLING (R529). -/
def State.toggling (s : State) : Bool := if s.compat then s.alive else s.aliveOk

/-- ALIVE_TOGGLE (R525): at the end of a half-period ALIVE changes level while the conditions hold, and goes low
otherwise. FAULT_N has no half-periods. -/
def State.aliveToggle (s : State) : State :=
  if s.compat || !s.refclk then s else { s with alive := s.aliveOk && !s.alive }

def execAliveToggle (s : State) : Host.Outcome State Fault Refusal := .next s.aliveToggle

/-- PULSE_END (R527): after a pulse FAULT_N follows FAULT_HOLD. -/
def State.pulseEnd (s : State) : State :=
  if s.pulse && s.compat && s.refclk then { s with pulse := false, alive := !s.faultHold } else s

def execPulseEnd (s : State) : Host.Outcome State Fault Refusal := .next s.pulseEnd

/-- The watchdog runs: armed by a kick, not expired, and not suspended in NAP or DOZE (R525, R526). -/
def State.wdRuns (s : State) : Bool :=
  s.wdArmed && !s.stalled && s.refclk && !decide (s.pstate = 2 ∨ s.pstate = 3)

/-- WATCHDOG_EXPIRY (R526): STALL is set and the supervisor-stall source raised; it is an onset for FAULT_N (R527). -/
def State.wdExpire (s : State) : State :=
  if s.wdRuns then ({ s.setFlag aliveStatus 2 true with wdArmed := false }.raise .power 2 3 0).onset else s

def execWatchdogExpiry (s : State) : Host.Outcome State Fault Refusal := .next s.wdExpire

/-- An onset, if a condition holds. -/
def State.onsetIf (s : State) (b : Bool) : State := if b then s.onset else s

/-- MODE has changed (R527): in compatibility mode FAULT_N is high until an onset, which a fault condition that holds is. -/
def State.modeChanged (s : State) : State :=
  if s.compat then { s with pulse := false, alive := true, onsetSeen := false }.onsetIf (s.graveAny || s.stalled)
  else { s with pulse := false, alive := false, onsetSeen := false }

/-- FAULT_HOLD has changed: after a pulse FAULT_N follows it (R527). -/
def State.holdChanged (s : State) : State :=
  if s.compat && s.onsetSeen && !s.pulse then { s with alive := !s.faultHold } else s

/-- The ALIVE bump: its level, or none while it is high impedance because VDD_AON is absent (R481). -/
def State.alivePin (s : State) : Option Bool := if s.vddAon then some s.alive else none

/-- ALIVE_CFG has been written; `old` is its word before. -/
def State.aliveWritten (s : State) (old : W32) : State :=
  if bitOf old 31 ≠ s.compat then s.modeChanged
  else if bitOf old 30 ≠ s.faultHold then s.holdChanged
  else s

/-! ### Acknowledgement (R512, R514) -/

/-- Every channel unit is changed in one way. -/
def State.updChans (s : State) (f : Chan → Chan) : State :=
  (List.range s.variant.scs).foldl (fun s n => s.updChan n f) s

/-- The sub-channels that an acknowledged source isolates no longer. -/
def State.unIsolate (s : State) (b : FaultRef) (src : Nat) : State :=
  s.updChans fun c => { c with isoBy := c.isoBy.filter (· != (faultBase b, src)) }

/-- Engines that the containment of a source holds offline are released; sequencer and service threads start again as soon
as they can (R72, R514). -/
def State.releaseEngines (s : State) (b : FaultRef) (src : Nat) : State :=
  match b with
  | .cluster c =>
    if src = 0 then { s with engHold := s.engHold.filter fun (e : Nat × Bool) => e.1 / 256 != c } else s
  | .chan n =>
    if src = 9 then { s with engHold := terase s.engHold (65536 + 256 * n) }.startThreads (.seq n)
    else if src = 10 then { s with engHold := terase s.engHold (131072 + 256 * n) }.startThreads (.svc n)
    else s
  | _ => s

/-- A sub-channel stopped by a persistent alert issues commands again once the source is acknowledged (R436, R515). -/
def State.alertAck (s : State) (b : FaultRef) (src : Nat) : State :=
  if b = .phy ∧ src = 1 then
    s.updChans fun c => { c with alert := if c.alert = 2 then 0 else c.alert }
  else s

/-- One source is acknowledged. -/
def State.ackSource (s : State) (b : FaultRef) (src : Nat) : State :=
  let s := (s.setFlag (faultBase b) src false).setFlag (faultBase b + 4) src false
  (((s.unIsolate b src).releaseEngines b src).alertAck b src).endIsolations

/-- The sources of a block whose bits of a word are 1, in rising order. -/
def srcBits (b : FaultRef) (v : W32) : List Nat := (List.range (sevReset b).length).filter fun i => bitOf v i

/-- A write of FLT_ACK (R512). -/
def State.ackWritten (s : State) (b : FaultRef) (v : W32) : State := (srcBits b v).foldl (fun s i => s.ackSource b i) s

/-! ### Injection and history (R516, R517) -/

/-- A write of FLT_FORCE (R516): events with their real reaction, in ascending source order. -/
def State.forceWritten (s : State) (b : FaultRef) (v : W32) : State :=
  (srcBits b v).foldl (fun s i => s.raiseF b i 0 0 true) s

/-- HIST_CLR (R517): SEQ goes on. -/
def State.histClear (s : State) (b : FaultRef) : State :=
  { s.setFld (faultBase b + 0x20) 12 8 0 with hist := terase s.hist (faultBase b) }

/-! ### Recovery (R522, R523) -/

/-- FLT_RECOVERIES.COUNT after one more recovery, and RECOVERY_MAX. -/
def State.nextRecovery (s : State) : Nat := min 255 (s.fld 0x1E14 7 0 + 1)
def State.recoveryMax (s : State) : Nat := s.fld 0x1E18 7 0

/-- The unit of a fault block resumes as though its EN had just been set (R522). -/
def State.graveResume (s : State) (b : FaultRef) : State :=
  let s := s.endIsolations
  match b with
  | .home => s.pump.portsGo
  | _ => s

/-- QUIET_PERIOD (R521 to R523): the quiet period of a block in GRAVE has passed. -/
def State.quietEnd (s : State) (b : FaultRef) : State :=
  if s.variant.graveAuto && decide (b ≠ .power) && b.present s.variant && s.grave b && s.refclk &&
      !s.flag (faultBase b + 0x1C) 30 then
    if s.nextRecovery > s.recoveryMax then s.setFlag (faultBase b + 0x1C) 30 true
    else ((s.setFlag (faultBase b + 0x1C) 31 false).setFld 0x1E14 7 0 s.nextRecovery).graveResume b
  else s

def execQuietPeriod (b : FaultRef) (s : State) : Host.Outcome State Fault Refusal := .next (s.quietEnd b)

end Sys2Proof.Machine
end

