-- ==== Sys2Proof/Machine/Alu.lean ====
section
/-! DEFINITION. Arithmetic, logic and branches (R86 to R91). -/

namespace Sys2Proof.Machine

/-! ### Register form (R86) -/

/-- A register operation whose fn must be 0. -/
def aluReg (f : W64 → W64 → W64) (s : State) (t : ThreadRef) (th : Thread) (w : W32) : Eff :=
  if fFn w ≠ 0 then .fault 1
  else .done (s.setThr t (th.setG (fD w) (f (th.getG (fA w)) (th.getG (fB w)))))

/-- A shift by g[b][5:0]. -/
def shiftBy (f : W64 → Nat → W64) (x y : W64) : W64 := f x (bitsOf y 5 0)

/-- ADD. -/
def execAdd (t : ThreadRef) (s : State) : Host.Outcome State Fault Refusal :=
  .next (s.issue t 0x00 allKinds anyWord fun s th w => aluReg (fun x y => x + y) s t th w)

/-- SUB. -/
def execSub (t : ThreadRef) (s : State) : Host.Outcome State Fault Refusal :=
  .next (s.issue t 0x01 allKinds anyWord fun s th w => aluReg (fun x y => x - y) s t th w)

/-- MUL. -/
def execMul (t : ThreadRef) (s : State) : Host.Outcome State Fault Refusal :=
  .next (s.issue t 0x02 allKinds anyWord fun s th w => aluReg (fun x y => x * y) s t th w)

/-- AND. -/
def execAnd (t : ThreadRef) (s : State) : Host.Outcome State Fault Refusal :=
  .next (s.issue t 0x03 allKinds anyWord fun s th w => aluReg (fun x y => x &&& y) s t th w)

/-- OR. -/
def execOr (t : ThreadRef) (s : State) : Host.Outcome State Fault Refusal :=
  .next (s.issue t 0x04 allKinds anyWord fun s th w => aluReg (fun x y => x ||| y) s t th w)

/-- XOR. -/
def execXor (t : ThreadRef) (s : State) : Host.Outcome State Fault Refusal :=
  .next (s.issue t 0x05 allKinds anyWord fun s th w => aluReg (fun x y => x ^^^ y) s t th w)

/-- SHL. -/
def execShl (t : ThreadRef) (s : State) : Host.Outcome State Fault Refusal :=
  .next (s.issue t 0x06 allKinds anyWord fun s th w => aluReg (shiftBy fun x n => x <<< n) s t th w)

/-- SHR. -/
def execShr (t : ThreadRef) (s : State) : Host.Outcome State Fault Refusal :=
  .next (s.issue t 0x07 allKinds anyWord fun s th w => aluReg (shiftBy fun x n => x >>> n) s t th w)

/-- SRA. -/
def execSra (t : ThreadRef) (s : State) : Host.Outcome State Fault Refusal :=
  .next (s.issue t 0x08 allKinds anyWord fun s th w => aluReg (shiftBy fun x n => x.sshiftRight n) s t th w)

/-- MIN and MAX: fn 0 signed, 1 unsigned. -/
def aluPick (signedF unsignedF : W64 → W64 → W64) (s : State) (t : ThreadRef) (th : Thread) (w : W32) : Eff :=
  let x := th.getG (fA w)
  let y := th.getG (fB w)
  match fFn w with
  | 0 => .done (s.setThr t (th.setG (fD w) (signedF x y)))
  | 1 => .done (s.setThr t (th.setG (fD w) (unsignedF x y)))
  | _ => .fault 1

/-- MIN. -/
def execMin (t : ThreadRef) (s : State) : Host.Outcome State Fault Refusal :=
  .next (s.issue t 0x09 allKinds anyWord fun s th w =>
    aluPick (fun x y => if x.sle y then x else y) (fun x y => if x.ule y then x else y) s t th w)

/-- MAX. -/
def execMax (t : ThreadRef) (s : State) : Host.Outcome State Fault Refusal :=
  .next (s.issue t 0x0A allKinds anyWord fun s th w =>
    aluPick (fun x y => if x.sle y then y else x) (fun x y => if x.ule y then y else x) s t th w)

/-- The relations of CMP. -/
def cmpRel (fn : Nat) (x y : W64) : Option Bool :=
  match fn with
  | 0 => some (x == y)
  | 1 => some (x != y)
  | 2 => some (x.slt y)
  | 3 => some (!x.slt y)
  | 4 => some (x.ult y)
  | 5 => some (!x.ult y)
  | _ => none

/-- CMP. -/
def execCmp (t : ThreadRef) (s : State) : Host.Outcome State Fault Refusal :=
  .next (s.issue t 0x0B allKinds anyWord fun s th w =>
    match cmpRel (fFn w) (th.getG (fA w)) (th.getG (fB w)) with
    | some r => .done (s.setThr t (th.setG (fD w) (if r then 1 else 0)))
    | none => .fault 1)

/-- SEL: fn[4:0] names g[c]; the other bits of fn are 0. -/
def execSel (t : ThreadRef) (s : State) : Host.Outcome State Fault Refusal :=
  .next (s.issue t 0x0C allKinds anyWord fun s th w =>
    if fFn w ≥ 32 then .fault 1
    else
      let x := if th.getG (fFn w) ≠ 0 then th.getG (fA w) else th.getG (fB w)
      .done (s.setThr t (th.setG (fD w) x)))

/-! ### Immediate form (R87, R88) -/

/-- An immediate operation: `ok` says which immediates it allows. -/
def aluImm (ok : W32 → Bool) (f : W64 → W32 → W64) (s : State) (t : ThreadRef) (th : Thread) (w : W32) : Eff :=
  if ok w then .done (s.setThr t (th.setG (fD w) (f (th.getG (fA w)) w))) else .fault 1

/-- A shift immediate is imm[5:0]; imm[15:6] is 0. -/
def shiftOk (w : W32) : Bool := decide (fImm w < 64)

/-- ADD (immediate). -/
def execAddImm (t : ThreadRef) (s : State) : Host.Outcome State Fault Refusal :=
  .next (s.issue t 0x10 allKinds anyWord fun s th w => aluImm anyWord (fun x w => x + immS w) s t th w)

/-- AND (immediate). -/
def execAndImm (t : ThreadRef) (s : State) : Host.Outcome State Fault Refusal :=
  .next (s.issue t 0x13 allKinds anyWord fun s th w => aluImm anyWord (fun x w => x &&& immZ w) s t th w)

/-- OR (immediate). -/
def execOrImm (t : ThreadRef) (s : State) : Host.Outcome State Fault Refusal :=
  .next (s.issue t 0x14 allKinds anyWord fun s th w => aluImm anyWord (fun x w => x ||| immZ w) s t th w)

/-- XOR (immediate). -/
def execXorImm (t : ThreadRef) (s : State) : Host.Outcome State Fault Refusal :=
  .next (s.issue t 0x15 allKinds anyWord fun s th w => aluImm anyWord (fun x w => x ^^^ immZ w) s t th w)

/-- SHL (immediate). -/
def execShlImm (t : ThreadRef) (s : State) : Host.Outcome State Fault Refusal :=
  .next (s.issue t 0x16 allKinds anyWord fun s th w => aluImm shiftOk (fun x w => x <<< fImm w) s t th w)

/-- SHR (immediate). -/
def execShrImm (t : ThreadRef) (s : State) : Host.Outcome State Fault Refusal :=
  .next (s.issue t 0x17 allKinds anyWord fun s th w => aluImm shiftOk (fun x w => x >>> fImm w) s t th w)

/-- SRA (immediate). -/
def execSraImm (t : ThreadRef) (s : State) : Host.Outcome State Fault Refusal :=
  .next (s.issue t 0x18 allKinds anyWord fun s th w => aluImm shiftOk (fun x w => x.sshiftRight (fImm w)) s t th w)

/-- LI: its a field is 0. -/
def execLi (t : ThreadRef) (s : State) : Host.Outcome State Fault Refusal :=
  .next (s.issue t 0x19 allKinds anyWord fun s th w =>
    aluImm (fun w => decide (fA w = 0)) (fun _ w => immS w) s t th w)

/-- LUI. -/
def execLui (t : ThreadRef) (s : State) : Host.Outcome State Fault Refusal :=
  .next (s.issue t 0x1A allKinds anyWord fun s th w => aluImm anyWord (fun x w => (x <<< 16) ||| immZ w) s t th w)

/-! ### Branches (R89 to R91) -/

/-- Where a branch by off goes. -/
def branchTo (th : Thread) (w : W32) : Int := (th.pc : Int) + bOff w

/-- BR: cond and a are 0 (R83, R89). -/
def execBr (t : ThreadRef) (s : State) : Host.Outcome State Fault Refusal :=
  .next (s.issue t 0x20 allKinds anyWord fun s th w =>
    if bCond w ≠ 0 ∨ bA w ≠ 0 then .fault 1 else .branch (branchTo th w) s)

/-- The conditions of BRC (R90). -/
def condHolds (cond : Nat) (x : W64) : Option Bool :=
  match cond with
  | 0 => some (x == 0)
  | 1 => some (x != 0)
  | 2 => some (x.slt 0)
  | 3 => some (!x.slt 0)
  | 4 => some ((0 : W64).slt x)
  | 5 => some (!(0 : W64).slt x)
  | 6 => some (bitOf x 0)
  | 7 => some (!bitOf x 0)
  | _ => none

/-- BRC. -/
def execBrc (t : ThreadRef) (s : State) : Host.Outcome State Fault Refusal :=
  .next (s.issue t 0x21 allKinds anyWord fun s th w =>
    match condHolds (bCond w) (th.getG (bA w)) with
    | none => .fault 1
    | some true => .branch (branchTo th w) s
    | some false => .done s)

/-- CALL: g31 takes PC + 1. -/
def execCall (t : ThreadRef) (s : State) : Host.Outcome State Fault Refusal :=
  .next (s.issue t 0x22 allKinds anyWord fun s th w =>
    if bCond w ≠ 0 ∨ bA w ≠ 0 then .fault 1
    else .branch (branchTo th w) (s.setThr t (th.setG 31 (BitVec.ofNat 64 (th.pc + 1)))))

/-- RET: d, b and fn are 0. -/
def execRet (t : ThreadRef) (s : State) : Host.Outcome State Fault Refusal :=
  .next (s.issue t 0x23 allKinds anyWord fun s th w =>
    if fD w ≠ 0 ∨ fB w ≠ 0 ∨ fFn w ≠ 0 then .fault 1 else .branch ((th.getG (fA w)).toNat : Int) s)

end Sys2Proof.Machine
end

