-- ==== Sys2Proof/Machine/CharmCmd.lean ====
section
/-! DEFINITION. The events of the charm unit (R272, R277, R278, R287, R291) and the end of a Locket invalidation (R218). -/

namespace Sys2Proof.Machine

/-- A window of the charm starts at this TBASE value (R272). -/
def State.windowStarts (s : State) (ch : Nat) : Bool :=
  decide (ch < 64 ∧ s.tbase.toNat % (100 * s.chWindow ch) = 0) && s.running

/-- WINDOW_START (R272): CH_USED becomes 0. -/
def State.windowStart (s : State) (ch : Nat) : State :=
  if s.windowStarts ch then s.setFld (chUsed ch) 23 0 0 else s

def execWindowStart (ch : Nat) (s : State) : Host.Outcome State Fault Refusal := .next (s.windowStart ch)

/-- RECOMPUTE_END (R277, R278): a recomputation that runs ends. -/
def State.recomputeEnd (s : State) : State := if s.flag 0x3008 2 && s.running then s.recompute else s

def execRecomputeEnd (s : State) : Host.Outcome State Fault Refusal := .next s.recomputeEnd

/-- SLOT_BOUNDARY (R287, R288). -/
def State.slotBoundary (s : State) : State := if s.trEn && s.running then s.trBoundary else s

def execSlotBoundary (s : State) : Host.Outcome State Fault Refusal := .next s.slotBoundary

/-- SAMPLE (R291): a PERIOD of 0 stops sampling. -/
def State.sampleNow (s : State) : State :=
  if decide (s.fld 0x3028 15 0 ≠ 0) && s.running then s.sampleAll else s

def execSample (s : State) : Host.Outcome State Fault Refusal := .next s.sampleNow

/-- INVAL_END (R218): INVAL reads 0 again. -/
def State.invalEnd (s : State) : State := if s.running then s.setFlag 0x700C 0 false else s

def execInvalEnd (s : State) : Host.Outcome State Fault Refusal := .next s.invalEnd

end Sys2Proof.Machine
end

