-- ==== Sys2Proof/Machine/Mover.lean ====
section
/-! DEFINITION. The fixed functions of the service engines: the migration mover (R231 to R240), the seed filler (R382 to
R386) and the patrol scrubber (R389, R390). -/

namespace Sys2Proof.Machine

/-! ### The migration mover -/

/-- The line at MIG_WM. -/
def State.wmLine (s : State) : Nat := s.reg2 migWm / 64

/-- The end of the walk as it acts: a MIG_END below MIG_WM takes effect as MIG_WM (R236). -/
def State.migLimit (s : State) : Nat := max (s.reg2 migEnd) (s.reg2 migWm)

/-- The line the mover handles next: the one after the highest in flight, or the line at MIG_WM. -/
def State.moverLine (s : State) : Nat := s.moves.foldl (fun a m => max a (m.line + 1)) s.wmLine

/-- The swap of R240, in one step, once MIG_WM has reached the greater limit. -/
def State.swap (s : State) : State :=
  let s := (List.range 14).foldl (fun s i => s.setReg (genCur + 4 * i) (s.reg (genNext + 4 * i))) s
  let s := (s.setFlag genNext 31 false).setReg2 migWm 0
  (s.setFlag migStatus 0 false).setFlag migStatus 2 true

/-- MIG_WM stands at an address; the swap follows where it has reached the end of both generations (R240). -/
def State.setWm (s : State) (a : Nat) : State :=
  let s := s.setReg2 migWm a
  if a ≥ max (s.gen genCur).limit (s.gen genNext).limit then s.swap else s

/-- Where the skip of step 1 or 2 of R232 leads from a line; none where the line is to be moved. -/
def State.moverSkip (s : State) (n : Nat) : Option Nat :=
  let c := s.gen genCur
  let x := s.gen genNext
  let a := 64 * n
  let g := min c.g x.g
  if (s.placeIn c n).isNone || c.translate a == x.translate a then some (min s.migLimit ((a / g + 1) * g))
  else if s.unwritten (plotOf n) && !s.sprouting (plotOf n) then some (min s.migLimit ((plotOf n + 1) * 1048576))
  else none

/-- The sub-channel that keeps the mover waiting at a line (R239): that of its CURRENT or of its NEXT place. -/
def State.moverWaits (s : State) (n : Nat) : Option Nat :=
  let sc := fun b => (s.placeIn (s.gen b) n).toList.map fun p => p.sc
  (sc genCur ++ sc genNext).find? fun k => !s.scReady k

/-- MIG_STATUS.WAIT_SPROUT (R232 step 3, R241). -/
def State.waitSprout (s : State) (b : Bool) : State := s.setFlag migStatus 6 b

/-- MIG_CTRL.PAUSE (R236). -/
def State.migPaused (s : State) : Bool := s.flag migCtrl 1

/-- The mover works: a migration is active and not paused, and its next line lies before MIG_END (R232, R236). -/
def State.moverOn (s : State) : Bool :=
  s.flag migStatus 0 && !s.migPaused && s.running && decide (64 * s.moverLine < s.migLimit)

/-- The sub-channel that keeps a line in flight from its read or its write queue (R239). -/
def State.moveWaits (s : State) (m : Move) : Option Nat :=
  let p := if m.phase = 1 then s.place m.line else if m.phase = 3 then s.placeIn (s.gen genNext) m.line else none
  (p.filter fun p => !s.scReady p.sc).map fun p => p.sc

/-- The sub-channel that the mover awaits, as WAIT_SC and WAIT_SC_NUM show it: for its lowest line in flight that waits, or for
its next line (R239, R241). -/
def State.waitSc (s : State) : Option Nat :=
  (s.moves.findSome? s.moveWaits).or
    (if s.moverOn && (s.moverSkip s.moverLine).isNone && !s.sprouting (plotOf s.moverLine) then s.moverWaits s.moverLine
     else none)

/-- A transaction holds a line from line `lo` up to address `a` blocked. -/
def State.blockedTo (s : State) (lo a : Nat) : Bool := s.trks.any fun t => decide (lo ≤ t.line ∧ 64 * t.line < a)

/-- Steps 1 to 4 of R232 at the mover's next line. A skip waits while the home holds a line that MIG_WM would pass blocked (R12,
R28). -/
def State.moverAt (s : State) (n : Nat) : State :=
  match s.moverSkip n with
  | some a => if s.moves.isEmpty && !s.blockedTo n a then (s.waitSprout false).setWm a else s
  | none =>
    if s.sprouting (plotOf n) then s.waitSprout true
    else if (s.moverWaits n).isSome then s.waitSprout false
    else
      let r := Req.mk0 .block .move n
      if s.moves.length ≤ s.fld migCtrl 11 8 && s.mayEnter r then
        let m : Move := { line := n, phase := 0, data := 0, hm := 0, poison := false }
        { s.waitSprout false with moves := s.moves ++ [m] }.enter 0 r
      else s

/-- MIGRATION_STEP (R232, R233, R236): the mover works on a migration that is active and not paused, up to MIG_END. -/
def State.migrationStep (s : State) : State := if s.moverOn then s.moverAt s.moverLine else s

def execMigrationStep (s : State) : Host.Outcome State Fault Refusal := .next s.migrationStep

/-- WATERMARK_ADVANCE (R232 step 6, R13): the lowest line in flight holds its write queue entry; MIG_WM passes it and the
home releases it to its waiters; an allocation that found its set's ways blocked by it looks again first (R325). -/
def State.watermarkAdvance (s : State) : State :=
  match s.moves with
  | m :: rest =>
    if s.running && m.phase == 4 then (({ s with moves := rest }.setWm (64 * (m.line + 1))).retryWays).pump else s
  | [] => s

def execWatermarkAdvance (s : State) : Host.Outcome State Fault Refusal := .next s.watermarkAdvance

/-! ### The seed filler -/

/-- The physical line at index `n` of a plot. -/
def plotLine (plot n : Nat) : Nat := plot * 16384 + n

/-- The next line of a slot that the filler writes: it skips lines of the early-write table and lines with a decode error
(R382). `fuel` bounds the lines of the plot. -/
def State.fillNext (s : State) (plot : Nat) : Nat → Nat → Nat
  | 0, n => n
  | fuel + 1, n =>
    if n ≥ 16384 then n
    else if s.ewt.contains (plotLine plot n) || (s.place (plotLine plot n)).isNone then s.fillNext plot fuel (n + 1)
    else n

/-- Slots that can issue a fill write: up to 16 in flight per plot (R382). -/
def State.canFill (s : State) (slot : Nat) : Bool :=
  (s.sprout slot).elim false fun p => decide (p.next < 16384 ∧ p.fly.length < 16)

/-- A slot issues the fill write of its next line, unless its sub-channel is not ready (R382). -/
def State.fillSlot (s : State) (slot : Nat) (p : Sprout) : State :=
  let n := s.fillNext p.plot (16384 - p.next) p.next
  let s := { s with fillTurn := (slot + 1) % 4 }
  if n ≥ 16384 then s.setSprout slot { p with next := 16384 }
  else if (s.place (plotLine p.plot n)).elim false fun q => s.scReady q.sc then
    s.setSprout slot { p with next := n + 1, fly := p.fly ++ [n] }
  else s.setSprout slot { p with next := n }

/-- SEED_FILL_WRITE (R382): the slots are served in rotation. -/
def State.seedFillWrite (s : State) : State :=
  match ((List.range 4).map fun i => (s.fillTurn + i) % 4).find? s.canFill with
  | some i => if s.running then (s.sprout i).elim s (s.fillSlot i) else s
  | none => s

def execSeedFillWrite (s : State) : Host.Outcome State Fault Refusal := .next s.seedFillWrite

/-- Writes that wait for a slot, for a table entry or for a fill write look again, in order (R381, R383, R386). -/
def State.seedWake (s : State) : State :=
  (s.trks.filter fun t => t.stage == .sprout || t.stage == .ewt || t.stage == .fill).foldl
    (fun s t => match s.trk t.line with
      | some t => if t.stage == .sprout || t.stage == .ewt || t.stage == .fill then s.memWrite t else s
      | none => s) s

/-- FP passes its line; a table entry of the line is freed, and a plot whose last line it was is written (R382, R386). -/
def State.fpPass (s : State) (slot : Nat) (p : Sprout) : State :=
  let s := { s with ewt := s.ewt.filter (· != plotLine p.plot p.fp) }
  let p' := { p with fp := p.fp + 1, next := max p.next (p.fp + 1), fly := p.fly.filter (· != p.fp) }
  let s := if p'.fp ≥ 16384 then { s with sprouts := terase s.sprouts slot } else s.setSprout slot p'
  s.seedWake

/-- The zero line of a fill write takes its queue entry, unless its sub-channel takes no requests (R242, R267, R382). -/
def State.fillQueue (s : State) (line : Nat) : Option State :=
  match s.place line with
  | some q => if s.scOpen q.sc then s.queueWrite (.fill line) 5 line q s.blockStamp 0 (hallmark 0) false true else none
  | none => some s

/-- FP_ADVANCE (R382): FP stands at a line whose fill write takes its queue entry, or at one that needs none. -/
def State.fpAdvance (s : State) (slot : Nat) : State :=
  match s.sprout slot with
  | none => s
  | some p =>
    let line := plotLine p.plot p.fp
    if s.running = false then s
    else if p.fly.contains p.fp then (s.fillQueue line).elim s fun s => s.fpPass slot p
    else if s.ewt.contains line || (s.place line).isNone then s.fpPass slot p
    else s

def execFpAdvance (slot : Nat) (s : State) : Host.Outcome State Fault Refusal := .next (s.fpAdvance slot)

/-! ### The patrol scrubber -/

/-- SCRUB_CFG, SCRUB_PASSES and SCRUB_POS (R395). -/
def scrubCfg : Nat := 0x3C300
def scrubPasses : Nat := 0x3C304
def scrubPos : Nat := 0x3C308

/-- Lines that a walk covers: up to the greater of CURRENT.LIMIT and NEXT.LIMIT (R389). -/
def State.scrubLines (s : State) : Nat := max (s.gen genCur).limit (s.gen genNext).limit / 64

/-- A scrub read or its write-back is outstanding. -/
def State.scrubBusy (s : State) : Bool :=
  ((List.range s.variant.scs).any fun n => (s.chan n).ents.any fun e => e.rq == 4) ||
    s.scrubWb.isSome || (s.pool.any fun r => r.kind == ReqKind.scrubWr) || (s.homeQ.any fun r => r.kind == ReqKind.scrubWr) ||
    s.trks.any fun t => t.req.kind == ReqKind.scrubWr

/-- The scrubber reads a line, or skips it (R389). -/
def State.scrubRead (s : State) (n : Nat) : State :=
  if s.unwritten (plotOf n) || s.sprouting (plotOf n) || s.inReserve n then s
  else
    match s.place n with
    | some p =>
      if s.scReady p.sc then s.enqueue p.sc { QEnt.mk0 (.scrub n) false 4 n p s.blockStamp 0 with cipher := true } else s
    | none => s

/-- A walk starts; its line count is taken from the limits as they now stand. -/
def State.scrubStart (s : State) : State := { s.setReg2 scrubPos 0 with scrubLine := some 0, scrubN := s.scrubLines }

/-- The slot of the next line begins: the walk goes on, or a finished walk is counted and the next one starts. -/
def State.scrubNext (s : State) : State :=
  match s.scrubLine with
  | none => s.scrubStart
  | some n =>
    if n + 1 ≥ s.scrubN then (s.setReg scrubPasses (s.reg scrubPasses + 1)).scrubStart
    else { s.setReg2 scrubPos (64 * (n + 1)) with scrubLine := some (n + 1) }

/-- SCRUB_SLOT (R389): the slot of the next line begins. -/
def State.scrubSlot (s : State) : State :=
  if s.flag scrubCfg 0 && s.running && !s.clustersStopped && decide (0 < s.scrubLines) && !s.scrubBusy then
    let s := { s.scrubNext with scrubDirty := false }
    s.scrubLine.elim s s.scrubRead
  else s

def execScrubSlot (s : State) : Host.Outcome State Fault Refusal := .next s.scrubSlot

end Sys2Proof.Machine
end

