-- ==== Sys2Proof/Machine/Pads.lean ====
section
/-! DEFINITION. PHY groups and slots: pad holding (R444 to R447), host calibration (R434), the module sideband (R438 to
R442) and the presence of a module (R451). -/

namespace Sys2Proof.Machine

/-! ### Pad holding -/

/-- A rank of either sub-channel of a slot's module is in self-refresh (R445). -/
def State.moduleAsleep (s : State) (slot : Nat) : Bool :=
  [2 * slot, 2 * slot + 1].any fun n => [0, 1].any fun r => ((s.chan n).rank r).selfRefresh

/-- A group becomes held, in Float if MODE reads 1; while its module is in self-refresh it takes Latch and FORCED is set (R444
to R446). -/
def State.holdPads (s : State) (g : Nat) : State :=
  if s.held g then s
  else
    let asleep := s.moduleAsleep (g / 2)
    let s := { s.setFlag (padReg g) 2 true with padFloat := tset false s.padFloat g (s.flag (padReg g) 0 && !asleep) }
    if asleep then s.setFlag (padReg g) 4 true else s

/-- DRST_n of the slots takes SLOT_CTRL.DRST_N, and goes out where it changes; once both of a slot's groups are held it keeps
the last level driven (R443, R444). While one of them is held alone it still follows the register (DESIGN CHOICE, log entry
93). -/
def State.drstFollow (s : State) : State :=
  (List.range s.variant.slots).foldl (fun s n =>
    let level := s.flag (0x38400 + 0x20 * n) 0
    if (s.held (2 * n) && s.held (2 * n + 1)) || tget false s.drst n == level then s
    else { s with drst := tset false s.drst n level }.emit (.drst n level)) s

/-- HOLD = 1 (R446): none unless the sub-channel is disabled and not populated. -/
def State.padHold (s : State) (g : Nat) : Option State :=
  if s.disabled (.chan g) && !s.populated g then some (s.holdPads g) else none

/-- RELEASE = 1 (R447): none while the group is not held or its logic has no power. -/
def State.padRelease (s : State) (g : Nat) : Option State :=
  if s.held g && s.rails.contains .phy then
    let s := s.setFlag (padReg g) 2 false
    some { s with padFloat := terase s.padFloat g, padQuiet := tset false s.padQuiet g true }.drstFollow
  else none

/-- The bumps of a group and its slot (R428, R429). -/
inductive Pad where
  | dckT
  | dckC
  | dcs
  | dca
  | dpar
  | dq
  | dqs
  | alertN
  | zq
  | drstN
  | hscl
  | hsda
  | prsntN
deriving DecidableEq, Repr

/-- What a bump does: a level, high impedance, an input that is ignored or read, an open-drain line released, or whatever the
unit's commands and clock drive (R444, R447). -/
inductive PadDrive where
  | level (high : Bool)
  | highZ
  | ignored
  | released
  | read
  | active
deriving DecidableEq, Repr

/-- The levels that Latch holds (R444). -/
def latchDrive (drst : Bool) : Pad → PadDrive
  | .dckT => .level false
  | .dckC => .level true
  | .dcs => .level true
  | .dca => .level false
  | .dpar => .level false
  | .dq => .highZ
  | .dqs => .highZ
  | .alertN => .ignored
  | .zq => .ignored
  | .drstN => .level drst
  | .hscl => .released
  | .hsda => .released
  | .prsntN => .read

/-- The pads that Float leaves at high impedance (R444); DRST_n only with both of the slot's groups. -/
def floatDrive (both : Bool) (drst : Bool) (p : Pad) : PadDrive :=
  match p with
  | .dckT | .dckC | .dcs | .dca | .dpar => .highZ
  | .drstN => if both then .highZ else .level drst
  | p => latchDrive drst p

/-- What a bump of group `g` does now (R444, R445, R447): a held group as Latch or Float says, a released one the levels of
Latch on its command bumps until its first command. -/
def State.padDrive (s : State) (g : Nat) (p : Pad) : PadDrive :=
  let drst := tget false s.drst (g / 2)
  let float := tget false s.padFloat
  if s.held g then
    (if float g then floatDrive (float (2 * (g / 2)) && float (2 * (g / 2) + 1)) drst p else latchDrive drst p)
  else
    match p with
    | .drstN => .level drst
    | .prsntN => .read
    | .dckT | .dckC | .dcs | .dca | .dpar | .dq | .dqs => if tget false s.padQuiet g then latchDrive drst p else .active
    | .alertN | .zq | .hscl | .hsda => .active

/-! ### Host calibration (R434) -/

/-- A group calibrates when its logic powers up, and then, while the PHY unit is enabled, at the end of each interval. The
interval in progress runs out under the HZQ_MS it began with; with none in progress, a value other than 0 begins one (R434,
R453, R455). -/
def State.calDue (s : State) (g : Nat) : Bool :=
  match tfind s.zqMs g with
  | none => true
  | some ms => s.en .phy && (decide (ms ≠ 0) || decide (s.fld 0x38004 7 0 ≠ 0))

/-- HOST_CALIBRATION: the codes of a group change, or the result falls outside the range and the source is raised; the next
interval begins (R434). -/
def State.hostCal (s : State) (g : Nat) (code : Option Nat) : State :=
  if s.running && s.rails.contains .phy && decide (g < s.variant.scs) && s.calDue g then
    let s := { s with zqMs := tput s.zqMs g (s.fld 0x38004 7 0) }
    match code with
    | some c => { s with zqCodes := tput s.zqCodes g c }
    | none => s.raise .phy 2 3 g
  else s

def execHostCalibration (g : Nat) (code : Option Nat) (s : State) : Host.Outcome State Fault Refusal :=
  .next (s.hostCal g code)

/-! ### The module sideband -/

/-- SLOT_CTRL, SB_CMD, SB_WDATA, SB_RDATA and SB_STATUS of a slot (R452). -/
def slotCtrl (n : Nat) : Nat := 0x38400 + 0x20 * n
def sbCmdReg (n : Nat) : Nat := 0x38404 + 0x20 * n
def sbWdata (n : Nat) : Nat := 0x38408 + 0x20 * n
def sbRdata (n : Nat) : Nat := 0x3840C + 0x20 * n
def sbStatus (n : Nat) : Nat := 0x38410 + 0x20 * n

/-- Data bytes of a transfer: LEN_M1 + 1. -/
def sbLen (cmd : W32) : Nat := bitsOf cmd 27 26 + 1

/-- The register address, or the common command code, that follows the first address byte (R438, R454). -/
def sbHead (cmd : W32) : List Nat :=
  let a := bitsOf cmd 22 16
  if bitOf cmd 28 then
    (if a = 0x7E then [0xFC, bitsOf cmd 7 0] else [0xFC, bitsOf cmd 7 0, 2 * a + b2n (bitOf cmd 30)])
  else if bitOf cmd 24 then [2 * a, bitsOf cmd 7 0, bitsOf cmd 15 8]
  else [2 * a, bitsOf cmd 7 0]

/-- The bytes the controller sends before the data of a read (R438). -/
def sbAddr (cmd : W32) : List Nat :=
  let a := bitsOf cmd 22 16
  if bitOf cmd 30 && !bitOf cmd 28 then sbHead cmd ++ [2 * a + 1] else sbHead cmd

/-- Every byte the controller sends: address bytes, and for a write its data and, if asked for, its PEC (R438, R440). -/
def sbBytes (cmd wdata : W32) : List Nat :=
  if bitOf cmd 30 then sbAddr cmd
  else
    let b := sbAddr cmd ++ (List.range (sbLen cmd)).map fun i => bitsOf wdata (8 * i + 7) (8 * i)
    if bitOf cmd 29 then b ++ [pec b] else b

/-- GO = 1 (R440, R453): none while the unit is disabled or a transfer is in progress. -/
def State.sbGo (s : State) (slot : Nat) : Option State :=
  if s.en .phy = false ∨ (tfind s.sbCmd slot).isSome = true then none
  else
    let cmd := s.reg (sbCmdReg slot)
    let s' := s.setFlag (sbCmdReg slot) 31 true
    some ({ s' with sbCmd := tput s'.sbCmd slot cmd }.emit
      (.sideband slot ((sbBytes cmd (s.reg (sbWdata slot))).map (BitVec.ofNat 8))))

/-- A received packet error check byte does not match (R438, R440). -/
def pecBad (cmd : W32) (r : SbResult) : Bool :=
  bitOf cmd 30 && bitOf cmd 29 && !r.nack &&
    decide (pec (sbAddr cmd ++ (r.data.take (sbLen cmd)).map BitVec.toNat) ≠ r.pec.toNat)

/-- SIDEBAND_DONE (R440): GO reads 0 again, DONE is set with NACK or PEC_ERR, and a read places its bytes. -/
def State.sbDone (s : State) (slot : Nat) (r : SbResult) : State :=
  match tfind s.sbCmd slot with
  | none => s
  | some cmd =>
    if s.running = false then s
    else
      let s := { s.setFlag (sbCmdReg slot) 31 false with sbCmd := terase s.sbCmd slot }
      let s := s.setFlag (sbStatus slot) 0 true
      let s := if r.nack then s.setFlag (sbStatus slot) 1 true else s
      let s := if pecBad cmd r then s.setFlag (sbStatus slot) 2 true else s
      if bitOf cmd 30 && !r.nack then
        s.setReg (sbRdata slot) (BitVec.ofNat 32 (((r.data.take (sbLen cmd)).foldr (fun b a => b.toNat + 256 * a) 0)))
      else s

def execSidebandDone (slot : Nat) (r : SbResult) (s : State) : Host.Outcome State Fault Refusal := .next (s.sbDone slot r)

/-- IBI (R441): in I3C mode, on an idle bus, the mandatory byte and the address are stored and IBI is set. -/
def State.ibiIn (s : State) (slot : Nat) (addr : BitVec 7) (mdb : BitVec 8) : State :=
  if s.running && decide (slot < s.variant.slots) && s.flag (slotCtrl slot) 2 && (tfind s.sbCmd slot).isNone then
    ((s.setFld (sbStatus slot) 23 16 mdb.toNat).setFld (sbStatus slot) 14 8 addr.toNat).setFlag (sbStatus slot) 3 true
  else s

def execIbi (slot : Nat) (addr : BitVec 7) (mdb : BitVec 8) (s : State) : Host.Outcome State Fault Refusal :=
  .next (s.ibiIn slot addr mdb)

/-! ### Presence (R429, R451) -/

/-- PRESENT_SAMPLE: PRESENT follows two equal samples of PRSNT_n, which is low while a module is present. -/
def State.presentSample (s : State) (slot : Nat) (level : Bool) : State :=
  if s.running && decide (slot < s.variant.slots) then
    let same := decide (tfind s.prsnt slot = some level)
    let s := { s with prsnt := tput s.prsnt slot level }
    if same then s.setFlag (sbStatus slot) 4 (!level) else s
  else s

def execPresentSample (slot : Nat) (level : Bool) (s : State) : Host.Outcome State Fault Refusal :=
  .next (s.presentSample slot level)

end Sys2Proof.Machine
end

