-- ==== Sys2Proof/Machine/Reset.lean ====
section
/-! DEFINITION. What the resets (R493 to R495) and the loss of the logic domain's power (R530, R533, R534) leave. -/

namespace Sys2Proof.Machine

/-! ### The always-on domain -/

/-- Register words of the always-on domain that BLK_RST_N does not reset: the power window with its alive and fault
registers, the clock root, and UNLOCK_SEQ (R492, R529, R553, R571). -/
def aonWord (a : Nat) : Bool := (0x1000 ≤ a && a < 0x2000) || a == 0x38100 || a == 0x38104 || a == 0x200C

/-- The listed register words that satisfy a condition are copied over those of another state. -/
def State.copyRegs (s : State) (p : Nat → Bool) (src : Tab W32) : State :=
  (src.filter fun e => p e.1).foldl (fun s e => s.setReg e.1 e.2) s

/-- The groups that are held stay held, in Latch or Float, until they are released (R447). -/
def State.copyHeld (s old : State) : State :=
  let s := (List.range s.variant.scs).foldl (fun s g => if old.held g then s.setFlag (padReg g) 2 true else s) s
  { s with padFloat := old.padFloat, padQuiet := old.padQuiet, drst := old.drst }

/-- A ring stop whose ATTACH_READY has fallen; what its attach slice held is lost (R474). -/
def Stop.bypassed (r : Stop) : Stop := { r with attached := false, slice := [] }

/-- Ports keep nothing but the level of SP_RST_N, which is an input. -/
def SPort.cold (p : SPort) : SPort := { SPort.init with link := p.link }

/-- The debug level that a lifecycle has after BLK_RST_N (R556). -/
def levelOf (lc : Nat) : Nat := if lc = 2 then 0 else 2

/-- The state of the units at reset, with what does not depend on the block's power: inputs, the pass-through slices, the
queue of commands and the model's own counters. -/
def State.cold (s : State) : State :=
  { State.resetOf s.variant with
    pending := s.pending, free := s.free, out := s.out, nextId := s.nextId, refclk := s.refclk, rails := s.rails,
    stops := tmap Stop.init Stop.bypassed s.stops,
    sports := tmap SPort.init SPort.cold s.sports,
    tprio := s.tprio, tsleep := s.tsleep, regs := [] }

/-- The state after BLK_RST_N has fallen: the always-on domain keeps its registers, TBASE, the power unit and the
lifecycle; everything else is at reset (R493, R495, R507, R529, R571). -/
def State.blkReset (s : State) : State :=
  let c := { s.cold with
    tbase := s.tbase, inReset := true, relockTo := s.relockTo, wantElapsed := s.wantElapsed, pwr := s.pwr, wakeEv := s.wakeEv, byPc := s.byPc,
    portsStopped := s.portsStopped, clustersStopped := s.clustersStopped, stopsLowered := s.stopsLowered,
    alive := s.alive, pulse := s.pulse, onsetSeen := s.onsetSeen, vddAon := s.vddAon, zqCodes := s.zqCodes, zqMs := s.zqMs,
    hist := s.hist.filter fun e => e.1 == faultBase .power }
  let c := (c.copyRegs aonWord s.regs).copyHeld s
  let c := (c.setFld 0x1E0C 3 2 0).setFld 0x2000 31 30 s.lifecycle
  (c.setFld 0x2000 29 28 (levelOf s.lifecycle)).drstFollow

/-- The state after AON_RST_N has fallen: everything is at reset, and the PLL has not yet locked (R488, R493). -/
def State.aonReset (s : State) : State := ({ s.cold with inReset := true }.copyHeld s).drstFollow

/-! ### Retention (R532 to R534) -/

/-- RETAIN_MASK. -/
def State.retainMask (s : State) : W64 := BitVec.ofNat 64 (s.reg2 0x1008)

/-- Every bank from `lo` to `hi` is retained. -/
def retained (mask : W64) (lo hi : Nat) : Bool := (List.range (hi + 1 - lo)).all fun i => bitOf mask (lo + i)

/-- The SRAM bank that holds the instruction store of a bank owner (R532). -/
def storeBank (v : Variant) : BankRef → Nat
  | .cluster n => v.pick 44 28 12 + n / 2
  | .seq n => v.pick 50 32 14 + n / 8
  | .svc n => v.pick 53 34 15 + n / 8

/-- The banks of the Locket, the Seed Map and the context table, first and last (R532). -/
def locketBanks (v : Variant) : Nat × Nat := (0, v.pick 43 27 11)
def seedBanks (v : Variant) : Nat × Nat := (v.pick 56 36 16, v.pick 57 37 16)
def ctxBanks (v : Variant) : Nat × Nat := (v.pick 58 38 17, v.pick 59 38 17)

/-- The state bank is retained. -/
def stateKept (v : Variant) (m : W64) : Bool := bitOf m v.stateBank

/-- Every owner of two instruction banks. -/
def bankOwners (v : Variant) : List BankRef :=
  (List.range v.clusters).map .cluster ++ (List.range v.scs).map .seq ++ (List.range v.scs).map .svc

/-- Bits of a word that are ST or LV fields: those that the save area holds (R534). -/
def savedBits (v : Variant) (a : Nat) : Nat :=
  match locate v a with
  | some (w, o) =>
    ((regFlds v w o).filter fun f => f.cls = .st || f.cls = .lv).foldl
      (fun m f => m + (2 ^ (f.hi + 1 - f.lo) - 1) * 2 ^ f.lo) 0
  | none => 0

/-- Register words that the save area holds: unit windows up to PHY global but for the always-on windows, MBOX12 and the
fault blocks, and the enable, target and class settings of the interrupt controller (R524, R534). -/
def savedWord (v : Variant) (a : Nat) : Bool :=
  (a < 0x40000 && !(0x1000 ≤ a && a < 0x3000) && a != 0x38100 && a != 0x38104 && a != 0x18 && a != 0x20 && a != 0x24 &&
    !((0x34000 ≤ a && a < 0x36000) && a % 0x100 == 0x70) &&
    !((faultBlocks v).any fun b => decide (faultBase b ≤ a ∧ a < faultBase b + 0x80))) ||
  a == 0x40000 || (0x40100 ≤ a && a < 0x40140) || (0x40800 ≤ a && a < 0x41000)

/-- The sparing status and the rest of what a channel unit saves (R403, R534). -/
def chanSave (c : Chan) : Nat × Bool × Nat × Nat := (c.spare, c.cleared, c.fails, c.lastReason)

/-- What step 5 of an entry to DOZE saves (R534). -/
def State.saveArea (s : State) : Saved :=
  { regs := s.regs.filter fun e => savedWord s.variant e.1, knobs := s.live,
    chans := s.chans.map fun e => (e.1, chanSave e.2), retain := s.retainMask }

/-- A rank that stays in self-refresh while the block sleeps. -/
def Rank.dozing (r : Rank) : Rank := { Rank.init with selfRefresh := r.selfRefresh }

/-- A channel unit through DOZE: only its ranks' self-refresh is left (R549). -/
def Chan.dozing (c : Chan) : Chan :=
  { Chan.init with ranks := tmap Rank.init Rank.dozing c.ranks }

/-- The registers of a bank owner that live with its banks: BANKn_INFO and the graft status (R149, R532). -/
def ownerWord (b : BankRef) (a : Nat) : Bool :=
  a == bankBase b + 0x8 || a == bankBase b + 0xC || a == bankBase b + 0x10

/-- A key of the instruction store belongs to a bank owner. -/
def ownerKey (b : BankRef) (k : Nat) : Bool := k / 16384 == storeKey b 0 0 / 16384

/-- Words that structures in retained banks keep: the context table, the banks' state, and in the state bank the frame
records, the charm window and the Trellis banks (R532, R533). -/
def sramWord (v : Variant) (m : W64) (a : Nat) : Bool :=
  (0x100000 ≤ a && a < 0x140000 && retained m (ctxBanks v).1 (ctxBanks v).2) ||
    (stateKept v m && ((0x140000 ≤ a && a < 0x150000) || (0x3000 ≤ a && a < 0x6000))) ||
    (bankOwners v).any fun b => ownerWord b a && bitOf m (storeBank v b)

/-- Words of the security window and LOCK, which the always-on domain keeps through DOZE (R54, R530, R571). -/
def dozeWord (a : Nat) : Bool := aonWord a || (0x2000 ≤ a && a < 0x3000) || a == 0x18

/-- Keys survive the sleep (R556, R568). -/
def State.keysKept (s : State) (m : W64) : Bool :=
  stateKept s.variant m && (s.lifecycle == 1 || (s.lifecycle == 2 && s.flag 0x2004 1))

/-- The state in DOZE, or with a mask of 0 in OFF, once step 6 has ended: the logic domain's state is lost, the banks of
the mask keep theirs (R530, R533). -/
def State.powerLost (s : State) (m : W64) : State :=
  let v := s.variant
  let kept := (bankOwners v).filter fun b => bitOf m (storeBank v b)
  let c := { s.cold with
    tbase := s.tbase, wantElapsed := s.wantElapsed, pwr := s.pwr, wakeEv := s.wakeEv, byPc := s.byPc,
    alive := s.alive, pulse := s.pulse, onsetSeen := s.onsetSeen, vddAon := s.vddAon, wdArmed := s.wdArmed, prsnt := s.prsnt,
    hist := s.hist.filter fun (e : Nat × List HistEnt) => e.1 == faultBase .power || e.1 == faultBase .security,
    saved := if stateKept v m then s.saved else none,
    chans := tmap Chan.init Chan.dozing s.chans,
    locket := if retained m (locketBanks v).1 (locketBanks v).2 then s.locket else [],
    tagBad := if retained m (locketBanks v).1 (locketBanks v).2 then s.tagBad else [],
    plots := if retained m (seedBanks v).1 (seedBanks v).2 then s.plots else [],
    ctxs := if retained m (ctxBanks v).1 (ctxBanks v).2 then s.ctxs else [],
    store := s.store.filter fun (e : Nat × W32) => kept.any fun b => ownerKey b e.1,
    keys := if s.keysKept m then s.keys else [], keyBeats := s.keyBeats, keySlot := s.keySlot,
    token := s.token, authLevel := s.authLevel, trAt := if stateKept v m then s.trAt else 0 }
  let c := (c.copyRegs (fun a => dozeWord a || sramWord v m a) s.regs).copyHeld s
  (List.range v.scs).foldl (fun c g => if s.flag (padReg g) 4 then c.setFlag (padReg g) 4 true else c) c

/-! ### The write-back at wake (R534, R546 step 4, R549) -/

/-- A saved word is written back: its ST and LV fields, regardless of LOCK (R570). -/
def State.restoreWord (s : State) (a : Nat) (w : W32) : State :=
  let m := savedBits s.variant a
  s.setReg a (BitVec.ofNat 32 (Nat.lor (Nat.land w.toNat m) ((s.reg a).toNat - Nat.land (s.reg a).toNat m)))

/-- A channel unit takes its saved status and rewrites MBOX12 (R534). -/
def State.restoreChan (s : State) (sc : Nat) (x : Nat × Bool × Nat × Nat) : State :=
  s.updChan sc fun c => { c with spare := x.1, cleared := x.2.1, fails := x.2.2.1, lastReason := x.2.2.2 }

/-- Every unit that has a UNIT_CTRL (R42). -/
def allUnits (v : Variant) : List UnitRef :=
  [.home, .locket, .phy] ++ (List.range v.ports).map .port ++ (List.range v.scs).map .chan ++
    (List.range v.clusters).map .cluster ++ (List.range v.scs).map .seq ++ (List.range v.scs).map .svc

/-- The state bank is written back; QUIESCED of an enabled unit is 0 (R43). -/
def State.writeBackSaved (s : State) : State :=
  match s.saved with
  | none => s
  | some v =>
    let s := v.regs.foldl (fun s e => s.restoreWord e.1 e.2) s
    let s := v.chans.foldl (fun s e => s.restoreChan e.1 e.2) s
    let s := (allUnits s.variant).foldl (fun s u => if s.en u then s.setFlag (unitCtrl u) 1 false else s) s
    { s with live := v.knobs, saved := none }

/-- Every function of R496 that initialises by itself. -/
def allFuncs (v : Variant) : List Func :=
  [.cfg, .home, .locket, .intc] ++ (List.range v.stops).map .stop ++ (List.range v.clusters).map .cluster

end Sys2Proof.Machine
end

