-- ==== Sys2Proof/Machine/Power.lean ====
section
/-! DEFINITION. Sleep: requests (R535), the entry sequence (R536 to R541), and how it turns back (R540, R542). The wake
(R546) stands in PowerCmd.lean. -/

namespace Sys2Proof.Machine

/-! ### Refusals (R539) -/

/-- What makes a unit with a fault block refuse: GRAVE for NAP and DOZE, PENDING for DOZE. -/
def State.blockRefuses (s : State) (target unit index : Nat) (b : FaultRef) : Option (Nat × Nat × Nat) :=
  if s.grave b && (target == 2 || target == 3) then some (unit, index, 1)
  else if target = 3 ∧ s.reg (faultBase b + 4) ≠ 0 then some (unit, index, 2)
  else none

/-- A sub-channel that is being trained, cleared or copied, or is blocked (TRAINING). -/
def State.inTraining (s : State) (n : Nat) : Bool :=
  (s.en (.chan n) && !s.reportsReady n) || (s.chan n).clearing || (s.chan n).spare == 1 || (s.chan n).blocked

/-- A channel unit's refusals. -/
def State.chanRefuses (s : State) (target n : Nat) (a5 : Bool) : Option (Nat × Nat × Nat) :=
  (s.blockRefuses target 1 n (.chan n)).or
    (if a5 then none
     else if (target = 2 ∨ target = 3) ∧ s.inTraining n = true then some (1, n, 4)
     else if target = 3 ∧ (s.chan n).spare = 2 ∧ stateKept s.variant s.retainMask = false then some (1, n, 10)
     else none)

/-- The home's, the power unit's, the Seed Map's and the clock root's own refusals, which A1 alone checks. -/
def State.homeRefuses (s : State) : Option (Nat × Nat × Nat) := if s.flag migStatus 0 then some (4, 0, 5) else none
def State.powerRefuses (s : State) : Option (Nat × Nat × Nat) := if s.grave .power then some (8, 0, 1) else none
def State.seedRefuses (s : State) (target : Nat) : Option (Nat × Nat × Nat) :=
  let b := seedBanks s.variant
  if (target = 2 ∨ target = 3) ∧ s.sprouts ≠ [] then some (10, 0, 6)
  else if target = 3 ∧ s.flag 0x3C200 0 = true ∧ retained s.retainMask b.1 b.2 = false then some (10, 0, 7)
  else none
def State.clockRefuses (s : State) : Option (Nat × Nat × Nat) := if s.flag clkStatus 2 then some (12, 0, 9) else none

/-- An enabled source of the interrupt controller is pending. -/
def State.irqPending (s : State) : Bool :=
  let s := s.levels.foldl State.pend s
  (List.range 512).any fun i => s.flag (irqEnable i) (i % 32) && s.flag (irqPend i) (i % 32)

/-- The interrupt controller's refusal. -/
def State.irqRefuses (s : State) (target : Nat) : Option (Nat × Nat × Nat) :=
  if target = 3 ∧ s.irqPending = true then some (11, 0, 8) else none

/-- The first refusal of an abort point in ascending unit and index: unit, index and reason. -/
def State.refusal (s : State) (target : Nat) (a5 : Bool) : Option (Nat × Nat × Nat) :=
  let only1 := fun (r : Option (Nat × Nat × Nat)) => if a5 then none else r
  let v := s.variant
  ((List.range v.scs).map fun n => s.chanRefuses target n a5).findSome? id
    |>.or (((List.range v.clusters).map fun n => s.blockRefuses target 2 n (.cluster n)).findSome? id)
    |>.or (s.blockRefuses target 3 0 .locket)
    |>.or (s.blockRefuses target 4 0 .home)
    |>.or (only1 s.homeRefuses)
    |>.or (((List.range v.stops).map fun n => s.blockRefuses target 5 n (.stop n)).findSome? id)
    |>.or (((List.range v.ports).map fun n => s.blockRefuses target 6 n (.port n)).findSome? id)
    |>.or (s.blockRefuses target 7 0 .phy)
    |>.or (only1 s.powerRefuses)
    |>.or (s.blockRefuses target 9 0 .security)
    |>.or (only1 (s.seedRefuses target))
    |>.or (s.irqRefuses target)
    |>.or (only1 s.clockRefuses)

/-! ### Turning back (R540 to R542) -/

/-- A rank leaves the power-down or self-refresh that a sleep put it into; its refresh is armed
again and its owed count starts from 0 (R531, R587). -/
def State.wakeRank (s : State) (sc r : Nat) : State :=
  let k := (s.chan sc).rank r
  if k.sleeping then
    (s.updChan sc fun c => (c.setRank r { k with selfRefresh := false, sleeping := false }).arm r).dramCmd sc (.srExit r) false
  else if k.powerDown && !k.pdByProgram then s.pdWake sc r
  else s

/-- Every rank leaves what a sleep put it into. -/
def State.wakeRanks (s : State) : State :=
  (List.range s.variant.scs).foldl (fun s n => (s.wakeRank n 0).wakeRank n 1) s

/-- The units go on where they stopped (R542). -/
def State.resume (s : State) : State :=
  let s := { s.wakeRanks with portsStopped := false, clustersStopped := false, stopsLowered := false, pwr := .stable, wakeEv := none }
  (s.setFld pwrStatus 31 29 0).portsGo.evDeliver

/-- A request of the power controller ends (R551). -/
def State.pcEnd (s : State) (result : Nat) : State :=
  if s.byPc then { s with byPc := false }.emit (.pcDone result) else s

/-- The entry is refused (R540): the refuser is recorded and the sleep-refused source raised. -/
def State.refuse (s : State) (x : Nat × Nat × Nat) : State :=
  let s := s.resume
  let s := ((s.setFld pwrStatus 22 19 x.1).setFld pwrStatus 18 14 x.2.1).setFld pwrStatus 13 10 x.2.2
  ((s.setFlag pwrStatus 23 true).raise .power 3 3 (x.1 + 16 * x.2.1 + 512 * x.2.2)).pcEnd 1

/-- The entry is abandoned for a wake event (R541). -/
def State.abandonEntry (s : State) (code arg : Nat) : State :=
  ((s.resume.setFlag pwrStatus 24 true).recordWake 0 code arg true).pcEnd 2

/-- An abort point: a wake event turns the entry back before any refusal is looked for (R541). -/
def State.abortPoint (s : State) (refusal : Option (Nat × Nat × Nat)) (next : State → State) : State :=
  match s.wakeEv with
  | some (code, arg) => s.abandonEntry code arg
  | none =>
    match refusal with
    | some x => s.refuse x
    | none => next s

/-! ### The steps (R536) -/

/-- A step begins. -/
def State.atStep (s : State) (target step : Nat) : State := { s with pwr := .entry target step }

/-- Step 6 begins: in DEPLOYED the debug level drops, and keys that are not kept are erased (R558, R567). -/
def State.begin6 (s : State) (target : Nat) : State :=
  let s := s.atStep target 6
  if target = 3 then
    let kept := s.keysKept s.retainMask
    let s := s.levelDrop
    if kept then s else { s with keys := [] }
  else s

/-- A5 and step 6. -/
def State.pointA5 (s : State) (target : Nat) : State := s.abortPoint (s.refusal target true) fun s => s.begin6 target

/-- A4 and step 5, which only DOZE has. -/
def State.pointA4 (s : State) (target : Nat) : State :=
  s.abortPoint none fun s => if target = 3 then s.atStep target 5 else s.pointA5 target

/-- A3 and step 4. -/
def State.pointA3 (s : State) (target : Nat) : State := s.abortPoint none fun s => s.atStep target 4

/-- A2 and step 3, which IDLE has not. -/
def State.pointA2 (s : State) (target : Nat) : State :=
  s.abortPoint none fun s => if target ≥ 2 then s.atStep target 3 else s.pointA3 target

/-- Step 2 begins: clusters stop dispatching. -/
def State.begin2 (s : State) (target : Nat) : State := { s.atStep target 2 with clustersStopped := true }

/-- Step 1 begins, which IDLE has not: ports stop passing requests on and returning credits. -/
def State.begin1 (s : State) (target : Nat) : State :=
  if target ≥ 2 then { s.atStep target 1 with portsStopped := true } else s.begin2 target

/-- A request is taken (R535): in ACTIVE or IDLE, with no entry or wake in progress. -/
def State.takesSleep (s : State) : Bool := decide (s.pwr = .stable ∧ s.pstate ≤ 1) && !s.inReset

/-- A1: the entry of a request that was taken begins. -/
def State.beginEntry (s : State) (target : Nat) (byPc : Bool) : State :=
  let s := { s.setFld pwrStatus 31 29 0 with byPc := byPc, wakeEv := none, entryMark := s.nextId }
  { s with pwr := .entry target 1 }.abortPoint (s.refusal target false) fun s => s.begin1 target

/-- A thread of a cluster runs or waits. -/
def State.thrBusy (s : State) (t : ThreadRef) : Bool := decide (s.thrSt t = .run ∨ s.thrSt t = .wait)

/-- A cluster has stopped: every thread of it is IDLE, and no context of it is READY, RUNNING or RESIDENT (R536 step 2). -/
def State.clusterQuiet (s : State) (cl : Nat) : Bool :=
  ((clusterThreads cl).all fun t => decide (s.thrSt t = .idle)) &&
    s.listedCtxs.all fun c => decide ((s.ctx c).cluster ≠ cl ∨ s.ctxState c < 2 ∨ s.ctxState c > 4)

/-- The sequencer and service threads of a sub-channel have stopped (R536 step 2). -/
def State.programsQuiet (s : State) (n : Nat) : Bool :=
  [ThreadRef.mk .seq n 0, ThreadRef.mk .seq n 1, ThreadRef.mk .svc n 0, ThreadRef.mk .svc n 1].all fun t =>
    !s.thrBusy t || s.thrStopped t

/-- Step 2 has finished. -/
def State.step2Done (s : State) : Bool :=
  (List.range s.variant.clusters).all s.clusterQuiet && (List.range s.variant.scs).all s.programsQuiet && !s.scrubBusy

/-- The home has no work: no tracker is in use, and no accepted request or flit in an attach slice waits (R474, R536 step 3,
R537). -/
def State.homeQuiet (s : State) : Bool :=
  s.trks.isEmpty && s.homeQ.isEmpty && s.pool.isEmpty && s.moves.isEmpty && s.walks.isEmpty &&
    s.stops.all fun e => e.2.slice.isEmpty

/-- The walk of step 3: the entries of the first set that holds any are forced out (R324, R536). -/
def State.forceSet (s : State) : State :=
  match s.filter with
  | [] => s
  | e :: _ => e.2.foldl State.forceOut s

/-- Step 3: it waits; for DOZE and OFF the filter is walked; then ATTACH_READY is lowered. -/
def State.step3 (s : State) (target : Nat) : State :=
  if !s.homeQuiet || !((List.range s.variant.ports).all s.portQuiet) then s
  else if target ≥ 3 ∧ s.filter ≠ [] then s.forceSet
  else { s with stopsLowered := true }.pointA3 target

/-- A sub-channel has completed what it holds, and an enabled one has discharged its owed refresh (R267, R536 step 4, R537). -/
def State.chanQuiet (s : State) (n : Nat) : Bool :=
  let c := s.chan n
  c.ents.isEmpty &&
    (!s.en (.chan n) ||
      (c.maint.isEmpty && c.run.isNone && c.susp.isEmpty && !c.clearing &&
        [0, 1].all fun r => !(c.rank r).armed || decide ((c.rank r).owed ≤ 0)))

/-- A request that was accepted before step 1 of the entry has not completed (R537). -/
def State.oldWork (s : State) : Bool :=
  ((s.pool ++ s.homeQ ++ s.trks.map Trk.req).any fun r => decide (r.id ≤ s.entryMark)) ||
    s.sports.any fun e => e.2.held.any fun h => decide (h.id ≤ s.entryMark)

/-- A completion report, or a block that a PACK writes, runs to its end (R178, R207, R537). -/
def State.oldReports (s : State) : Bool := !s.jobs.isEmpty || s.ctxs.any fun e => e.2.outcome.isSome

/-- A rank is precharged and put into power-down for IDLE, or into self-refresh for NAP and DOZE, in which its refresh is
disarmed (R536 step 4, R587). -/
def State.sleepRank (s : State) (target sc r : Nat) : State :=
  let k := (s.chan sc).rank r
  if k.selfRefresh = true then s
  else if target = 1 ∧ k.powerDown = true then s
  else
    let s := (s.pdWake sc r).closeBanks sc r none
    if target = 1 then
      (s.updChan sc fun c => c.setRank r { c.rank r with powerDown := true }).dramCmd sc (.pdEnter r) false
    else if target ≤ 3 then
      (s.updChan sc fun c => (c.setRank r { c.rank r with selfRefresh := true, sleeping := true }).disarm r).dramCmd sc
        (.srEnter r) false
    else s

/-- The ranks of the enabled sub-channels take what the target state gives them (R536 step 4). -/
def State.sleepRanks (s : State) (target : Nat) : State :=
  (List.range s.variant.scs).foldl
    (fun s n => if s.en (.chan n) && s.populated n then (s.cmdRanks n).foldl (fun s r => s.sleepRank target n r) s
      else s) s

/-- Step 4 has finished: it drains the sub-channels, and whatever was accepted before step 1 has completed (R536, R537). -/
def State.step4Done (s : State) : Bool :=
  (List.range s.variant.scs).all s.chanQuiet && !s.oldWork && !s.oldReports

/-- Step 5: moderators that hold a count fire, and the state bank is written. -/
def State.step5 (s : State) : State :=
  let s := (List.range 64).foldl (fun s m => if s.modCount m ≠ 0 then s.modFire m else s) s
  { s with saved := some s.saveArea }

/-- A thread that has lost its power. -/
def Thread.lost (th : Thread) : Thread := { Thread.init with epoch := th.epoch }

/-- The engines have lost their power: thread state, scratch and line buffers (R530); a sequencer or service thread that
becomes IDLE by it is an owner loss (R353). -/
def State.enginesLost (s : State) : State :=
  let owners := (s.threads.map fun e => refOfKey e.1).filter fun t => t.kind != .stream
  let s := owners.foldl (fun s t => s.claspLossAll (ownerOf t)) s
  { s with
    threads := tmap Thread.init Thread.lost s.threads,
    scratch := [], jobs := [], arrivals := s.arrivals.filter fun a => (match a.dest with | .desc _ => true | _ => false),
    evWaiters := [], rails := s.rails.filter (· != .eng), stopsLowered := false }

/-- Step 6 for DOZE and OFF: the groups are held, the rails fall, the PLL stops, and the domains lose what they hold. -/
def State.blockLost (s : State) (m : W64) : State :=
  let s := (List.range s.variant.scs).foldl State.holdPads s
  { s.powerLost m with rails := [] }.setFlag clkStatus 0 false

/-- The state is reached (R536 step 6, R541). -/
def State.reached (s : State) (target : Nat) : State :=
  let ev := s.wakeEv
  let s := if target = 2 then s.enginesLost else if target = 3 then s.blockLost s.retainMask else if target = 4 then s.blockLost 0 else s
  let s := { s.setFld pwrStatus 31 29 target with pwr := .stable, wakeEv := none }.pcEnd 0
  match ev with
  | some (code, arg) => s.startWake code arg
  | none => s

/-- ENTRY_STEP_END (R536): the step in progress finishes, if its condition holds. -/
def State.entryStepEnd (s : State) : State :=
  match s.pwr with
  | .entry t 1 => s.begin2 t
  | .entry t 2 => if s.step2Done then s.pointA2 t else s
  | .entry t 3 => s.step3 t
  | .entry t 4 => if s.step4Done then (s.sleepRanks t).pointA4 t else s
  | .entry t 5 => s.step5.pointA5 t
  | .entry t _ => s.reached t
  | _ => s

def execEntryStepEnd (s : State) : Host.Outcome State Fault Refusal := .next s.entryStepEnd

/-- A scrub read of a sub-channel is outstanding. -/
def State.scrubReads (s : State) (n : Nat) : Bool := (s.chan n).ents.any fun e => e.rq == 4

/-- A unit has not finished its part of the step in progress (R538). Programs and scrub reads count to their channel unit, a
scrub write-back to the home (DEDUCED, log entry 94). -/
def State.unfinished (s : State) (target step unit index : Nat) : Bool :=
  match step, unit with
  | 2, 1 => decide (index < s.variant.scs) && (!s.programsQuiet index || s.scrubReads index)
  | 2, 2 => decide (index < s.variant.clusters) && !s.clusterQuiet index
  | 2, 4 => decide (index = 0) && s.scrubBusy && (List.range s.variant.scs).all fun n => !s.scrubReads n
  | 3, 4 => decide (index = 0) && (!s.homeQuiet || decide (target ≥ 3 ∧ s.filter ≠ []))
  | 3, 6 => decide (index < s.variant.ports) && !s.portQuiet index
  | 4, 1 => decide (index < s.variant.scs) && !s.chanQuiet index
  | 4, 2 => decide (index < s.variant.clusters) && ((s.jobs.any fun j => j.cl == index) ||
      s.ctxs.any fun e => e.2.outcome.isSome && e.2.cluster == index)
  | 4, 4 => decide (index = 0) && s.oldWork
  | _, _ => false

/-- PWR_TMO (R538): the unit refuses with reason TIMEOUT. -/
def State.pwrTimeout (s : State) (unit index : Nat) : State :=
  match s.pwr with
  | .entry target step => if s.unfinished target step unit index then s.refuse (unit, index, 3) else s
  | _ => s

def execPwrTmo (unit index : Nat) (s : State) : Host.Outcome State Fault Refusal := .next (s.pwrTimeout unit index)

/-- PC_REQ (R535, R551): a request for IDLE, NAP, DOZE or OFF is taken or refused; 0 is a wake event. -/
def State.pcRequest (s : State) (r : Nat) : State :=
  if s.refclk = false ∨ s.vddAon = false then s
  else if r = 0 then (s.emit (.pcDone 0)).wakeEvent 6 0
  else if r ≤ 4 ∧ s.takesSleep = true then s.beginEntry r true
  else s.emit (.pcDone 1)

def execPcReq (r : BitVec 3) (s : State) : Host.Outcome State Fault Refusal := .next (s.pcRequest r.toNat)

/-- PC_REQ_WAKE (R544, R551). -/
def execPcReqWake (s : State) : Host.Outcome State Fault Refusal :=
  .next (if s.refclk && s.vddAon then (s.emit (.pcDone 0)).wakeEvent 6 0 else s)

/-- PC_WAKE (R544, R551). -/
def execPcWake (s : State) : Host.Outcome State Fault Refusal := .next (s.wakeEvent 6 0)

/-- WAKE_AT (R553). -/
def wakeAt : Nat := 0x1018

/-- TIMER_WAKE (R544): TBASE is at or past WAKE_AT; it cannot fire while REFCLK is stopped. -/
def execTimerWake (s : State) : Host.Outcome State Fault Refusal :=
  .next (if s.refclk && decide (s.tbase.toNat ≥ s.reg2 wakeAt) then s.wakeEvent 4 0 else s)

/-- Every rail that a wake raises is on (R546 step 1). -/
def State.railsUp (s : State) (left : Nat) : Bool :=
  s.rails.contains .eng && (left ≤ 2 || (s.rails.contains .logic && s.rails.contains .phy))

/-- A rail is on. -/
def State.addRail (s : State) (r : Rail) : State :=
  { s with rails := [Rail.logic, Rail.phy, Rail.eng].filter fun x => x == r || s.rails.contains x }

/-- RAIL_OK (R546 step 1): once every rail raised is on, the wake goes on. A rail rises only while its RAIL_EN is high: in
a wake, and in ACTIVE and IDLE (R552). -/
def State.railUp (s : State) (r : Rail) : State :=
  match s.pwr with
  | .wake left 1 =>
    let s := s.addRail r
    if s.railsUp left then { s with pwr := .wake left (if left ≤ 2 then 4 else 2) } else s
  | _ => if s.pstate ≤ 1 then s.addRail r else s

def execRailOk (rail : Rail) (s : State) : Host.Outcome State Fault Refusal := .next (s.railUp rail)

/-- Step 2 of a wake ends when the PLL is locked and no ELAPSED is awaited (R504, R546). -/
def State.wakePll (s : State) : State :=
  match s.pwr with
  | .wake left 2 => if s.flag clkStatus 0 && !s.wantElapsed then { s with pwr := .wake left 3 } else s
  | _ => s

end Sys2Proof.Machine
end

