-- ==== Sys2Proof/Machine/Flags.lean ====
section
/-! DEFINITION. The sticky flags of the window: CFG_STATUS and CFG_IGN_ADDR (R65, R66), and the misuse of it that sets
them. -/

namespace Sys2Proof.Machine

/-- CFG_STATUS. -/
def cfgStatus : Nat := 0x10

/-- CFG_IGN_ADDR. -/
def cfgIgnAddr : Nat := 0x14

/-- Sets bit `i` of CFG_STATUS for an access at `off` (R65, R66). The first event while bits 2:0 are all 0 is captured;
an event while an earlier one is held sets IGN_OVF. -/
def State.cfgFlag (s : State) (i off : Nat) : State :=
  if s.fld cfgStatus 2 0 = 0 then
    (s.setFlag cfgStatus i true).setReg cfgIgnAddr (BitVec.ofNat 32 (i * 2 ^ 24 + off % 2 ^ 24))
  else (s.setFlag cfgStatus i true).setFlag cfgStatus 3 true

/-- A write that is ignored (R36, R38): WR_IGNORED. -/
def State.ignored (s : State) (off : Nat) : State := s.cfgFlag 0 off

/-- An access of an unmapped offset (R34): UNMAPPED. -/
def State.unmapped (s : State) (off : Nat) : State := s.cfgFlag 1 off

/-- An access of a wrong width or alignment (R33): BAD_WIDTH. -/
def State.badWidth (s : State) (off : Nat) : State := s.cfgFlag 2 off

end Sys2Proof.Machine
end

