-- ==== Sys2Proof/Machine/Codec.lean ====
section
/-! DEFINITION. Frame records as values, planes, units and slots (R190 to R197), the raw layout (R198, R199), header
entries (R200 to R202), the compressed stream (R203 to R206) and padding (R211). -/

namespace Sys2Proof.Machine

/-! ### Frame records -/

/-- The fields of a frame record; the bases are byte addresses. -/
structure Fr where
  valid : Bool
  chromaEn : Bool
  comp : Bool
  samp : Nat
  depth : Nat
  pad : Nat
  w : Nat
  h : Nat
  pitch : Nat
  padY : Nat
  padCb : Nat
  padCr : Nat
  y : Nat
  c : Nat
  hy : Nat
  hc : Nat
deriving DecidableEq, Repr

/-- The record that its words hold (R190). -/
def Fr.ofWords (ws : List W32) : Fr :=
  let w := fun i => ws.getD i 0
  let pair := fun i => (w i).toNat + 2 ^ 32 * (w (i + 1)).toNat
  { valid := bitOf (w 0) 31, chromaEn := bitOf (w 0) 30, comp := bitOf (w 0) 29, samp := bitsOf (w 0) 28 27,
    depth := bitsOf (w 0) 26 25, pad := bitsOf (w 0) 24 23, w := bitsOf (w 1) 13 0 + 1, h := bitsOf (w 1) 29 16 + 1,
    pitch := bitsOf (w 2) 10 0, padY := bitsOf (w 3) 11 0, padCb := bitsOf (w 3) 27 16, padCr := bitsOf (w 2) 27 16,
    y := pair 4, c := pair 6, hy := pair 8, hc := pair 10 }

/-- The bit depth D. -/
def Fr.d (f : Fr) : Nat := 8 + 2 * f.depth

/-- Valid for the luma plane (R193). -/
def Fr.okLuma (f : Fr) : Bool :=
  f.valid && decide (f.samp ≠ 3 ∧ f.depth ≠ 3 ∧ f.pad ≠ 3 ∧ f.pitch % 8 = 0 ∧ f.pitch ≥ (f.w + 15) / 16) &&
    (decide (f.samp = 2) || decide (f.w % 2 = 0)) && (decide (f.samp ≠ 0) || decide (f.h % 2 = 0))

/-- Valid for a plane: luma, or chroma (R193). -/
def Fr.ok (f : Fr) (chroma : Bool) : Bool := f.okLuma && (!chroma || f.chromaEn)

/-- Unit columns and unit rows of a plane (R195). -/
def Fr.cols (f : Fr) : Nat := (f.w + 15) / 16
def Fr.rows (f : Fr) (chroma : Bool) : Nat := if chroma && f.samp == 2 then (f.h + 7) / 8 else (f.h + 15) / 16

/-- The width and the height of a block, and the blocks of a unit (R195). -/
def Fr.bw (f : Fr) (chroma : Bool) : Nat := if chroma && f.samp != 2 then 8 else 16
def Fr.bh (f : Fr) (chroma : Bool) : Nat := if chroma && f.samp != 1 then 8 else 16
def Fr.blocks (chroma : Bool) : Nat := if chroma then 2 else 1

/-- Samples of a unit. -/
def Fr.samples (f : Fr) (chroma : Bool) : Nat := f.bw chroma * f.bh chroma * Fr.blocks chroma

/-- The slot length S in lines, the unit bytes B and the used lines U (R196). -/
def Fr.slot (f : Fr) : Nat := 4 + f.depth
def Fr.bytes (f : Fr) (chroma : Bool) : Nat := f.samples chroma * f.d / 8
def Fr.used (f : Fr) (chroma : Bool) : Nat := (f.bytes chroma + 63) / 64

/-- The first line of a unit's slot (R197). -/
def Fr.slotLine (f : Fr) (chroma : Bool) (r c : Nat) : Nat := (if chroma then f.c else f.y) / 64 + (r * f.pitch + c) * f.slot

/-- The header line of a unit, and the place of its entry in the line (R197). -/
def Fr.hdrLine (f : Fr) (chroma : Bool) (r c : Nat) : Nat := (if chroma then f.hc else f.hy) / 64 + (r * f.pitch + c) / 8
def Fr.hdrIdx (f : Fr) (r c : Nat) : Nat := (r * f.pitch + c) % 8

/-- The plane size in samples: luma, or a chroma component (R195). -/
def Fr.planeW (f : Fr) (chroma : Bool) : Nat := if chroma && f.samp != 2 then f.w / 2 else f.w
def Fr.planeH (f : Fr) (chroma : Bool) : Nat := if chroma && f.samp == 0 then f.h / 2 else f.h

/-! ### The raw layout (R198, R199) -/

/-- The raw layout of samples as one number: sample i in bits i × D on. -/
def rawOf (d : Nat) (vs : List Nat) : Nat := vs.foldr (fun v acc => v % 2 ^ d + 2 ^ d * acc) 0

/-- The samples that a raw layout holds. -/
def rawSamples (d n raw : Nat) : List Nat := (List.range n).map fun i => raw / 2 ^ (d * i) % 2 ^ d

/-- The bytes of a raw layout. -/
def rawBytes (b raw : Nat) : List Nat := (List.range b).map fun i => raw / 256 ^ i % 256

/-- `n` lines that hold a number, line 0 first. -/
def numLines (n raw : Nat) : List Line := (List.range n).map fun i => BitVec.ofNat 512 (raw / 2 ^ (512 * i))

/-- The number that lines hold. -/
def linesNum (ls : List Line) : Nat := ls.foldr (fun l acc => l.toNat + 2 ^ 512 * acc) 0

/-- The unit Hallmark of a raw layout of `b` bytes. -/
def unitHallmark (b raw : Nat) : Nat := crc32c (rawBytes b raw)

/-! ### Prediction and residuals (R204) -/

/-- A sample already decoded in a block of width `bw`. -/
def at_ (bw : Nat) (v : List Nat) (x y : Nat) : Nat := v.getD (y * bw + x) 0

/-- The prediction p of the sample at (x, y). -/
def predict (d bw : Nat) (v : List Nat) (x y : Nat) : Nat :=
  let a := at_ bw v (x - 1) y
  let b := at_ bw v x (y - 1)
  let c := at_ bw v (x - 1) (y - 1)
  if x = 0 ∧ y = 0 then 2 ^ (d - 1)
  else if y = 0 then a
  else if x = 0 then b
  else if c ≥ max a b then min a b
  else if c ≤ min a b then max a b
  else a + b - c

/-- The value m that a sample's residual maps to. -/
def residual (d v p : Nat) : Nat :=
  let e := (v + 2 ^ d - p) % 2 ^ d
  if e < 2 ^ (d - 1) then 2 * e else 2 * (2 ^ d - e) - 1

/-- The sample that a value m gives with its prediction. -/
def reconstruct (d m p : Nat) : Nat := if m % 2 = 0 then (p + m / 2) % 2 ^ d else (p + 2 ^ d - (m + 1) / 2) % 2 ^ d

/-- The samples of a block in coding order, 4 × 4 sub-blocks in raster order, each with whether it starts a sub-block. -/
def codingOrder (bw bh : Nat) : List (Nat × Nat × Bool) :=
  (List.range (bh / 4)).flatMap fun sy => (List.range (bw / 4)).flatMap fun sx =>
    (List.range 16).map fun i => (4 * sx + i % 4, 4 * sy + i / 4, i == 0)

/-! ### Decoding (R203, R205) -/

/-- A decoder: the bits left, k, the samples so far, and whether the stream has been well-formed. -/
structure Dec where
  bits : List Bool
  k : Nat
  v : List Nat
  ok : Bool
deriving DecidableEq, Repr

/-- A number from bits, most significant bit first. -/
def msbNum (bs : List Bool) : Nat := bs.foldl (fun acc b => 2 * acc + (if b then 1 else 0)) 0

/-- Reads a field of `n` bits; none where the stream is too short. -/
def readBits (n : Nat) (bs : List Bool) : Option (Nat × List Bool) :=
  if bs.length < n then none else some (msbNum (bs.take n), bs.drop n)

/-- Counts ones up to 24; a zero that ends the count is consumed. -/
def readUnary : Nat → Nat → List Bool → Option (Nat × List Bool)
  | 0, q, bs => some (q, bs)
  | fuel + 1, q, bs =>
    match bs with
    | [] => none
    | true :: r => readUnary fuel (q + 1) r
    | false :: r => some (q, r)

/-- The k of a sub-block; none where it is malformed. -/
def readK (d : Nat) (st : Dec) : Option (Nat × List Bool) :=
  match readBits 2 st.bits with
  | none => none
  | some (0, r) => some (st.k, r)
  | some (1, r) => if st.k + 1 ≤ d then some (st.k + 1, r) else none
  | some (2, r) => if st.k = 0 then none else some (st.k - 1, r)
  | some (_, r) => (readBits 4 r).bind fun x => if x.1 ≤ d then some x else none

/-- The m of a sample. -/
def readM (d k : Nat) (bs : List Bool) : Option (Nat × List Bool) :=
  match readUnary 24 0 bs with
  | none => none
  | some (q, r) =>
    let x := if q = 24 then readBits d r else (readBits k r).map fun y => (q * 2 ^ k + y.1, y.2)
    x.bind fun y => if y.1 < 2 ^ d then some y else none

/-- One sample of a block. -/
def decStep (d bw : Nat) (st : Dec) (p : Nat × Nat × Bool) : Dec :=
  if st.ok = false then st
  else
    let bad := { st with ok := false }
    match (if p.2.2 then readK d st else some (st.k, st.bits)) with
    | none => bad
    | some (k, bs) =>
      match readM d k bs with
      | none => { bad with k := k }
      | some (m, r) =>
        let s := reconstruct d m (predict d bw st.v p.1 p.2.1)
        { bits := r, k := k, v := st.v.set (p.2.1 * bw + p.1) s, ok := true }

/-- A block: its samples, the bits left, and whether it was well-formed. -/
def decBlock (d bw bh kInit : Nat) (bs : List Bool) (ok : Bool) : List Nat × List Bool × Bool :=
  let st := (codingOrder bw bh).foldl (decStep d bw) { bits := bs, k := kInit, v := List.replicate (bw * bh) 0, ok := ok }
  (st.v, st.bits, st.ok)

/-- The bits of a stream of length `len` held in a number. -/
def streamBits (len n : Nat) : List Bool := (List.range len).map fun i => n / 2 ^ i % 2 == 1

/-- A COMPRESSED unit: its samples, and whether its stream was well-formed to its last bit (R203, R205). -/
def decUnit (f : Fr) (chroma : Bool) (k0 k1 len str : Nat) : List Nat × Bool :=
  let b0 := decBlock f.d (f.bw chroma) (f.bh chroma) k0 (streamBits len str) true
  let b1 := if chroma then decBlock f.d (f.bw chroma) (f.bh chroma) k1 b0.2.1 b0.2.2 else ([], b0.2.1, b0.2.2)
  (b0.1 ++ b1.1, b1.2.2 && b1.2.1.isEmpty && decide (str / 2 ^ len = 0))

/-! ### Encoding (R206) -/

/-- Bits of a residual m at parameter k. -/
def resBits (d k m : Nat) : Nat := if m / 2 ^ k ≥ 24 then 24 + d else m / 2 ^ k + 1 + k

/-- A field of `n` bits, most significant bit first. -/
def msbBits (n x : Nat) : List Bool := (List.range n).map fun i => x / 2 ^ (n - 1 - i) % 2 == 1

/-- The code of a residual. -/
def resCode (d k m : Nat) : List Bool :=
  let q := m / 2 ^ k
  if q ≥ 24 then List.replicate 24 true ++ msbBits d m
  else List.replicate q true ++ [false] ++ msbBits k (m % 2 ^ k)

/-- The smallest k from 0 to D with the fewest residual bits. -/
def bestK (d : Nat) (ms : List Nat) : Nat :=
  let cost := fun k => (ms.map (resBits d k)).sum
  (List.range (d + 1)).foldl (fun b k => if cost k < cost b then k else b) 0

/-- The residuals of a block, sub-block by sub-block. -/
def blockRes (d bw bh : Nat) (v : List Nat) : List (List Nat) :=
  let ms := (codingOrder bw bh).map fun p => residual d (at_ bw v p.1 p.2.1) (predict d bw v p.1 p.2.1)
  (List.range (bw * bh / 16)).map fun i => (ms.drop (16 * i)).take 16

/-- The k code of a sub-block. -/
def kCode (prev k : Nat) : List Bool :=
  if k = prev then msbBits 2 0 else if k = prev + 1 then msbBits 2 1 else if k + 1 = prev then msbBits 2 2
  else msbBits 2 3 ++ msbBits 4 k

/-- The code of a block whose sub-blocks follow one of parameter `prev`. -/
def encSubs (d : Nat) : Nat → List (List Nat) → List Bool
  | _, [] => []
  | prev, ms :: rest =>
    let k := bestK d ms
    kCode prev k ++ ms.flatMap (resCode d k) ++ encSubs d k rest

/-- A block's K_INIT and its code. -/
def encBlock (d bw bh : Nat) (v : List Nat) : Nat × List Bool :=
  let rs := blockRes d bw bh v
  let k := bestK d (rs.headD [])
  (k, encSubs d k rs)

/-! ### Header entries (R200 to R202) -/

/-- The fields of an entry. -/
def entHall (e : W64) : Nat := bitsOf e 63 32
def entParams (e : W64) : Nat := bitsOf e 31 8
def entMode (e : W64) : Nat := bitsOf e 7 4
def entSectors (e : W64) : Nat := bitsOf e 3 0

/-- An entry from its fields. -/
def mkEntry (hall params mode sectors : Nat) : W64 :=
  BitVec.ofNat 64 (hall * 2 ^ 32 + params * 2 ^ 8 + mode * 16 + sectors)

/-- An entry that R201 and R202 allow, for a unit of `u` used lines and bit depth `d`. -/
def entOk (d u : Nat) (chroma : Bool) (e : W64) : Bool :=
  let p := entParams e
  match entMode e with
  | 0 => decide (entSectors e = 0 ∧ p = 0 ∧ entHall e = 0)
  | 1 => decide (1 ≤ entSectors e ∧ entSectors e < u ∧ p / 2 ^ 17 = 0 ∧ p % 16 ≤ d ∧ p / 16 % 16 ≤ d) &&
      (chroma || decide (p / 16 % 16 = 0))
  | 2 => decide (entSectors e = u ∧ p = 0)
  | 3 => decide (entSectors e = 0 ∧ p % 4096 < 2 ^ d ∧ p / 4096 < 2 ^ d) && (chroma || decide (p / 4096 = 0))
  | _ => false

/-- The lines of a unit's slot that its entry has a reader fetch: those that MODE names, whatever else the entry holds; none
for a reserved MODE (R210). Lines beyond the used ones are never read (R199; log entry 102). -/
def entLines (u : Nat) (e : W64) : Nat :=
  match entMode e with
  | 1 => min u (entSectors e)
  | 2 => u
  | _ => 0

/-- A unit as it is expanded from its entry and its stored lines: its samples, and whether it was malformed or its
Hallmark did not match (R202, R210, R378). -/
def expand (f : Fr) (chroma : Bool) (e : W64) (str : Nat) : List Nat × Bool :=
  let n := f.samples chroma
  let p := entParams e
  let r :=
    if entOk f.d (f.used chroma) chroma e = false then (List.replicate n 0, false)
    else
      match entMode e with
      | 1 => decUnit f chroma (p % 16) (p / 16 % 16) (512 * (entSectors e - 1) + p / 256 % 512 + 1) str
      | 2 => (rawSamples f.d n str, true)
      | 3 =>
        let half := n / Fr.blocks chroma
        (List.replicate half (p % 4096) ++ (if chroma then List.replicate half (p / 4096) else []), true)
      | _ => (List.replicate n 0, true)
  let hallOk := decide (entMode e = 0) || decide (unitHallmark (f.bytes chroma) (rawOf f.d r.1) = entHall e)
  (r.1, !(r.2 && hallOk))

/-- What PACK makes of a unit's raw layout: the header entry and the lines it writes (R207, R379). -/
def packUnit (f : Fr) (chroma force bad : Bool) (raw : Nat) : W64 × List Line :=
  let b := f.bytes chroma
  let raw := raw % 256 ^ b
  let u := f.used chroma
  let hall := unitHallmark b raw
  let asRaw := (mkEntry hall 0 2 u, numLines u raw)
  let vs := rawSamples f.d (f.samples chroma) raw
  let half := f.samples chroma / Fr.blocks chroma
  let b0 := vs.take half
  let b1 := vs.drop half
  if force || bad then asRaw
  else if b0.all (· == b0.headD 0) && b1.all (· == b1.headD 0) then
    (mkEntry hall (b0.headD 0 + 4096 * b1.headD 0) 3 0, [])
  else
    let e0 := encBlock f.d (f.bw chroma) (f.bh chroma) b0
    let e1 := if chroma then encBlock f.d (f.bw chroma) (f.bh chroma) b1 else (0, [])
    let code := e0.2 ++ e1.2
    let n := (code.length + 511) / 512
    if n ≤ u - 1 then
      let str := code.foldr (fun x acc => (if x then 1 else 0) + 2 * acc) 0
      (mkEntry hall (e0.1 + 16 * e1.1 + 256 * (code.length - 512 * (n - 1) - 1)) 1 n, numLines n str)
    else asRaw

/-! ### Padding (R211) -/

/-- A coordinate of REPLICATE and MIRROR brought into a plane of `n` samples. -/
def clampTo (n : Nat) (x : Int) : Nat := (max 0 (min x ((n : Int) - 1))).toNat

/-- The fold of MIRROR. -/
def mirror (n : Nat) (u : Int) : Int := if u < 0 then -u else if u ≥ n then 2 * (n : Int) - 2 - u else u

/-- The stored coordinate a coordinate maps to; none where CONSTANT pads. -/
def padCoord (pad n : Nat) (x : Int) : Option Nat :=
  match pad with
  | 0 => some (clampTo n x)
  | 1 => if 0 ≤ x ∧ x < (n : Int) then some x.toNat else none
  | _ => some (clampTo n (mirror n x))

end Sys2Proof.Machine
end

