-- ==== Sys2Proof/Machine/Video.lean ====
section
/-! DEFINITION. The video operations (R101 to R105, R109 to R112), the arrival of line data (R78, R94, R96, R106) and the
ends of pipe jobs (R207, R210 to R212, R378, R379). -/

namespace Sys2Proof.Machine

/-! ### Frame records and unit names -/

/-- The words of a frame record as they stand (R190, R191), and after them the record's index. -/
def State.frameWords (s : State) (i : Nat) : List W32 :=
  (List.range 12).map (fun k => s.reg ((Win.frame i).base + 4 * k)) ++ [BitVec.ofNat 32 i]

/-- The record of a job. -/
def Job.fr (j : Job) : Fr := Fr.ofWords j.frame

/-- The index of the record of a job. -/
def Job.recIdx (j : Job) : Nat := (j.frame.getD 12 0).toNat

/-- The fields of g[a] of PACK and UNPK (R109): row, column, plane and record. -/
def unitRow (g : W64) : Nat := bitsOf g 47 32
def unitCol (g : W64) : Nat := bitsOf g 31 16
def unitPlane (g : W64) : Nat := bitsOf g 11 10
def unitRec (g : W64) : Nat := bitsOf g 9 0

/-- The reserved bits of g[a] of BLK2D, PACK and UNPK are 0. -/
def unitClean (g : W64) : Bool := bitsOf g 63 48 == 0 && bitsOf g 15 12 == 0

/-- The checks that PACK and UNPK share (R109 to R111, R193), and then what `f` does with the record. Reserved bits and
planes come first, then the record and the unit, then cnt: the spec gives no order (DESIGN CHOICE, log entry 38). -/
def State.unitChecks (s : State) (th : Thread) (w : W32) (comp : Bool) (f : List W32 → Bool → Eff) : Eff :=
  let g := th.getG (mA w)
  let ws := s.frameWords (unitRec g)
  let fr := Fr.ofWords ws
  let chroma := unitPlane g == 1
  if unitClean g = false ∨ unitPlane g ≥ 2 then .fault 2
  else if unitRec g ≥ s.variant.frames ∨ fr.ok chroma = false ∨ (comp = true ∧ fr.comp = false) ∨
      unitRow g ≥ fr.rows chroma ∨ unitCol g ≥ fr.cols then .fault 0xB
  else if mCnt w ≠ fr.slot ∨ mLb w + mCnt w > 16 then .fault 2
  else f ws chroma

/-- The unit that g[a] names. -/
def unitOf (g : W64) (chroma : Bool) (phase : Nat) (entry : W64) : PUnit :=
  { chroma := chroma, row := unitRow g, col := unitCol g, phase := phase, entry := entry, samples := [] }

/-! ### PACK (R109, R110, R207, R379) -/

/-- The input buffers of a PACK leave for the pipe: whether one was poisoned or failed its check. -/
def State.packInput (s : State) (t : ThreadRef) (th : Thread) (lb n line : Nat) : Bool × State :=
  (List.range n).foldl (fun (acc : Bool × State) i =>
    let r := acc.2.bufOut t (th.buf (lb + i)) (line + i)
    (acc.1 || r.1, r.2)) (false, s)

/-- Read-locks or unlocks buffers (R78). -/
def Thread.lockBufs (th : Thread) (lb n : Nat) (b : Bool) : Thread :=
  (List.range n).foldl (fun th i => th.setBuf (lb + i) { th.buf (lb + i) with locked := b }) th

/-- PACK: the thread waits for its pipe job. -/
def execPack (t : ThreadRef) (s : State) : Host.Outcome State Fault Refusal :=
  .next (s.issue t 0x2B [.stream] anyWord fun s th w =>
    if mMode w / 2 % 8 ≠ 0 ∨ mMode w ≥ 256 then .fault 1
    else s.unitChecks th w true fun ws chroma =>
      match th.touchAll false (mLb w) (mCnt w) with
      | .stall => .stall
      | .fault c => .fault c
      | .ok =>
        let g := th.getG (mA w)
        let u := unitOf g chroma 2 0
        let r := s.packInput t th (mLb w) (mCnt w) ((Fr.ofWords ws).slotLine chroma u.row u.col)
        let input := (List.range (mCnt w)).map fun i => (th.buf (mLb w + i)).data
        let s := r.2.setThr t (((r.2.thr t).lockBufs (mLb w) (mCnt w) true))
        let j := s.newJob t (.pack (mMode w % 2 == 1) input r.1) ws (mLb w) (mCnt w) (mMode w / 16) [u] []
        .hold ((s.addJob j).sleep t (.pipe j.id)))

/-! ### UNPK (R111, R210) -/

/-- The lines of a unit of a record without compression (R212). -/
def rawLines (f : Fr) (u : PUnit) : List Nat :=
  (List.range (f.used u.chroma)).map fun i => f.slotLine u.chroma u.row u.col + i

/-- The reads a job begins with, and the phase of its units: header lines, or with COMP = 0 the units' lines (R212). -/
def firstReads (f : Fr) (us : List PUnit) : List Nat :=
  if f.comp then (us.map fun u => f.hdrLine u.chroma u.row u.col).eraseDups else us.flatMap (rawLines f)

/-- UNPK: the thread waits until the pipe has delivered. -/
def execUnpk (t : ThreadRef) (s : State) : Host.Outcome State Fault Refusal :=
  .next (s.issue t 0x2C [.stream] anyWord fun s th w =>
    if mMode w ≠ 0 then .fault 1
    else s.unitChecks th w false fun ws chroma =>
      match th.touchAll true (mLb w) (mCnt w) with
      | .stall => .stall
      | .fault c => .fault c
      | .ok =>
        let f := Fr.ofWords ws
        let u := unitOf (th.getG (mA w)) chroma (if f.comp then 0 else 1) 0
        let s := s.setThr t (th.pendBufs (mLb w) (mCnt w))
        let j := s.newJob t .unpk ws (mLb w) (mCnt w) 0 [u] (firstReads f [u])
        .hold ((s.sleep t (.pipe j.id)).addJob j))

/-! ### BLK2D (R101 to R105, R211, R212) -/

/-- The stored coordinates that a run of `n` coordinates from `start` needs, in a plane of `size` samples. -/
def coords (pad size : Nat) (start : Int) (n : Nat) : List (Option Nat) :=
  (List.range n).map fun i => padCoord pad size (start + (i : Int))

/-- The unit rows or columns, of `step` samples each, that coordinates lie in, rising. -/
def unitsOf (count step : Nat) (cs : List (Option Nat)) : List Nat :=
  (List.range count).filter fun k => cs.any fun c => c.elim false fun x => x / step == k

/-- The size of a sample in the delivery (R103). -/
def container (f : Fr) (layout : Nat) : Nat := if layout = 0 ∧ f.depth = 0 then 1 else 2

/-- The units of R212, in row and column order. -/
def blkUnits (f : Fr) (plane width height : Nat) (x y : Int) (phase : Nat) : List PUnit :=
  let ch := plane != 0
  let xs := coords f.pad (f.planeW ch) x width
  let ys := coords f.pad (f.planeH ch) y height
  (unitsOf (f.rows ch) (f.bh ch) ys).flatMap fun r =>
    (unitsOf f.cols (f.bw ch) xs).map fun c =>
      { chroma := ch, row := r, col := c, phase := phase, entry := 0, samples := [] }

/-! ### Deliveries -/

/-- Fills buffers with lines: their Hallmarks are made over them (R94); `err` is the status of a read that failed. -/
def Thread.fillBufs (th : Thread) (lb : Nat) (ls : List Line) (poison : Bool) (err : Nat) : Thread :=
  (ls.foldl (fun (acc : Nat × Thread) l =>
    let b : LineBuf := { data := l, hm := hallmark l, hmValid := true, poison := poison, pending := false,
                         locked := false, err := err }
    (acc.1 + 1, acc.2.setBuf acc.1 b)) (lb, th)).2

/-- A job leaves the list. -/
def State.dropJob (s : State) (id : Nat) : State := { s with jobs := s.jobs.filter fun j => j.id != id }

/-- Stores a job in its place. -/
def State.setJob (s : State) (j : Job) : State := { s with jobs := s.jobs.map fun x => if x.id = j.id then j else x }

/-- The fault code that a failed read's status gives the buffers it was for (R96, R131). -/
def errOf (status : Nat) : Nat := if status = 2 then 8 else if status = 3 then 9 else 0

/-- The sample of a plane at stored coordinates, from the expanded units. -/
def sampleAt (f : Fr) (plane : Nat) (us : List PUnit) (x y : Nat) : Nat :=
  let ch := plane != 0
  let bw := f.bw ch
  let bh := f.bh ch
  match us.find? fun u => u.row == y / bh && u.col == x / bw with
  | some u => u.samples.getD ((if plane = 2 then bw * bh else 0) + y % bh * bw + x % bw) 0
  | none => 0

/-- The padding sample of a plane (R211). -/
def padSample (f : Fr) (plane : Nat) : Nat :=
  (if plane = 0 then f.padY else if plane = 1 then f.padCb else f.padCr) % 2 ^ f.d

/-- The samples of a rectangle, row by row (R104, R211). -/
def rectangle (f : Fr) (plane width height : Nat) (x y : Int) (us : List PUnit) : List Nat :=
  let ch := plane != 0
  let xs := coords f.pad (f.planeW ch) x width
  let ys := coords f.pad (f.planeH ch) y height
  ys.flatMap fun oy => xs.map fun ox =>
    match ox, oy with
    | some a, some b => sampleAt f plane us a b
    | _, _ => padSample f plane

/-- The bytes of a delivery: samples in containers of `c` bytes, little-endian. -/
def packed (c : Nat) (vs : List Nat) : List Nat := vs.flatMap fun v => (List.range c).map fun k => v / 256 ^ k % 256

/-- `n` lines from bytes, zero beyond them. -/
def linesOf (n : Nat) (bs : List Nat) : List Line :=
  (List.range n).map fun i => lineOfNats ((bs.drop (64 * i)).take 64)

/-- A job whose units are all expanded delivers. -/
def State.finishJob (s : State) (j : Job) : State :=
  let f := j.fr
  match j.kind with
  | .unpk =>
    let raw := rawBytes (f.bytes ((j.units.headD (unitOf 0 false 3 0)).chroma))
      (rawOf f.d ((j.units.headD (unitOf 0 false 3 0)).samples))
    ((s.dropJob j.id).setThr j.t ((s.thr j.t).fillBufs j.lb (linesOf j.cnt raw) j.bad (errOf j.err))).wake j.t
  | .blk2d x y plane width height layout dest =>
    let c := container f layout
    let bs := packed c (rectangle f plane width height x y j.units)
    match dest with
    | none => (s.dropJob j.id).setThr j.t ((s.thr j.t).fillBufs j.lb (linesOf j.cnt bs) j.bad (errOf j.err))
    | some (sp, tag) =>
      (linesOf (bufsFor (width * height * c)) bs).foldl (fun s l =>
        s.spRespond sp { kind := 3, tid := tag, status := if j.err ≠ 0 then j.err else b2n j.bad,
                         tmo := j.tmo && decide (j.err = 0), hm := hallmark l, data := l, stamp := none }) (s.dropJob j.id)
  | _ => s

/-- BLK2D. -/
def execBlk2d (t : ThreadRef) (s : State) : Host.Outcome State Fault Refusal :=
  .next (s.issue t 0x28 [.stream] anyWord fun s th w =>
    let toPort := mMode w % 4 == 1
    let layout := mMode w / 4 % 4
    let g := th.getG (mA w)
    let h := th.getG (mA w + 1)
    let plane := unitPlane g
    let ws := s.frameWords (unitRec g)
    let f := Fr.ofWords ws
    let width := bitsOf h 7 0 + 1
    let height := bitsOf h 15 8 + 1
    if mMode w ≥ 16 ∨ mMode w % 4 ≥ 2 ∨ layout ≥ 2 then .fault 1
    else if toPort = true ∧ (mLb w ≠ 0 ∨ bitsOf w 16 11 ≠ 0) then .fault 1
    else if mA w = 31 ∨ unitClean g = false ∨ plane = 3 ∨ width > 128 ∨ height > 128 ∨ bitsOf h 63 16 ≠ 0 ∨
        (toPort = true ∧ th.packet.isNone) then .fault 2
    else if unitRec g ≥ s.variant.frames ∨ f.ok (plane != 0) = false then .fault 0xB
    else if toPort = false ∧ (width * height * container f layout > mCnt w * 64 ∨ mLb w + mCnt w > 16) then .fault 2
    else
      match (if toPort then Touch.ok else th.touchAll true (mLb w) (mCnt w)) with
      | .stall => .stall
      | .fault c => .fault c
      | .ok =>
        let x := signed 16 (bitsOf g 31 16)
        let y := signed 16 (bitsOf g 47 32)
        let us := blkUnits f plane width height x y (if f.comp then 0 else 1)
        let n := if toPort then 0 else mCnt w
        let dest := if toPort then th.packet.map fun p => (p.sp, p.tag) else none
        let s := s.setThr t (th.pendBufs (mLb w) n)
        let j := s.newJob t (.blk2d x y plane width height layout dest) ws (mLb w) n 0 us (firstReads f us)
        .done (if us.isEmpty then s.finishJob j else s.addJob j))

/-- The latest line that came back for a job at an address. -/
def Job.lineOf (j : Job) (line : Nat) : Line := ((j.got.reverse.find? fun g => g.line == line).map GotLine.data).getD 0

/-- The lines of a unit that its entry has a reader fetch. -/
def sectorsOf (f : Fr) (u : PUnit) : List Nat :=
  if f.comp then
    (List.range (entLines (f.used u.chroma) u.entry)).map fun i => f.slotLine u.chroma u.row u.col + i
  else rawLines f u

/-- A unit takes its entry from its header line. -/
def Job.enterUnit (j : Job) (u : PUnit) : PUnit :=
  { u with phase := 1, entry := lineWord (j.lineOf (j.fr.hdrLine u.chroma u.row u.col)) (j.fr.hdrIdx u.row u.col) }

/-- A unit whose lines are all in is ready for a pipe. -/
def Job.readyUnit (j : Job) (u : PUnit) : PUnit :=
  if u.phase = 1 ∧ ((sectorsOf j.fr u).all fun l => j.got.any fun g => g.line == l) then
    { u with phase := 2 }
  else u

/-- What a read that came back makes possible: once every header line is in, the sectors are wanted; a unit whose lines
are in is ready; a read that failed ends the fetching (R96, R210, R212). -/
def Job.advance (j : Job) : Job :=
  let idle := j.want.isEmpty && decide (j.got.length = j.sent)
  if j.err ≠ 0 then { j with want := [], units := j.units.map fun u => { u with phase := 3 } }
  else if j.units.any (fun u => u.phase == 0) then
    if idle then
      let us := j.units.map j.enterUnit
      let j := { j with units := us, want := us.flatMap (sectorsOf j.fr), got := [], sent := 0 }
      { j with units := j.units.map j.readyUnit }
    else j
  else { j with units := j.units.map j.readyUnit }

/-- A job with nothing left to fetch or to expand. -/
def Job.finished (j : Job) : Bool :=
  j.want.isEmpty && decide (j.got.length = j.sent) && j.units.all fun u => u.phase == 3

/-- Stores a job, issues what it wants next, and delivers it if it has finished. -/
def State.stepJob (s : State) (j : Job) : State :=
  let j := j.advance
  if j.finished then s.finishJob j else (s.setJob j).pumpJobs fun x => x.id == j.id

/-! ### Stalls on line buffers (R78, R151) -/

/-- What the line buffers that an instruction word names mean for the thread that stands at it. -/
def State.touches (s : State) (t : ThreadRef) (th : Thread) (w : W32) : Touch :=
  let lists := fun (write : Bool) =>
    if (s.indices t th (th.getG (mA w + 1)).toNat (idxWidth w) (mCnt w)).contains LRes.stall then Touch.stall
    else th.touchAll write (mLb w) (bufsFor (mCnt w * elemSize w))
  let word := fun (write : Bool) =>
    match localAt t.kind (th.getG (fA w) + immS w).toNat with
    | .buf k _ => (th.buf k).touch write
    | _ => .ok
  match opOf w with
  | 0x1C => word false
  | 0x1D => word true
  | 0x24 => th.touchAll true (mLb w) (mCnt w)
  | 0x25 => th.touchAll false (mLb w) (mCnt w)
  | 0x28 => if mMode w % 4 = 1 then .ok else th.touchAll true (mLb w) (mCnt w)
  | 0x29 => lists true
  | 0x2A => lists false
  | 0x2B => th.touchAll false (mLb w) (mCnt w)
  | 0x2C => th.touchAll true (mLb w) (mCnt w)
  | 0x38 => th.touchAll false (mLb w) (mCnt w)
  | _ => .ok

/-- A thread in RUN stalls on a line buffer: its next instruction, of which no line operation has been issued, meets one
that is pending or read-locked. -/
def State.bufStall (s : State) (t : ThreadRef) : Bool :=
  decide ((s.thr t).prog = 0) && (s.fetch t).elim false fun w => decide (s.touches t (s.thr t) w = .stall)

/-! ### Arrivals (R78, R94, R96, R173) -/

/-- The elements of a GATHER, with the place of the line operation that read each (R107). -/
def elemOps : Nat → List Nat → List (Nat × Nat)
  | _, [] => []
  | k, [a] => [(k, a)]
  | k, a :: b :: rest => (k, a) :: elemOps (if a / 64 = b / 64 then k else k + 1) (b :: rest)

/-- The lines of a GATHER's buffers: its elements one after the other, the bytes beyond them as they were; and whether a
line that feeds a buffer is poisoned (R106, R107). The mark of a buffer comes from its new source lines alone, also where
old bytes stay in its last buffer (DESIGN CHOICE, log entry 47). -/
def gatherFill (size : Nat) (addrs : List Nat) (got : List GotLine) (old : List Line) : List (Line × Bool) :=
  let ops := elemOps 0 addrs
  let src := fun (k : Nat) => got.find? fun g => g.idx == k
  let vals := ops.map fun e => lineField (((src e.1).map GotLine.data).getD 0) (e.2 % 64) size
  let bytes := packed size vals
  let marks := ops.map fun e => ((src e.1).map GotLine.poison).getD false
  (List.range old.length).map fun i =>
    let mine := (bytes.drop (64 * i)).take 64
    (lineOfNats (mine ++ ((lineNats (old.getD i 0)).drop mine.length)),
     ((marks.drop (64 * i / size)).take (64 / size)).any id)

/-- A GATHER whose lines are all in fills its buffers. -/
def State.finishGather (s : State) (j : Job) (size : Nat) (addrs : List Nat) : State :=
  let th := s.thr j.t
  let n := bufsFor (j.cnt * size)
  let old := (List.range n).map fun i => (th.buf (j.lb + i)).data
  let th := (gatherFill size addrs j.got old).foldl (fun (acc : Nat × Thread) e =>
    (acc.1 + 1, acc.2.fillBufs acc.1 [e.1] e.2 0)) (j.lb, th)
  (s.dropJob j.id).setThr j.t th.2

/-- A GATHER whose read ended NOT_READY: its buffers carry the status (R96). -/
def State.failGather (s : State) (j : Job) (size : Nat) : State :=
  let th := s.thr j.t
  (s.dropJob j.id).setThr j.t ((List.range (bufsFor (j.cnt * size))).foldl (fun th i =>
    th.setBuf (j.lb + i) { th.buf (j.lb + i) with pending := false, err := 9 }) th)

/-- A line arrives for a job. -/
def State.jobArrival (s : State) (t : ThreadRef) (a : Arrival) (id idx : Nat) : State :=
  match s.jobs.find? fun j => j.id == id with
  | none => s
  | some j =>
    let g : GotLine := { idx := idx, line := a.line, data := a.data, poison := a.poison }
    let j := { j with got := j.got ++ [g], bad := j.bad || a.poison, tmo := j.tmo || a.tmo,
                      err := if j.err = 0 then a.status else j.err }
    match j.kind with
    | .gather size addrs =>
      if a.status = 2 then s.fault1 t 8
      else if j.want.isEmpty ∧ j.got.length = j.sent then
        if j.err ≠ 0 then s.failGather j size else s.finishGather j size addrs
      else (s.setJob j).pumpJobs fun x => x.id == j.id
    | _ => s.stepJob j

/-- The buffer that a line read fills (R94, R96). It carries a Hallmark made over its bytes: the one that arrived where the
check on arrival passed, and otherwise, the line being poisoned by that check, one made in the same way, so that a later STL
raises no second event (DESIGN CHOICE, log entry 81). -/
def Arrival.buffer (a : Arrival) : LineBuf :=
  { data := a.data, hm := hallmark a.data, hmValid := true, poison := a.poison, pending := false, locked := false,
    err := errOf a.status }

/-- An arrival goes to its buffer or its job. -/
def State.takeArrival (s : State) (t : ThreadRef) (a : Arrival) : State :=
  match a.dest with
  | .buf _ i => s.setThr t ((s.thr t).setBuf i a.buffer)
  | .job id idx => s.jobArrival t a id idx
  | _ => s

/-- An answer with the timeout qualifier halts the thread's run at its next instruction (R173). -/
def State.markTmo (s : State) (t : ThreadRef) (tmo : Bool) : State :=
  if tmo && (s.thr t).ctx.isSome then s.setThr t { s.thr t with tmoHalt := true } else s

/-- LINE_DATA_ARRIVAL: the `k`-th line that has come back for a thread arrives, with the check of R377. -/
def State.lineArrival (s : State) (t : ThreadRef) (k : Nat) : State :=
  let mine := s.arrivals.filter fun a => a.src == Src.thread t && (match a.dest with | .desc _ => false | _ => true)
  match mine[k]? with
  | none => s
  | some a =>
    if s.running = false then s
    else
      let bad := decide (a.status = 0 ∧ hallmark a.data ≠ a.hm)
      let s := { s with arrivals := s.arrivals.erase a }
      let s := if bad then s.raise (hmSource t).1 (hmSource t).2 1 (64 * a.line) else s
      let s := if a.status = 0 ∧ a.poison = false ∧ bad = false then s.readDone a.stamp else s
      let s := s.lineDone (s.runOf t)
      let s := s.markTmo t a.tmo
      s.takeArrival t { a with poison := a.poison || bad }

def execLineDataArrival (t : ThreadRef) (k : Nat) (s : State) : Host.Outcome State Fault Refusal :=
  .next (s.lineArrival t k)

/-! ### Pipe jobs (R112) -/

/-- Work of a pipe: a PACK, or a unit of a job that is ready to be expanded. -/
inductive Work where
  | pack (j : Job)
  | unit (j : Job) (i : Nat)
deriving DecidableEq, Repr

/-- The work of a job that waits for a pipe. -/
def Job.work (j : Job) : List Work :=
  match j.kind with
  | .pack _ _ _ => [.pack j]
  | _ => ((List.range j.units.length).filter fun i => (j.units.map PUnit.phase).getD i 0 == 2).map fun i => .unit j i

/-- The job's PACK has been compressed: its sectors are written, its buffers are free and its thread goes on (R207). -/
def State.packDone (s : State) (j : Job) (force : Bool) (input : List Line) (bad : Bool) : State :=
  let u := j.units.headD (unitOf 0 false 3 0)
  let r := packUnit j.fr u.chroma force bad (linesNum input)
  let base := j.fr.slotLine u.chroma u.row u.col
  let n := r.2.length
  let reqs := r.2.zipIdx.map fun e => { Req.mk0 (.thread j.t) .wr (base + e.2) with
    data := e.1, hm := hallmark e.1, poison := bad, otag := j.otag, place := .policy 4 }
  if s.outstanding j.t + n > 32 ∨ s.pool.length + n > 512 ∨ reqs.all s.mayEnter = false then s
  else
    let first := s.nextId
    let s := reqs.foldl (fun s q => s.lineOp j.t q) s
    let ids := (List.range n).map fun i => first + 1 + i
    let s := s.setJob { j with kind := .packHeader r.1, want := ids }
    (s.setThr j.t ((s.thr j.t).lockBufs j.lb j.cnt false)).wake j.t

/-- The charm of the context of a run. -/
def State.runCharm (s : State) (run : Option (Nat × Nat)) : Nat :=
  match run with
  | some (c, _) => if c < 8192 then s.fld (ctxBase c + 8) 5 0 else 0
  | none => 0

/-- The header entry of a PACK is merged once its sector writes meet FENCE.P (R207). -/
def State.headerMerge (s : State) (j : Job) (entry : W64) : State :=
  let u := j.units.headD (unitOf 0 false 3 0)
  let off := 8 * j.fr.hdrIdx u.row u.col
  let d := setLineWord 0 (j.fr.hdrIdx u.row u.col) entry
  let r := { Req.mk0 (.thread j.t) (.merge off 8) (j.fr.hdrLine u.chroma u.row u.col) with
    data := d, hm := hallmark d, otag := j.otag, place := .always, hdr := true, run := j.run }
  if s.admitted (fun r => j.want.contains r.id) = false ∨ s.opRoom j.t r = false then s
  else (s.dropJob j.id).enter (s.runCharm j.run) r

/-- A unit has been expanded and its Hallmark compared (R202, R210, R378). -/
def State.unitDone (s : State) (j : Job) (i : Nat) (u : PUnit) : State :=
  let f := j.fr
  let str := linesNum ((sectorsOf f u).map j.lineOf)
  let r := if f.comp then expand f u.chroma u.entry str else (rawSamples f.d (f.samples u.chroma) str, false)
  let plane := match j.kind with
    | .blk2d _ _ p _ _ _ _ => p
    | _ => b2n u.chroma
  let s := if r.2 then s.raise (.cluster j.cl) 4 3 (j.recIdx + 1024 * plane + 4096 * u.row + 2 ^ 28 * u.col) else s
  if s.jobs.any fun x => x.id == j.id then
    s.stepJob { j with bad := j.bad || r.2, units := j.units.set i { u with phase := 3, samples := r.1 } }
  else s

/-- Work of a pipe ends. -/
def State.workDone (s : State) : Work → State
  | .pack j =>
    match j.kind with
    | .pack force input bad => s.packDone j force input bad
    | .packHeader entry => s.headerMerge j entry
    | _ => s
  | .unit j i =>
    match j.units[i]? with
    | some u => s.unitDone j i u
    | none => s

/-- The work that may end now in a cluster: the oldest that its enabled pipes serve (R112), and the header entries of
PACKs whose sectors are written. -/
def State.pipeWork (s : State) (cl : Nat) : List Work :=
  let mine := s.jobs.filter fun j => j.cl == cl
  let pipes := s.fld (0x28004 + 0x1000 * cl) 12 12 + s.fld (0x28004 + 0x1000 * cl) 13 13
  ((mine.filter fun j => !j.kind.afterPipe).flatMap Job.work).take pipes ++
    (mine.filter fun j => j.kind.afterPipe).map .pack

/-- PIPE_JOB_DONE. -/
def State.pipeJobDone (s : State) (cl k : Nat) : State :=
  if s.running = false then s
  else
    let s := s.pumpJobs fun j => j.cl == cl
    match (s.pipeWork cl)[k]? with
    | some w => s.workDone w
    | none => s

def execPipeJobDone (cl : Nat) (k : Nat) (s : State) : Host.Outcome State Fault Refusal := .next (s.pipeJobDone cl k)

end Sys2Proof.Machine
end

