-- ==== Sys2Proof/Machine/RegRead.lean ====
section
/-! DEFINITION. What registers read as: the current value of every word of the window (R38), with the fields that are
computed from the state behind them. -/

namespace Sys2Proof.Machine

/-- A word whose fields are given as their lowest bit and their value. -/
def fields (l : List (Nat × Nat)) : W32 := BitVec.ofNat 32 (l.foldr (fun e a => e.2 * 2 ^ e.1 + a) 0)

/-- A stored word with some fields replaced: highest bit, lowest bit, value. -/
def overlay (w : W32) (l : List (Nat × Nat × Nat)) : W32 := l.foldl (fun w e => putBits w e.1 e.2.1 e.2.2) w

/-- The word of which bit `i` is the condition at `32 * h + i`. -/
def maskWord (h : Nat) (p : Nat → Bool) : W32 := fields ((List.range 32).map fun i => (i, b2n (p (32 * h + i))))

/-! ### Global and power registers -/

/-- BLOCK_READY (R499). -/
def State.blockReady (s : State) : W32 :=
  fields ([(29, b2n s.intcReady), (4, b2n (s.stopReady 1)), (3, b2n (s.stopReady 0)), (2, b2n s.locketReady),
    (1, b2n s.homeReady), (0, b2n s.cfgReady)] ++
    ((List.range s.variant.slots).map fun n => (17 + n, b2n (s.scReady (2 * n) && s.scReady (2 * n + 1)))) ++
    ((List.range s.variant.clusters).map fun c => (5 + c, b2n (s.clusterReady c))))

/-- PWR_STATUS.BUSY and STEP (R553). -/
def State.pwrStep (s : State) : Nat × Nat :=
  match s.pwr with
  | .stable => (0, 0)
  | .entry _ step => (1, step)
  | .wake _ _ => (1, 0)

/-! ### Threads (R151, R154, R155) -/

/-- STATE of a thread. -/
def State.stateCode (s : State) (t : ThreadRef) : Nat :=
  match s.thrSt t with
  | .idle => 0
  | .run => 1
  | .wait => 2
  | .faulted => 3
  | .offline => 4

/-- WAIT_WHY of a wait (R151). -/
def Wait.why : Wait → Nat
  | .none => 0
  | .fence _ => 2
  | .relFence _ _ => 2
  | .acquire _ _ => 3
  | .acquireFull _ _ => 11
  | .events _ _ _ => 4
  | .pipe _ => 5
  | .descriptor _ => 6
  | .start => 6
  | .packet _ => 6
  | .doneFence => 7
  | .yieldFence => 7
  | .runSlot _ => 7
  | .twait _ => 9
  | .evtQueue _ => 10
  | .maint => 12

/-- WAIT_WHY of a thread: the reason of its WAIT, or of the wait of its halted run for a report slot (R187), or of its stall
on a line buffer, in which it stays in RUN (R70, R77, R151; DEDUCED, log entry 35). -/
def State.waitWhy (s : State) (t : ThreadRef) : Nat :=
  match s.thrSt t with
  | .wait => (s.thr t).wait.why
  | .run => b2n (s.bufStall t)
  | .faulted => (s.thr t).wait.why
  | _ => 0

/-- FAULT_CODE of a thread. -/
def State.faultCode (s : State) (t : ThreadRef) : Nat := if s.thrSt t = .faulted then (s.thr t).fault else 0

/-- THR_STATE of the thread selected in a cluster. -/
def State.thrState (s : State) (t : ThreadRef) : W32 :=
  let th := s.thr t
  fields [(29, s.stateCode t), (25, s.waitWhy t), (24, th.bank), (23, b2n th.ctx.isSome), (11, th.ctx.getD 0),
    (0, s.faultCode t)]

/-- The thread that THR_SEL of a cluster names. -/
def State.selThread (s : State) (cl : Nat) : ThreadRef := ⟨.stream, cl, s.fld ((Win.cluster cl).base + 0x20) 5 0⟩

/-- The words of a cluster window. -/
def State.clusterWord (s : State) (n o : Nat) (r : W32) : W32 :=
  if o = 8 then overlay r [(28, 16, s.oldRefs (.cluster n)), (11, 6, s.oldThreads (.cluster n))]
  else if o = 0x24 then s.thrState (s.selThread n)
  else if o = 0x28 then fields [(0, (s.thr (s.selThread n)).pc)]
  else if o = 0x30 then BitVec.ofNat 32 s.evf.toNat
  else if o = 0x34 then BitVec.ofNat 32 (s.evf.toNat / 2 ^ 32)
  else r

/-- The words of a sequencer or service engine window; `t` gives its threads. T0_FAULT and T1_FAULT hold their codes until
R133 clears them (R155). -/
def State.engWord (s : State) (b : BankRef) (t : Nat → ThreadRef) (o : Nat) (r : W32) : W32 :=
  if o = 8 then
    overlay r [(31, 29, s.stateCode (t 1)), (28, 25, s.waitWhy (t 1)), (24, 22, s.stateCode (t 0)), (21, 18, s.waitWhy (t 0))]
  else if o = 0x24 then s.progWord b
  else if o = 0x28 ∨ o = 0x2C then fields [(0, (s.thr (t ((o - 0x28) / 4))).pc % 2048)]
  else if o = 0x30 ∨ o = 0x34 then
    fields [(16, (s.thr (t ((o - 0x30) / 4))).trap), (0, (s.thr (t ((o - 0x30) / 4))).fault)]
  else r

/-! ### Home, Locket, ports and channel units -/

/-- READs of a port that await their data (R469). -/
def State.portReads (s : State) (n : Nat) : Nat := ((s.sp n).held.filter fun e => rqKind e.word == 1).length + s.outReads n

/-- SP_STATUS (R469). At most 16 context commands await their effect; the requests behind them are held (R187). -/
def State.spStatus (s : State) (n : Nat) : W32 :=
  let p := s.sp n
  fields [(24, min 255 p.rdCr), (23, b2n p.link), (20, min 7 (p.flushes.filter fun f => !f.dead).length),
    (15, min 16 (p.held.filter fun e => rqKind e.word == 4).length), (0, s.portReads n % 8192)]

/-- CLASPn (R359). -/
def State.claspWord (s : State) (n : Nat) (r : W32) : W32 :=
  let c := s.clasp n
  let st := match c.st with | .free => 0 | .held => 1 | .broken => 2
  overlay r [(31, 30, st), (28, 28, b2n (c.repair && st == 1)), (27, 16, if st = 0 then 0 else c.owner)]

/-- Valid filter entries (R337). -/
def State.sfEntries (s : State) : Nat := (s.filter.map fun e => (e.2.filter fun x => x.sum != 3).length).sum

/-- Trackers in use: open transactions and lines of the mover that hold their line (R232, R313). -/
def State.trkUsed (s : State) : Nat := s.trks.length + (s.moves.filter fun m => m.phase != 0).length

/-- The words of the home window. -/
def State.homeWord (s : State) (o : Nat) (r : W32) : W32 :=
  if o = 0xC then overlay r [(11, 0, s.trkUsed)]
  else if o = 0x18 then fields [(0, s.sfEntries)]
  else if o = 0x404 then fields [(0, b2n (s.attachHigh 0))]
  else if o = 0x604 then fields [(0, b2n (s.attachHigh 1))]
  else if 0x800 ≤ o ∧ o < 0xC00 then s.claspWord ((o - 0x800) / 4) r
  else if o = 0xC84 then overlay r
    [(12, 8, s.waitSc.getD 0), (7, 7, b2n s.waitSc.isSome), (5, 5, b2n (s.migPaused && s.flag migStatus 0 && s.moves.isEmpty))]
  else if o = 0xC98 then fields [(16, s.writeLedger), (0, s.readLedger)]
  else r

/-- Q_STATUS (R266). -/
def State.qStatus (s : State) (n : Nat) : W32 :=
  let c := s.chan n
  fields [(23, b2n c.drain), (16, c.wqUsed), (0, c.rqUsed)]

/-- ARB_STATUS (R266). -/
def State.arbStatus (s : State) (n : Nat) (r : W32) : W32 :=
  let c := s.chan n
  let susp := ((List.range 6).map fun k => b2n (c.susp.any fun x => x.rq == k) * 2 ^ k).sum
  overlay r [(25, 22, unsigned 4 (c.rank 1).owed), (21, 18, unsigned 4 (c.rank 0).owed), (17, 12, susp),
    (11, 9, c.run.elim 7 fun x => x.rq)]

/-- The words of a sub-channel window. -/
def State.chanWord (s : State) (n o : Nat) (r : W32) : W32 :=
  if o = 8 then fields [(0, s.capMib n)]
  else if o = 0x30 then s.qStatus n
  else if o = 0x34 then s.arbStatus n r
  else r

/-- SEED_STATUS and the two words of each sprout slot (R395). -/
def State.seedWord (s : State) (o : Nat) (r : W32) : W32 :=
  if o = 0x4208 then
    overlay r [(14, 8, s.ewt.length), (3, 0, ((List.range 4).map fun i => b2n (s.sprout i).isSome * 2 ^ i).sum)]
  else if 0x4210 ≤ o ∧ o < 0x4230 then
    (s.sprout ((o - 0x4210) / 8)).elim 0 fun p => fields [(0, if o % 8 = 0 then p.plot else p.fp)]
  else r

/-- The words of the PHY global window. -/
def State.phyWord (s : State) (o : Nat) (r : W32) : W32 :=
  if o = 8 then maskWord 0 fun g => decide (g < s.variant.scs) && s.held g else s.seedWord o r

/-! ### Fault histories (R508, R518) -/

/-- The fault block that holds an offset, and the place in its 0x80 bytes. -/
def blockAt (v : Variant) (off : Nat) : Option (FaultRef × Nat) :=
  ((faultBlocks v).find? fun b => decide (faultBase b ≤ off ∧ off < faultBase b + 0x80)).map fun b => (b, off - faultBase b)

/-- Words 0 to 3 of an entry. -/
def HistEnt.word (e : HistEnt) (k : Nat) : W32 :=
  match k with
  | 0 => BitVec.ofNat 32 e.tbase.toNat
  | 1 => BitVec.ofNat 32 (e.tbase.toNat / 2 ^ 32)
  | 2 => fields [(27, e.source % 32), (26, b2n e.forced), (25, b2n e.escalated), (23, e.sev % 4), (21, e.kind % 4),
      (14, e.seq % 128), (0, e.info.toNat / 2 ^ 32)]
  | _ => BitVec.ofNat 32 e.info.toNat

/-- Word `k` of entry SEL of a block as it now stands; 0 while SEL names no valid entry. -/
def State.histNow (s : State) (b : FaultRef) (k : Nat) : W32 :=
  ((tget [] s.hist (faultBase b))[s.fld (faultBase b + 0x20) 3 0]?).elim 0 fun e => e.word k

/-! ### Every word -/

/-- The words of the interrupt controller: level sources that are active are pending (R573). -/
def State.intcWord (s : State) (o : Nat) (r : W32) : W32 :=
  if 0x300 ≤ o ∧ o < 0x320 then s.takeWord ((o - 0x300) / 4) false
  else if 0x400 ≤ o ∧ o < 0x420 then s.tgtStatus ((o - 0x400) / 4)
  else if 0x1000 ≤ o ∧ o < 0x1020 then s.takeWord ((o - 0x1000) / 4) true
  else if 0x200 ≤ o ∧ o < 0x240 then r ||| maskWord ((o - 0x200) / 4) fun src => s.levels.contains src
  else r

/-- The words of the security window: a region is Sealed while it is enabled and its slot holds no key (R559). -/
def State.secWord (s : State) (o : Nat) (r : W32) : W32 :=
  if o = 0x40 ∨ o = 0x44 then maskWord ((o - 0x40) / 4) fun k => (s.key k).isSome
  else if o = 0x48 ∨ o = 0x4C then maskWord ((o - 0x48) / 4) fun k => s.flag (0x3C400 + 8 * k) 31 && (s.key k).isNone
  else r

/-- The current value of the word at offset `o` of a window, of which `off` is the window offset and `r` the stored word. -/
def State.winWord (s : State) (w : Win) (o : Nat) (r : W32) : W32 :=
  match w with
  | .glob =>
    if o = 0xC then s.blockReady
    else if o = 0x20 then BitVec.ofNat 32 s.tbase.toNat
    else if o = 0x24 then BitVec.ofNat 32 (s.tbase.toNat / 2 ^ 32)
    else r
  | .power =>
    if o = 4 then overlay r [(28, 28, s.pwrStep.1), (27, 25, s.pwrStep.2)]
    else if o = 0xE0C then overlay r [(1, 1, b2n s.graveAny), (0, 0, b2n s.toggling)]
    else r
  | .sec => s.secWord o r
  | .charm => if o = 0x20 ∨ o = 0x24 then maskWord ((o - 0x20) / 4) s.overBit else r
  | .trellis _ => r
  | .home => s.homeWord o r
  | .locket => if o = 0x10 then fields [(0, (s.locket.map fun e => e.2.length).sum)] else r
  | .port n => if o = 8 then s.spStatus n else r
  | .chan n => s.chanWord n o r
  | .cluster n => s.clusterWord n o r
  | .seq n => s.engWord (.seq n) (fun i => ⟨.seq, n, i⟩) o r
  | .svc n => s.engWord (.svc n) (fun i => ⟨.svc, n, i⟩) o r
  | .phy => s.phyWord o r
  | .intc => s.intcWord o r
  | .ctx _ => r
  | .frame _ => r
  | .store n => s.instrAt (.cluster n) (o / 0x8000) (o % 0x8000 / 4)

/-- The current value of the register at offset `o` of window `w`, at window offset `off`, reserved bits apart. -/
def State.cur (s : State) (w : Win) (o off : Nat) : W32 :=
  match blockAt s.variant off with
  | some (b, k) => if 0x24 ≤ k ∧ k < 0x34 then s.histNow b ((k - 0x24) / 4) else s.winWord w o (s.reg off)
  | none => s.winWord w o (s.reg off)

/-- The bits that the fields of a register occupy. -/
def fldMask (fs : List Fld) : Nat := fs.foldl (fun m f => m + (2 ^ (f.hi + 1 - f.lo) - 1) * 2 ^ f.lo) 0

/-- The bits whose value the spec gives: those of fields, but none of THR_STATE and THR_PC while THR_SEL names no thread
(R151). -/
def State.knownMask (s : State) (w : Win) (o : Nat) : Nat :=
  match w with
  | .cluster n => if (o = 0x24 ∨ o = 0x28) ∧ (s.selThread n).idx ≥ 48 then 0 else fldMask (regFlds s.variant w o)
  | _ => fldMask (regFlds s.variant w o)

/-- What a port reads where the fields read `v`: reserved bits and reserved offsets read a free value (R47, R48). -/
def State.withOpen (s : State) (w : Win) (o off : Nat) (v : W32) : W32 × State :=
  let m := BitVec.ofNat 32 (s.knownMask w o)
  if m = BitVec.allOnes 32 then (v, s) else ((v &&& m) ||| (Config.reserved s.free off &&& ~~~m), s.draw)

/-! ### Word reads with what they do -/

/-- The key of a port's shadow of the two-word value, or of the fault block, at an offset (R51, R518). -/
def shadowKey (p : Port) (off : Nat) : Nat := 2 * off + (match p with | .cfg => 0 | .dbg => 1)

/-- A port may clear RC fields by reading (R40, R561). -/
def State.clearsRc (s : State) (p : Port) : Bool :=
  match p with
  | .cfg => true
  | .dbg => decide (s.dbgLevel = 2)

/-- RC fields of a word that has been read become 0 (R38). -/
def State.readRc (s : State) (p : Port) (w : Win) (o off : Nat) : State :=
  if s.clearsRc p then
    (regFlds s.variant w o).foldl (fun s f => if f.cls = .rc then s.setFld off f.hi f.lo 0 else s) s
  else s

/-- A word read of FLT_HIST_E0 to E3 (R518). -/
def State.histRead (s : State) (p : Port) (b : FaultRef) (k : Nat) : W32 × State :=
  let key := shadowKey p (faultBase b)
  let sh := tget (0, 0, 0) s.histShadow key
  match k with
  | 0 => (s.histNow b 0,
      { s with histShadow := tset (0, 0, 0) s.histShadow key (s.histNow b 1, s.histNow b 2, s.histNow b 3) })
  | 1 => (sh.1, s)
  | 2 => (sh.2.1, s)
  | _ => (sh.2.2, s)

/-- The registers that serve the debug port only: DBG_MCTRL, DBG_MADDR and DBG_MDATA (R563). -/
def dbgOnly (off : Nat) : Bool := off == 0x2050 || off == 0x2058 || off == 0x205C || (0x2100 ≤ off && off < 0x2140)

/-- A word read of the interrupt controller: TAKEn and FTAKEn take, but not for the debug port (R576). -/
def State.intcRead (s : State) (p : Port) (o : Nat) : State :=
  if p = .dbg then s
  else if 0x300 ≤ o ∧ o < 0x320 then s.takeIrq ((o - 0x300) / 4) false
  else if 0x1000 ≤ o ∧ o < 0x1020 then s.takeIrq ((o - 0x1000) / 4) true
  else s

/-- What reading a word does, but for shadows. -/
def State.readEffect (s : State) (p : Port) (w : Win) (o off : Nat) : State :=
  match w with
  | .intc => s.intcRead p o
  | .seq n => if o = 0x24 then s.progNext (.seq n) else s
  | .svc n => if o = 0x24 then s.progNext (.svc n) else s
  | _ => s.readRc p w o off

/-- The value and the effect of a word read, reserved bits apart: of a two-word value through the port's shadow (R49), of
a history entry through its shadow (R518). -/
def State.wordRead (s : State) (p : Port) (w : Win) (o off : Nat) : W32 × State :=
  match blockAt s.variant off with
  | some (b, k) => if 0x24 ≤ k ∧ k < 0x34 then s.histRead p b ((k - 0x24) / 4) else (s.cur w o off, s)
  | none =>
    if isLow w o then
      (s.cur w o off,
        { s with rdShadow := tset (resetWord s.variant (off + 4)) s.rdShadow (shadowKey p off) (s.cur w (o + 4) (off + 4)) })
    else if o ≥ 4 && isLow w (o - 4) then
      (tget (resetWord s.variant off) s.rdShadow (shadowKey p (off - 4)), s)
    else (s.cur w o off, s.readEffect p w o off)

/-- A word read of a mapped offset (R38). -/
def State.readWord (s : State) (p : Port) (w : Win) (o off : Nat) : W32 × State :=
  if p = .cfg ∧ dbgOnly off = true then (0, s)
  else
    let r := s.wordRead p w o off
    r.2.withOpen w o off r.1

/-- A read of a bit alias (R56): the current value of the bit; nothing else happens. -/
def State.readBit (s : State) (p : Port) (w : Win) (o off bit : Nat) : W32 × State :=
  if p = .cfg ∧ dbgOnly off = true then (0, s)
  else
    let r := s.withOpen w o off (s.cur w o off)
    (BitVec.ofNat 32 (bitsOf r.1 bit bit), r.2)

end Sys2Proof.Machine
end

