-- ==== Sys2Proof/Machine/Clock.lean ====
section
/-! DEFINITION. The clock root and the timebase: relocks (R489, R490) and TBASE steps (R505). -/

namespace Sys2Proof.Machine

/-- BLOCK_CTRL, and the places of TB_STEP, TB_UNKNOWN, TB_LONG and TB_SRC (R506). -/
def blockCtrl : Nat := 0x8

/-- A TBASE step of source `src`: 0 ELAPSED, 1 a software write (R505, R272). -/
def State.tbStep (s : State) (src : Nat) : State := ((s.setFlag blockCtrl 31 true).setFld blockCtrl 28 28 src).usedClear

/-- CLK_CTRL (R492). -/
def clkCtrl : Nat := 0x38100

/-- RATE. -/
def State.rate (s : State) : Nat := s.fld clkCtrl 2 0

/-- The units that must be disabled for a relock: all but PHY global (R489). -/
def relockUnits (v : Variant) : List UnitRef := (allUnits v).filter fun u => u != UnitRef.phy

/-- A write that changes RATE starts a relock (R489). -/
def State.mayRelock (s : State) (rate : Nat) : Bool :=
  (List.range s.variant.scs).all (fun n => !s.reportsReady n) && (relockUnits s.variant).all s.disabled &&
    decide (s.pstate = 0) && !s.flag clkStatus 2 && decide (rate ≤ 5)

/-- A relock starts (R490): the PLL leaves its rate and the clocks stop. -/
def State.relockStart (s : State) (rate : Nat) : State :=
  { ((s.setFld clkCtrl 2 0 rate).setFlag clkStatus 2 true).setFlag clkStatus 0 false with relockTo := rate }

end Sys2Proof.Machine
end

