-- ==== Sys2Proof/Machine/Security.lean ====
section
/-! DEFINITION. The security unit: the key port (R483, R556 to R558), changes of the debug level (R564 to R567) and the
debug port's memory access (R563). The register writes that begin these stand in RegAccess.lean. -/

namespace Sys2Proof.Machine

/-! ### Keys -/

/-- KEY_READY (R558). -/
def State.keyReady (s : State) : Bool :=
  decide (s.pstate ≤ 2) && !s.inReset && s.refclk && !s.grave .security &&
    (match s.pwr with
    | .stable => true
    | .entry _ step => decide (step ≠ 6)
    | .wake _ step => decide (step = 4))

/-- The beats gathered so far are discarded. -/
def State.dropBeats (s : State) : State := { s with keyBeats := [] }

/-- A transfer is refused: KEY_ERR pulses (R482, R483). -/
def State.keyError (s : State) : State := s.dropBeats.emit .keyErr

/-- The key that eight beats carry: beat k holds bytes 8 k to 8 k + 7, the lowest in its low bits (R482). -/
def keyOfBeats (l : List W64) : BitVec 512 := BitVec.ofNat 512 (l.foldr (fun b a => b.toNat + 2 ^ 64 * a) 0)

/-- A slot is erased. -/
def State.eraseKey (s : State) (slot : Nat) : State := { s with keys := s.keys.filter fun e => e.1 != slot }

/-- A slot takes a key. -/
def State.storeKey (s : State) (slot : Nat) (k : BitVec 512) : State :=
  { s with keys := (s.keys.filter fun e => e.1 < slot) ++ (slot, k) :: s.keys.filter fun e => e.1 > slot }

/-- A load of all eight beats is refused (R557): the lifecycle is RETIRED, the security unit is in GRAVE, or LOCK.KEY_ONCE
is 1 and the slot holds a key. -/
def State.loadRefused (s : State) (slot : Nat) : Bool :=
  s.lifecycle == 3 || s.grave .security || (s.flag 0x18 4 && (s.key slot).isSome)

/-- Beat 7: the load is accepted, or refused with KEY_ERR and the key-refused source (R557). -/
def State.endLoad (s : State) (slot : Nat) (k : BitVec 512) : State :=
  if s.loadRefused slot then s.keyError.raise .security 2 3 slot else s.dropBeats.storeKey slot k

/-- A load beat (R483): beats come in order for one slot, with no other transfer in between. -/
def State.loadBeat (s : State) (slot beat : Nat) (data : W64) : State :=
  if beat ≠ s.keyBeats.length ∨ (beat ≠ 0 ∧ slot ≠ s.keySlot) then s.keyError
  else if beat = 7 then s.endLoad slot (keyOfBeats (s.keyBeats ++ [data]))
  else { s with keySlot := slot, keyBeats := s.keyBeats ++ [data] }

/-- An erase transfer (R557): one inside a load breaks the load's order and changes no slot (R483). -/
def State.eraseBeat (s : State) (slot : Nat) : State :=
  if s.keyBeats = [] then s.eraseKey slot else s.keyError

/-- A transfer of the key port: KEY_OP 0 is a load beat, 1 an erase, 2 and 3 are reserved (R482, R483). -/
def State.keyBeat (s : State) (kop slot beat : Nat) (data : W64) : State :=
  if s.keyReady = false then s
  else if kop = 0 then s.loadBeat slot beat data
  else if kop = 1 then s.eraseBeat slot
  else s.keyError

/-- KEY_LOAD_BEAT. -/
def execKeyLoadBeat (kop : BitVec 2) (slot : BitVec 6) (beat : BitVec 3) (data : W64) (s : State) :
    Host.Outcome State Fault Refusal := .next (s.keyBeat kop.toNat slot.toNat beat.toNat data)

/-- KEY_ERASE. -/
def execKeyErase (slot : BitVec 6) (s : State) : Host.Outcome State Fault Refusal :=
  .next (if s.keyReady then s.eraseBeat slot.toNat else s)

/-! ### The debug level -/

/-- SEC_STATUS and its bits AUTH_BUSY, CHAL_VALID, GRANTED and DENIED (R571). -/
def secStatus : Nat := 0x2000
def State.authBusy (s : State) : Bool := s.flag secStatus 27
def State.chalValid (s : State) : Bool := s.flag secStatus 26
def State.denied (s : State) : State := s.setFlag secStatus 24 true

/-- A SET may raise the level to `level` (R556, R567). -/
def State.mayRaise (s : State) (level : Nat) : Bool :=
  !s.grave .security && (decide (s.lifecycle ≠ 2) || (level == 1 && s.flag 0x2004 0))

/-- OP SET (R564): a lower level always takes effect, a higher one where R556 allows it. -/
def State.levelSet (s : State) (level : Nat) : State :=
  if level = 3 ∨ level = s.dbgLevel then s
  else if level < s.dbgLevel ∨ s.mayRaise level = true then s.setFld secStatus 29 28 level
  else s.denied

/-- OP CHAL (R565 step 1). -/
def State.newChal (s : State) : State :=
  let s := s.setReg 0x200C (s.reg 0x200C + 1)
  ((s.setReg 0x2014 (s.reg 0x200C)).setReg 0x2010 (BitVec.ofNat 32 s.tbase.toNat)).setFlag secStatus 26 true

/-- OP SUBMIT (R565 step 3). -/
def State.submit (s : State) (level : Nat) : State :=
  if level = 3 then s
  else if s.grave .security ∨ s.chalValid = false then s.denied
  else { (s.setFlag secStatus 26 false).setFlag secStatus 27 true with authLevel := level }

/-- A write of DBG_CMD (R565); none while AUTH_BUSY is 1. A write with OP 0 or LEVEL 3 has no effect. -/
def State.dbgCommand (s : State) (v : W32) : Option State :=
  if s.authBusy then none
  else if bitsOf v 5 4 = 3 then some s
  else
    match bitsOf v 1 0 with
    | 1 => some (s.levelSet (bitsOf v 5 4))
    | 2 => some s.newChal
    | 3 => some (s.submit (bitsOf v 5 4))
    | _ => some s

/-- Step 5 of R565: AUTH_REQ falls, AUTH_BUSY and the token words become 0. -/
def State.authEnd (s : State) : State := { s.setFlag secStatus 27 false with token := 0 }

/-- A judgement can arrive: AUTH_REQ is high. -/
def State.judged (s : State) : Bool := s.authBusy && s.refclk && !s.inReset

/-- The token is refused: DENIED and the unlock-refused source (R565 step 4). -/
def State.authRefuse (s : State) : State := s.denied.authEnd.raise .security 3 3 0

/-- AUTH_GRANT (R565). -/
def execAuthGrant (s : State) : Host.Outcome State Fault Refusal :=
  .next (if s.judged then ((s.setFld secStatus 29 28 s.authLevel).setFlag secStatus 25 true).authEnd else s)

/-- AUTH_DENY (R565). -/
def execAuthDeny (s : State) : Host.Outcome State Fault Refusal := .next (if s.judged then s.authRefuse else s)

/-- AUTH_TIMEOUT (R565): 100 ms pass without a judgement. -/
def execAuthTimeout (s : State) : Host.Outcome State Fault Refusal := .next (if s.judged then s.authRefuse else s)

/-! ### The debug port's memory access (R563) -/

/-- DBG_MCTRL, and DBG_MADDR as a line address. -/
def dbgMctrl : Nat := 0x2050
def State.dbgLine (s : State) : Nat := s.reg2 0x2058 / 64 % 2 ^ 40

/-- DBG_MDATA as a line. -/
def State.dbgData (s : State) : Line :=
  BitVec.ofNat 512 ((List.range 16).foldr (fun k a => (s.reg (0x2100 + 4 * k)).toNat + 2 ^ 32 * a) 0)

/-- A line in DBG_MDATA. -/
def State.setDbgData (s : State) (d : Line) : State :=
  (List.range 16).foldl (fun s k => s.setReg (0x2100 + 4 * k) (BitVec.ofNat 32 (d.toNat / 2 ^ (32 * k)))) s

/-- STATUS. -/
def State.setDbgStatus (s : State) (n : Nat) : State := s.setFld dbgMctrl 28 26 n

/-- GO = 1 with RNW as written. -/
def State.dbgGo (s : State) (rnw : Bool) : State :=
  if s.dbgAcc.isSome ∨ (rnw = false ∧ s.dbgLevel < 2) then s.setDbgStatus 5
  else if (s.region s.dbgLine).isSome then
    if rnw then ((s.setDbgData 0).setDbgStatus 4).raise .security 1 1 (64 * s.dbgLine) else s.setDbgStatus 4
  else
    { s.setFlag dbgMctrl 29 true with
      dbgAcc := some { line := s.dbgLine, rnw := rnw, status := 0, data := if rnw then 0 else s.dbgData, finished := false } }.dbgPump

/-- DEBUG_ACCESS_DONE (R563): a read's line is in DBG_MDATA, STATUS tells how the access ended, BUSY becomes 0. -/
def State.dbgDone (s : State) : State :=
  match s.dbgAcc with
  | none => s
  | some d =>
    if d.finished && s.running then
      let s := if d.rnw ∧ d.status ≤ 1 then s.setDbgData d.data else s
      { (s.setDbgStatus d.status).setFlag dbgMctrl 29 false with dbgAcc := none }
    else s

def execDebugAccessDone (s : State) : Host.Outcome State Fault Refusal := .next s.dbgDone

end Sys2Proof.Machine
end

