-- ==== Sys2Proof/Machine/RegWrite.lean ====
section
/-! DEFINITION. What a register write does: each field by its class (R38, R57), the states and locks that make it ignore a
write (R36, R53, R584), and what the unit does with the fields that act when they are written. -/

namespace Sys2Proof.Machine

/-- A state, and whether the write was ignored in part or whole. -/
abbrev Wrote := State × Bool

/-- What a write asks of a register: the fields it writes and the word that carries their new values; for W1C and RC
fields the bits to clear, for LK fields the bits to set. `alias` marks a bit alias. -/
structure Ask where
  flds : List Fld
  val : W32
  bit : Bool
deriving DecidableEq, Repr

/-- The value asked for a field; 0 for one that is not written. -/
def Ask.of (a : Ask) (hi lo : Nat) : Nat := bitsOf a.val hi lo

/-- Whether a field is written. -/
def Ask.writes (a : Ask) (lo : Nat) : Bool := a.flds.any fun f => f.lo == lo

/-- A word write. -/
def State.wordAsk (s : State) (w : Win) (o : Nat) (v : W32) : Ask :=
  { flds := regFlds s.variant w o, val := v &&& BitVec.ofNat 32 (fldMask (regFlds s.variant w o)), bit := false }

/-- What a bit alias asks of the field that holds the bit (R57, R59): `i` is the bit's place in the field and `held` the
value the field holds. -/
def bitValue (c : Cls) (held i : Nat) (one : Bool) : Nat :=
  let rest := held - held / 2 ^ i % 2 * 2 ^ i
  match c with
  | .st => rest + b2n one * 2 ^ i
  | .lv => rest + b2n one * 2 ^ i
  | .w1c => b2n (!one) * 2 ^ i
  | .rc => b2n (!one) * 2 ^ i
  | _ => b2n one * 2 ^ i

/-- Word `k` of the unlock token as it is held; it reads 0 (R565). -/
def State.tokenHeld (s : State) (k : Nat) : W32 := BitVec.ofNat 32 (s.token.toNat / 2 ^ (32 * k))

/-- The word that holds what a bit alias leaves of its field, and the class the field has for it: TOKEN is an LV field
that holds what was written and reads 0. -/
def State.aliasOf (s : State) (w : Win) (o off : Nat) (c : Cls) : Cls × W32 :=
  if w = .sec ∧ 0x20 ≤ o ∧ o < 0x40 then (.lv, s.tokenHeld ((o - 0x20) / 4)) else (c, s.cur w o off)

/-- A write of a bit alias: one field, none where the bit is reserved. -/
def State.bitAsk (s : State) (w : Win) (o off i : Nat) (one : Bool) : Ask :=
  match (regFlds s.variant w o).find? fun f => decide (f.lo ≤ i ∧ i ≤ f.hi) with
  | none => { flds := [], val := 0, bit := true }
  | some f =>
    let x := s.aliasOf w o off f.cls
    { flds := [f], bit := true,
      val := BitVec.ofNat 32 (bitValue x.1 (bitsOf x.2 f.hi f.lo) (i - f.lo) one * 2 ^ f.lo) }

/-! ### Fields by their class (R38) -/

/-- The bounds of the timing parameters, from index 0 on (R263). -/
def timingRange : List (Nat × Nat) :=
  [(22, 96), (20, 94), (8, 255), (8, 255), (16, 511), (24, 767), (4, 63), (4, 63), (16, 255), (8, 31), (8, 63), (16, 255),
   (16, 255), (4, 63), (2, 63), (4, 127), (4, 63), (0, 15), (128, 4095), (64, 4095), (16, 511), (8, 127), (8, 127),
   (8, 255), (8, 255), (16, 511), (2, 15)]

/-- The value an ST field stores: a timing parameter its nearest bound (R264). -/
def stValue (w : Win) (o n : Nat) : Nat :=
  match w with
  | .chan _ => if 0x100 ≤ o ∧ o < 0x200 then (timingRange[(o - 0x100) / 4]?).elim n fun r => clamp r.1 r.2 n else n
  | _ => n

/-- The unit that owns the ST fields of a window is disabled (R44). -/
def State.stOpen (s : State) (w : Win) : Bool := (stUnit w).elim false s.disabled

/-- LOCK bit `i` is set. -/
def State.lockBit (s : State) (i : Nat) : Bool := s.flag 0x18 i

/-- Fields that a LOCK bit covers, by the window offset of their register (R569). -/
def State.locked (s : State) (off : Nat) : Bool :=
  (s.lockBit 0 && (0x3C400 ≤ off && off < 0x3C600)) ||
  (s.lockBit 2 && off == 0x2004) || (s.lockBit 3 && off == 0x2050) ||
  (s.lockBit 1 && (blockAt s.variant off).elim false fun b => b.2 == 0xC)

/-- How an LV field takes a write in the present state. -/
inductive Hold where
  /-- it stores the value -/
  | open
  /-- it ignores the write; a write of the present value is none (R584) -/
  | kept
  /-- it ignores the write whatever the value (R584) -/
  | shut
deriving DecidableEq, Repr

/-- A word of Trellis bank `b` cannot be written (R289). -/
def State.trShut (s : State) (b : Nat) : Bool := s.trEn && (decide (s.trActive = b) || s.trPending)

/-- The group or slot that a register of PHY global belongs to keeps its MODE (R445, R454). -/
def State.modeKept (s : State) (o n : Nat) : Bool :=
  if 0x40 ≤ o ∧ o < 0xA0 then s.held ((o - 0x40) / 4) || (n == 1 && s.moduleAsleep ((o - 0x40) / 8))
  else if 0x400 ≤ o ∧ o < 0x580 then o % 0x20 == 0 && s.flag (sbCmdReg ((o - 0x400) / 0x20)) 31
  else false

/-- How an LV field at lowest bit `lo` takes the value `n` (R53, R223, R269, R289, R445, R454, R563). -/
def State.lvHold (s : State) (p : Port) (w : Win) (o off lo n : Nat) : Hold :=
  if (p = .cfg ∧ dbgOnly off = true) ∨ s.locked off = true then .kept
  else
    match w with
    | .trellis b => if s.trShut b then .shut else .open
    | .home => if (0xC40 ≤ o ∧ o < 0xC80) ∧ s.flag migStatus 0 = true then .kept else .open
    | .charm => if o = 0x400 ∧ (lo = 30 ∨ lo = 22) then .kept else .open
    | .phy => if ((o < 0x100 ∧ lo = 0) ∨ (0x400 ≤ o ∧ lo = 2)) ∧ s.modeKept o n = true then .kept else .open
    | _ => .open

/-- One field of a write. -/
def State.fieldWrite (s : State) (p : Port) (w : Win) (o off : Nat) (a : Ask) (r : Wrote) (f : Fld) : Wrote :=
  let n := a.of f.hi f.lo
  let old := r.1.fld off f.hi f.lo
  match f.cls with
  | .st => if s.stOpen w then (r.1.setFld off f.hi f.lo (stValue w o n), r.2) else (r.1, r.2 || n != old)
  | .lv =>
    match s.lvHold p w o off f.lo n with
    | .open => (r.1.setFld off f.hi f.lo n, r.2)
    | .kept => (r.1, r.2 || n != old)
    | .shut => (r.1, true)
  | .w1c => (r.1.setFld off f.hi f.lo (old - Nat.land old n), r.2)
  | .rc => if a.bit then (r.1.setFld off f.hi f.lo (old - Nat.land old n), r.2) else r
  | .lk => (r.1.setFld off f.hi f.lo (Nat.lor old n), r.2)
  | .pulse => (r.1, r.2 || (n != 0 && ((p == .cfg && dbgOnly off) || s.locked off)))
  | .ro => r
  | .zero => r

/-- Every field of a write, judged against the state before it. -/
def State.fieldsWrite (s : State) (p : Port) (w : Win) (o off : Nat) (a : Ask) : Wrote :=
  a.flds.foldl (s.fieldWrite p w o off a) (s, false)

/-- A part of a write that can be ignored. -/
def orIgnored (r : Wrote) (x : Option State) : Wrote :=
  match x with
  | some s => (s, r.2)
  | none => (r.1, true)

/-! ### UNIT_CTRL (R43 to R46) -/

/-- MBOX12 is rewritten where readiness changes with EN (R403). -/
def State.setChanEn (s : State) (n : Nat) (b : Bool) : State :=
  let s := s.setFlag (unitCtrl (.chan n)) 0 b
  s.setReg (mbox12 n) (mboxWord b (s.chan n))

/-- What a unit does when EN has become 1. -/
def State.unitUp (s : State) (u : UnitRef) : State :=
  match u with
  | .home => s.pump.portsGo
  | .locket => s.lkInval
  | .chan n => (s.setChanEn n true).releaseHeld n
  | .seq n => s.startThreads (.seq n)
  | .svc n => s.startThreads (.svc n)
  | .cluster _ => s
  | .port _ => s
  | .phy => s

/-- A thread in RUN returns to IDLE; one in WAIT completes what it waits for first. -/
def State.stopThread (s : State) (t : ThreadRef) : State := if s.thrSt t = .run then s.toIdle t else s

/-- The port accepts nothing more (R468); it keeps its response credits. -/
def SPort.shut (p : SPort) : SPort := { p with ready := false, reqCr := 0, wdCr := 0 }

/-- What a unit does when EN has become 0. -/
def State.unitDown (s : State) (u : UnitRef) : State :=
  match u with
  | .home => s.portsDown
  | .port n => s.setSp n (s.sp n).shut
  | .chan n => s.setChanEn n false
  | .seq n => (ownerThreads (.seq n)).foldl State.stopThread s
  | .svc n => (ownerThreads (.svc n)).foldl State.stopThread s
  | .locket => s
  | .cluster _ => s
  | .phy => s

/-- The home refuses a CURRENT generation that breaks its rules (R227). -/
def State.mapBad (s : State) (u : UnitRef) : Bool := u == .home && !(s.gen genCur).ok s.variant

/-- A write of EN. -/
def State.enWrite (s : State) (u : UnitRef) (b : Bool) : Wrote :=
  if s.en u = b then (s, false)
  else if b then
    if s.mapBad u then (s.setFlag migStatus 1 true, true)
    else (((s.setFlag (unitCtrl u) 0 true).setFlag (unitCtrl u) 1 false).unitUp u, false)
  else ((s.setFlag (unitCtrl u) 0 false).unitDown u, false)

/-! ### Power, security and charms -/

/-- PWR_CTRL (R535, R553). -/
def State.pwrCtrlWrite (r : Wrote) (a : Ask) : Wrote :=
  if a.of 3 3 = 0 then r
  else
    let t := r.1.fld 0x1000 2 0
    if 1 ≤ t ∧ t ≤ 4 ∧ r.1.takesSleep = true then (r.1.beginEntry t false, r.2) else (r.1, true)

/-- The power window; `old` is the stored word before the write. -/
def State.powerWrite (r : Wrote) (o : Nat) (old : W32) (a : Ask) : Wrote :=
  if o = 0 then State.pwrCtrlWrite r a
  else if o = 0xE00 then (r.1.aliveWritten old, r.2)
  else if o = 0xE08 then (if a.of 0 0 = 1 then (r.1.kick, r.2) else r)
  else r

/-- Word `k` of the unlock token (R565). -/
def State.tokenWord (s : State) (k : Nat) (v : W32) : State :=
  let t := s.token.toNat
  { s with token := BitVec.ofNat 256 (t - (s.tokenHeld k).toNat * 2 ^ (32 * k) + v.toNat * 2 ^ (32 * k)) }

/-- DBG_MCTRL (R563): GO of the debug port, unless a LOCK bit covers it. -/
def State.mctrlWrite (r : Wrote) (p : Port) (locked : Bool) (a : Ask) : Wrote :=
  if a.of 31 31 = 1 ∧ p = .dbg ∧ locked = false then (r.1.dbgGo (r.1.flag dbgMctrl 30), r.2) else r

/-- The security window. -/
def State.secWrite (r : Wrote) (p : Port) (o : Nat) (locked : Bool) (a : Ask) : Wrote :=
  if o = 8 then orIgnored r (r.1.dbgCommand a.val)
  else if 0x20 ≤ o ∧ o < 0x40 then (r.1.tokenWord ((o - 0x20) / 4) a.val, r.2)
  else if o = 0x50 then State.mctrlWrite r p locked a
  else r

/-- A recomputation of the guarantee sum starts, or restarts (R277). -/
def State.sumStart (s : State) : State := s.setFlag 0x3008 2 true

/-- CH_CFG of charm `c` (R272, R277): CLASS, BASE and WINDOW enter the sum; a new WINDOW zeroes CH_USED. -/
def State.chCfgWrite (s : State) (c : Nat) (old : W32) : State :=
  let now := s.reg (chCfg c)
  let diff := fun hi lo => bitsOf old hi lo != bitsOf now hi lo
  let s := if diff 31 26 || diff 21 12 then s.sumStart else s
  let s := if diff 21 12 then s.setFld (chUsed c) 23 0 0 else s
  s.settle c

/-- The charm window, but for TR_CTRL. A write of SAMPLE_CFG begins the sample period afresh (R291). -/
def State.charmWrite (r : Wrote) (o : Nat) (old : W32) : Wrote :=
  if o = 0x28 then ({ r.1 with charmAcc := [] }, r.2)
  else if o = 4 then (if r.1.reg 0x3004 = old then r else (r.1.sumStart, r.2))
  else if 0x400 ≤ o ∧ o < 0x800 then
    if o % 16 = 0 then (r.1.chCfgWrite ((o - 0x400) / 16) old, r.2)
    else if o % 16 = 4 ∧ r.1.reg (0x3000 + o) ≠ old then (r.1.sumStart, r.2)
    else r
  else r

/-- ARM (R288), judged against the state before the write. -/
def State.trArm (s : State) : State :=
  if !s.trEn || s.trPending || decide (s.trLen (1 - s.trActive) = 0) then s.setFlag 0x3040 3 true
  else { s.setFlag 0x3040 9 true with trAt := BitVec.ofNat 64 (s.reg2 0x3048) }

/-- EN (R286), after the other fields. -/
def State.trEnWrite (r : Wrote) (en : Bool) : Wrote :=
  if r.1.trEn = en then r
  else if en then (if r.1.trLen (r.1.fld 0x3040 4 4) = 0 then (r.1, true) else (r.1.trStart, r.2))
  else (r.1.trStop, r.2)

/-- TR_CTRL (R286 to R289). -/
def State.trWrite (s : State) (a : Ask) : Wrote :=
  let bank := a.of 4 4
  let r : Wrote :=
    if a.writes 4 = false ∨ bank = s.fld 0x3040 4 4 then (s, false)
    else if s.trEn then (s, true) else (s.setFld 0x3040 4 4 bank, false)
  let r : Wrote := if a.of 3 3 = 1 then (r.1.setFlag 0x3040 3 false, r.2) else r
  let r : Wrote := if a.of 2 2 = 1 ∧ s.trPending = true then (r.1.setFlag 0x3040 9 false, r.2) else r
  let r : Wrote :=
    if a.of 1 1 = 1 then (if s.trPending then r.1.setFlag 0x3040 3 true else r.1.trArm, r.2) else r
  if a.writes 0 then State.trEnWrite r (a.of 0 0 == 1) else r

/-! ### Home and Locket -/

/-- GO of MIG_CTRL can start a migration (R231). -/
def State.mayMigrate (s : State) : Bool :=
  (s.gen genNext).ok s.variant && !s.flag migStatus 0 && decide (s.reg2 migEnd % 64 = 0)

/-- The home window after its fields: PRED_CLR, GO and BREAK (R231, R334, R351). -/
def State.homeWrite (r : Wrote) (o : Nat) (a : Ask) : Wrote :=
  if o = 0x10 then (if a.of 0 0 = 1 then ({ r.1 with atomPred := [] }, r.2) else r)
  else if o = 0xC80 then (if a.of 0 0 = 1 then (r.1.setFlag migStatus 0 true, r.2) else r)
  else if 0x800 ≤ o ∧ o < 0xC00 ∧ a.of 29 29 = 1 then (r.1.claspBreakNow ((o - 0x800) / 4), r.2)
  else r

/-- LK_CTRL (R218, R219). -/
def State.lkCtrlWrite (s : State) (a : Ask) : State :=
  let s := if a.of 0 0 = 1 then s.lkInval.setFlag 0x700C 0 true else s
  if a.of 1 1 = 1 then (s.setReg2 0x7018 0).setReg2 0x7020 0 else s

/-! ### Sub-channels, engines and PHY global -/

/-- WQ_LO would not lie below WQ_HI (R245). -/
def State.qCfgBad (s : State) (n : Nat) (a : Ask) : Bool :=
  let get := fun hi lo => if a.writes lo then a.of hi lo else s.fld (scReg n 0x10) hi lo
  decide (get 5 0 ≥ get 13 8)

/-- The sub-channel window after its fields: POPULATED written 0 disarms refresh (R587). New values of Q_CFG act from the
next line boundary (R251). -/
def State.chanWrite (r : Wrote) (n o : Nat) (a : Ask) : Wrote :=
  if o = 4 ∧ a.writes 0 = true ∧ r.1.populated n = false then
    (r.1.updChan n fun c => (c.disarm 0).disarm 1, r.2)
  else r

/-- LOAD_CTRL.ARM and GRAFT_CTRL (R138, R139, R145). -/
def State.loadWrite (r : Wrote) (b : BankRef) (o : Nat) (a : Ask) : Wrote :=
  if o = 0x14 then (if a.of 31 31 = 1 then orIgnored r (r.1.loadArm b) else r)
  else if o = 0x1C then
    let r := if a.of 0 0 = 1 then orIgnored r (r.1.graftGo b) else r
    if a.of 1 1 = 1 then (r.1.abandon b, r.2) else r
  else r

/-- The engines that CL_CFG.ENG_EN disables go OFFLINE (R70). -/
def State.engDisable (s : State) (cl : Nat) : State :=
  ((clusterThreads cl).filter fun t => !s.flag ((Win.cluster cl).base + 4) (t.idx / 4)).foldl State.offline s

/-- The cluster window after its fields: ENG_EN, loads and grafts, THR_CTRL, and the event flags (R70, R133, R152). -/
def State.clusterWrite (r : Wrote) (n o : Nat) (a : Ask) : Wrote :=
  if o = 4 then (r.1.engDisable n, r.2)
  else if o = 0x2C then (if a.of 0 0 = 1 then (r.1.clearStream n, r.2) else r)
  else if o = 0x30 ∨ o = 0x34 then
    let m := BitVec.ofNat 64 (a.val.toNat * 2 ^ (8 * (o - 0x30)))
    ({ r.1 with evf := r.1.evf &&& ~~~m }, r.2)
  else if o = 0x38 ∨ o = 0x3C then (r.1.evSet (BitVec.ofNat 64 (a.val.toNat * 2 ^ (8 * (o - 0x38)))), r.2)
  else State.loadWrite r (.cluster n) o a

/-- The window of a sequencer or service engine after its fields. -/
def State.engWrite (r : Wrote) (b : BankRef) (o : Nat) (a : Ask) : Wrote :=
  if o = 0x38 then (r.1.clearEngine b (a.of 1 0), r.2) else State.loadWrite r b o a

/-- PROG_DATA (R136, R154): INDEX rises after every access of the word, an ignored write included. -/
def State.progWrite (s : State) (b : BankRef) (a : Ask) : Wrote :=
  let r := orIgnored (s, false) (s.storeWord b (s.progBank b) (s.progIdx b) a.val)
  if a.bit then r else (r.1.progNext b, r.2)

/-- CLK_CTRL.RATE (R489): the response of the configuration port waits for the lock (R490). -/
def State.rateWrite (s : State) (p : Port) (n : Nat) : Wrote :=
  if n = s.rate then (s, false)
  else if s.mayRelock n then
    let s := s.relockStart n
    (if p = .cfg then { s with cfgBusy := .relock } else s, false)
  else (s, true)

/-- HOLD and RELEASE of PADn (R446, R447), both judged against the state before the write. -/
def State.padWrite (r : Wrote) (g : Nat) (a : Ask) : Wrote :=
  let was := r.1.held g
  let r := if a.of 1 1 = 1 then orIgnored r (r.1.padHold g) else r
  if a.of 3 3 = 1 then (if was then orIgnored r (r.1.padRelease g) else (r.1, true)) else r

/-- CMD_BAD (R387). -/
def State.seedBad (s : State) : State := s.setFlag seedStatus 31 true

/-- A command on a plot has no effect whatever it is (R387). -/
def State.plotRefused (s : State) (plot : Nat) : Bool :=
  !s.seedEn || decide (plot ≥ s.variant.plots) || s.sprouting plot

/-- TRIM (R387): the response of the configuration port waits for the walk of the Locket. -/
def State.trimPlot (s : State) (p : Port) (plot : Nat) : State :=
  if s.plotRefused plot || !s.plotBit plot then s.seedBad
  else
    let s := { s.lkTrim plot with plots := terase s.plots plot, trimming := some plot }
    if p = .cfg then { s with cfgBusy := .trim } else s

/-- SEED (R387). -/
def State.seedPlot (s : State) (plot : Nat) : State :=
  if s.plotRefused plot || s.plotBit plot || s.freeSlots.isEmpty then s.seedBad else s.startSprout plot

/-- SEED_CMD. -/
def State.seedCmdWrite (s : State) (p : Port) (a : Ask) : State :=
  let plot := s.fld seedCmd 20 0
  match a.of 31 30 with
  | 1 => s.trimPlot p plot
  | 2 => s.seedPlot plot
  | _ => s

/-- The PHY global window after its fields. -/
def State.phyWrite (r : Wrote) (p : Port) (o : Nat) (a : Ask) : Wrote :=
  if 0x40 ≤ o ∧ o < 0xA0 then State.padWrite r ((o - 0x40) / 4) a
  else if 0x400 ≤ o ∧ o < 0x580 ∧ o % 0x20 = 0 then (r.1.drstFollow, r.2)
  else if 0x400 ≤ o ∧ o < 0x580 ∧ o % 0x20 = 4 ∧ a.of 31 31 = 1 then orIgnored r (r.1.sbGo ((o - 0x400) / 0x20))
  else if o = 0x4204 then (r.1.seedCmdWrite p a, r.2)
  else r

/-! ### Interrupt controller, contexts and fault blocks -/

/-- The interrupt controller after its fields: a change of eligible targets may flush moderators (R579), and clearing EN
of a moderator zeroes it (R578). -/
def State.intcWrite (s : State) (o : Nat) : State :=
  if o = 0 ∨ (0x800 ≤ o ∧ o < 0x1000) then s.modFlushAll
  else if 0x2000 ≤ o ∧ o < 0x2400 ∧ o % 16 = 0 ∧ s.modEn ((o - 0x2000) / 16) = false then s.modZero ((o - 0x2000) / 16)
  else s

/-- A context's entry after its fields: CTX_CMD issues a command (R161, R163), CTX_TAIL_HI is the APPEND doorbell. -/
def State.ctxWrite (s : State) (n o : Nat) (a : Ask) : State :=
  if o = 0 then (s.ctxCmd n (a.of 3 0)).s else if o = 0x1C then s.rearmCheck n else s

/-- A fault block after its fields (R512, R516, R517). -/
def State.faultWrite (s : State) (b : FaultRef) (k : Nat) (locked : Bool) (a : Ask) : State :=
  if k = 8 then s.ackWritten b a.val
  else if k = 0xC then (if locked then s else s.forceWritten b a.val)
  else if k = 0x18 ∧ a.of 2 2 = 1 then s.histClear b
  else s

/-! ### One write -/

/-- What the unit does with fields that have been written. -/
def State.afterWrite (r : Wrote) (p : Port) (w : Win) (o : Nat) (old : W32) (locked : Bool) (a : Ask) : Wrote :=
  match w with
  | .power => State.powerWrite r o old a
  | .sec => State.secWrite r p o locked a
  | .charm => State.charmWrite r o old
  | .home => State.homeWrite r o a
  | .locket => if o = 0xC then (r.1.lkCtrlWrite a, r.2) else r
  | .chan n => State.chanWrite r n o a
  | .cluster n => State.clusterWrite r n o a
  | .seq n => State.engWrite r (.seq n) o a
  | .svc n => State.engWrite r (.svc n) o a
  | .phy => State.phyWrite r p o a
  | .intc => (r.1.intcWrite o, r.2)
  | .ctx n => (r.1.ctxWrite n o a, r.2)
  | .glob => r
  | .trellis _ => r
  | .port _ => r
  | .frame _ => r
  | .store _ => r

/-- The fields of a register are written, and the unit acts on them. -/
def State.plainWrite (s : State) (p : Port) (w : Win) (o off : Nat) (a : Ask) : Wrote :=
  let r := s.fieldsWrite p w o off a
  match blockAt s.variant off with
  | some (b, k) => (r.1.faultWrite b k (s.locked off) a, r.2)
  | none => State.afterWrite r p w o (s.reg off) (s.locked off) a

/-- Writes of registers that are more than their fields: UNIT_CTRL, TR_CTRL, MIG_CTRL, Q_CFG, CLK_CTRL, PROG_DATA and the
instruction stores. -/
def State.askWrite (s : State) (p : Port) (w : Win) (o off : Nat) (a : Ask) : Wrote :=
  match w, o with
  | .charm, 0x40 => s.trWrite a
  | .store n, _ => orIgnored (s, false) (s.storeWord (.cluster n) (o / 0x8000) (o % 0x8000 / 4) a.val)
  | .home, 0xC80 =>
    if a.of 0 0 = 1 ∧ s.mayMigrate = false then (s.setFlag migStatus 1 true, false) else s.plainWrite p w o off a
  | .chan n, 0x10 => if s.qCfgBad n a then (s, true) else s.plainWrite p w o off a
  | .seq n, 0x24 => s.progWrite (.seq n) a
  | .svc n, 0x24 => s.progWrite (.svc n) a
  | .phy, 0x100 => s.rateWrite p (a.of 2 0)
  | _, 0 =>
    match stUnit w with
    | some u => if a.writes 0 then s.enWrite u (a.of 0 0 == 1) else (s, false)
    | none => s.plainWrite p w o off a
  | _, _ => s.plainWrite p w o off a

/-- A write of TBASE is a step (R505). -/
def State.tbaseWrite (s : State) (v : W64) : State := { s with tbase := v }.tbStep 1

/-- The write shadow that a high word commits (R50). -/
def State.shadowOf (s : State) (p : Port) (low : Nat) : W32 :=
  tget (resetWord s.variant low) s.wrShadow (shadowKey p low)

/-- The high word of a two-word value is written: both words take effect together (R50). -/
def State.commit (s : State) (p : Port) (w : Win) (o off : Nat) (v : W32) : Wrote :=
  let lo := s.shadowOf p (off - 4)
  if off = 0x24 then (s.tbaseWrite (BitVec.ofNat 64 (v.toNat * 2 ^ 32 + lo.toNat)), false)
  else
    let r := s.fieldsWrite p w (o - 4) (off - 4) (s.wordAsk w (o - 4) lo)
    let r' := r.1.askWrite p w o off (r.1.wordAsk w o v)
    (r'.1, r.2 || r'.2)

/-- A word write of a mapped offset (R38, R50). -/
def State.writeWord (s : State) (p : Port) (w : Win) (o off : Nat) (v : W32) : Wrote :=
  if isLow w o then
    ({ s with wrShadow := tset (resetWord s.variant off) s.wrShadow (shadowKey p off) v }, false)
  else if o ≥ 4 && isLow w (o - 4) then s.commit p w o off v
  else s.askWrite p w o off (s.wordAsk w o v)

/-- A write of a bit of TBASE (R58, R505). -/
def State.tbaseBit (s : State) (i : Nat) (one : Bool) : State :=
  let n := s.tbase.toNat
  let v := BitVec.ofNat 64 (n - n / 2 ^ i % 2 * 2 ^ i + b2n one * 2 ^ i)
  if v = s.tbase then s else s.tbaseWrite v

/-- A write of a bit alias (R57 to R59). -/
def State.writeBit (s : State) (p : Port) (w : Win) (o off i : Nat) (one : Bool) : Wrote :=
  if off = 0x20 ∨ off = 0x24 then (s.tbaseBit (8 * (off - 0x20) + i) one, false)
  else s.askWrite p w o off (s.bitAsk w o off i one)

end Sys2Proof.Machine
end

