-- ==== Sys2Proof/Machine/Access.lean ====
section
/-! DEFINITION. Accesses of the configuration window (R33 to R36, R48, R55 to R60): where one lands, what makes it wait
(R387, R490, R498, R544), and how the configuration port, the debug port (R561) and the Service Chain node (R476 to R478)
answer. -/

namespace Sys2Proof.Machine

/-! ### Where an access lands -/

/-- The register an access addresses, by window, offset in it and window offset, and for a bit alias the bit. -/
structure Site where
  w : Win
  o : Nat
  off : Nat
  bit : Option Nat
deriving DecidableEq, Repr

/-- The site of an address; none where R34 or R60 calls it unmapped. -/
def siteOf (v : Variant) (addr : Nat) : Option Site :=
  if addr < 0x800000 then (locate v addr).map fun x => ⟨x.1, x.2, addr, none⟩
  else
    let off := (addr - 0x800000) / 128 * 4
    (locate v off).map fun x => ⟨x.1, x.2, off, some ((addr - 0x800000) / 4 % 32)⟩

/-- A write of the address has no defined effect: a reserved offset of a present unit, or the alias of a reserved bit
(R48, R60). -/
def undefAt (v : Variant) (addr : Nat) : Bool :=
  (siteOf v addr).elim false fun x =>
    match x.bit with
    | none => (regFlds v x.w x.o).isEmpty
    | some i => !(regFlds v x.w x.o).any fun f => decide (f.lo ≤ i ∧ i ≤ f.hi)

/-! ### Writes that the spec gives no effect (R48) -/

end Sys2Proof.Machine

namespace Sys2Proof

/-- What a write of a reserved offset, or of the alias of a reserved bit, makes of the block (R48): any behaviour, by the
free-value counter; none stands for a write that changes nothing. -/
opaque Config.afterUndefined : Nat → Option Machine.State

end Sys2Proof

namespace Sys2Proof.Machine

/-- The state after a write that R48 gives no defined effect: any state at all, but for what a port holds of its accesses
and for the model's own counters. One whose tables are in no canonical form stands for no state of the block (log
entry 9). -/
def State.wild (s : State) : State :=
  match Config.afterUndefined s.free with
  | none => s.draw
  | some t =>
    let t := { t with
      variant := s.variant, pending := s.pending, out := t.out ++ s.out, cfgQueue := s.cfgQueue, cfgBusy := s.cfgBusy,
      dbgQueue := s.dbgQueue, hscKept := s.hscKept, free := s.free + 1 }
    if t.Canonical then t else s.draw

/-! ### Making an access -/

/-- The value and the effect of a read at an address, and whether it is answered with an error. -/
def State.busRead (s : State) (p : Port) (addr : Nat) : (W32 × Bool) × State :=
  match siteOf s.variant addr with
  | none => ((0, true), s.unmapped addr)
  | some x =>
    let r := match x.bit with
      | none => s.readWord p x.w x.o x.off
      | some i => s.readBit p x.w x.o x.off i
    ((r.1, false), r.2)

/-- A write of a register or of the alias of one of its fields: one that is ignored, in part or whole, is recorded
(R36). -/
def State.siteWrite (s : State) (p : Port) (x : Site) (addr : Nat) (v : W32) : State :=
  let r := match x.bit with
    | none => s.writeWord p x.w x.o x.off v
    | some i => s.writeBit p x.w x.o x.off i (bitOf v 0)
  if r.2 then r.1.ignored addr else r.1

/-- A write at an address: whether it is answered with an error, and what it leaves. A write that has no defined effect
is answered as any other, and records nothing (R48). -/
def State.busWrite (s : State) (p : Port) (addr : Nat) (v : W32) : Bool × State :=
  match siteOf s.variant addr with
  | none => (true, s.unmapped addr)
  | some x => (false, if undefAt s.variant addr then s.wild else s.siteWrite p x addr v)

/-- An access is made: its response and what it leaves. An access of a wrong width or alignment at an offset that is
unmapped as well records BAD_WIDTH alone: R33 and R34 both answer it with an error, and neither is put first (DESIGN
CHOICE, log entry 80). -/
def State.perform (s : State) (a : HeldAcc) : (W32 × Bool) × State :=
  match a with
  | .read p addr => s.busRead p addr
  | .write p addr v => let r := s.busWrite p addr v; ((0, r.1), r.2)
  | .bad _ addr _ => ((0, true), s.badWidth addr)

/-- The address of an access. -/
def HeldAcc.addr : HeldAcc → Nat
  | .read _ addr => addr
  | .write _ addr _ => addr
  | .bad _ addr _ => addr

/-- An access that writes. -/
def HeldAcc.isWrite : HeldAcc → Bool
  | .write _ _ _ => true
  | .bad _ _ wr => wr
  | .read _ _ => false

/-! ### What makes an access wait -/

/-- The engines have their power: not in NAP, nor while a wake from it goes on (R544, R546). -/
def State.enginesOn (s : State) : Bool :=
  match s.pwr with
  | .wake left _ => left != 2
  | _ => decide (s.pstate ≠ 2)

/-- The window belongs to an engine, a cluster or an instruction store (R544). -/
def engineWin : Win → Bool
  | .cluster _ => true
  | .seq _ => true
  | .svc _ => true
  | .store _ => true
  | _ => false

/-- The window belongs to a function that is initialising (R498). -/
def State.winInit (s : State) (w : Win) : Bool :=
  match w with
  | .home => !s.inited.contains .home
  | .locket => !s.inited.contains .locket
  | .cluster n => !s.inited.contains (.cluster n)
  | .intc => !s.inited.contains .intc
  | _ => false

/-- An access to a site waits: its function initialises, its engine has no power, or it is a SEED_CMD write while a TRIM
walks the Locket. -/
def State.siteWaits (s : State) (wr : Bool) (x : Site) : Bool :=
  s.winInit x.w || (engineWin x.w && !s.enginesOn) || (wr && x.off == seedCmd && s.trimming.isSome)

/-- An access waits; none is made while the clocks stand still or the port has not initialised. -/
def State.waits (s : State) (a : HeldAcc) : Bool :=
  !s.running || !s.inited.contains .cfg ||
    match a with
    | .bad _ _ _ => false
    | a => (siteOf s.variant a.addr).elim false (s.siteWaits a.isWrite)

/-- An access of the configuration port to a unit that NAP has powered down wakes the block (R544, code 7). -/
def State.wakeFor (s : State) (a : HeldAcc) : State :=
  if decide (s.pstate = 2) && (siteOf s.variant a.addr).elim false (fun x => engineWin x.w) then s.wakeEvent 7 0 else s

/-! ### The configuration port (R35) -/

/-- The response to the access at the head; that of a relock or of a TRIM comes later. -/
def State.cfgAnswer (r : (W32 × Bool) × State) : State :=
  if r.2.cfgBusy = .none then r.2.emit (.portRsp .cfg r.1.1 r.1.2) else r.2

/-- Accesses are made in the order in which they came, as far as they can. -/
def serveCfg : Nat → State → State
  | 0, s => s
  | fuel + 1, s =>
    if s.cfgBusy ≠ .none then s
    else
      match s.cfgQueue with
      | [] => s
      | a :: rest =>
        if s.waits a then s.wakeFor a
        else serveCfg fuel (State.cfgAnswer ({ s with cfgQueue := rest }.perform a))

/-- An access before RDY_CFG (R498): whether it takes effect on the register it addresses, whether it is answered, and
how, is open. -/
def State.early (s : State) (a : HeldAcc) : State :=
  let n := s.free
  let s := s.draw
  let s :=
    match a with
    | .write _ addr v =>
      if Config.earlyTakes n && undefAt s.variant addr then s.wild
      else if Config.earlyTakes n && decide (addr < 0x800000) && (locate s.variant addr).isSome then s.restoreWord addr v
      else s
    | _ => s
  if Config.earlyAnswers n then
    s.emit (.portRsp .cfg (if a.isWrite then 0 else Config.reserved n a.addr) (Config.earlyError n))
  else s

/-- The logic domain is up and the port has initialised. -/
def State.cfgUp (s : State) : Bool := s.logicUp && s.inited.contains .cfg

/-- An access arrives at the configuration port. -/
def State.cfgAccess (s : State) (a : HeldAcc) : State :=
  if s.cfgUp then serveCfg (s.cfgQueue.length + 1) { s with cfgQueue := s.cfgQueue ++ [a] } else s.early a

/-! ### The debug port (R561) -/

/-- Registers that every level may read, and those that every level may write (R561). -/
def openRead (off : Nat) : Bool :=
  off == 0 || off == 0x2000 || off == 0x2008 || off == 0x2010 || off == 0x2014 || (0x2020 ≤ off && off < 0x2040)
def openWrite (off : Nat) : Bool := off == 0x2008 || (0x2020 ≤ off && off < 0x2040)

/-- Registers that OBSERVE may write: also DBG_MADDR and DBG_MCTRL. -/
def observeWrite (off : Nat) : Bool := openWrite off || off == 0x2050 || off == 0x2058 || off == 0x205C

/-- The level in force permits the access. -/
def State.permits (s : State) (a : HeldAcc) : Bool :=
  let off := (siteOf s.variant a.addr).map Site.off
  if s.dbgLevel = 2 then true
  else if s.dbgLevel = 1 then (if a.isWrite then off.elim false observeWrite else true)
  else if a.isWrite then off.elim false openWrite
  else off.elim false openRead

/-- A debug access is finished: its response, kept for the READ frame that fetches it (R477). -/
def State.dbgAnswer (a : HeldAcc) (r : (W32 × Bool) × State) : State :=
  let s := r.2.emit (.portRsp .dbg r.1.1 r.1.2)
  match a, s.hscKept with
  | .read _ addr, some (o, none) => if 4 * o.toNat = addr then { s with hscKept := some (o, some r.1) } else s
  | _, _ => s

/-- Debug accesses that were not finished are made, in order. -/
def serveDbg : Nat → State → State
  | 0, s => s
  | fuel + 1, s =>
    match s.dbgQueue with
    | [] => s
    | a :: rest =>
      if s.waits a then s else serveDbg fuel (State.dbgAnswer a ({ s with dbgQueue := rest }.perform a))

/-- The debug port makes a permitted access: its response, or none where it is not finished. -/
def State.dbgMake (s : State) (a : HeldAcc) : Option (W32 × Bool) × State :=
  if s.dbgQueue = [] ∧ s.waits a = false then
    let r := s.perform a
    (some r.1, r.2.emit (.portRsp .dbg r.1.1 r.1.2))
  else (none, { s with dbgQueue := s.dbgQueue ++ [a] })

/-- An access of the debug port; one that the level does not permit is refused. -/
def State.dbgAccess (s : State) (a : HeldAcc) : State :=
  if s.permits a then (s.dbgMake a).2 else s.emit (.portRsp .dbg 0 true)

/-- Accesses that waited in either port look again. -/
def State.serve (s : State) : State :=
  let s := serveCfg s.cfgQueue.length s
  serveDbg s.dbgQueue.length s

/-- An access of a port. Through a debug port without power, or in reset, none is made (R478). -/
def State.access (s : State) (p : Port) (a : HeldAcc) : Host.Outcome State Fault Refusal :=
  .next (match p with
    | .cfg => s.cfgAccess a
    | .dbg => if s.logicUp then s.dbgAccess a else s)

/-- A read and a write of 32 bits at an address; one that is not aligned is of the wrong form (R33). -/
def readAt (p : Port) (addr : Nat) : HeldAcc := if addr % 4 = 0 then .read p addr else .bad p addr false
def writeAt (p : Port) (addr : Nat) (v : W32) : HeldAcc := if addr % 4 = 0 then .write p addr v else .bad p addr true

/-- A write of a register of a part that the configuration may lack: nothing happens where it does. -/
def State.regAccess (s : State) (p : Port) (present : Bool) (a : HeldAcc) : Host.Outcome State Fault Refusal :=
  if present then s.access p a else .next s

/-! ### The Service Chain node (R476 to R478, R592) -/

/-- The CRC of a frame with the given data. -/
def frameCrc (f : Frame) (data : W32) : BitVec 8 :=
  BitVec.ofNat 8 (crc8Bits (bitsLsb 6 f.addr.toNat ++ bitsLsb 2 f.op.toNat ++ bitsLsb 22 f.offset.toNat ++
    bitsLsb 32 data.toNat))

/-- The frame's CRC is correct. -/
def frameGood (f : Frame) : Bool := frameCrc f f.data == f.crc

/-- The frame is addressed to the node. -/
def frameMine (f : Frame) : Bool := f.addr == Config.hscId

/-- The window offset that a frame names. -/
def framePlace (f : Frame) : Nat := 4 * f.offset.toNat

/-- A kept result, finished or not, is discarded (R477). -/
def State.forget (s : State) : State :=
  match s.hscKept with
  | some (o, none) => { s with hscKept := none, dbgQueue := s.dbgQueue.erase (.read .dbg (4 * o.toNat)) }
  | _ => { s with hscKept := none }

/-- The node inserts a read's data with its CRC. -/
def State.hscDeliver (s : State) (f : Frame) (r : W32 × Bool) : State := s.emit (.hsc true r.2 (some (r.1, frameCrc f r.1)))

/-- A frame that is refused: ACK 1 and ERR 1. -/
def State.hscRefuse (s : State) : State := s.emit (.hsc true true none)

/-- A READ that is not finished: ACK 0 and ERR 1. -/
def State.hscLater (s : State) : State := s.emit (.hsc false true none)

/-- A READ frame for an offset that no result is kept for. -/
def State.freshRead (s : State) (f : Frame) : State :=
  let s := s.forget
  let a := HeldAcc.read .dbg (framePlace f)
  if s.permits a then
    match s.dbgMake a with
    | (some r, s) => s.hscDeliver f r
    | (none, s) => { s with hscKept := some (f.offset, none) }.hscLater
  else s.hscRefuse

/-- A READ frame with a correct CRC (R477). -/
def State.readFrame (s : State) (f : Frame) : State :=
  match s.hscKept with
  | some (o, some r) => if o = f.offset then { s with hscKept := none }.hscDeliver f r else s.freshRead f
  | some (o, none) => if o = f.offset then s.hscLater else s.freshRead f
  | none => s.freshRead f

/-- A WRITE frame that the level permits; one that starts a relock or a TRIM is made when it has started it. -/
def State.writeFrame (s : State) (a : HeldAcc) : State :=
  match s.dbgMake a with
  | (some r, s) => s.emit (.hsc true r.2 none)
  | (none, s) => s.hscLater

end Sys2Proof.Machine
end

