-- ==== Sys2Proof/Machine/RootCmd.lean ====
section
/-! DEFINITION. Events of the clock root and the reset inputs: the PLL (R488 to R491), REFCLK and ELAPSED (R503, R504), the
resets (R493 to R495), and the end of a function's initialisation (R496). -/

namespace Sys2Proof.Machine

/-- What waited for the clocks goes on. -/
def State.goOn (s : State) : State := s.pump.portsGo.serve

/-! ### The PLL -/

/-- The PLL is powered: not in DOZE, not in OFF, and in a wake from these not before step 2 (R530, R546). -/
def State.pllPowered (s : State) : Bool :=
  match s.pwr with
  | .wake left step => decide (left ≤ 2 ∨ 2 ≤ step)
  | _ => decide (s.pstate ≤ 2)

/-- CLK_STATUS.RELOCK. -/
def State.relocking (s : State) : Bool := s.flag clkStatus 2

/-- The PLL can lock. -/
def State.mayLock (s : State) : Bool := s.refclk && s.pllPowered && (!s.flag clkStatus 0 || s.relocking)

/-- The rate that the PLL locks at. -/
def State.lockRate (s : State) : Nat := if s.relocking then s.relockTo else s.rate

/-- A relock ends: the write that started it is answered (R490). -/
def State.relockEnd (s : State) : State :=
  if s.relocking then
    let s := s.setFlag clkStatus 2 false
    if s.cfgBusy = PortBusy.relock then { s with cfgBusy := PortBusy.none }.emit (.portRsp .cfg 0 false) else s
  else s

/-- PLL_LOCK (R488, R490, R546). -/
def State.lockPll (s : State) : State :=
  if s.mayLock then ((s.setFlag clkStatus 0 true).setFld clkStatus 5 3 s.lockRate).relockEnd.wakePll.goOn else s

def execPllLock (s : State) : Host.Outcome State Fault Refusal := .next s.lockPll

/-- UNLOCK (R491): the PLL loses lock; in a relock, the row stands for its two cases, and the relock goes on. The home is not
ready without its clocks, so every stream port lowers SP_READY (R465, R498). -/
def State.unlockPll (s : State) : State :=
  if s.relocking || s.flag clkStatus 0 then
    (((s.setFlag clkStatus 0 false).setFlag clkStatus 6 true).raise .power 0 3 0).portsDown
  else s

def execUnlock (s : State) : Host.Outcome State Fault Refusal := .next s.unlockPll

/-! ### REFCLK and the time asleep (R503 to R505) -/

/-- The block sleeps in DOZE, or wakes from it and has not left step 2. -/
def State.dozing (s : State) : Bool :=
  match s.pwr with
  | .wake left step => decide (left = 3 ∧ step ≤ 2)
  | .stable => decide (s.pstate = 3)
  | .entry _ _ => false

/-- REFCLK_LOST. -/
def State.loseRef (s : State) : State :=
  if s.refclk && s.vddAon then
    { (s.setFlag clkStatus 7 true).raise .power 1 3 0 with refclk := false, wantElapsed := s.wantElapsed || s.dozing }
  else s

def execRefclkLost (s : State) : Host.Outcome State Fault Refusal := .next s.loseRef

/-- REFCLK_RETURN: TBASE counts on from the value it kept. -/
def execRefclkReturn (s : State) : Host.Outcome State Fault Refusal := .next { s with refclk := true }

/-- The wait of R504 is on. -/
def State.awaitsElapsed (s : State) : Bool :=
  s.wantElapsed && (match s.pwr with | .wake left step => decide (left = 3 ∧ step ≤ 2) | _ => false)

/-- Ticks of TBASE that a time of 32.768 kHz ticks stands for (R504). -/
def elapsedTicks (v : W32) : Nat := v.toNat * 390625 / 128

/-- ELAPSED is taken: its ticks are added in one step. -/
def State.addElapsed (s : State) (v : W32) : State :=
  let s := { s with tbase := s.tbase + BitVec.ofNat 64 (elapsedTicks v), wantElapsed := false }.tbStep 0
  (if v = 0xFFFFFFFF#32 then s.setFlag blockCtrl 29 true else s).wakePll

/-- ELAPSED: acknowledged, and discarded unless the wait of R504 is on. -/
def State.elapsedIn (s : State) (v : W32) : State :=
  if s.refclk = false ∨ s.vddAon = false then s else (if s.awaitsElapsed then s.addElapsed v else s).emit .elapsedAck

def execElapsed (v : W32) (s : State) : Host.Outcome State Fault Refusal := .next (s.elapsedIn v)

/-- ELAPSED_TIMEOUT: nothing is added (R504). -/
def State.elapsedMissed (s : State) : State :=
  if s.awaitsElapsed && s.refclk then
    ({ s.setFlag blockCtrl 30 true with wantElapsed := false }.raise .power 4 3 0).wakePll
  else s

def execElapsedTimeout (s : State) : Host.Outcome State Fault Refusal := .next s.elapsedMissed

/-! ### Resets and initialisation -/

/-- AON_RST_N falls: VDD_AON is present from here on (R493). -/
def execAonRstN (s : State) : Host.Outcome State Fault Refusal := .next s.aonReset

/-- BLK_RST_N falls. -/
def execBlkRstN (s : State) : Host.Outcome State Fault Refusal := .next s.blkReset

/-- The keys at a release: RETIRED holds none (R556). -/
def State.keysAt (s : State) (lc : Nat) : State := if lc = 3 then { s with keys := [] } else s

/-- BLK_RST_N is released, by its input or, when OFF is left, by the power unit: LC_STATE is sampled (R494, R555, R556). -/
def State.releaseRst (s : State) (lc : Nat) : State :=
  if s.inReset then
    let n := max s.lifecycle lc
    ({ (s.setFld 0x2000 31 30 n).setFld 0x2000 29 28 (levelOf n) with inReset := false }).keysAt n
  else s

def execBlkRstNRelease (lc : BitVec 2) (s : State) : Host.Outcome State Fault Refusal := .next (s.releaseRst lc.toNat)

/-- Whether the configuration has a function. -/
def funcPresent (v : Variant) : Func → Bool
  | .stop n => decide (n < v.stops)
  | .cluster n => decide (n < v.clusters)
  | _ => true

/-- A function can finish its initialisation: a ring stop only once the home is ready. -/
def State.mayInit (s : State) (f : Func) : Bool :=
  funcPresent s.variant f && s.running && !s.inited.contains f &&
    (match f with | .stop _ => s.homeReady | _ => true)

/-- INIT_DONE (R496, R498): what waited for the function goes on. -/
def State.initDone (s : State) (f : Func) : State :=
  if s.mayInit f then { s with inited := s.inited ++ [f] }.goOn else s

def execInitDone (f : Func) (s : State) : Host.Outcome State Fault Refusal := .next (s.initDone f)

end Sys2Proof.Machine
end

