-- ==== Sys2Proof/Machine/PowerCmd.lean ====
section
/-! DEFINITION. The wake (R546 to R549) and the removal of VDD_AON (R481, R530). -/

namespace Sys2Proof.Machine

/-- The number by which ENTRY_COUNT of a bank owner's images is asked. -/
def ownerNum : BankRef → Nat
  | .cluster n => n
  | .seq n => 16 + n
  | .svc n => 64 + n

/-- Where a thread starts after NAP and DOZE (R547). -/
def State.wakeEntry (s : State) (b : BankRef) : Nat :=
  match s.bankIn b 2 with
  | some i => if clamp 1 16 (Config.entryCount (ownerNum b) (s.bankVer b i)) ≥ 3 then 2 else 0
  | none => 0

/-- The sequencer and service threads start with a wake code in g1 (R547). -/
def State.wakeThreads (s : State) (code : Nat) : State :=
  ((List.range s.variant.scs).flatMap fun n => [BankRef.seq n, BankRef.svc n]).foldl
    (fun s b => (ownerThreads b).foldl (fun s t => s.startThread t (s.wakeEntry b) (BitVec.ofNat 64 code)) s) s

/-- The Trellis list restarts where the charm window kept its contents (R290), and what stopped goes on. -/
def State.wakeEnd (s : State) (kept : Bool) : State := (if kept then s.trRestart else s).resume.goOn

/-- Step 4 of a wake from DOZE: the state bank is written back, and every unit initialises (R546, R549). -/
def State.dozeReturn (s : State) : State :=
  let kept := s.saved.isSome
  let s := { s.writeBackSaved with inited := allFuncs s.variant, pwr := PwrPhase.stable }
  (s.wakeThreads (if kept then 2 else 3)).wakeEnd kept

/-- Step 4 ends. -/
def State.wakeLast (s : State) (left : Nat) : State :=
  match left with
  | 1 => s.wakeEnd true
  | 2 => (s.wakeThreads 1).wakeEnd true
  | 3 => s.dozeReturn
  | _ => if !s.inReset && (allFuncs s.variant).all (fun f => s.inited.contains f || f matches .stop _) then s.wakeEnd false else s

/-- WAKE_STEP_END: step 3 ends, and leaving OFF applies BLK_RST_N (R494); or step 4 ends. Steps 1 and 2 end with RAIL_OK and
PLL_LOCK. -/
def State.wakeStep (s : State) : State :=
  match s.pwr with
  | .wake left 3 =>
    let s := { s with pwr := PwrPhase.wake left 4 }
    if left = 4 then s.blkReset else s
  | .wake left 4 => s.wakeLast left
  | _ => s

def execWakeStepEnd (s : State) : Host.Outcome State Fault Refusal := .next s.wakeStep

/-- VDD_AON is removed, in OFF alone: the always-on domain loses what it holds, the block
stays off, and ALIVE is high impedance (R481). -/
def State.aonLost (s : State) : State :=
  if s.pwr = .stable ∧ s.pstate = 4 then { s.aonReset with rails := [], vddAon := false }.setFld pwrStatus 31 29 4 else s

def execVddAonRemoved (s : State) : Host.Outcome State Fault Refusal := .next s.aonLost

end Sys2Proof.Machine
end

