-- ==== Sys2Proof/Machine/RegCmd.lean ====
section
/-! DEFINITION. The commands that are accesses of the configuration window: each reads or writes the register its rule
names, through the port that the command names. A row that stands for a write of one bit as 1, or as 0, has that bit of the
written word so; the word's other bits act as the register's other fields. A register of a part that the configuration
lacks is not written. -/

namespace Sys2Proof.Machine

/-- A word with a bit set, and with a bit cleared. -/
def withBit (v : W32) (i : Nat) : W32 := v ||| BitVec.ofNat 32 (2 ^ i)
def withoutBit (v : W32) (i : Nat) : W32 := v &&& ~~~BitVec.ofNat 32 (2 ^ i)

/-- An access of 32 bits that is aligned, as R33 asks. -/
def plainAccess (a : Access) : Bool := a.bytes == 4 && a.addr.toNat % 4 == 0

/-! ### Any register (R33 to R60) -/

/-- REG_WRITE. -/
def execRegWrite (p : Port) (a : Access) (v : W32) (s : State) : Host.Outcome State Fault Refusal :=
  s.access p (if plainAccess a then .write p a.addr.toNat v else .bad p a.addr.toNat true)

/-- READ_CLEAR, and a read of any other register. -/
def execReadClear (p : Port) (a : Access) (s : State) : Host.Outcome State Fault Refusal :=
  s.access p (if plainAccess a then .read p a.addr.toNat else .bad p a.addr.toNat false)

/-- LOW_WORD_READ. -/
def execLowWordRead (p : Port) (off : BitVec 24) (s : State) : Host.Outcome State Fault Refusal :=
  s.access p (readAt p off.toNat)

/-- LOW_WORD_WRITE. -/
def execLowWordWrite (p : Port) (off : BitVec 24) (v : W32) (s : State) : Host.Outcome State Fault Refusal :=
  s.access p (writeAt p off.toNat v)

/-- HIGH_WORD_WRITE: its word lies 4 bytes above the low word of the two-word value at `off`, which it commits. -/
def execHighWordWrite (p : Port) (off : BitVec 24) (v : W32) (s : State) : Host.Outcome State Fault Refusal :=
  s.access p (writeAt p off.toNat v)

/-- ALIAS_WRITE. -/
def execAliasWrite (p : Port) (off : BitVec 24) (v : W32) (s : State) : Host.Outcome State Fault Refusal :=
  s.access p (writeAt p off.toNat v)

/-! ### Units (R43 to R46) -/

/-- UNIT_ENABLE. -/
def execUnitEnable (p : Port) (u : UnitRef) (v : W32) (s : State) : Host.Outcome State Fault Refusal :=
  s.regAccess p (u.present s.variant) (writeAt p (unitCtrl u) (withBit v 0))

/-- UNIT_DISABLE. -/
def execUnitDisable (p : Port) (u : UnitRef) (v : W32) (s : State) : Host.Outcome State Fault Refusal :=
  s.regAccess p (u.present s.variant) (writeAt p (unitCtrl u) (withoutBit v 0))

/-- A port has nothing left (R468): it owes no response, and the home has accepted its writes. A WRITE or PACKET that still
waits for its beat, and what waits behind it, is not accepted. -/
def State.portIdle (s : State) (n : Nat) : Bool := !s.portOwes n && s.pool.all fun r => r.src != Src.port n

/-- A channel unit has nothing left, and no copy runs (R267, R414). -/
def State.chanIdle (s : State) (n : Nat) : Bool :=
  let c := s.chan n
  c.ents.isEmpty && c.maint.isEmpty && c.run.isNone && c.susp.isEmpty && !c.clearing && c.spare != 1

/-- A cluster has nothing left: no run that is not yet reported, no job, no check of a load. -/
def State.clusterIdle (s : State) (n : Nat) : Bool :=
  s.clusterQuiet n && (s.jobs.all fun j => j.cl != n) && !s.flag (bankBase (.cluster n) + 0x14) 31 &&
    s.ctxs.all fun e => e.2.cluster != n || e.2.outcome.isNone

/-- A sequencer or service engine has nothing left. -/
def State.engineIdle (s : State) (b : BankRef) : Bool :=
  ((ownerThreads b).all fun t => !s.thrBusy t) && !s.flag (bankBase b + 0x14) 31

/-- A unit has finished all work that it accepted (R43). -/
def State.unitIdle (s : State) (u : UnitRef) : Bool :=
  match u with
  | .home => s.trks.isEmpty && s.homeQ.isEmpty && s.moves.isEmpty && s.walks.isEmpty
  | .locket => true
  | .port n => s.portIdle n
  | .chan n => s.chanIdle n
  | .cluster n => s.clusterIdle n
  | .seq n => s.engineIdle (.seq n)
  | .svc n => s.engineIdle (.svc n)
  | .phy => s.sbCmd.isEmpty

/-- The Locket is empty once it is quiesced (R217). -/
def State.afterQuiesce (s : State) (u : UnitRef) : State := if u = .locket then s.lkInval else s

/-- QUIESCED: a disabled unit that has nothing left says so. -/
def State.quiesce (s : State) (u : UnitRef) : State :=
  if u.present s.variant && s.running && !s.en u && s.unitIdle u then
    (s.setFlag (unitCtrl u) 1 true).afterQuiesce u
  else s

def execQuiesced (u : UnitRef) (s : State) : Host.Outcome State Fault Refusal := .next (s.quiesce u)

/-! ### Engines, loads and grafts (R133 to R154) -/

/-- CLR_FAULT: the thread that THR_CTRL selects. -/
def execClrFault (p : Port) (cl : Nat) (s : State) : Host.Outcome State Fault Refusal :=
  s.regAccess p (decide (cl < s.variant.clusters)) (writeAt p ((Win.cluster cl).base + 0x2C) 1)

/-- The windows of sequencers and service engines have an ENG_FCLR. -/
def hasFclr : BankRef → Bool
  | .cluster _ => false
  | .seq _ => true
  | .svc _ => true

/-- ENG_FCLR. -/
def execEngFclr (p : Port) (b : BankRef) (v : W32) (s : State) : Host.Outcome State Fault Refusal :=
  s.regAccess p (hasFclr b && bankPresent s.variant b) (writeAt p (bankBase b + 0x38) v)

/-- INSTR_STORE_WRITE (R136, R150). -/
def execInstrStoreWrite (p : Port) (cl bank idx : Nat) (v : W32) (s : State) : Host.Outcome State Fault Refusal :=
  s.regAccess p (decide (cl < s.variant.clusters) && decide (bank < 2) && decide (idx < 8192))
    (writeAt p ((Win.store cl).base + 0x8000 * bank + 4 * idx) v)

/-- PROG_DATA: a write of `w`, or a read. -/
def execProgData (p : Port) (b : BankRef) (w : Option W32) (s : State) : Host.Outcome State Fault Refusal :=
  s.regAccess p (hasFclr b && bankPresent s.variant b)
    (match w with
     | some v => writeAt p (bankBase b + 0x24) v
     | none => readAt p (bankBase b + 0x24))

/-- LOAD_ARM. -/
def execLoadArm (p : Port) (b : BankRef) (v : W32) (s : State) : Host.Outcome State Fault Refusal :=
  s.regAccess p (bankPresent s.variant b) (writeAt p (bankBase b + 0x14) (withBit v 31))

/-- GRAFT_GO. -/
def execGraftGo (p : Port) (b : BankRef) (v : W32) (s : State) : Host.Outcome State Fault Refusal :=
  s.regAccess p (bankPresent s.variant b) (writeAt p (bankBase b + 0x1C) (withBit v 0))

/-- ABANDON. -/
def execAbandon (p : Port) (b : BankRef) (v : W32) (s : State) : Host.Outcome State Fault Refusal :=
  s.regAccess p (bankPresent s.variant b) (writeAt p (bankBase b + 0x1C) (withBit v 1))

/-- EVF_SET. -/
def execEvfSet (p : Port) (cl : Nat) (hi : Bool) (v : W32) (s : State) : Host.Outcome State Fault Refusal :=
  s.regAccess p (decide (cl < s.variant.clusters)) (writeAt p ((Win.cluster cl).base + (if hi then 0x3C else 0x38)) v)

/-! ### Context commands (R161 to R169) -/

/-- A write of CTX_CMD with a command code. -/
def State.cmdWrite (s : State) (p : Port) (ctx code : Nat) : Host.Outcome State Fault Refusal :=
  s.regAccess p (decide (ctx < s.variant.contexts)) (writeAt p (ctxBase ctx) (BitVec.ofNat 32 code))

/-- A CTXCMD request of a stream port that carries a command code. -/
def State.cmdRequest (s : State) (n : Nat) (req : BitVec 128) (code : Nat) : State :=
  s.portRequest n req (rqKind req == 4 && rqCmd req == code)

/-- A context command, from either source. -/
def State.ctxSource (s : State) (src : CmdSrc) (code : Nat) : Host.Outcome State Fault Refusal :=
  match src with
  | .word p ctx => s.cmdWrite p ctx code
  | .port n req => .next (s.cmdRequest n req code)

/-- ENABLE. -/
def execEnable (p : Port) (ctx : Nat) (s : State) : Host.Outcome State Fault Refusal := s.cmdWrite p ctx 1

/-- DISABLE. -/
def execDisable (p : Port) (ctx : Nat) (s : State) : Host.Outcome State Fault Refusal := s.cmdWrite p ctx 2

/-- KICK. -/
def execKick (src : CmdSrc) (s : State) : Host.Outcome State Fault Refusal := s.ctxSource src 3

/-- ABORT. -/
def execAbort (src : CmdSrc) (s : State) : Host.Outcome State Fault Refusal := s.ctxSource src 4

/-- CLEAR. -/
def execClear (src : CmdSrc) (s : State) : Host.Outcome State Fault Refusal := s.ctxSource src 5

/-- APPEND: a write of CTX_TAIL_HI, or a port's request. -/
def execAppend (src : AppendSrc) (s : State) : Host.Outcome State Fault Refusal :=
  match src with
  | .word p ctx v => s.regAccess p (decide (ctx < s.variant.contexts)) (writeAt p (ctxBase ctx + 0x1C) v)
  | .port n req => .next (s.cmdRequest n req 6)

/-! ### Locket, home, charms and the Seed Map -/

/-- INVAL. -/
def execInval (p : Port) (v : W32) (s : State) : Host.Outcome State Fault Refusal :=
  s.access p (writeAt p 0x700C (withBit v 0))

/-- CNT_CLR. -/
def execCntClr (p : Port) (v : W32) (s : State) : Host.Outcome State Fault Refusal :=
  s.access p (writeAt p 0x700C (withBit v 1))

/-- MIG_GO. -/
def execMigGo (p : Port) (v : W32) (s : State) : Host.Outcome State Fault Refusal :=
  s.access p (writeAt p 0x6C80 (withBit v 0))

/-- PAUSE. -/
def execPause (p : Port) (v : W32) (s : State) : Host.Outcome State Fault Refusal :=
  s.access p (writeAt p 0x6C80 (withBit v 1))

/-- MIG_RESUME. -/
def execMigResume (p : Port) (v : W32) (s : State) : Host.Outcome State Fault Refusal :=
  s.access p (writeAt p 0x6C80 (withoutBit v 1))

/-- TR_ENABLE. -/
def execTrEnable (p : Port) (v : W32) (s : State) : Host.Outcome State Fault Refusal :=
  s.access p (writeAt p 0x3040 (withBit v 0))

/-- TR_DISABLE. -/
def execTrDisable (p : Port) (v : W32) (s : State) : Host.Outcome State Fault Refusal :=
  s.access p (writeAt p 0x3040 (withoutBit v 0))

/-- TR_ARM. -/
def execTrArm (p : Port) (v : W32) (s : State) : Host.Outcome State Fault Refusal :=
  s.access p (writeAt p 0x3040 (withBit v 1))

/-- DISARM. -/
def execDisarm (p : Port) (v : W32) (s : State) : Host.Outcome State Fault Refusal :=
  s.access p (writeAt p 0x3040 (withBit v 2))

/-- PRED_CLR. -/
def execPredClr (p : Port) (v : W32) (s : State) : Host.Outcome State Fault Refusal :=
  s.access p (writeAt p 0x6010 (withBit v 0))

/-- BREAK. -/
def execClaspBreak (p : Port) (clasp : Nat) (v : W32) (s : State) : Host.Outcome State Fault Refusal :=
  s.regAccess p (decide (clasp < 256)) (writeAt p (0x6800 + 4 * clasp) (withBit v 29))

/-- TRIM. -/
def execTrim (p : Port) (plot : BitVec 21) (s : State) : Host.Outcome State Fault Refusal :=
  s.access p (writeAt p seedCmd (BitVec.ofNat 32 (2 ^ 30 + plot.toNat)))

/-- SEED. -/
def execSeed (p : Port) (plot : BitVec 21) (s : State) : Host.Outcome State Fault Refusal :=
  s.access p (writeAt p seedCmd (BitVec.ofNat 32 (2 ^ 31 + plot.toNat)))

/-- TRIM_WALK_END (R387): no copy of a line of the plot is left in the Locket, and the write is answered. -/
def State.trimDone (s : State) : State :=
  match s.trimming with
  | none => s
  | some plot =>
    if s.running then
      let asked := decide (s.cfgBusy = PortBusy.trim)
      let s := { s.lkTrim plot with trimming := none, cfgBusy := if asked then PortBusy.none else s.cfgBusy }
      (if asked then s.emit (.portRsp .cfg 0 false) else s).serve
    else s

def execTrimWalkEnd (s : State) : Host.Outcome State Fault Refusal := .next s.trimDone

/-! ### Pads, slots and clocks -/

/-- SB_GO. -/
def execSbGo (p : Port) (slot : Nat) (v : W32) (s : State) : Host.Outcome State Fault Refusal :=
  s.regAccess p (decide (slot < s.variant.slots)) (writeAt p (sbCmdReg slot) (withBit v 31))

/-- HOLD. -/
def execHold (p : Port) (g : Nat) (v : W32) (s : State) : Host.Outcome State Fault Refusal :=
  s.regAccess p (decide (g < s.variant.scs)) (writeAt p (padReg g) (withBit v 1))

/-- RELEASE. -/
def execRelease (p : Port) (g : Nat) (v : W32) (s : State) : Host.Outcome State Fault Refusal :=
  s.regAccess p (decide (g < s.variant.scs)) (writeAt p (padReg g) (withBit v 3))

/-- RELOCK. -/
def execRelock (p : Port) (v : W32) (s : State) : Host.Outcome State Fault Refusal := s.access p (writeAt p clkCtrl v)

/-! ### Faults, alive, power, security, interrupts -/

/-- FLT_ACK. -/
def execFltAck (p : Port) (b : FaultRef) (v : W32) (s : State) : Host.Outcome State Fault Refusal :=
  s.regAccess p (b.present s.variant) (writeAt p (faultBase b + 8) v)

/-- FLT_FORCE. -/
def execFltForce (p : Port) (b : FaultRef) (v : W32) (s : State) : Host.Outcome State Fault Refusal :=
  s.regAccess p (b.present s.variant) (writeAt p (faultBase b + 0xC) v)

/-- HIST_CLR. -/
def execHistClr (p : Port) (b : FaultRef) (v : W32) (s : State) : Host.Outcome State Fault Refusal :=
  s.regAccess p (b.present s.variant) (writeAt p (faultBase b + 0x18) (withBit v 2))

/-- FLT_HIST_E0: a read of word 0 of the entry that HIST_SEL names. -/
def execFltHistE0 (p : Port) (b : FaultRef) (s : State) : Host.Outcome State Fault Refusal :=
  s.regAccess p (b.present s.variant) (readAt p (faultBase b + 0x24))

/-- ALIVE_KICK. -/
def execAliveKick (p : Port) (v : W32) (s : State) : Host.Outcome State Fault Refusal :=
  s.access p (writeAt p 0x1E08 (withBit v 0))

/-- ALIVE_MODE. -/
def execAliveMode (p : Port) (v : W32) (s : State) : Host.Outcome State Fault Refusal := s.access p (writeAt p 0x1E00 v)

/-- PWR_GO. -/
def execPwrGo (p : Port) (v : W32) (s : State) : Host.Outcome State Fault Refusal :=
  s.access p (writeAt p 0x1000 (withBit v 3))

/-- DBG_CMD with a code in its OP. -/
def dbgCmdWord (v : W32) (op : Nat) : W32 := putBits v 1 0 op

/-- SET. -/
def execDbgSet (p : Port) (v : W32) (s : State) : Host.Outcome State Fault Refusal :=
  s.access p (writeAt p 0x2008 (dbgCmdWord v 1))

/-- CHAL. -/
def execChal (p : Port) (v : W32) (s : State) : Host.Outcome State Fault Refusal :=
  s.access p (writeAt p 0x2008 (dbgCmdWord v 2))

/-- SUBMIT. -/
def execSubmit (p : Port) (v : W32) (s : State) : Host.Outcome State Fault Refusal :=
  s.access p (writeAt p 0x2008 (dbgCmdWord v 3))

/-- DBG_MCTRL_GO, which the debug port alone can write (R563). -/
def execDbgMctrlGo (v : W32) (s : State) : Host.Outcome State Fault Refusal :=
  s.access .dbg (writeAt .dbg 0x2050 (withBit v 31))

/-- TAKE. -/
def execTake (p : Port) (n : Nat) (s : State) : Host.Outcome State Fault Refusal :=
  s.regAccess p (decide (n < 8)) (readAt p (0x40300 + 4 * n))

/-- FTAKE. -/
def execFtake (p : Port) (n : Nat) (s : State) : Host.Outcome State Fault Refusal :=
  s.regAccess p (decide (n < 8)) (readAt p (0x41000 + 4 * n))

/-! ### Service Chain frames (R475 to R478, R592) -/

/-- HSC_READ: a READ frame, or a frame of a reserved operation. -/
def State.hscRead (s : State) (f : Frame) : State :=
  if frameMine f && s.logicUp && (f.op == 0 || f.op == 3) then
    if frameGood f && f.op == 0 then s.readFrame f else s.forget.hscRefuse
  else s

def execHscRead (f : Frame) (s : State) : Host.Outcome State Fault Refusal := .next (s.hscRead f)

/-- HSC_WRITE: a WRITE frame. -/
def State.hscWrite (s : State) (f : Frame) : State :=
  let a := HeldAcc.write .dbg (framePlace f) f.data
  if (frameMine f && s.logicUp && f.op == 1) = false then s
  else if (frameGood f && s.permits a) = false then s.forget.hscRefuse
  else s.forget.writeFrame a

def execHscWrite (f : Frame) (s : State) : Host.Outcome State Fault Refusal := .next (s.hscWrite f)

/-- HSC_WAKE: a bypassed node takes a WAKE frame too, and sets ACK = 1 and ERR = 0 in it (R478). -/
def State.hscWake (s : State) (f : Frame) : State :=
  if (frameMine f && f.op == 2) = false then s
  else if s.logicUp then
    if frameGood f then (s.forget.emit (.hsc true false none)).wakeEvent 3 0 else s.forget.hscRefuse
  else if frameGood f && s.vddAon then (s.emit (.hsc true false none)).wakeEvent 3 0
  else s

def execHscWake (f : Frame) (s : State) : Host.Outcome State Fault Refusal := .next (s.hscWake f)

end Sys2Proof.Machine
end

