-- ==== Sys2Proof/Machine/Train.lean ====
section
/-! DEFINITION. The channel sequencer's instructions (R125 to R130), knobs (R396 to R399), training patterns (R400 to R402,
R590, R591), reports (R408, R409), and the maintenance grant (R246). -/

namespace Sys2Proof.Machine

/-! ### Knobs (R397, R432) -/

/-- The DQS lanes of a sub-channel. -/
def State.dqsLanes (s : State) (sc : Nat) : List Nat :=
  if s.isX8 sc then [40, 42, 44, 46, 48] else [40, 41, 42, 43, 44, 45, 46, 47, 48, 49]

/-- The DQS pair whose levels a pair carries: with x8 devices an odd pair is driven as its even partner (R428). -/
def State.dqsDriver (s : State) (sc pair : Nat) : Nat := if s.isX8 sc then pair - pair % 2 else pair

/-- The knob lane whose settings drive a DQS pair. -/
def State.dqsKnobLane (s : State) (sc pair : Nat) : Nat := 40 + s.dqsDriver sc pair

/-- The lanes of a knob that are present; none for a number that is no knob. -/
def State.knobLanes (s : State) (sc knob : Nat) : List Nat :=
  let dq := List.range 40
  match knob with
  | 0x00 => [59]
  | 0x01 => [50, 51, 52, 53, 54, 55, 56, 57]
  | 0x02 => [58]
  | 0x03 => s.dqsLanes sc
  | 0x04 => dq
  | 0x05 => s.dqsLanes sc
  | 0x06 => s.dqsLanes sc
  | 0x07 => dq
  | 0x08 => dq
  | 0x09 => dq
  | 0x0A => dq ++ s.dqsLanes sc ++ [50, 51, 52, 53, 54, 55, 56, 57, 58, 59]
  | 0x0B => dq ++ s.dqsLanes sc
  | _ => []

/-- Whether a knob is kept per rank. -/
def knobPerRank (knob : Nat) : Bool := 2 ≤ knob && knob ≤ 9

/-- The largest value of a knob. -/
def knobMax (knob : Nat) : Nat :=
  match knob with
  | 0x00 => 127
  | 0x01 => 255
  | 0x02 => 255
  | 0x03 => 1023
  | 0x05 => 255
  | 0x09 => 63
  | 0x0A => 15
  | 0x0B => 15
  | _ => 127

/-- The keys that a target names: its lane, or with 255 every lane present. -/
def State.targetKeys (s : State) (sc knob lane rank : Nat) : List Nat :=
  ((s.knobLanes sc knob).filter fun l => lane = 255 ∨ l = lane).map (knobKey sc knob rank)

/-- The keys of a rank's knobs and of the shared knobs (R398). -/
def State.rankKeys (s : State) (sc rank : Nat) : List Nat :=
  (List.range 12).flatMap fun k => (s.knobLanes sc k).map (knobKey sc k (if knobPerRank k then rank else 0))

/-- COMMIT: shadow to live. -/
def State.knobCommit (s : State) (sc rank : Nat) : State :=
  { s with live := (s.rankKeys sc rank).foldl (fun t k => knobPut t k (knobAt s.shadow k)) s.live }

/-- RESTORE: live to shadow. -/
def State.knobRestore (s : State) (sc rank : Nat) : State :=
  { s with shadow := (s.rankKeys sc rank).foldl (fun t k => knobPut t k (knobAt s.live k)) s.shadow }

/-- Sets the shadow of some keys, and with `live` both values (R396). -/
def State.knobSet (s : State) (keys : List Nat) (v : Nat) (live : Bool) : State :=
  let put := fun (t : Tab Nat) => keys.foldl (fun t k => knobPut t k v) t
  { s with shadow := put s.shadow, live := if live then put s.live else s.live }

/-! ### The commands of DCMD

R424 names JESD79-5; the encodings are those of its command table (log entry on DCMD). Bit `i` is CA`i` of the first cycle,
bit 14 + `i` that of the second. -/

/-- What the channel unit recognises in a command. -/
inductive CaCmd where
  | act (bg bank row : Nat)
  | col (bg bank : Nat) (auto : Bool)
  | preAll
  | preSame (bank : Nat)
  | pre (bg bank : Nat)
  | refAb
  | refSb (bank : Nat)
  | srEnter
  | pdEnter
  | exit
  | other
deriving DecidableEq, Repr

/-- The command of CA bits. -/
def caDecode (b : BitVec 29) : CaCmd :=
  let n := b.toNat
  let bank := n / 2 ^ 6 % 4
  let bg := n / 2 ^ 8 % 8
  let ca10 := n / 2 ^ 10 % 2
  let auto := n / 2 ^ 24 % 2 == 0
  if n % 4 = 0 then .act bg bank (n / 4 % 16 + n / 2 ^ 14 % 2 ^ 13 * 16 + n / 2 ^ 27 % 2 * 2 ^ 17)
  else
    match n % 32 with
    | 0x0D => .col bg bank auto
    | 0x1D => .col bg bank auto
    | 0x09 => .col bg bank auto
    | 0x13 => if n / 2 ^ 9 % 2 = 0 then .other else if ca10 = 0 then .refAb else .refSb bank
    | 0x0B => if ca10 = 0 then .preAll else .preSame bank
    | 0x1B => .pre bg bank
    | 0x17 => if ca10 = 0 then .srEnter else .pdEnter
    | 0x1F => .exit
    | _ => .other

/-- The keys of the banks of a chip select, or of one bank number. -/
def csBanks (cs : Nat) (bank : Option Nat) : List Nat :=
  ((List.range 32).filter fun i => bank.all fun b => i % 4 == b).map fun i => 32 * cs + i

/-- A command that the tracked state makes illegal: R125 lists four cases with 'include'; the model takes no others (DESIGN
CHOICE, log entry 88). -/
def Chan.caIllegal (c : Chan) (cs : Nat) (m : CaCmd) : Bool :=
  let open_ := fun (k : Nat) => (c.bank k).row.isSome
  if ((c.rank cs).selfRefresh || (c.rank cs).pdByProgram) && m != .exit then true
  else
    match m with
    | .act bg bank _ => open_ (bankKey cs bg bank)
    | .col bg bank _ => !open_ (bankKey cs bg bank)
    | .refAb => (csBanks cs none).any open_
    | .refSb b => (csBanks cs (some b)).any open_
    | _ => false

/-- The channel unit refreshes a chip select while its refresh is armed: the spare only while it is in use, and not chip select
0 once the spare serves its rank (R412, R414). -/
def Chan.refreshes (c : Chan) (two : Bool) (cs : Nat) : Bool := if cs = 0 then c.spare != 2 else two || c.spare != 0

/-- A program opens a row. -/
def Chan.progOpen (c : Chan) (k row : Nat) : Chan := c.setBank k { c.bank k with row := some row, kept := false, hit := false }

/-- A rank leaves power-down or self-refresh by a DCMD; one that leaves self-refresh has its refresh armed (R587). -/
def Chan.progExit (c : Chan) (two : Bool) (cs : Nat) : Chan :=
  let r := c.rank cs
  let c := c.setRank cs { r with selfRefresh := false, powerDown := false, pdByProgram := false }
  if r.selfRefresh && c.refreshes two cs then c.arm cs else c

/-- The tracked state follows a command (R125). `two` says that the module has two ranks. -/
def Chan.caTrack (c : Chan) (two : Bool) (cs : Nat) (m : CaCmd) : Chan :=
  let r := c.rank cs
  match m with
  | .act bg bank row => c.progOpen (bankKey cs bg bank) row
  | .col bg bank auto => if auto then c.closeRow (bankKey cs bg bank) else c
  | .preAll => (csBanks cs none).foldl Chan.closeRow c
  | .preSame b => (csBanks cs (some b)).foldl Chan.closeRow c
  | .pre bg bank => c.closeRow (bankKey cs bg bank)
  | .srEnter => (c.setRank cs { r with selfRefresh := true }).disarm cs
  | .pdEnter => c.setRank cs { r with powerDown := true, pdByProgram := true }
  | .exit => c.progExit two cs
  | _ => c

/-! ### Instructions that wait for a grant -/

/-- A maintenance request is queued and its thread waits (R246). -/
def State.askMaint (s : State) (t : ThreadRef) (m : MaintCmd) : State :=
  (s.updChan t.unit fun c => { c with maint := c.maint ++ [{ t := t, cmd := m, granted := false }] }).sleep t .maint

/-- DCMD (R125). -/
def execDcmd (t : ThreadRef) (s : State) : Host.Outcome State Fault Refusal :=
  .next (s.issue t 0x3A [.seq] anyWord fun s th w =>
    let g := th.getG (fA w)
    let raw := fFn w / 4 % 2 == 1
    if fD w ≠ 0 ∨ fB w ≠ 0 ∨ fFn w ≥ 8 then .fault 1
    else if fFn w % 4 ≥ 2 ∨ bitsOf g 63 29 ≠ 0 then .fault 2
    else if raw = true ∧ s.reportsReady t.unit = true then .fault 0xD
    else .hold (s.askMaint t (.dcmd (BitVec.ofNat 29 g.toNat) (fFn w % 4) raw)))

/-- MRW (R126). -/
def execMrw (t : ThreadRef) (s : State) : Host.Outcome State Fault Refusal :=
  .next (s.issue t 0x3B [.seq] anyWord fun s th w =>
    let dev := fFn w / 8 % 16
    if fD w ≠ 0 ∨ fFn w ≥ 128 then .fault 1
    else if fFn w % 4 ≥ 2 ∨ (10 ≤ dev ∧ dev ≤ 14) then .fault 2
    else .hold (s.askMaint t (.mrw (bitsOf (th.getG (fA w)) 7 0) (bitsOf (th.getG (fB w)) 7 0) (fFn w % 4)
      (fFn w / 4 % 2 == 1) dev)))

/-- MRR (R127). -/
def execMrr (t : ThreadRef) (s : State) : Host.Outcome State Fault Refusal :=
  .next (s.issue t 0x3C [.seq] anyWord fun s th w =>
    if fB w ≠ 0 ∨ fFn w ≥ 8 then .fault 1
    else if fFn w % 4 ≥ 2 then .fault 2
    else .hold (s.askMaint t (.mrr (fD w) (bitsOf (th.getG (fA w)) 7 0) (fFn w % 4) (fFn w / 4 % 2 == 1))))

/-- TWAIT (R128, R263). -/
def execTwait (t : ThreadRef) (s : State) : Host.Outcome State Fault Refusal :=
  .next (s.issue t 0x3D [.seq] anyWord fun s _ w =>
    let imm := fImm w
    let idx := imm % 256
    if fD w ≠ 0 ∨ fA w ≠ 0 then .fault 1
    else if imm ≥ 2 ^ 15 then .hold (s.sleep t (.twait (imm % 2 ^ 15)))
    else if idx > 0x1A then .fault 2
    else .hold (s.sleep t (.twait (max 1 (imm / 256 % 128) * s.fld (scReg t.unit (0x100 + 4 * idx)) 11 0))))

/-- TWAIT_END: the wait is over (its duration is no guard; log entry 6). -/
def State.twaitEnd (s : State) (t : ThreadRef) : State :=
  if s.thrWaits t = false then s
  else
    match (s.thr t).wait with
    | .twait _ => s.wake t
    | _ => s

def execTwaitEnd (t : ThreadRef) (s : State) : Host.Outcome State Fault Refusal := .next (s.twaitEnd t)

/-! ### TRN.SET and the control knobs (R129, R396 to R398, R408, R409, R413) -/

/-- The fields of a target (R129). -/
def tgKnob (g : W64) : Nat := bitsOf g 7 0
def tgLane (g : W64) : Nat := bitsOf g 15 8
def tgRank (g : W64) : Nat := bitsOf g 16 16

/-- A target that names no lane of a knob (R397). -/
def State.targetBad (s : State) (sc : Nat) (g : W64) : Bool :=
  bitsOf g 63 17 != 0 || (s.targetKeys sc (tgKnob g) (tgLane g) 0).isEmpty || (!knobPerRank (tgKnob g) && tgRank g != 0)

/-- The words that TRN.SET with a control knob stands for: `sel` looks at the knob and the value. -/
def State.trnPick (s : State) (t : ThreadRef) (sel : Nat → W64 → Bool) (w : W32) : Bool :=
  fFn w % 4 == 0 && sel (tgKnob ((s.thr t).getG (fA w))) ((s.thr t).getG (fB w))

/-- A control knob (R398). -/
def controlKnob (k : Nat) : Bool := 0xF0 ≤ k && k ≤ 0xF5

/-- TRN_SET of a knob; fn[1:0] = 3 names no operation. -/
def execTrnSet (t : ThreadRef) (s : State) : Host.Outcome State Fault Refusal :=
  .next (s.issue t 0x3E [.seq]
    (fun w => fFn w % 4 == 3 || s.trnPick t (fun k _ => !controlKnob k) w) fun s th w =>
    let g := th.getG (fA w)
    let v := (th.getG (fB w)).toNat
    let live := fFn w / 4 % 2 == 1
    if fFn w % 4 = 3 ∨ fFn w ≥ 8 ∨ fD w ≠ 0 then .fault 1
    else if s.targetBad t.unit g ∨ v > knobMax (tgKnob g) then .fault 2
    else if live = true ∧ s.reportsReady t.unit = true then .fault 0xD
    else .done (s.knobSet (s.targetKeys t.unit (tgKnob g) (tgLane g) (tgRank g)) v live))

/-- A write of a control knob: the checks common to all, the values it takes, its condition, and its effect. -/
def State.control (s : State) (t : ThreadRef) (sel : Nat → W64 → Bool) (values : Nat → Bool)
    (cond : State → Bool) (f : State → W64 → Nat → Eff) : State :=
  s.issue t 0x3E [.seq] (s.trnPick t sel) fun s th w =>
    let g := th.getG (fA w)
    let v := (th.getG (fB w)).toNat
    if fFn w ≥ 8 ∨ fD w ≠ 0 then .fault 1
    else if fFn w ≥ 4 ∨ bitsOf g 63 17 ≠ 0 ∨ values v = false then .fault 2
    else if cond s = false then .fault 0xD
    else f s g v

/-- COMMIT (R398, R399). -/
def execCommit (t : ThreadRef) (s : State) : Host.Outcome State Fault Refusal :=
  .next (s.control t (fun k _ => k == 0xF0) (fun _ => true) (fun s => !(s.chan t.unit).blocked)
    fun s g _ => .hold (s.askMaint t (.commit (tgRank g))))

/-- RESTORE. -/
def execRestore (t : ThreadRef) (s : State) : Host.Outcome State Fault Refusal :=
  .next (s.control t (fun k _ => k == 0xF1) (fun _ => true) (fun _ => true)
    fun s g _ => .done (s.knobRestore t.unit (tgRank g)))

/-- REPEAT_FAIL (R403). -/
def State.repeatFail (s : State) (sc : Nat) : Nat :=
  let n := s.fld (0x34074 + 0x100 * sc) 3 0
  if n = 0 then 3 else n

/-- What a REPORT does (R408, R409). -/
def State.reportKnob (s : State) (sc : Nat) (g : W64) (v : Nat) : State :=
  let old := (s.chan sc).fails
  if v = 0 then s.updChan sc fun c => { c with fails := 0, blocked := false, lastReason := 0 }
  else if v ≥ 0x40 then (s.updChan sc fun c => { c with lastReason := v }).raise (.chan sc) 7 3 v
  else
    let now := min 15 (old + 1)
    let s := s.updChan sc fun c => { c with fails := now, blocked := true, lastReason := v }
    let s := (s.knobRestore sc (tgRank g)).raise (.chan sc) 6 3 (bitsOf g 16 0 + 2 ^ 17 * v)
    if old < now ∧ now = s.repeatFail sc then s.raise (.chan sc) 8 3 now else s

/-- REPORT. -/
def execReport (t : ThreadRef) (s : State) : Host.Outcome State Fault Refusal :=
  .next (s.control t (fun k _ => k == 0xF2) (fun v => v < 256) (fun _ => true)
    fun s g v => .done (s.reportKnob t.unit g v))

/-- The sub-channel reports ready: its refresh is armed, and held requests enter its queues (R398, R500, R587). -/
def State.scUp (s : State) (sc : Nat) : State :=
  ((s.updChan sc fun c => { c with ready := true }).armRanks sc).releaseHeld sc

/-- READY with a value other than 0. -/
def execReady (t : ThreadRef) (s : State) : Host.Outcome State Fault Refusal :=
  .next (s.control t (fun k v => k == 0xF3 && v != 0) (fun v => v == 1)
    (fun s =>
      let c := s.chan t.unit
      s.en (.chan t.unit) && !c.ready && !c.blocked && !c.clearing && !c.isolated)
    fun s _ _ => .done (s.scUp t.unit))

/-- Ready is withdrawn: SPARE, CLEARED and FAILS become 0, and the spare's refresh is disarmed (R398, R587). -/
def State.scDown (s : State) (sc : Nat) : State :=
  s.updChan sc fun c =>
    let c := { c with ready := false, cleared := false, fails := 0 }
    if c.spare = 0 then c else { c.disarm 1 with spare := 0, copyPtr := 0, copyNext := 0, copies := [] }

/-- READY_WITHDRAW. -/
def execReadyWithdraw (t : ThreadRef) (s : State) : Host.Outcome State Fault Refusal :=
  .next (s.control t (fun k v => k == 0xF3 && v == 0) (fun _ => true) (fun s => s.disabled (.chan t.unit))
    fun s _ _ => .done (s.scDown t.unit))

/-- SPARE: the copy begins at local line 0, and the spare's refresh is armed (R413, R587). -/
def State.spareStart (s : State) (sc : Nat) : State :=
  s.updChan sc fun c =>
    let c := if (c.rank 1).selfRefresh then c else (c.disarm 1).arm 1
    { c with spare := 1, copyPtr := 0, copyNext := 0, copies := [] }

/-- SPARE. -/
def execSpare (t : ThreadRef) (s : State) : Host.Outcome State Fault Refusal :=
  .next (s.control t (fun k _ => k == 0xF4) (fun v => v == 1)
    (fun s => s.reportsReady t.unit && !s.twoRanks t.unit && (s.chan t.unit).spare == 0)
    fun s _ _ => .done (s.spareStart t.unit))

/-- CLEAR begins (R405, R587). -/
def State.clearStart (s : State) (sc : Nat) : State :=
  (s.updChan sc fun c => { c with clearing := true, clearPtr := 0 }).armRanks sc

/-- KNOB_CLEAR. -/
def execKnobClear (t : ThreadRef) (s : State) : Host.Outcome State Fault Refusal :=
  .next (s.control t (fun k _ => k == 0xF5) (fun v => v == 1)
    (fun s => s.en (.chan t.unit) && !(s.chan t.unit).ready && s.populated t.unit)
    fun s _ _ => .done (s.clearStart t.unit))

/-! ### TRN.SWEEP and TRN.EYE (R129, R130, R400 to R402) -/

/-- TRN_SWEEP: the sweep waits for the grant of its first step. -/
def execTrnSweep (t : ThreadRef) (s : State) : Host.Outcome State Fault Refusal :=
  .next (s.issue t 0x3E [.seq] (fun w => fFn w % 4 == 1) fun s th w =>
    let g := th.getG (fA w)
    let o := th.getG (fB w)
    let pat := fFn w / 8 % 16
    let ready := s.reportsReady t.unit
    let k := tgKnob g
    let count := if bitsOf o 29 24 = 0 then 64 else bitsOf o 29 24
    if fFn w / 4 % 2 = 1 ∨ fFn w ≥ 128 then .fault 1
    else if pat ≥ 7 ∨ s.targetBad t.unit g ∨ bitsOf o 63 30 ≠ 0 then .fault 2
    else if ready = true ∧ (k < 5 ∨ k > 9 ∨ (pat ≠ 3 ∧ pat ≠ 4)) then .fault 0xD
    else if bitsOf o 15 0 > knobMax k then .done (s.setThr t (th.setG (fD w) 0))
    else
      .hold (s.askMaint t (.sweep (fD w) k (tgLane g) (tgRank g) pat (bitsOf o 15 0) (bitsOf o 23 16) count 0 0)))

/-- The passing runs of a bitmap: first step and width. -/
def eyeRuns (m : W64) : List (Nat × Nat) :=
  let step := fun (acc : List (Nat × Nat)) (i : Nat) =>
    if bitOf m i then
      match acc with
      | (a, n) :: rest => if a + n = i then (a, n + 1) :: rest else (i, 1) :: acc
      | [] => [(i, 1)]
    else acc
  ((List.range 64).foldl step []).reverse

/-- The steps that may stand for the centre: the middle step, or one of the two middle steps, of a widest run; every
8-bit value where no step passed. -/
def eyeCentres (runs : List (Nat × Nat)) : List Nat :=
  let w := runs.foldl (fun a r => max a r.2) 0
  if runs.isEmpty then List.range 256
  else (runs.filter fun r => r.2 == w).flatMap fun r => [r.1 + (w - 1) / 2, r.1 + w / 2]

/-- TRN_EYE; which of the candidate centres it returns the spec leaves open. -/
def execTrnEye (t : ThreadRef) (s : State) : Host.Outcome State Fault Refusal :=
  .next (s.issue t 0x3E [.seq] (fun w => fFn w % 4 == 2) fun s th w =>
    let runs := eyeRuns (th.getG (fA w))
    let cs := eyeCentres runs
    let c := cs.getD (Config.choice s.free % cs.length) 0
    let width := runs.foldl (fun a r => max a r.2) 0
    if fB w ≠ 0 ∨ fFn w ≥ 4 then .fault 1
    else .done (s.draw.setThr t (th.setG (fD w) (BitVec.ofNat 64 (c + 256 * width + 65536 * runs.length)))))

/-! ### Pattern steps (R590, R591) -/

/-- One output bit of the LFSR. -/
def lfsrStep (x : Nat) : Nat := if x % 2 = 1 then Nat.xor (x / 2) 0x80200003 else x / 2

/-- `n` output bits from a state, and the state after them. -/
def lfsrBits : Nat → Nat → List Bool × Nat
  | 0, x => ([], x)
  | n + 1, x =>
    let r := lfsrBits n (lfsrStep x)
    ((x % 2 == 1) :: r.1, r.2)

/-- The seed of a step. -/
def lfsrSeed (step rank : Nat) : Nat := 0x5A5A0000 + 2 * step + rank

/-- The levels that a step of patterns 0 to 2 drives: DCS per ck, 1 high; DCA0 to DCA6 of each ck in turn; DQS per UI, a
preamble of two ck and four toggles (R590). Of the preamble's levels the spec says nothing: those of JESD79-5 (PRESUMED, log
entry 90). -/
def patternBits (pat step rank : Nat) : List Bool :=
  match pat with
  | 0 => (List.range 32).map fun i => i % 4 != 0
  | 1 => (lfsrBits 224 (lfsrSeed step rank)).1
  | _ => [false, false, true, false, true, false, true, false, true, false, true, false]

/-- The bursts that a step of patterns 5 and 6 writes (R591). -/
def lfsrBursts : Nat → Nat → List (BitVec 640)
  | 0, _ => []
  | n + 1, x =>
    let r := lfsrBits 640 x
    BitVec.ofNat 640 (bitsNum r.1) :: lfsrBursts n r.2

/-- The lines of patterns 5 and 6 are written and read back. -/
def State.writeRead (s : State) (sc rank step lines : Nat) : State :=
  let s := s.openRow sc (bankKey rank 0 0) 0
  let bs := lfsrBursts lines (lfsrSeed step rank)
  let s := (bs.foldl (fun (acc : Nat × State) b =>
    (acc.1 + 1, acc.2.dramCmd sc (.wr rank 0 0 (16 * acc.1) false b) false)) (0, s)).2
  (List.range lines).foldl (fun s i => s.dramCmd sc (.rd rank 0 0 (16 * i) false) false) s

/-- What a step of a pattern drives. -/
def State.runPattern (s : State) (sc rank pat step : Nat) : State :=
  let s := s.pdWake sc rank
  match pat with
  | 3 => s.dramCmd sc (.mrr rank 31) false
  | 4 => s.dramCmd sc (.mrr rank 31) false
  | 5 => s.writeRead sc rank step 1
  | 6 => s.writeRead sc rank step 16
  | _ => s.dramCmd sc (.pattern rank pat step (patternBits pat step rank)) false

/-! ### What passes (R400, R590, R591)

A sample names a lane and the bits read on it, as a number whose bit 0 came first: for patterns 0 and 1 the feedback of each ck,
for 2 the level of CK, for 3 whether the preamble arrived within the gate, for 4 the bits that differ from the pattern that mode
registers 25 to 30 hold, for 5 and 6 the lane's bits of the lines read back (DESIGN CHOICE, log entry 75). -/

/-- The DQ lanes whose bits decide a lane: those of the strobe's device, and every one for a command lane. -/
def State.dqOf (s : State) (sc lane : Nat) : List Nat :=
  if lane < 40 then [lane]
  else if 50 ≤ lane then List.range 40
  else if s.isX8 sc then (List.range 8).map fun i => 8 * ((lane - 40) / 2) + i
  else (List.range 4).map fun i => 4 * (lane - 40) + i

/-- The bits of a lane in the bursts of a step of pattern 5 or 6: bit 40 × beat + lane of each line (R591). -/
def lfsrLane (bursts : List (BitVec 640)) (lane : Nat) : List Bool :=
  bursts.flatMap fun b => (List.range 16).map fun beat => bitOf b (40 * beat + lane)

/-- What a lane must show for a step to pass: the driven levels, those of its own bump for a DCA or DPAR lane (R590); a CK level
of 1, the preamble's arrival, no bit that differs (R400); or the data written (R591). -/
def stepExpect (pat step rank lane : Nat) : Nat :=
  match pat with
  | 0 => bitsNum (patternBits 0 step rank)
  | 1 =>
    let bs := patternBits 1 step rank
    if 50 ≤ lane ∧ lane ≤ 56 then bitsNum ((List.range 32).map fun i => bs.getD (7 * i + (lane - 50)) false)
    else if lane = 57 then bitsNum (DramCmd.pattern rank 1 step bs).dpar
    else bitsNum bs
  | 2 => 1
  | 3 => 1
  | 4 => 0
  | 5 => bitsNum (lfsrLane (lfsrBursts 1 (lfsrSeed step rank)) lane)
  | _ => bitsNum (lfsrLane (lfsrBursts 16 (lfsrSeed step rank)) lane)

/-- A lane passes a step: every sample that decides it is as expected; a lane without a sample fails (R401). -/
def State.lanePasses (s : State) (sc pat step rank : Nat) (samples : List (Nat × Nat)) (lane : Nat) : Bool :=
  (if 4 ≤ pat then s.dqOf sc lane else [lane]).all fun l => samples.contains (l, stepExpect pat step rank l)

/-! ### The maintenance grant -/

/-- The maintenance run ends. -/
def State.endMaint (s : State) (sc : Nat) : State := s.updChan sc fun c => { c with run := none }

/-- The head of the maintenance requests is done, and its thread goes on. -/
def State.maintDone (s : State) (sc : Nat) (t : ThreadRef) : State :=
  ((s.updChan sc fun c => { c with maint := c.maint.drop 1 }).endMaint sc).wake t

/-- A DCMD at its grant: issued, or found illegal (R125). A power-down that the channel unit itself entered ends first
(R256). -/
def State.grantDcmd (s : State) (sc : Nat) (t : ThreadRef) (bits : BitVec 29) (cs : Nat) (raw : Bool) : State :=
  let m := caDecode bits
  let s := if raw || ((s.chan sc).rank cs).pdByProgram || m == .exit then s else s.pdWake sc cs
  if !raw && (s.chan sc).caIllegal cs m then
    ((s.updChan sc fun c => { c with maint := c.maint.drop 1 }).endMaint sc).fault1 t 0xD
  else ((s.updChan sc fun c => c.caTrack (s.twoRanks sc) cs m).dramCmd sc (.ca cs bits) raw).maintDone sc t

/-- A mode register write, to one rank or both. -/
def State.grantMrw (s : State) (sc mr value cs : Nat) (both : Bool) (dev : Nat) : State :=
  (if both then [0, 1] else [cs]).foldl (fun s c => (s.pdWake sc c).dramCmd sc (.mrw c mr value dev) false) s

/-- The value an MRR returns, from the bytes of the ten devices. -/
def mrrValue (mr : BitVec 80) (high : Bool) : W64 :=
  BitVec.ofNat 64 (if high then mr.toNat / 2 ^ 64 else mr.toNat % 2 ^ 64)

/-- MAINTENANCE_GRANT (R246): the oldest command of the sequencer, or a line of CLEAR. A sweep keeps the grant for its
step. -/
def State.maintGrant (s : State) (sc : Nat) (mr : BitVec 80) : State :=
  let c := s.chan sc
  if s.mayIssue sc = false ∨ (c.run.map Run.rq) ≠ some 3 then s
  else
    match c.maint with
    | [] => (if c.clearing = true ∧ c.clearPtr < s.clearLines sc then s.clearLine sc else s).endMaint sc
    | m :: _ =>
      match m.cmd with
      | .dcmd bits cs raw => s.grantDcmd sc m.t bits cs raw
      | .mrw a v cs both dev => (s.grantMrw sc a v cs both dev).maintDone sc m.t
      | .mrr d a cs high =>
        let s := (s.pdWake sc cs).dramCmd sc (.mrr cs a) false
        (s.setThr m.t ((s.thr m.t).setG d (mrrValue mr high))).maintDone sc m.t
      | .commit rank => (s.knobCommit sc rank).maintDone sc m.t
      | .sweep _ _ _ _ _ _ _ _ _ _ =>
        s.updChan sc fun c => { c with maint := { m with granted := true } :: c.maint.drop 1 }

def execMaintenanceGrant (sc : Nat) (mr : BitVec 80) (s : State) : Host.Outcome State Fault Refusal :=
  .next (s.maintGrant sc mr)

/-- The sweep ends: its bitmap reaches g[d]. -/
def State.sweepEnd (s : State) (sc : Nat) (t : ThreadRef) (d : Nat) (result : W64) : State :=
  (s.setThr t ((s.thr t).setG d result)).maintDone sc t

/-- SWEEP_STEP (R130, R401, R590): `samples` are what the step sampled. The next step waits for a grant of its own; a value
beyond the knob's range ends the sweep. -/
def State.sweepStep (s : State) (sc : Nat) (samples : List (Nat × Nat)) : State :=
  let c := s.chan sc
  if s.mayIssue sc = false ∨ (c.run.map Run.rq) ≠ some 3 then s
  else
    match c.maint with
    | { t := t, cmd := .sweep d knob lane rank pat start step count n result, granted := true } :: rest =>
      let keys := s.targetKeys sc knob lane (if knobPerRank knob then rank else 0)
      let s := (s.knobSet keys (start + n * step) false).runPattern sc rank pat n
      let want := (s.knobLanes sc knob).filter fun l => lane = 255 ∨ l = lane
      let pass := want.all (s.lanePasses sc pat n rank samples)
      let result := if pass then result ||| BitVec.ofNat 64 (2 ^ n) else result
      if n + 1 ≥ count ∨ start + (n + 1) * step > knobMax knob then s.sweepEnd sc t d result
      else
        let m : Maint := { t := t, cmd := .sweep d knob lane rank pat start step count (n + 1) result, granted := false }
        (s.updChan sc fun c => { c with maint := m :: rest }).endMaint sc
    | _ => s

def execSweepStep (sc : Nat) (samples : List (Nat × Nat)) (s : State) : Host.Outcome State Fault Refusal :=
  .next (s.sweepStep sc samples)

end Sys2Proof.Machine
end

