-- ==== Sys2Proof/Machine/Dispatch.lean ====
section
/-! DEFINITION. The dispatch: one arm per command, each a direct call of its meaning. -/

namespace Sys2Proof.Machine

def exec (i : Instr) (s : State) : Host.Outcome State Fault Refusal :=
  match i with
  | .regWrite p a v => Sys2Proof.Machine.execRegWrite p a v s
  | .readClear p a => Sys2Proof.Machine.execReadClear p a s
  | .lowWordRead p off => Sys2Proof.Machine.execLowWordRead p off s
  | .lowWordWrite p off v => Sys2Proof.Machine.execLowWordWrite p off v s
  | .highWordWrite p off v => Sys2Proof.Machine.execHighWordWrite p off v s
  | .aliasWrite p off v => Sys2Proof.Machine.execAliasWrite p off v s
  | .unitEnable p u v => Sys2Proof.Machine.execUnitEnable p u v s
  | .unitDisable p u v => Sys2Proof.Machine.execUnitDisable p u v s
  | .quiesced u => Sys2Proof.Machine.execQuiesced u s
  | .add t => Sys2Proof.Machine.execAdd t s
  | .sub t => Sys2Proof.Machine.execSub t s
  | .mul t => Sys2Proof.Machine.execMul t s
  | .and t => Sys2Proof.Machine.execAnd t s
  | .or t => Sys2Proof.Machine.execOr t s
  | .xor t => Sys2Proof.Machine.execXor t s
  | .shl t => Sys2Proof.Machine.execShl t s
  | .shr t => Sys2Proof.Machine.execShr t s
  | .sra t => Sys2Proof.Machine.execSra t s
  | .min t => Sys2Proof.Machine.execMin t s
  | .max t => Sys2Proof.Machine.execMax t s
  | .cmp t => Sys2Proof.Machine.execCmp t s
  | .sel t => Sys2Proof.Machine.execSel t s
  | .addImm t => Sys2Proof.Machine.execAddImm t s
  | .andImm t => Sys2Proof.Machine.execAndImm t s
  | .orImm t => Sys2Proof.Machine.execOrImm t s
  | .xorImm t => Sys2Proof.Machine.execXorImm t s
  | .shlImm t => Sys2Proof.Machine.execShlImm t s
  | .shrImm t => Sys2Proof.Machine.execShrImm t s
  | .sraImm t => Sys2Proof.Machine.execSraImm t s
  | .li t => Sys2Proof.Machine.execLi t s
  | .lui t => Sys2Proof.Machine.execLui t s
  | .lds t => Sys2Proof.Machine.execLds t s
  | .sts t => Sys2Proof.Machine.execSts t s
  | .br t => Sys2Proof.Machine.execBr t s
  | .brc t => Sys2Proof.Machine.execBrc t s
  | .call t => Sys2Proof.Machine.execCall t s
  | .ret t => Sys2Proof.Machine.execRet t s
  | .ldl t => Sys2Proof.Machine.execLdl t s
  | .stl t => Sys2Proof.Machine.execStl t s
  | .pref t => Sys2Proof.Machine.execPref t s
  | .blk2d t => Sys2Proof.Machine.execBlk2d t s
  | .gather t => Sys2Proof.Machine.execGather t s
  | .scat t => Sys2Proof.Machine.execScat t s
  | .pack t => Sys2Proof.Machine.execPack t s
  | .unpk t => Sys2Proof.Machine.execUnpk t s
  | .fenceL t => Sys2Proof.Machine.execFenceL t s
  | .fenceP t => Sys2Proof.Machine.execFenceP t s
  | .fenceG t => Sys2Proof.Machine.execFenceG t s
  | .fenceRetire t => Sys2Proof.Machine.execFenceRetire t s
  | .clspAcq t => Sys2Proof.Machine.execClspAcq t s
  | .clspAcqTry t => Sys2Proof.Machine.execClspAcqTry t s
  | .clspRel t => Sys2Proof.Machine.execClspRel t s
  | .clspRelR t => Sys2Proof.Machine.execClspRelR t s
  | .waitev t => Sys2Proof.Machine.execWaitev t s
  | .waitevTimeout t => Sys2Proof.Machine.execWaitevTimeout t s
  | .evt t => Sys2Proof.Machine.execEvt t s
  | .nextd t => Sys2Proof.Machine.execNextd t s
  | .yieldCtx t => Sys2Proof.Machine.execYieldCtx t s
  | .yieldRetire t => Sys2Proof.Machine.execYieldRetire t s
  | .doneRun t => Sys2Proof.Machine.execDoneRun t s
  | .doneRetire t => Sys2Proof.Machine.execDoneRetire t s
  | .trap t => Sys2Proof.Machine.execTrap t s
  | .hmchk t => Sys2Proof.Machine.execHmchk t s
  | .graftpt t => Sys2Proof.Machine.execGraftpt t s
  | .dcmd t => Sys2Proof.Machine.execDcmd t s
  | .mrw t => Sys2Proof.Machine.execMrw t s
  | .mrr t => Sys2Proof.Machine.execMrr t s
  | .twait t => Sys2Proof.Machine.execTwait t s
  | .twaitEnd t => Sys2Proof.Machine.execTwaitEnd t s
  | .trnSet t => Sys2Proof.Machine.execTrnSet t s
  | .trnSweep t => Sys2Proof.Machine.execTrnSweep t s
  | .sweepStep sc samples => Sys2Proof.Machine.execSweepStep sc samples s
  | .trnEye t => Sys2Proof.Machine.execTrnEye t s
  | .maintenanceGrant sc mr => Sys2Proof.Machine.execMaintenanceGrant sc mr s
  | .lineDataArrival t k => Sys2Proof.Machine.execLineDataArrival t k s
  | .pipeJobDone cl k => Sys2Proof.Machine.execPipeJobDone cl k s
  | .clrFault p cl => Sys2Proof.Machine.execClrFault p cl s
  | .engFclr p b v => Sys2Proof.Machine.execEngFclr p b v s
  | .instrStoreWrite p cl bank idx v => Sys2Proof.Machine.execInstrStoreWrite p cl bank idx v s
  | .progData p b w => Sys2Proof.Machine.execProgData p b w s
  | .loadArm p b v => Sys2Proof.Machine.execLoadArm p b v s
  | .loadCheckEnd b => Sys2Proof.Machine.execLoadCheckEnd b s
  | .graftGo p b v => Sys2Proof.Machine.execGraftGo p b v s
  | .abandon p b v => Sys2Proof.Machine.execAbandon p b v s
  | .graftDone b => Sys2Proof.Machine.execGraftDone b s
  | .evfSet p cl hi v => Sys2Proof.Machine.execEvfSet p cl hi v s
  | .enable p ctx => Sys2Proof.Machine.execEnable p ctx s
  | .disable p ctx => Sys2Proof.Machine.execDisable p ctx s
  | .kick src => Sys2Proof.Machine.execKick src s
  | .abort src => Sys2Proof.Machine.execAbort src s
  | .clear src => Sys2Proof.Machine.execClear src s
  | .append src => Sys2Proof.Machine.execAppend src s
  | .setHead sp req => Sys2Proof.Machine.execSetHead sp req s
  | .dispatch cl t => Sys2Proof.Machine.execDispatch cl t s
  | .descriptorReadResponse ctx => Sys2Proof.Machine.execDescriptorReadResponse ctx s
  | .runReport ctx => Sys2Proof.Machine.execRunReport ctx s
  | .completionRecord ctx => Sys2Proof.Machine.execCompletionRecord ctx s
  | .fastCommandPacket sp req => Sys2Proof.Machine.execFastCommandPacket sp req s
  | .packetEnd ctx => Sys2Proof.Machine.execPacketEnd ctx s
  | .channelTimeout sc k => Sys2Proof.Machine.execChannelTimeout sc k s
  | .inval p v => Sys2Proof.Machine.execInval p v s
  | .invalEnd => Sys2Proof.Machine.execInvalEnd s
  | .cntClr p v => Sys2Proof.Machine.execCntClr p v s
  | .read sp req => Sys2Proof.Machine.execRead sp req s
  | .write sp req => Sys2Proof.Machine.execWrite sp req s
  | .writeDataBeat sp beat => Sys2Proof.Machine.execWriteDataBeat sp beat s
  | .flush sp req => Sys2Proof.Machine.execFlush sp req s
  | .flushComplete sp k => Sys2Proof.Machine.execFlushComplete sp k s
  | .portArbiterAdmit => Sys2Proof.Machine.execPortArbiterAdmit s
  | .transactionEnd ln => Sys2Proof.Machine.execTransactionEnd ln s
  | .queueEntry ln => Sys2Proof.Machine.execQueueEntry ln s
  | .arbiterGrant sc => Sys2Proof.Machine.execArbiterGrant sc s
  | .lineBoundary sc k => Sys2Proof.Machine.execLineBoundary sc k s
  | .hog sc => Sys2Proof.Machine.execHog sc s
  | .dramReadData sc k burst => Sys2Proof.Machine.execDramReadData sc k burst s
  | .pageIdle sc bank => Sys2Proof.Machine.execPageIdle sc bank s
  | .powerDownEntry sc rank => Sys2Proof.Machine.execPowerDownEntry sc rank s
  | .refreshInterval sc rank => Sys2Proof.Machine.execRefreshInterval sc rank s
  | .idlePullIn sc rank => Sys2Proof.Machine.execIdlePullIn sc rank s
  | .migGo p v => Sys2Proof.Machine.execMigGo p v s
  | .pause p v => Sys2Proof.Machine.execPause p v s
  | .migResume p v => Sys2Proof.Machine.execMigResume p v s
  | .migrationStep => Sys2Proof.Machine.execMigrationStep s
  | .watermarkAdvance => Sys2Proof.Machine.execWatermarkAdvance s
  | .windowStart ch => Sys2Proof.Machine.execWindowStart ch s
  | .recomputeEnd => Sys2Proof.Machine.execRecomputeEnd s
  | .trEnable p v => Sys2Proof.Machine.execTrEnable p v s
  | .trDisable p v => Sys2Proof.Machine.execTrDisable p v s
  | .trArm p v => Sys2Proof.Machine.execTrArm p v s
  | .disarm p v => Sys2Proof.Machine.execDisarm p v s
  | .slotBoundary => Sys2Proof.Machine.execSlotBoundary s
  | .sample => Sys2Proof.Machine.execSample s
  | .rdS r => Sys2Proof.Machine.execRdS r s
  | .rdU r => Sys2Proof.Machine.execRdU r s
  | .upg r => Sys2Proof.Machine.execUpg r s
  | .rdNc r => Sys2Proof.Machine.execRdNc r s
  | .wrBack r => Sys2Proof.Machine.execWrBack r s
  | .evictClean r => Sys2Proof.Machine.execEvictClean r s
  | .wrFull r => Sys2Proof.Machine.execWrFull r s
  | .wrStash r => Sys2Proof.Machine.execWrStash r s
  | .atom r => Sys2Proof.Machine.execAtom r s
  | .clspAcqMsg r => Sys2Proof.Machine.execClspAcqMsg r s
  | .clspRelMsg r => Sys2Proof.Machine.execClspRelMsg r s
  | .agentReset r => Sys2Proof.Machine.execAgentReset r s
  | .agentResetWalkEnd => Sys2Proof.Machine.execAgentResetWalkEnd s
  | .cmpAck r => Sys2Proof.Machine.execCmpAck r s
  | .datFwd r => Sys2Proof.Machine.execDatFwd r s
  | .datWb r => Sys2Proof.Machine.execDatWb r s
  | .rspStash r => Sys2Proof.Machine.execRspStash r s
  | .snoopReturn ln bits => Sys2Proof.Machine.execSnoopReturn ln bits s
  | .snoopTimeout ln => Sys2Proof.Machine.execSnoopTimeout ln s
  | .holdEnd ln => Sys2Proof.Machine.execHoldEnd ln s
  | .predClr p v => Sys2Proof.Machine.execPredClr p v s
  | .attachReady rs => Sys2Proof.Machine.execAttachReady rs s
  | .ringRstN rs level => Sys2Proof.Machine.execRingRstN rs level s
  | .claspBreak p clasp v => Sys2Proof.Machine.execClaspBreak p clasp v s
  | .holdTo clasp => Sys2Proof.Machine.execHoldTo clasp s
  | .trim p plot => Sys2Proof.Machine.execTrim p plot s
  | .seed p plot => Sys2Proof.Machine.execSeed p plot s
  | .seedFillWrite => Sys2Proof.Machine.execSeedFillWrite s
  | .fpAdvance slot => Sys2Proof.Machine.execFpAdvance slot s
  | .scrubSlot => Sys2Proof.Machine.execScrubSlot s
  | .commit t => Sys2Proof.Machine.execCommit t s
  | .restore t => Sys2Proof.Machine.execRestore t s
  | .report t => Sys2Proof.Machine.execReport t s
  | .ready t => Sys2Proof.Machine.execReady t s
  | .readyWithdraw t => Sys2Proof.Machine.execReadyWithdraw t s
  | .spare t => Sys2Proof.Machine.execSpare t s
  | .spareCopyLine sc => Sys2Proof.Machine.execSpareCopyLine sc s
  | .knobClear t => Sys2Proof.Machine.execKnobClear t s
  | .cleared sc => Sys2Proof.Machine.execCleared sc s
  | .alert sc => Sys2Proof.Machine.execAlert sc s
  | .alertReplay sc => Sys2Proof.Machine.execAlertReplay sc s
  | .hostCalibration g code => Sys2Proof.Machine.execHostCalibration g code s
  | .sbGo p slot v => Sys2Proof.Machine.execSbGo p slot v s
  | .sidebandDone slot r => Sys2Proof.Machine.execSidebandDone slot r s
  | .ibi slot addr mdb => Sys2Proof.Machine.execIbi slot addr mdb s
  | .hold p g v => Sys2Proof.Machine.execHold p g v s
  | .release p g v => Sys2Proof.Machine.execRelease p g v s
  | .presentSample slot level => Sys2Proof.Machine.execPresentSample slot level s
  | .spRstNFall sp => Sys2Proof.Machine.execSpRstNFall sp s
  | .spRstNRise sp => Sys2Proof.Machine.execSpRstNRise sp s
  | .spReady sp => Sys2Proof.Machine.execSpReady sp s
  | .hscRead f => Sys2Proof.Machine.execHscRead f s
  | .hscWrite f => Sys2Proof.Machine.execHscWrite f s
  | .hscWake f => Sys2Proof.Machine.execHscWake f s
  | .evtOutPulse line => Sys2Proof.Machine.execEvtOutPulse line s
  | .keyLoadBeat kop slot beat data => Sys2Proof.Machine.execKeyLoadBeat kop slot beat data s
  | .keyErase slot => Sys2Proof.Machine.execKeyErase slot s
  | .elapsed v => Sys2Proof.Machine.execElapsed v s
  | .elapsedTimeout => Sys2Proof.Machine.execElapsedTimeout s
  | .tprio n v => Sys2Proof.Machine.execTprio n v s
  | .tsleep n level => Sys2Proof.Machine.execTsleep n level s
  | .relock p v => Sys2Proof.Machine.execRelock p v s
  | .pllLock => Sys2Proof.Machine.execPllLock s
  | .unlock => Sys2Proof.Machine.execUnlock s
  | .refclkLost => Sys2Proof.Machine.execRefclkLost s
  | .aonRstN => Sys2Proof.Machine.execAonRstN s
  | .blkRstN => Sys2Proof.Machine.execBlkRstN s
  | .blkRstNRelease lc => Sys2Proof.Machine.execBlkRstNRelease lc s
  | .initDone f => Sys2Proof.Machine.execInitDone f s
  | .bringupHold ln => Sys2Proof.Machine.execBringupHold ln s
  | .fltAck p b v => Sys2Proof.Machine.execFltAck p b v s
  | .fltForce p b v => Sys2Proof.Machine.execFltForce p b v s
  | .histClr p b v => Sys2Proof.Machine.execHistClr p b v s
  | .fltHistE0 p b => Sys2Proof.Machine.execFltHistE0 p b s
  | .quietPeriod b => Sys2Proof.Machine.execQuietPeriod b s
  | .aliveToggle => Sys2Proof.Machine.execAliveToggle s
  | .aliveKick p v => Sys2Proof.Machine.execAliveKick p v s
  | .watchdogExpiry => Sys2Proof.Machine.execWatchdogExpiry s
  | .pulseEnd => Sys2Proof.Machine.execPulseEnd s
  | .aliveMode p v => Sys2Proof.Machine.execAliveMode p v s
  | .pwrGo p v => Sys2Proof.Machine.execPwrGo p v s
  | .pcReq r => Sys2Proof.Machine.execPcReq r s
  | .pcReqWake => Sys2Proof.Machine.execPcReqWake s
  | .pcWake => Sys2Proof.Machine.execPcWake s
  | .entryStepEnd => Sys2Proof.Machine.execEntryStepEnd s
  | .pwrTmo unit index => Sys2Proof.Machine.execPwrTmo unit index s
  | .timerWake => Sys2Proof.Machine.execTimerWake s
  | .railOk rail => Sys2Proof.Machine.execRailOk rail s
  | .wakeStepEnd => Sys2Proof.Machine.execWakeStepEnd s
  | .dbgSet p v => Sys2Proof.Machine.execDbgSet p v s
  | .chal p v => Sys2Proof.Machine.execChal p v s
  | .submit p v => Sys2Proof.Machine.execSubmit p v s
  | .authGrant => Sys2Proof.Machine.execAuthGrant s
  | .authDeny => Sys2Proof.Machine.execAuthDeny s
  | .authTimeout => Sys2Proof.Machine.execAuthTimeout s
  | .dbgMctrlGo v => Sys2Proof.Machine.execDbgMctrlGo v s
  | .debugAccessDone => Sys2Proof.Machine.execDebugAccessDone s
  | .route => Sys2Proof.Machine.execRoute s
  | .take p n => Sys2Proof.Machine.execTake p n s
  | .ftake p n => Sys2Proof.Machine.execFtake p n s
  | .moderatorTimeout m => Sys2Proof.Machine.execModeratorTimeout m s
  | .dramWriteComplete sc k => Sys2Proof.Machine.execDramWriteComplete sc k s
  | .rdCrd sp => Sys2Proof.Machine.execRdCrd sp s
  | .refclkReturn => Sys2Proof.Machine.execRefclkReturn s
  | .vddAonRemoved => Sys2Proof.Machine.execVddAonRemoved s
  | .trimWalkEnd => Sys2Proof.Machine.execTrimWalkEnd s

end Sys2Proof.Machine
end

