-- ==== Sys2Proof/Machine/Tick.lean ====
section
/-! DEFINITION. What a cycle of the always-on clock does when no command waits (R502, R503; log entry 1). -/

namespace Sys2Proof.Machine

/-- One AON cycle: TBASE rises by 1 while REFCLK runs and VDD_AON is present (R502, R503, R530). -/
def State.tick (s : State) : State := if s.refclk && s.vddAon then { s with tbase := s.tbase + 1 } else s

end Sys2Proof.Machine
end

