-- ==== Sys2Proof/WellFormed.lean ====
section
/-! DEFINITION. Well-formed commands: their operands name parts that the configuration has (R1, R7). -/

namespace Sys2Proof

/-- Whether the configuration has the owner of two instruction banks (R7). -/
def BankRef.present (v : Variant) : BankRef → Bool
  | .cluster n => decide (n < v.clusters)
  | .seq n => decide (n < v.scs)
  | .svc n => decide (n < v.scs)

/-- Whether the configuration has a thread (R7). -/
def ThreadRef.present (v : Variant) (t : ThreadRef) : Bool :=
  match t.kind with
  | .stream => decide (t.unit < v.clusters ∧ t.idx < 48)
  | .seq => decide (t.unit < v.scs ∧ t.idx < 2)
  | .svc => decide (t.unit < v.scs ∧ t.idx < 2)

/-- Whether the configuration has a function (R1, R496). -/
def Func.present (v : Variant) : Func → Bool
  | .stop n => decide (n < v.stops)
  | .cluster n => decide (n < v.clusters)
  | .cfg => true
  | .home => true
  | .locket => true
  | .intc => true

/-- A context command comes from a context of the configuration or a port of it. -/
def CmdSrc.wf (v : Variant) : CmdSrc → Bool
  | .word _ ctx => decide (ctx < v.contexts)
  | .port n _ => decide (n < v.ports)

/-- An APPEND comes from a context of the configuration or a port of it. -/
def AppendSrc.wf (v : Variant) : AppendSrc → Bool
  | .word _ ctx _ => decide (ctx < v.contexts)
  | .port n _ => decide (n < v.ports)

/-- Well-formed commands of a configuration. -/
def Instr.wf (v : Variant) : Instr → Bool
  | .regWrite _ _ _ => true
  | .readClear _ _ => true
  | .lowWordRead _ _ => true
  | .lowWordWrite _ _ _ => true
  | .highWordWrite _ _ _ => true
  | .aliasWrite _ _ _ => true
  | .unitEnable _ u _ => u.present v
  | .unitDisable _ u _ => u.present v
  | .quiesced u => u.present v
  | .add t => t.present v
  | .sub t => t.present v
  | .mul t => t.present v
  | .and t => t.present v
  | .or t => t.present v
  | .xor t => t.present v
  | .shl t => t.present v
  | .shr t => t.present v
  | .sra t => t.present v
  | .min t => t.present v
  | .max t => t.present v
  | .cmp t => t.present v
  | .sel t => t.present v
  | .addImm t => t.present v
  | .andImm t => t.present v
  | .orImm t => t.present v
  | .xorImm t => t.present v
  | .shlImm t => t.present v
  | .shrImm t => t.present v
  | .sraImm t => t.present v
  | .li t => t.present v
  | .lui t => t.present v
  | .lds t => t.present v
  | .sts t => t.present v
  | .br t => t.present v
  | .brc t => t.present v
  | .call t => t.present v
  | .ret t => t.present v
  | .ldl t => t.present v
  | .stl t => t.present v
  | .pref t => t.present v
  | .blk2d t => t.present v
  | .gather t => t.present v
  | .scat t => t.present v
  | .pack t => t.present v
  | .unpk t => t.present v
  | .fenceL t => t.present v
  | .fenceP t => t.present v
  | .fenceG t => t.present v
  | .fenceRetire t => t.present v
  | .clspAcq t => t.present v
  | .clspAcqTry t => t.present v
  | .clspRel t => t.present v
  | .clspRelR t => t.present v
  | .waitev t => t.present v
  | .waitevTimeout t => t.present v
  | .evt t => t.present v
  | .nextd t => t.present v
  | .yieldCtx t => t.present v
  | .yieldRetire t => t.present v
  | .doneRun t => t.present v
  | .doneRetire t => t.present v
  | .trap t => t.present v
  | .hmchk t => t.present v
  | .graftpt t => t.present v
  | .dcmd t => t.present v
  | .mrw t => t.present v
  | .mrr t => t.present v
  | .twait t => t.present v
  | .twaitEnd t => t.present v
  | .trnSet t => t.present v
  | .trnSweep t => t.present v
  | .sweepStep sc samples => decide (sc < v.scs) && samples.all fun x => decide (x.1 < 60)
  | .trnEye t => t.present v
  | .maintenanceGrant sc _ => decide (sc < v.scs)
  | .lineDataArrival t _ => t.present v
  | .pipeJobDone cl _ => decide (cl < v.clusters)
  | .clrFault _ cl => decide (cl < v.clusters)
  | .engFclr _ b _ => b.present v
  | .instrStoreWrite _ cl bank idx _ => decide (cl < v.clusters) && decide (bank < 2) && decide (idx < 8192)
  | .progData _ b _ => b.present v
  | .loadArm _ b _ => b.present v
  | .loadCheckEnd b => b.present v
  | .graftGo _ b _ => b.present v
  | .abandon _ b _ => b.present v
  | .graftDone b => b.present v
  | .evfSet _ cl _ _ => decide (cl < v.clusters)
  | .enable _ ctx => decide (ctx < v.contexts)
  | .disable _ ctx => decide (ctx < v.contexts)
  | .kick src => src.wf v
  | .abort src => src.wf v
  | .clear src => src.wf v
  | .append src => src.wf v
  | .setHead sp _ => decide (sp < v.ports)
  | .dispatch cl t => decide (cl < v.clusters) && t.present v
  | .descriptorReadResponse ctx => decide (ctx < v.contexts)
  | .runReport ctx => decide (ctx < v.contexts)
  | .completionRecord ctx => decide (ctx < v.contexts)
  | .fastCommandPacket sp _ => decide (sp < v.ports)
  | .packetEnd ctx => decide (ctx < v.contexts)
  | .channelTimeout sc _ => decide (sc < v.scs)
  | .inval _ _ => true
  | .invalEnd => true
  | .cntClr _ _ => true
  | .read sp _ => decide (sp < v.ports)
  | .write sp _ => decide (sp < v.ports)
  | .writeDataBeat sp _ => decide (sp < v.ports)
  | .flush sp _ => decide (sp < v.ports)
  | .flushComplete sp _ => decide (sp < v.ports)
  | .portArbiterAdmit => true
  | .transactionEnd ln => decide (ln < 2 ^ 40)
  | .queueEntry ln => decide (ln < 2 ^ 40)
  | .arbiterGrant sc => decide (sc < v.scs)
  | .lineBoundary sc _ => decide (sc < v.scs)
  | .hog sc => decide (sc < v.scs)
  | .dramReadData sc _ _ => decide (sc < v.scs)
  | .pageIdle sc bank => decide (sc < v.scs) && decide (bank < 64)
  | .powerDownEntry sc rank => decide (sc < v.scs) && decide (rank < 2)
  | .refreshInterval sc rank => decide (sc < v.scs) && decide (rank < 2)
  | .idlePullIn sc rank => decide (sc < v.scs) && decide (rank < 2)
  | .migGo _ _ => true
  | .pause _ _ => true
  | .migResume _ _ => true
  | .migrationStep => true
  | .watermarkAdvance => true
  | .windowStart ch => decide (ch < 64)
  | .recomputeEnd => true
  | .trEnable _ _ => true
  | .trDisable _ _ => true
  | .trArm _ _ => true
  | .disarm _ _ => true
  | .slotBoundary => true
  | .sample => true
  | .rdS r => decide (r.stop < v.stops)
  | .rdU r => decide (r.stop < v.stops)
  | .upg r => decide (r.stop < v.stops)
  | .rdNc r => decide (r.stop < v.stops)
  | .wrBack r => decide (r.stop < v.stops)
  | .evictClean r => decide (r.stop < v.stops)
  | .wrFull r => decide (r.stop < v.stops)
  | .wrStash r => decide (r.stop < v.stops)
  | .atom r => decide (r.stop < v.stops)
  | .clspAcqMsg r => decide (r.stop < v.stops)
  | .clspRelMsg r => decide (r.stop < v.stops)
  | .agentReset r => decide (r.stop < v.stops)
  | .agentResetWalkEnd => true
  | .cmpAck r => decide (r.stop < v.stops)
  | .datFwd r => decide (r.stop < v.stops)
  | .datWb r => decide (r.stop < v.stops)
  | .rspStash r => decide (r.stop < v.stops)
  | .snoopReturn ln _ => decide (ln < 2 ^ 40)
  | .snoopTimeout ln => decide (ln < 2 ^ 40)
  | .holdEnd ln => decide (ln < 2 ^ 40)
  | .predClr _ _ => true
  | .attachReady rs => decide (rs < v.stops)
  | .ringRstN rs _ => decide (rs < v.stops)
  | .claspBreak _ clasp _ => decide (clasp < 256)
  | .holdTo clasp => decide (clasp < 256)
  | .trim _ _ => true
  | .seed _ _ => true
  | .seedFillWrite => true
  | .fpAdvance slot => decide (slot < 4)
  | .scrubSlot => true
  | .commit t => t.present v
  | .restore t => t.present v
  | .report t => t.present v
  | .ready t => t.present v
  | .readyWithdraw t => t.present v
  | .spare t => t.present v
  | .spareCopyLine sc => decide (sc < v.scs)
  | .knobClear t => t.present v
  | .cleared sc => decide (sc < v.scs)
  | .alert sc => decide (sc < v.scs)
  | .alertReplay sc => decide (sc < v.scs)
  | .hostCalibration g code => decide (g < v.scs) && code.all fun c => decide (c < 256)
  | .sbGo _ slot _ => decide (slot < v.slots)
  | .sidebandDone slot _ => decide (slot < v.slots)
  | .ibi slot _ _ => decide (slot < v.slots)
  | .hold _ g _ => decide (g < v.scs)
  | .release _ g _ => decide (g < v.scs)
  | .presentSample slot _ => decide (slot < v.slots)
  | .spRstNFall sp => decide (sp < v.ports)
  | .spRstNRise sp => decide (sp < v.ports)
  | .spReady sp => decide (sp < v.ports)
  | .hscRead _ => true
  | .hscWrite _ => true
  | .hscWake _ => true
  | .evtOutPulse line => decide (line < 64)
  | .keyLoadBeat _ _ _ _ => true
  | .keyErase _ => true
  | .elapsed _ => true
  | .elapsedTimeout => true
  | .tprio n _ => decide (n < 8)
  | .tsleep n _ => decide (n < 8)
  | .relock _ _ => true
  | .pllLock => true
  | .unlock => true
  | .refclkLost => true
  | .aonRstN => true
  | .blkRstN => true
  | .blkRstNRelease _ => true
  | .initDone f => f.present v
  | .bringupHold ln => decide (ln < 2 ^ 40)
  | .fltAck _ b _ => b.present v
  | .fltForce _ b _ => b.present v
  | .histClr _ b _ => b.present v
  | .fltHistE0 _ b => b.present v
  | .quietPeriod b => b.present v
  | .aliveToggle => true
  | .aliveKick _ _ => true
  | .watchdogExpiry => true
  | .pulseEnd => true
  | .aliveMode _ _ => true
  | .pwrGo _ _ => true
  | .pcReq _ => true
  | .pcReqWake => true
  | .pcWake => true
  | .entryStepEnd => true
  | .pwrTmo unit _ => decide (unit < 16)
  | .timerWake => true
  | .railOk _ => true
  | .wakeStepEnd => true
  | .dbgSet _ _ => true
  | .chal _ _ => true
  | .submit _ _ => true
  | .authGrant => true
  | .authDeny => true
  | .authTimeout => true
  | .dbgMctrlGo _ => true
  | .debugAccessDone => true
  | .route => true
  | .take _ n => decide (n < 8)
  | .ftake _ n => decide (n < 8)
  | .moderatorTimeout m => decide (m < 64)
  | .dramWriteComplete sc _ => decide (sc < v.scs)
  | .rdCrd sp => decide (sp < v.ports)
  | .refclkReturn => true
  | .vddAonRemoved => true
  | .trimWalkEnd => true

end Sys2Proof
end

