-- ==== Sys2Proof/Safety.lean ====
section
/-! DEFINITION. What statements about runs are said in: the invariant of the tables, completion of a command, and the
situations in which a command does its own work. -/

namespace Sys2Proof.Machine

/-- Every command that waits is well-formed. -/
def State.pendingWf (s : State) : Bool := s.pending.all fun i => i.wf s.variant

/-! ### Threads -/

/-- A thread stands at an instruction word and executes it (R70, R77): its engine runs, no channel timeout halts it. -/
abbrev State.Stands (s : State) (t : ThreadRef) (w : W32) : Prop :=
  s.thrRuns t = true ∧ (t.kind = .stream ∨ s.en (engUnit t) = true) ∧ s.fetch t = some w ∧ (s.thr t).tmoHalt = false

/-- No multi-line instruction of the thread has line reads left to issue. -/
abbrev State.Fed (s : State) (t : ThreadRef) : Prop := ∀ j ∈ s.jobs, j.t = t → j.want = []

/-- A thread waits and its engine works (R70). -/
abbrev State.Waits (s : State) (t : ThreadRef) (w : Wait) : Prop := s.thrWaits t = true ∧ (s.thr t).wait = w

/-- Every thread but one is as before. -/
def OtherThreads (t : ThreadRef) (s s' : State) : Prop := ∀ u, tkey u ≠ tkey t → s'.thr u = s.thr u

/-- The thread after an instruction that is done: its next instruction. -/
def Thread.next (th : Thread) : Thread := { th with pc := th.pc + 1, prog := 0 }

/-- An instruction is done: the thread is `th` at its next instruction, every other thread is as before and, where the
thread has no reads left to issue, nothing else is changed. -/
def DoneWith (c : Instr) (s : State) (t : ThreadRef) (th : Thread) : Prop :=
  ∃ s', exec c s = .next s' ∧ s'.thr t = th.next ∧ OtherThreads t s s' ∧ (s.Fed t → s' = { s with threads := s'.threads })

/-- A register instruction with an opcode writes a value into g[d], for every thread that stands at a word that `ok`
admits. -/
def WritesReg (c : ThreadRef → Instr) (op : Nat) (ok : W32 → Prop) (value : Thread → W32 → W64) : Prop :=
  ∀ (s : State) (t : ThreadRef) (w : W32), s.Canonical → s.Stands t w → opOf w = op → ok w →
    DoneWith (c t) s t ((s.thr t).setG (fD w) (value (s.thr t) w))

/-- A branch with an opcode goes to a target within the image, leaving the registers as `regs` says. -/
def GoesTo (c : ThreadRef → Instr) (op : Nat) (ok : Thread → W32 → Prop) (target : Thread → W32 → Int)
    (regs : Thread → Thread) : Prop :=
  ∀ (s : State) (t : ThreadRef) (w : W32), s.Canonical → s.Stands t w → opOf w = op → ok (s.thr t) w →
    0 ≤ target (s.thr t) w → target (s.thr t) w < (s.imageLen t : Int) →
    ∃ s', exec (c t) s = .next s' ∧ s'.thr t = { regs (s.thr t) with pc := (target (s.thr t) w).toNat, prog := 0 } ∧
      OtherThreads t s s' ∧ (s.Fed t → s' = { s with threads := s'.threads })

/-- An instruction is done and changes only its thread, which is `th` at its next instruction. -/
def OnlyThread (c : Instr) (s : State) (t : ThreadRef) (th : Thread) : Prop :=
  ∃ s', exec c s = .next s' ∧ s'.thr t = th.next ∧ OtherThreads t s s' ∧ s' = { s with threads := s'.threads }

/-- The thread in WAIT, at the instruction it waits in. -/
def Thread.waiting (th : Thread) (w : Wait) : Thread := { th with st := .wait, wait := w }

/-- The thread in RUN again, past the instruction it waited in. -/
def Thread.resumed (th : Thread) : Thread := { th.next with st := .run, wait := .none }

/-- The local address of LDS and STS: g[a] + imm sign-extended (R92). -/
def localAddr (th : Thread) (w : W32) : Nat := (th.getG (fA w) + immS w).toNat

/-- What a request before the port arbiter asks: its source, kind, line, destination, data and poison mark. -/
def Req.asks (r : Req) : Src × ReqKind × Nat × Dest × Line × Bool := (r.src, r.kind, r.line, r.dest, r.data, r.poison)

/-- A multi-line instruction issues its line operations `req 0`, `req 1`, … in order, as far as there is room, and is done
once all `cnt` are issued; with room for all it is done at once. `buf` is what the issue of a line operation does to its
line buffer. -/
def IssuesLines (c : Instr) (s : State) (t : ThreadRef) (cnt : Nat) (req : Nat → Src × ReqKind × Nat × Dest × Line × Bool)
    (buf : Thread → Nat → Thread) : Prop :=
  ∃ s' n, exec c s = .next s' ∧ n ≤ cnt ∧ s'.pool.map Req.asks = s.pool.map Req.asks ++ (List.range n).map req ∧
    s'.thr t = (let th := (List.range n).foldl buf (s.thr t)
                if n = cnt then th.next else { th with prog := n }) ∧
    (n < cnt → ∃ r, Req.asks r = req n ∧ s'.opRoom t r = false) ∧
    ((t.kind = .stream → s.outstanding t + cnt ≤ 32) → s.pool.length + cnt ≤ 512 →
      (∀ i, i < cnt → ∀ r, Req.asks r = req i → s.queueRoom r = true ∧ s.trkRoom r = true) → n = cnt) ∧
    OtherThreads t s s' ∧ s'.scratch = s.scratch ∧ s'.evf = s.evf ∧ s'.clasps = s.clasps ∧ s'.jobs = s.jobs

/-! ### Accesses -/

/-- A port can make an access of an address now: the clocks run, the port has initialised, nothing waits before the access,
and the debug port has the level FULL (R35, R498, R561). -/
abbrev State.PortOpen (s : State) (p : Port) (addr : Nat) : Prop :=
  s.running = true ∧ s.inited.contains .cfg = true ∧ (siteOf s.variant addr).all (fun x => !s.siteWaits true x) = true ∧
    (p = .cfg → s.cfgBusy = .none ∧ s.cfgQueue = []) ∧ (p = .dbg → s.dbgLevel = 2 ∧ s.dbgQueue = [])

/-- A write leaves the state `s1` and is answered. -/
def WriteDoes (c : Instr) (p : Port) (s s1 : State) : Prop := exec c s = .next (s1.emit (.portRsp p 0 false))

/-- A write is answered and changes register words alone, and of those the ones listed. -/
def WritesOnly (c : Instr) (p : Port) (s : State) (offs : List Nat) (post : State → Prop) : Prop :=
  ∃ s', exec c s = .next s' ∧ post s' ∧ (∀ a, a ∉ offs → s'.reg a = s.reg a) ∧
    s' = { s with regs := s'.regs, out := .portRsp p 0 false :: s.out }

/-- A stream port takes and answers requests now: it is present, up and ready, and no sleep is entered or left. -/
abbrev State.PortTakes (s : State) (n : Nat) : Prop :=
  n < s.variant.ports ∧ s.spUp n = true ∧ (s.sp n).ready = true ∧ s.portsStopped = false ∧ s.pwr = .stable ∧ s.pstate = 0

/-- The unit of a window does nothing when a register at the offset is written: its fields are stored by their class, and
that is all (R38). -/
def storesOnly (w : Win) (o : Nat) : Bool :=
  match w with
  | .glob => o != 0x20 && o != 0x24
  | .power => o != 0 && o != 0xE00 && o != 0xE08
  | .sec => o == 4 || o == 0x58 || o == 0x5C
  | .charm => o == 0x48 || o == 0x4C
  | .trellis _ => true
  | .home => decide (0xC00 ≤ o ∧ o < 0xC80)
  | .locket => o != 0 && o != 0xC
  | .port _ => o != 0
  | .chan _ => decide (0x100 ≤ o)
  | .phy => decide (0x4000 ≤ o) && o != 0x4204
  | .ctx _ => o != 0 && o != 0x1C
  | .frame _ => true
  | _ => false

/-- The LV and ST fields of a register take a write of a port now (R44, R53, R289, R569). -/
abbrev State.TakesFields (s : State) (p : Port) (w : Win) (o off : Nat) : Prop :=
  ∀ f ∈ regFlds s.variant w o, (f.cls = .lv → ∀ n, s.lvHold p w o off f.lo n = .open) ∧ (f.cls = .st → s.stOpen w = true)

/-- What a word write makes of a field, by its class (R38). -/
def Stores (s s' : State) (w : Win) (o off : Nat) (v : W32) (f : Fld) : Prop :=
  let old := s.fld off f.hi f.lo
  let n := bitsOf v f.hi f.lo
  s'.fld off f.hi f.lo = (match f.cls with
    | .lv => n
    | .st => stValue w o n
    | .w1c => old - Nat.land old n
    | .lk => Nat.lor old n
    | _ => old)

/-- What a write of a bit alias makes of the bit, by the class of its field (R57). -/
def aliasBit (c : Cls) (old one : Bool) : Bool :=
  match c with
  | .lv => one
  | .w1c => old && one
  | .rc => old && one
  | .lk => old || one
  | _ => old

/-! ### Shapes of statements -/

/-- A command answers a next state that `post` describes. -/
def Does (c : Instr) (s : State) (post : State → Prop) : Prop := ∃ s', exec c s = .next s' ∧ post s'

/-- An event of a source is recorded and nothing else happens: its severity is below that of every containment (R513). -/
abbrev State.Mild (s : State) (b : FaultRef) (src : Nat) : Prop := s.effSev b src < 2

/-- The event of a source is recorded in its fault block, and no register word outside the block is changed but those
listed. -/
def Noted (s s' : State) (b : FaultRef) (src : Nat) (offs : List Nat) : Prop :=
  s'.flag (faultBase b) src = true ∧
    ∀ a, a < faultBase b ∨ faultBase b + 0x24 ≤ a → a ∉ offs → s'.reg a = s.reg a

/-- Every channel unit but one is as before. -/
def OtherChans (sc : Nat) (s s' : State) : Prop := ∀ n, n ≠ sc → s'.chan n = s.chan n

/-- A command on the pins of a sub-channel, with the levels of DPAR that go with it (R435). -/
abbrev sent (sc : Nat) (m : DramCmd) : Out := .dram sc m m.dpar

/-- A state whose channel unit has driven commands: what it sent, and its group no longer at the levels of Latch (R447). -/
abbrev State.driven (s s' : State) (sc : Nat) : State :=
  { s with chans := s'.chans, out := s'.out, padQuiet := terase s.padQuiet sc }

/-- A maintenance request of a sequencer thread joins its channel unit's queue, and the thread waits (R246). -/
def AsksMaint (c : Instr) (s : State) (t : ThreadRef) (m : MaintCmd) : Prop :=
  Does c s fun s' => s'.thr t = (s.thr t).waiting .maint ∧ OtherThreads t s s' ∧
    s'.chan t.unit = { s.chan t.unit with maint := (s.chan t.unit).maint ++ [{ t := t, cmd := m, granted := false }] } ∧
    OtherChans t.unit s s' ∧ s' = { s with threads := s'.threads, chans := s'.chans }

/-- The channel unit of a sub-channel may act on the maintenance requester's grant (R246, R436). -/
abbrev State.MaintHas (s : State) (sc : Nat) : Prop :=
  s.mayIssue sc = true ∧ (s.chan sc).run.map Run.rq = some 3

/-- A flit reaches an attached stop that it is addressed to, and is well-formed (R299, R304, R472). -/
abbrev State.Receives (s : State) (r : RingIn) (code : Nat) : Prop :=
  let h := Hdr.ofWord r.flit.hdr
  (s.rs r.stop).inReset = false ∧ s.attached r.stop = true ∧ h.dst = s.nodeId r.stop ∧ h.malformed = false ∧
    h.type = code ∧ s.pwr = .stable ∧ s.pstate = 0

/-- Nothing waits for credits: no request that a port or an attach slice holds, no scrub write-back, no debug access (R14). -/
abbrev State.NoneHeld (s : State) : Prop :=
  (∀ n, (s.sp n).held = []) ∧ (∀ n, (s.rs n).slice = []) ∧ s.scrubWb = none ∧ s.dbgAcc = none

/-- The home has no request that waits, none that waits for a filter way, and no transaction of a line. -/
abbrev State.HomeClear (s : State) : Prop := s.homeQ = [] ∧ ∀ k ∈ s.trks, k.stage ≠ .way

end Sys2Proof.Machine
end

