-- ==== Sys2Proof/Certificates/Slice0/Obligations.lean ====
section
/-! DEFINITION. The statements for the provers. Each docstring names the rules of spec/ it states, or the log entry of the
model's choice it rests on. -/

open Sys2Proof Sys2Proof.Machine

/-- For every command and state, a step with the command at the front of the queue is exec of the command with the rest of
the queue left in place (that commands wait in one queue is the model's choice, log entry 1). -/
def Obligations.StepRunsFrontCommand : Prop :=
  ∀ (c : Instr) (rest : List Instr) (s : State),
    step { s with pending := c :: rest } = exec c { s with pending := rest }

/-- R502, R503: A step on an empty queue raises TBASE by 1 while REFCLK runs, keeps it while REFCLK is absent, and changes
nothing else (that the step is this cycle is the model's choice, log entry 1). -/
def Obligations.EmptyQueueTicks : Prop :=
  ∀ s : State, s.pending = [] →
    step s = .next { s with tbase := if s.refclk && s.vddAon then s.tbase + 1 else s.tbase }

/-- R69, R71, R158, R351, R493, R496, R502: Right after reset, in every configuration, the tables are canonical, no
command waits, no clock runs and no function has initialised; TBASE is 0, every unit is disabled, every thread is
IDLE, every context DISABLED, every Clasp FREE, the snoop filter, the Locket, the pool, the trackers and the keys are
empty and no event flag is set; State.reset is that of the OVM-2440 (which configuration, which lifecycle, and values
that the spec does not give are the model's choice, log entries 2 and 3). -/
def Obligations.ResetState : Prop :=
  State.reset = State.resetOf .ovm2440 ∧ ∀ v : Variant,
    let s := State.resetOf v
    s.Canonical ∧ s.variant = v ∧ s.pending = [] ∧ s.running = false ∧ s.inited = [] ∧ s.tbase = 0 ∧
      (∀ a, s.reg a = if a = 0x2000 then 0x20000000#32 else resetWord v a) ∧ (∀ u ∈ allUnits v, s.en u = false) ∧
      (∀ t, s.thr t = Thread.init) ∧ Thread.init.st = .idle ∧ (∀ n < v.contexts, s.ctxState n = 0) ∧
      (∀ n, s.clasp n = Clasp.init) ∧ Clasp.init.st = .free ∧ (∀ l, s.sf l = none ∧ s.lkFind l = none ∧ s.trk l = none) ∧
      (∀ n, s.chan n = Chan.init ∧ s.sp n = SPort.init ∧ s.ctx n = Ctx.init) ∧ s.pool = [] ∧ s.homeQ = [] ∧ s.keys = [] ∧
      s.evf = 0 ∧ s.out = []

/-- R12, R43, R69, R158, R322, R351, R396: From every state whose tables are in canonical form, a step that answers a next
state leaves them in canonical form: registers, threads and their general registers, contexts, channel units with
their banks and ranks, ports, stops, Clasps, filter, plots, shadows, knobs and the saved knobs, and the levels of the
pads and of DRST_n. Equal contents are then equal data. The form is the model's own way to hold the state. -/
def Obligations.StepKeepsCanonical : Prop :=
  ∀ s s' : State, s.Canonical → step s = .next s' → s'.Canonical

/-- R69: g0 reads as zero and a write to it changes nothing; a write to another register is read back and changes no other
register, and the register table stays canonical. -/
def Obligations.GeneralRegisters : Prop :=
  ∀ (th : Thread) (d a : Nat) (v : W64), Tab.wf (fun _ => (0 : W64)) th.g = true →
    th.getG 0 = 0 ∧ th.setG 0 v = th ∧ (d ≠ 0 → (th.setG d v).getG d = v) ∧ (a ≠ d → (th.setG d v).getG a = th.getG a) ∧
      Tab.wf (fun _ => (0 : W64)) (th.setG d v).g = true

/-- R86: ADD, SUB, MUL, AND, OR, XOR, SHL, SHR, SRA, MIN, MAX and SEL with an fn that they define write their result into
g[d], and CMP writes 1 where the relation that fn selects holds and 0 where it does not; the thread goes on at the
next instruction and nothing else is changed. -/
def Obligations.RegisterInstructions : Prop :=
  (
    let x := fun (th : Thread) (w : W32) => th.getG (fA w)
    let y := fun (th : Thread) (w : W32) => th.getG (fB w)
    let n := fun (th : Thread) (w : W32) => (y th w).toNat % 64
    let f0 := fun (w : W32) => fFn w = 0
    WritesReg .add 0x00 f0 (fun th w => x th w + y th w) ∧ WritesReg .sub 0x01 f0 (fun th w => x th w - y th w) ∧
      WritesReg .mul 0x02 f0 (fun th w => BitVec.ofNat 64 ((x th w).toNat * (y th w).toNat)) ∧
      WritesReg .and 0x03 f0 (fun th w => x th w &&& y th w) ∧ WritesReg .or 0x04 f0 (fun th w => x th w ||| y th w) ∧
      WritesReg .xor 0x05 f0 (fun th w => x th w ^^^ y th w) ∧
      WritesReg .shl 0x06 f0 (fun th w => BitVec.ofNat 64 ((x th w).toNat * 2 ^ n th w)) ∧
      WritesReg .shr 0x07 f0 (fun th w => BitVec.ofNat 64 ((x th w).toNat / 2 ^ n th w)) ∧
      WritesReg .sra 0x08 f0 (fun th w => BitVec.ofInt 64 ((x th w).toInt / 2 ^ n th w)) ∧
      WritesReg .min 0x09 f0 (fun th w => BitVec.ofInt 64 (min (x th w).toInt (y th w).toInt)) ∧
      WritesReg .min 0x09 (fun w => fFn w = 1) (fun th w => BitVec.ofNat 64 (min (x th w).toNat (y th w).toNat)) ∧
      WritesReg .max 0x0A f0 (fun th w => BitVec.ofInt 64 (max (x th w).toInt (y th w).toInt)) ∧
      WritesReg .max 0x0A (fun w => fFn w = 1) (fun th w => BitVec.ofNat 64 (max (x th w).toNat (y th w).toNat)) ∧
      WritesReg .sel 0x0C (fun w => fFn w < 32) (fun th w => if th.getG (fFn w) ≠ 0 then x th w else y th w)) ∧
  (
    let rel := fun (k : Nat) (p : W64 → W64 → Bool) =>
      WritesReg .cmp 0x0B (fun w => fFn w = k) (fun th w => if p (th.getG (fA w)) (th.getG (fB w)) then 1 else 0)
    rel 0 (fun x y => decide (x = y)) ∧ rel 1 (fun x y => decide (x ≠ y)) ∧
      rel 2 (fun x y => decide (x.toInt < y.toInt)) ∧ rel 3 (fun x y => decide (y.toInt ≤ x.toInt)) ∧
      rel 4 (fun x y => decide (x.toNat < y.toNat)) ∧ rel 5 (fun x y => decide (y.toNat ≤ x.toNat)))

/-- R87, R88: ADDI, ANDI, ORI, XORI, SHLI, SHRI and SRAI with a shift below 64, LI with a zero a field, and LUI write
their result into g[d]; the thread goes on at the next instruction and nothing else is changed. -/
def Obligations.ImmediateInstructions : Prop :=
  let x := fun (th : Thread) (w : W32) => th.getG (fA w)
  let sgn := fun (w : W32) => BitVec.ofInt 64 (BitVec.ofNat 16 (fImm w)).toInt
  let any := fun (_ : W32) => True
  let six := fun (w : W32) => fImm w < 64
  WritesReg .addImm 0x10 any (fun th w => x th w + sgn w) ∧
    WritesReg .andImm 0x13 any (fun th w => x th w &&& BitVec.ofNat 64 (fImm w)) ∧
    WritesReg .orImm 0x14 any (fun th w => x th w ||| BitVec.ofNat 64 (fImm w)) ∧
    WritesReg .xorImm 0x15 any (fun th w => x th w ^^^ BitVec.ofNat 64 (fImm w)) ∧
    WritesReg .shlImm 0x16 six (fun th w => BitVec.ofNat 64 ((x th w).toNat * 2 ^ fImm w)) ∧
    WritesReg .shrImm 0x17 six (fun th w => BitVec.ofNat 64 ((x th w).toNat / 2 ^ fImm w)) ∧
    WritesReg .sraImm 0x18 six (fun th w => BitVec.ofInt 64 ((x th w).toInt / 2 ^ fImm w)) ∧
    WritesReg .li 0x19 (fun w => fA w = 0) (fun _ w => sgn w) ∧
    WritesReg .lui 0x1A any (fun th w => (x th w <<< 16) ||| BitVec.ofNat 64 (fImm w))

/-- R90: BRC goes to PC + off, where that lies within the image, if g[a] meets its condition, and otherwise on at PC + 1.
BR, CALL and RET go to their target within the image, and CALL leaves PC + 1 in g31 (R89). Nothing else is changed. -/
def Obligations.Branches : Prop :=
  let off := fun (th : Thread) (w : W32) => (th.pc : Int) + bOff w
  let none := fun (_ : Thread) (w : W32) => bCond w = 0 ∧ bA w = 0
  let cond := fun (k : Nat) (p : W64 → Bool) =>
    GoesTo .brc 0x21 (fun th w => bCond w = k ∧ p (th.getG (bA w)) = true) off id ∧
      ∀ (s : State) (t : ThreadRef) (w : W32), s.Canonical → s.Stands t w → opOf w = 0x21 → bCond w = k →
        p ((s.thr t).getG (bA w)) = false → DoneWith (.brc t) s t (s.thr t)
  GoesTo .br 0x20 none off id ∧ GoesTo .call 0x22 none off (fun th => th.setG 31 (BitVec.ofNat 64 (th.pc + 1))) ∧
    GoesTo .ret 0x23 (fun _ w => fD w = 0 ∧ fB w = 0 ∧ fFn w = 0) (fun th w => ((th.getG (fA w)).toNat : Int)) id ∧
    cond 0 (fun x => decide (x = 0)) ∧ cond 1 (fun x => decide (x ≠ 0)) ∧ cond 2 (fun x => decide (x.toInt < 0)) ∧
    cond 3 (fun x => decide (0 ≤ x.toInt)) ∧ cond 4 (fun x => decide (0 < x.toInt)) ∧
    cond 5 (fun x => decide (x.toInt ≤ 0)) ∧ cond 6 (fun x => bitOf x 0) ∧ cond 7 (fun x => !bitOf x 0)

/-- R74, R75, R92, R93: LDS of an aligned address reads a scratch word, a mailbox pair, a word of a line buffer that holds
its line without error or poison, or a word of the descriptor buffer into g[d]. STS of an aligned address stores g[d]
there and nowhere else; in a line buffer it leaves the poison mark and marks the carried Hallmark invalid. -/
def Obligations.LocalSpace : Prop :=
  (
    ∀ (s : State) (t : ThreadRef) (w : W32), s.Canonical → s.Stands t w → s.Fed t → opOf w = 0x1C →
      localAddr (s.thr t) w % 8 = 0 →
      let gives := fun (v : W64) => OnlyThread (.lds t) s t ((s.thr t).setG (fD w) v)
      let l := localAt t.kind (localAddr (s.thr t) w)
      (∀ i, l = .scratch i → gives (s.scratchAt t i)) ∧
        (∀ k, l = .mbox k → gives (BitVec.ofNat 64 (s.reg2 (mboxReg t k)))) ∧
        (∀ k j, l = .buf k j → ((s.thr t).buf k).pending = false → ((s.thr t).buf k).err = 0 →
          ((s.thr t).buf k).poison = false → gives (lineWord ((s.thr t).buf k).data j)) ∧
        (∀ j, l = .desc j → gives (lineWord (s.thr t).desc j))) ∧
  (
    ∀ (s : State) (t : ThreadRef) (w : W32), s.Canonical → s.Stands t w → s.Fed t → opOf w = 0x1D →
      localAddr (s.thr t) w % 8 = 0 →
      let v := (s.thr t).getG (fD w)
      let l := localAt t.kind (localAddr (s.thr t) w)
      (∀ i, l = .scratch i → ∃ s', exec (.sts t) s = .next s' ∧ s'.scratchAt t i = v ∧
        (∀ k, k ≠ scratchKey t i → tfind s'.scratch k = tfind s.scratch k) ∧ s'.thr t = (s.thr t).next ∧
        OtherThreads t s s' ∧ s' = { s with threads := s'.threads, scratch := s'.scratch }) ∧
      (∀ k, l = .mbox k → ∃ s', exec (.sts t) s = .next s' ∧ s'.reg2 (mboxReg t k) = v.toNat ∧
        (∀ a, a ≠ mboxReg t k → a ≠ mboxReg t k + 4 → s'.reg a = s.reg a) ∧ s'.thr t = (s.thr t).next ∧
        OtherThreads t s s' ∧ s' = { s with threads := s'.threads, regs := s'.regs }) ∧
      (∀ k j, l = .buf k j → ((s.thr t).buf k).touch true = .ok →
        OnlyThread (.sts t) s t ((s.thr t).setBuf k
          { (s.thr t).buf k with data := setLineWord ((s.thr t).buf k).data j v, hmValid := false })) ∧
      (∀ j, l = .desc j → OnlyThread (.sts t) s t { s.thr t with desc := setLineWord (s.thr t).desc j v }))

/-- R95, R96, R97, R98, R99: LDL, STL and PREF that pass their checks issue one line operation for each of cnt consecutive
lines, in order and as far as there is room, all of them where there is room for all. LDL marks each line buffer
pending; STL sends the bytes of its line buffers, poisoned where they are; PREF returns nothing to the thread. -/
def Obligations.LineTransfers : Prop :=
  ∀ (s : State) (t : ThreadRef) (w : W32), s.Canonical → s.Stands t w → s.Fed t → (s.thr t).prog = 0 → t.kind ≠ .seq →
    let th := s.thr t
    let base := (th.getG (mA w)).toNat
    base % 64 = 0 → base + 64 * mCnt w ≤ 2 ^ 46 →
    (opOf w = 0x24 → mMode w < 64 → mMode w % 4 ≠ 3 → mCnt w ≤ 16 → mLb w + mCnt w ≤ bufCount t.kind →
      (∀ k < mCnt w, (th.buf (mLb w + k)).touch true = .ok) →
      IssuesLines (.ldl t) s t (mCnt w)
        (fun k => (.thread t, .rd, base / 64 + k, .buf t (mLb w + k), 0, false))
        (fun th k => th.setBuf (mLb w + k) { th.buf (mLb w + k) with pending := true, err := 0 })) ∧
    (opOf w = 0x25 → mMode w < 64 → mMode w % 4 ≠ 3 → mCnt w ≤ 16 → mLb w + mCnt w ≤ bufCount t.kind →
      (∀ k < mCnt w, (th.buf (mLb w + k)).touch false = .ok ∧
        ((th.buf (mLb w + k)).hmValid = true → hallmark (th.buf (mLb w + k)).data = (th.buf (mLb w + k)).hm)) →
      IssuesLines (.stl t) s t (mCnt w)
        (fun k => (.thread t, .wr, base / 64 + k, .none, (th.buf (mLb w + k)).data, (th.buf (mLb w + k)).poison))
        (fun th _ => th)) ∧
    (opOf w = 0x26 → mLb w = 0 → mMode w = 0 →
      IssuesLines (.pref t) s t (mCnt w) (fun k => (.thread t, .pref, base / 64 + k, .none, 0, false)) (fun th _ => th))

/-- R106, R107, R108: GATHER that passes its checks marks the buffers that its elements take pending and starts the reads
of the addresses that the index list names; SCAT issues one merge of an element for each index, poisoned where its
buffer is. -/
def Obligations.GatherScatter : Prop :=
  ∀ (s : State) (t : ThreadRef) (w : W32) (idx : List W64), s.Canonical → s.Stands t w → s.Fed t → (s.thr t).prog = 0 →
    t.kind = .stream → mMode w % 8 ≠ 7 → mA w ≠ 31 → mCnt w * 2 ^ (mMode w % 8) ≤ (16 - mLb w) * 64 →
    let th := s.thr t
    let size := 2 ^ (mMode w % 8)
    let width := if mMode w / 8 % 2 = 0 then 2 else 4
    let base := th.getG (mA w)
    let list := (th.getG (mA w + 1)).toNat
    let addrs := idx.map fun v => (base + v * BitVec.ofNat 64 size).toNat
    let n := (mCnt w * size + 63) / 64
    base.toNat % size = 0 → list % width = 0 → s.indices t th list width (mCnt w) = idx.map LRes.ok →
    (opOf w = 0x29 → mMode w < 16 → (∀ k < n, (th.buf (mLb w + k)).touch true = .ok) →
      ∃ s', exec (.gather t) s = .next s' ∧ s'.thr t = (th.pendBufs (mLb w) n).next ∧ OtherThreads t s s' ∧
        (∃ j ∈ s'.jobs, j.t = t ∧ j.kind = .gather size addrs ∧ j.lb = mLb w) ∧ s'.scratch = s.scratch ∧
        s'.clasps = s.clasps) ∧
    (opOf w = 0x2A → mMode w < 256 → size < 64 →
      (∀ k < n, (th.buf (mLb w + k)).touch false = .ok ∧ (th.buf (mLb w + k)).hmValid = false) →
      IssuesLines (.scat t) s t (mCnt w)
        (fun k =>
          let a := addrs.getD k 0
          let b := th.buf (mLb w + k * size / 64)
          (.thread t, .merge (a % 64) size, a / 64, .none,
            setLineField 0 (a % 64) size (lineField b.data (k * size % 64) size), b.poison))
        (fun th _ => th))

/-- R123, R124, R142: HMCHK of buffers that are not poisoned and whose Hallmarks match changes nothing but the PC. GRAFTPT
of a stream thread, or of a thread that does not run an outgoing image, changes nothing but the PC; a service thread
of an outgoing image switches to the active one, past its first instruction. -/
def Obligations.HallmarkAndGraftPoints : Prop :=
  (
    ∀ (s : State) (t : ThreadRef) (w : W32), s.Canonical → s.Stands t w → s.Fed t → t.kind ≠ .seq → opOf w = 0x38 →
      let th := s.thr t
      mLb w + mCnt w ≤ bufCount t.kind → (∀ k < mCnt w, (th.buf (mLb w + k)).touch false = .ok) →
      (mMode w = 0 → mA w = 0 → (∀ k < mCnt w, (th.buf (mLb w + k)).poison = false ∧ (th.buf (mLb w + k)).hmValid = true ∧
          hallmark (th.buf (mLb w + k)).data = (th.buf (mLb w + k)).hm) → OnlyThread (.hmchk t) s t th) ∧
      (mMode w = 1 → mCnt w = 1 → (th.buf (mLb w)).poison = false →
        (hallmark (th.buf (mLb w)).data).toNat = (th.getG (mA w)).toNat % 2 ^ 32 → OnlyThread (.hmchk t) s t th)) ∧
  (
    ∀ (s : State) (t : ThreadRef) (w : W32), s.Canonical → s.Stands t w → s.Fed t → opOf w = 0x39 → fD w = 0 → fA w = 0 →
      fB w = 0 → fFn w = 0 →
      (t.kind = .stream ∨ s.bankSt (bankOf t) (s.thr t).bank ≠ 3 → OnlyThread (.graftpt t) s t (s.thr t)) ∧
      (∀ i, t.kind = .svc → s.bankSt (bankOf t) (s.thr t).bank = 3 → s.bankIn (bankOf t) 2 = some i →
        ∃ s', exec (.graftpt t) s = .next s' ∧ s'.thr t = { s.thr t with bank := i, pc := 1, prog := 0 } ∧
          OtherThreads t s s' ∧ s' = { s with threads := s'.threads }))

/-- R85, R86, R122, R132: A sequencer or service thread that holds no Clasp is FAULTED after a TRAP, with cause TRAP and
imm as the trap code and its source recorded, and after an ADD whose fn is not 0, with cause ILLEGAL_OP, while the
severity of its engine source is below that which takes the engine offline. Its registers keep their values. -/
def Obligations.ThreadFaults : Prop :=
  ∀ (s : State) (t : ThreadRef) (w : W32), s.Canonical → s.Stands t w → s.Fed t → t.kind ≠ .stream →
    (s.thr t).ctx = none → (s.thr t).wait = .none → (∀ e ∈ s.clasps, e.2.owner ≠ ownerOf t) → s.claspFull = [] →
    s.effSev (.chan t.unit) (if t.kind = .seq then 9 else 10) < 2 →
    (opOf w = 0x37 → fD w = 0 → fA w = 0 → ∃ s', exec (.trap t) s = .next s' ∧ (s'.thr t).st = .faulted ∧
      (s'.thr t).fault = 0x0E ∧ (s'.thr t).trap = fImm w ∧ (s'.thr t).g = (s.thr t).g ∧
      s'.flag (faultBase (.chan t.unit)) (if t.kind = .seq then 9 else 10) = true) ∧
    (opOf w = 0x00 → fFn w ≠ 0 → ∃ s', exec (.add t) s = .next s' ∧ (s'.thr t).st = .faulted ∧
      (s'.thr t).fault = 0x01 ∧ (s'.thr t).g = (s.thr t).g)

/-- R346, R348: A FENCE.L, FENCE.P or FENCE.G whose condition holds retires at once; otherwise the thread waits for it,
and FENCE_RETIRE ends the wait once the condition holds. Nothing else is changed. -/
def Obligations.Fences : Prop :=
  (∀ (s : State) (t : ThreadRef) (w : W32), s.Canonical → s.Stands t w → s.Fed t → opOf w = 0x30 → fD w = 0 → fA w = 0 →
    fB w = 0 →
    let does := fun (c : Instr) (scope : Nat) => fFn w = scope →
      (s.fenceHolds t scope = true → OnlyThread c s t (s.thr t)) ∧
      (s.fenceHolds t scope = false → ∃ s', exec c s = .next s' ∧ s'.thr t = (s.thr t).waiting (.fence scope) ∧
        OtherThreads t s s' ∧ s' = { s with threads := s'.threads })
    does (.fenceL t) 0 ∧ does (.fenceP t) 1 ∧ does (.fenceG t) 2) ∧
  (∀ (s : State) (t : ThreadRef) (scope : Nat), s.Canonical → s.Waits t (.fence scope) → s.Fed t →
    s.fenceHolds t scope = true → OnlyThread (.fenceRetire t) s t { s.thr t with st := .run, wait := .none })

/-- R114, R351, R356: An acquire of a Clasp that is not HELD takes it for its thread, with the result 0 from FREE and 1
from BROKEN; CLSP_ACQ_TRY of a HELD Clasp gives 2 and changes nothing else. A release whose FENCE.G holds, and for
which no acquire waits, leaves the Clasp FREE, or by CLSP.REL with a repair due BROKEN. Every other Clasp is
unchanged. -/
def Obligations.ClaspInstructions : Prop :=
  (
    ∀ (s : State) (t : ThreadRef) (w : W32), s.Canonical → s.Stands t w → s.Fed t → opOf w = 0x31 → fB w = 0 →
      threadPresent s.variant t = true →
      let n := ((s.thr t).getG (fA w)).toNat
      let broken := decide ((s.clasp n).st = .broken)
      let takes := fun (c : Instr) => ∃ s', exec c s = .next s' ∧
        s'.clasp n = { st := .held, owner := ownerOf t, repair := broken, limit := s.holdTo n, since := s.tbase } ∧
        (∀ m, m ≠ n → s'.clasp m = s.clasp m) ∧
        s'.thr t = { ((s.thr t).setG (fD w) (if broken then 1 else 0)) with st := .run, wait := .none, pc := (s.thr t).pc + 1 } ∧
        OtherThreads t s s' ∧ s' = { s with threads := s'.threads, clasps := s'.clasps }
      n < 256 →
      (fFn w = 0 → (s.clasp n).st ≠ .held → takes (.clspAcq t)) ∧
      (fFn w = 1 → (s.clasp n).st ≠ .held → takes (.clspAcqTry t)) ∧
      (fFn w = 1 → (s.clasp n).st = .held → OnlyThread (.clspAcqTry t) s t ((s.thr t).setG (fD w) 2))) ∧
  (
    ∀ (s : State) (t : ThreadRef) (w : W32), s.Canonical → s.Stands t w → s.Fed t → opOf w = 0x31 → fB w = 0 → fD w = 0 →
      let n := ((s.thr t).getG (fA w)).toNat
      n < 256 → s.fenceHolds t 2 = true → (s.clasp n).st = .held → (s.clasp n).owner = ownerOf t →
      (∀ q ∈ s.claspWaits, q.clasp ≠ n) →
      let leaves := fun (c : Instr) (st : ClaspSt) => ∃ s', exec c s = .next s' ∧ (s'.clasp n).st = st ∧
        (∀ m, m ≠ n → s'.clasp m = s.clasp m) ∧ s'.thr t = (s.thr t).next ∧ OtherThreads t s s' ∧
        s' = { s with threads := s'.threads, clasps := s'.clasps }
      (fFn w = 2 → leaves (.clspRel t) (if (s.clasp n).repair then .broken else .free)) ∧ (fFn w = 3 → leaves (.clspRelR t) .free))

/-- R116, R117, R479: WAITEV takes the flags of its mask that are set and clears them; a wait that its timeout ends gives
0 and clears no flag. An EVT that finds no waiter, and is no kick of the watchdog, sets its flag and queues a pulse on
its line; EVT_OUT_PULSE emits a queued pulse that no EVT waits behind. -/
def Obligations.EventInstructions : Prop :=
  (
    (∀ (s : State) (t : ThreadRef) (w : W32), s.Canonical → s.Stands t w → s.Fed t → opOf w = 0x32 →
      let mask := (s.thr t).getG (fA w)
      s.evf &&& mask ≠ 0 → ∃ s', exec (.waitev t) s = .next s' ∧ s'.evf = s.evf &&& ~~~(s.evf &&& mask) ∧
        s'.thr t = ((s.thr t).setG (fD w) (s.evf &&& mask)).next ∧ OtherThreads t s s' ∧
        s' = { s with threads := s'.threads, evf := s'.evf }) ∧
    (∀ (s : State) (t : ThreadRef) (mask : W64) (d us : Nat), s.Canonical → s.Waits t (.events mask d us) → us ≠ 0 →
      ∃ s', exec (.waitevTimeout t) s = .next s' ∧ s'.evf = s.evf ∧ s'.thr t = ((s.thr t).setG d 0).resumed ∧
        OtherThreads t s s' ∧ s' = { s with threads := s'.threads, evWaiters := s.evWaiters.filter (· != t) })) ∧
  (
    (∀ (s : State) (t : ThreadRef) (w : W32), s.Canonical → s.Stands t w → s.Fed t → opOf w = 0x33 → fD w = 0 → fA w = 0 →
      fImm w < 64 → s.evWaiters = [] → (t.kind = .svc → s.fld 0x1E00 29 24 ≠ fImm w) → tget 0 s.evtPend (fImm w) < 255 →
      ∃ s', exec (.evt t) s = .next s' ∧ s'.evf = s.evf ||| BitVec.ofNat 64 (2 ^ fImm w) ∧
        tget 0 s'.evtPend (fImm w) = tget 0 s.evtPend (fImm w) + 1 ∧
        (∀ l, l ≠ fImm w → tget 0 s'.evtPend l = tget 0 s.evtPend l) ∧ s'.thr t = (s.thr t).next ∧ OtherThreads t s s' ∧
        s' = { s with threads := s'.threads, evf := s'.evf, evtPend := s'.evtPend }) ∧
    (∀ (s : State) (line : Nat), s.Canonical → s.running = true → 0 < tget 0 s.evtPend line → s.evtWaiting line = [] →
      ∃ s', exec (.evtOutPulse line) s = .next s' ∧ s'.out = .evtPulse line :: s.out ∧
        tget 0 s'.evtPend line = tget 0 s.evtPend line - 1 ∧ (∀ l, l ≠ line → tget 0 s'.evtPend l = tget 0 s.evtPend l) ∧
        s' = { s with evtPend := s'.evtPend, out := s'.out }))

/-- R33: An access that is not of 32 bits or not aligned changes nothing but CFG_STATUS and CFG_IGN_ADDR, reads 0, is
answered with an error and sets BAD_WIDTH; one of an unmapped offset does the same and sets UNMAPPED (R34); the first
such event is captured in CFG_IGN_ADDR. -/
def Obligations.BusErrors : Prop :=
  ∀ (s : State) (p : Port) (a : Access) (v : W32), s.Canonical → s.PortOpen p a.addr.toNat →
    let refused := fun (i : Instr) (bit : Nat) => Does i s fun s' => s'.out = .portRsp p 0 true :: s.out ∧
      s'.flag cfgStatus bit = true ∧ (∀ b, b ≠ cfgStatus → b ≠ cfgIgnAddr → s'.reg b = s.reg b) ∧
      s'.reg cfgIgnAddr = (if s.fld cfgStatus 2 0 = 0 then BitVec.ofNat 32 (bit * 2 ^ 24 + a.addr.toNat)
        else s.reg cfgIgnAddr) ∧
      s' = { s with regs := s'.regs, out := s'.out }
    (a.bytes ≠ 4 ∨ a.addr.toNat % 4 ≠ 0 → refused (.regWrite p a v) 2 ∧ refused (.readClear p a) 2) ∧
    (a.bytes = 4 → a.addr.toNat % 4 = 0 → siteOf s.variant a.addr.toNat = none →
      refused (.regWrite p a v) 1 ∧ refused (.readClear p a) 1)

/-- R48: Every command, whatever its operands, answers a next state in every state: none ends in a fault or a refusal
(that a write of a reserved offset leaves free values rather than stopping is the model's choice, log entry 9). -/
def Obligations.CommandsComplete : Prop :=
  ∀ (c : Instr) (s : State), ∃ t, exec c s = .next t

/-- R33, R38, R40, R42, R47, R48, R49, R50, R51, R56, R57, R58: Every access of 32 bits of a register of a present unit,
or of an alias of one, is answered: a read with the register's value and a write with a normal response, but for the
configuration port's write that starts a relock or a TRIM; a write of a reserved offset leaves what R48 leaves open
(free values, log entry 9). A word write of a register that only stores leaves each field as its class says, and a
word read returns every field and leaves the read-clear fields 0. The low word of a two-word value is read with a copy
of its high word into the port's read shadow, and is written into the port's write shadow alone; a write of the high
word commits both. A write of a bit alias does to its one bit what the class of its field says. -/
def Obligations.RegisterAccesses : Prop :=
  (
    ∀ (s : State) (p : Port) (a : BitVec 24) (v : W32) (x : Site), siteOf s.variant a.toNat = some x → a.toNat % 4 = 0 →
      s.PortOpen p a.toNat →
      (∀ c ∈ [Instr.regWrite p ⟨a, 4⟩ v, .lowWordWrite p a v, .highWordWrite p a v, .aliasWrite p a v],
        (undefAt s.variant a.toNat = true → WriteDoes c p s s.wild) ∧
        (undefAt s.variant a.toNat = false →
          let s1 := s.siteWrite p x a.toNat v
          exec c s = .next (if p = .cfg ∧ s1.cfgBusy ≠ .none then s1 else s1.emit (.portRsp p 0 false)))) ∧
      (∀ c ∈ [Instr.readClear p ⟨a, 4⟩, .lowWordRead p a],
        let r := s.busRead p a.toNat
        r.1.2 = false ∧ exec c s = .next (r.2.emit (.portRsp p r.1.1 false)))) ∧
  (
    ∀ (s : State) (p : Port) (off : Nat) (w : Win) (o : Nat) (v : W32), s.Canonical → locate s.variant off = some (w, o) →
      off < 0x800000 → off % 4 = 0 → s.PortOpen p off → regFlds s.variant w o ≠ [] → blockAt s.variant off = none →
      isLow w o = false → (4 ≤ o → isLow w (o - 4) = false) →
      (storesOnly w o = true → s.TakesFields p w o off →
        WritesOnly (.regWrite p ⟨BitVec.ofNat 24 off, 4⟩ v) p s [off] fun s' =>
          ∀ f ∈ regFlds s.variant w o, Stores s s' w o off v f) ∧
      (w ≠ .intc → (∀ n, w ≠ .seq n ∧ w ≠ .svc n ∧ w ≠ .cluster n) → (p = .dbg ∨ dbgOnly off = false) →
        Does (.readClear p ⟨BitVec.ofNat 24 off, 4⟩) s fun s' => ∃ u, s'.out = .portRsp p u false :: s.out ∧
          (∀ f ∈ regFlds s.variant w o, bitsOf u f.hi f.lo = bitsOf (s.cur w o off) f.hi f.lo ∧
            s'.fld off f.hi f.lo = if f.cls = .rc then 0 else s.fld off f.hi f.lo) ∧
          (∀ b, b ≠ off → s'.reg b = s.reg b) ∧ s' = { s with regs := s'.regs, out := s'.out, free := s'.free })) ∧
  (
    ∀ (s : State) (p : Port) (off : Nat) (w : Win) (o : Nat) (v : W32), s.Canonical → locate s.variant off = some (w, o) →
      off < 0x800000 → isLow w o = true → s.PortOpen p off → s.PortOpen p (off + 4) →
      ((p = .dbg ∨ dbgOnly off = false) → Does (.lowWordRead p (BitVec.ofNat 24 off)) s fun s' =>
        ∃ u, s'.out = .portRsp p u false :: s.out ∧
          (∀ f ∈ regFlds s.variant w o, bitsOf u f.hi f.lo = bitsOf (s.cur w o off) f.hi f.lo) ∧
          tget (resetWord s.variant (off + 4)) s'.rdShadow (shadowKey p off) = s.cur w (o + 4) (off + 4) ∧
          s' = { s with rdShadow := s'.rdShadow, out := s'.out, free := s'.free }) ∧
      (Does (.lowWordWrite p (BitVec.ofNat 24 off) v) s fun s' => s'.shadowOf p off = v ∧
        s' = { s with wrShadow := s'.wrShadow, out := .portRsp p 0 false :: s.out }) ∧
      (storesOnly w o = true → storesOnly w (o + 4) = true → s.TakesFields p w o off → s.TakesFields p w (o + 4) (off + 4) →
        WritesOnly (.highWordWrite p (BitVec.ofNat 24 (off + 4)) v) p s [off, off + 4] fun s' =>
          (∀ f ∈ regFlds s.variant w o, Stores s s' w o off (s.shadowOf p off) f) ∧
          ∀ f ∈ regFlds s.variant w (o + 4), Stores s s' w (o + 4) (off + 4) v f)) ∧
  (
    ∀ (s : State) (p : Port) (off : Nat) (w : Win) (o i : Nat) (f : Fld) (v : W32), s.Canonical →
      locate s.variant off = some (w, o) → off % 4 = 0 → i < 32 → f ∈ regFlds s.variant w o → f.lo ≤ i → i ≤ f.hi →
      f.cls ≠ .st → storesOnly w o = true → s.TakesFields p w o off → blockAt s.variant off = none →
      let addr := 0x800000 + 32 * off + 4 * i
      addr < 2 ^ 24 → s.PortOpen p addr → WritesOnly (.aliasWrite p (BitVec.ofNat 24 addr) v) p s [off] fun s' =>
        s'.flag off i = aliasBit f.cls (s.flag off i) (bitOf v 0) ∧ ∀ j < 32, j ≠ i → s'.flag off j = s.flag off j)

/-- R43, R227: EN = 1 enables a disabled unit (the home only with a CURRENT generation that is not bad) and QUIESCED reads
0; EN = 0 disables it; both then have the effect of unitUp or unitDown on the unit, which is none for a cluster and
the PHY, none on enabling a port and none on disabling the Locket. A disabled unit but the Locket that has finished
its work reads QUIESCED, and no other register is changed. -/
def Obligations.UnitEnables : Prop :=
  (∀ (s : State) (p : Port) (u : UnitRef) (v : W32), u.present s.variant = true → s.PortOpen p (unitCtrl u) →
    (s.en u = false → s.mapBad u = false → WriteDoes (.unitEnable p u v) p s
      (((s.setFlag (unitCtrl u) 0 true).setFlag (unitCtrl u) 1 false).unitUp u)) ∧
    (s.en u = true → WriteDoes (.unitDisable p u v) p s ((s.setFlag (unitCtrl u) 0 false).unitDown u))) ∧
  (∀ (s : State) (n : Nat), s.unitUp (.cluster n) = s ∧ s.unitUp (.port n) = s ∧ s.unitUp .phy = s ∧
    s.unitDown .locket = s ∧ s.unitDown (.cluster n) = s ∧ s.unitDown .phy = s) ∧
  (∀ (s : State) (u : UnitRef), s.Canonical → u ≠ .locket → u.present s.variant = true → s.running = true → s.en u = false →
    s.unitIdle u = true → ∃ s', exec (.quiesced u) s = .next s' ∧ s'.flag (unitCtrl u) 1 = true ∧
      (∀ a, a ≠ unitCtrl u → s'.reg a = s.reg a) ∧ s' = { s with regs := s'.regs })

/-- R133, R152: CLR_FAULT returns the selected FAULTED thread of a cluster to IDLE; ENG_FCLR ends the fault of the FAULTED
threads whose bits are 1; a write of EVF_SET with no thread in WAITEV sets the event flags whose bits are 1. -/
def Obligations.FaultAndEventWrites : Prop :=
  (
    (∀ (s : State) (p : Port) (cl : Nat), s.Canonical → cl < s.variant.clusters →
      s.PortOpen p ((Win.cluster cl).base + 0x2C) →
      let t : ThreadRef := ⟨.stream, cl, s.fld ((Win.cluster cl).base + 0x20) 5 0⟩
      t.idx < 48 → s.thrSt t = .faulted →
      ∃ s', exec (.clrFault p cl) s = .next s' ∧ s'.thr t = { s.thr t with st := .idle, fault := 0, trap := 0 } ∧
        OtherThreads t s s' ∧ s' = { s with threads := s'.threads, out := .portRsp p 0 false :: s.out }) ∧
    (∀ (s : State) (p : Port) (b : BankRef) (v : W32) (t : ThreadRef), s.Canonical → hasFclr b = true →
      bankPresent s.variant b = true → s.PortOpen p (bankBase b + 0x38) → t ∈ ownerThreads b → bitOf v t.idx = true →
      s.thrSt t = .faulted → ∃ s', exec (.engFclr p b v) s = .next s' ∧ (s'.thr t).st ≠ .faulted ∧ (s'.thr t).fault = 0 ∧
        s' = { s with threads := s'.threads, out := .portRsp p 0 false :: s.out })) ∧
  (
    ∀ (s : State) (p : Port) (cl : Nat) (hi : Bool) (v : W32), cl < s.variant.clusters →
      s.PortOpen p ((Win.cluster cl).base + (if hi then 0x3C else 0x38)) → s.evWaiters = [] →
      WriteDoes (.evfSet p cl hi v) p s
        { s with evf := s.evf ||| BitVec.ofNat 64 (v.toNat * 2 ^ (if hi then 32 else 0)) })

/-- R136, R150, R154: A word of an EMPTY or LOADED bank is written and the bank is EMPTY after it; a write of a word of an
ACTIVE or OUTGOING bank changes no word and is an ignored write. PROG_DATA writes, or reads, the word at PROG_ADDR and
adds one to INDEX. -/
def Obligations.InstructionStores : Prop :=
  (∀ (s : State) (p : Port) (cl bank idx : Nat) (v : W32), s.Canonical → cl < s.variant.clusters → bank < 2 → idx < 8192 →
    let off := (Win.store cl).base + 0x8000 * bank + 4 * idx
    s.PortOpen p off →
    (s.bankSt (.cluster cl) bank ≤ 1 → ∃ s', exec (.instrStoreWrite p cl bank idx v) s = .next s' ∧
      s'.instrAt (.cluster cl) bank idx = v ∧ s'.bankSt (.cluster cl) bank = 0 ∧
      (∀ k, k ≠ storeKey (.cluster cl) bank idx → tfind s'.store k = tfind s.store k) ∧
      (∀ a, a ≠ bankBase (.cluster cl) + 0xC + 4 * bank → s'.reg a = s.reg a) ∧
      s' = { s with regs := s'.regs, store := s'.store, out := .portRsp p 0 false :: s.out }) ∧
    (2 ≤ s.bankSt (.cluster cl) bank → WriteDoes (.instrStoreWrite p cl bank idx v) p s (s.ignored off))) ∧
  (∀ (s : State) (p : Port) (b : BankRef) (v : W32), s.Canonical → hasFclr b = true → bankPresent s.variant b = true →
    s.PortOpen p (bankBase b + 0x24) →
    (s.bankSt b (s.progBank b) ≤ 1 → ∃ s', exec (.progData p b (some v)) s = .next s' ∧
      s'.instrAt b (s.progBank b) (s.progIdx b) = v ∧ s'.progIdx b = (s.progIdx b + 1) % 2048 ∧
      s'.progBank b = s.progBank b ∧ s'.bankSt b (s.progBank b) = 0 ∧
      s' = { s with regs := s'.regs, store := s'.store, out := .portRsp p 0 false :: s.out }) ∧
    (∃ s', exec (.progData p b none) s = .next s' ∧ s'.out = .portRsp p (s.progWord b) false :: s.out ∧
      s'.progIdx b = (s.progIdx b + 1) % 2048 ∧ (∀ a, a ≠ bankBase b + 0x20 → s'.reg a = s.reg a) ∧
      s' = { s with regs := s'.regs, out := s'.out }))

/-- R138, R139, R144, R145: ARM starts the check of a load with the LEN and VERSION written; a check that is passed makes
the target LOADED with its length and version, and one that fails sets LOAD_BAD. GO makes the LOADED bank ACTIVE and
the ACTIVE one OUTGOING; ABANDON makes a LOADED bank EMPTY; once nothing runs from the OUTGOING bank it is EMPTY and
GRAFT_DONE is set. Which bank is the target is free (log entry 54), and the statement holds for each. -/
def Obligations.LoadsAndGrafts : Prop :=
  (
    (∀ (s : State) (p : Port) (b : BankRef) (v : W32), s.Canonical → bankPresent s.variant b = true →
      s.PortOpen p (bankBase b + 0x14) → s.graftState b ≠ 2 →
      WritesOnly (.loadArm p b v) p s [bankBase b + 0x14] fun s' => s'.flag (bankBase b + 0x14) 31 = true ∧
        s'.loadLen b = bitsOf v 29 16 ∧ s'.loadVer b = bitsOf v 15 0) ∧
    (∀ (s : State) (b : BankRef) (i : Nat), s.Canonical → s.running = true → bankPresent s.variant b = true →
      s.flag (bankBase b + 0x14) 31 = true → s.loadTargets b = [i] →
      ∃ s', exec (.loadCheckEnd b) s = .next s' ∧ s'.flag (bankBase b + 0x14) 31 = false ∧
        (s.loadOk b i = true → s'.bankSt b i = 1 ∧ s'.bankLen b i = s.loadLen b ∧ s'.bankVer b i = s.loadVer b) ∧
        (s.loadOk b i = false → s'.flag (bankBase b + 0x14) 30 = true) ∧
        (∀ a, a ≠ bankBase b + 0x14 → a ≠ bankBase b + 0xC + 4 * i → s'.reg a = s.reg a) ∧
        s' = { s with regs := s'.regs, free := s.free + 1 })) ∧
  (
    (∀ (s : State) (p : Port) (b : BankRef) (v : W32) (i j : Nat), s.Canonical → bankPresent s.variant b = true →
      s.PortOpen p (bankBase b + 0x1C) → bitOf v 1 = false → s.bankIn b 1 = some i → s.bankIn b 2 = some j →
      ∃ s', exec (.graftGo p b v) s = .next s' ∧ s'.bankSt b i = 2 ∧ s'.bankSt b j = 3 ∧ s'.graftState b = 2 ∧
        s'.fld (bankBase b + 8) 1 1 = i ∧ ((∃ n, b = .cluster n) → s'.threads = s.threads) ∧
        s' = { s with regs := s'.regs, threads := s'.threads, out := .portRsp p 0 false :: s.out }) ∧
    (∀ (s : State) (p : Port) (b : BankRef) (v : W32) (i : Nat), s.Canonical → bankPresent s.variant b = true →
      s.PortOpen p (bankBase b + 0x1C) → bitOf v 0 = false → s.bankIn b 1 = some i →
      WritesOnly (.abandon p b v) p s [bankBase b + 0xC + 4 * i] fun s' => s'.bankSt b i = 0) ∧
    (∀ (s : State) (b : BankRef) (i : Nat), s.Canonical → s.running = true → bankPresent s.variant b = true →
      s.graftState b = 2 → s.oldRefs b = 0 → s.oldThreads b = 0 → s.bankIn b 3 = some i →
      ∃ s', exec (.graftDone b) s = .next s' ∧ s'.bankSt b i = 0 ∧ s'.graftState b = 1 ∧
        s'.flag (bankBase b + 8) 0 = true ∧ s' = { s with regs := s'.regs }))

/-- R158, R163, R164, R169, R176: ENABLE, DISABLE, CLEAR, KICK and ABORT act in the states that the statement names, and
ENABLE of a context that is not DISABLED sets CMD_IGNORED alone. A write of CTX_TAIL_HI sets the tail and the
generation in one step; a context that is not IDLE is not re-armed by it. -/
def Obligations.ContextCommands : Prop :=
  (
    ∀ (s : State) (p : Port) (n : Nat), s.Canonical → n < s.variant.contexts → s.PortOpen p (ctxBase n) →
      let b := ctxBase n
      (s.ctxState n = 0 → WritesOnly (.enable p n) p s [b + 4] fun s' => s'.ctxState n = 1) ∧
      (s.ctxState n ≠ 0 → WritesOnly (.enable p n) p s [b + 4] fun s' =>
        s'.ctxState n = s.ctxState n ∧ s'.flag (b + 4) 23 = true) ∧
      (s.ctxState n = 1 ∨ s.ctxState n = 5 → s.runEnded n = false → (s.ctx n).rearm = false →
        WritesOnly (.disable p n) p s [b + 4] fun s' =>
          s'.ctxState n = 0 ∧ s'.flag (b + 4) 24 = false ∧ s'.flag (b + 4) 25 = false) ∧
      (s.ctxState n = 5 → WritesOnly (.clear (.word p n)) p s [b + 4] fun s' =>
        s'.ctxState n = 1 ∧ s'.fld (b + 4) 15 8 = 0 ∧ s'.flag (b + 4) 24 = false ∧ s'.flag (b + 4) 25 = false) ∧
      (s.ctxState n = 1 → s.runEnded n = false → (s.ctx n).rearm = false →
        let cl := s.fld (b + 8) 11 8
        cl < s.variant.clusters → s.flag (b + 8) 31 = false →
        ∃ s', exec (.kick (.word p n)) s = .next s' ∧ s'.ctxState n = 2 ∧ s'.curOf n = s.reg2 (b + 0x10) ∧
          s'.ready cl = s.ready cl ++ [n] ∧ s'.reg (b + 0x30) = 0 ∧ s'.reg (b + 0x38) = 0 ∧
          s'.fld (b + 0x34) 31 16 = (s.fld (b + 0x34) 31 16 + 1) % 65536 ∧ s'.fld (b + 0x34) 15 0 = 0 ∧
          (s'.ctx n).outcome = none ∧ (∀ m, m ≠ n → s'.ctx m = s.ctx m) ∧
          s' = { s with regs := s'.regs, ctxs := s'.ctxs, readyQ := s'.readyQ, out := .portRsp p 0 false :: s.out }) ∧
      (s.ctxState n = 2 → (s.ctx n).outcome = none → (s.ctx n).queue = [] →
        ∃ s', exec (.abort (.word p n)) s = .next s' ∧ (s'.ctx n).outcome = some 2 ∧ n ∉ s'.ready (s.ctx n).cluster ∧
          (∀ m, m ≠ n → s'.ctx m = s.ctx m) ∧ s'.fld (b + 0x38) 15 0 = (s.ctx n).yieldLines % 65536 ∧
          (∀ a, a ≠ b + 0x38 → s'.reg a = s.reg a) ∧ s'.threads = s.threads ∧ s'.out = .portRsp p 0 false :: s.out)) ∧
  (
    ∀ (s : State) (p : Port) (n : Nat) (v : W32), s.Canonical → n < s.variant.contexts → s.PortOpen p (ctxBase n + 0x1C) →
      s.ctxState n ≠ 1 → WritesOnly (.append (.word p n v)) p s [ctxBase n + 0x18, ctxBase n + 0x1C] fun s' =>
        s'.fld (ctxBase n + 0x18) 31 6 = bitsOf (s.shadowOf p (ctxBase n + 0x18)) 31 6 ∧
        s'.fld (ctxBase n + 0x1C) 13 0 = bitsOf v 13 0 ∧ s'.tailGen n = bitsOf v 31 16)

/-- R71, R140, R165, R167: A dispatch gives the next ready context to an IDLE thread, which starts clean at the context's
entry point with the context number in g1 and waits for its first descriptor, whose read is issued; the context is
RUNNING, or RESIDENT where it is fast, and bound to the version of the bank. -/
def Obligations.Dispatch : Prop :=
  ∀ (s : State) (cl : Nat) (t : ThreadRef) (c bank : Nat), s.Canonical → t.kind = .stream → t.unit = cl →
    threadPresent s.variant t = true → s.engUp t = true → s.clusterReady cl = true → s.clustersStopped = false →
    s.thrSt t = .idle → s.nextReady cl = some c → s.opRoom t (descReq (.thread t) c (s.curOf c / 64)) = true →
    s.boundBank (.cluster cl) (s.fld (ctxBase c + 0x34) 15 0) = some bank →
    (s.ctx c).entry < clamp 1 16 (Config.entryCount cl (s.bankVer (.cluster cl) bank)) →
    ∃ s', exec (.dispatch cl t) s = .next s' ∧
      s'.thr t = { Thread.init with
        st := .wait, wait := .start, bank := bank, pc := (s.ctx c).entry, g := (s'.thr t).g, ctx := some c,
        epoch := (s.thr t).epoch + 1 } ∧
      (s'.thr t).getG 1 = BitVec.ofNat 64 c ∧ (∀ a, a ≠ 1 → (s'.thr t).getG a = 0) ∧
      s'.ctxState c = (if (s.ctx c).fast then 4 else 3) ∧
      s'.fld (ctxBase c + 0x34) 15 0 = s.bankVer (.cluster cl) bank ∧ c ∉ s'.ready cl ∧
      s'.pool.map Req.asks = s.pool.map Req.asks ++ [(.thread t, .rd, s.curOf c / 64, .desc c, 0, false)] ∧
      OtherThreads t s s' ∧ s'.ctxs = s.ctxs ∧ s'.clasps = s.clasps ∧ s'.evf = s.evf

/-- R167, R168, R184, R292: A good descriptor is counted in the misses and the delay of its charm and fills the descriptor
buffer of the thread that waits for it; the thread runs its first instruction, or goes on past its NEXTD with 0 in its
register. NEXTD at the end of a chain whose generation has been seen gives 1 and sets AT_END; before the end it reads
the next descriptor; in a fast context it takes a queued packet into the descriptor buffer. -/
def Obligations.Descriptors : Prop :=
  (
    ∀ (s : State) (c : Nat) (t : ThreadRef) (a : Arrival), s.Canonical → s.running = true →
      s.arrivals.find? (fun x => x.dest == Dest.desc c) = some a → a.status = 0 → a.tmo = false → a.poison = false →
      hallmark a.data = a.hm → linkBad (lineWord a.data 0) = false → (s.ctx c).rearm = false → s.servant c = some t →
      let got := { s.thr t with desc := a.data, link := lineWord a.data 0 }
      let s1 := s.readDone a.stamp
      ((s.thr t).wait = .start → ∃ s', exec (.descriptorReadResponse c) s = .next s' ∧
        s'.thr t = { got with st := .run, wait := .none } ∧ OtherThreads t s s' ∧
        s' = { s1 with threads := s'.threads, arrivals := s.arrivals.erase a }) ∧
      (∀ d, (s.thr t).wait = .descriptor d → (s.thr t).prog = 0 →
        ∃ s', exec (.descriptorReadResponse c) s = .next s' ∧ s'.thr t = (got.setG d 0).resumed ∧ OtherThreads t s s' ∧
          s'.flag (ctxBase c + 4) 25 = false ∧ (∀ x, x ≠ ctxBase c + 4 → s'.reg x = s1.reg x) ∧
          s' = { s1 with threads := s'.threads, regs := s'.regs, arrivals := s.arrivals.erase a })) ∧
  (
    ∀ (s : State) (t : ThreadRef) (w : W32) (c : Nat), s.Canonical → s.Stands t w → s.Fed t → t.kind = .stream →
      opOf w = 0x34 → fA w = 0 → fB w = 0 → fFn w = 0 → (s.thr t).ctx = some c →
      ((s.ctx c).fast = false → linkEnd (s.thr t).link = true → s.tailGen c = s.seenGen c →
        ∃ s', exec (.nextd t) s = .next s' ∧ s'.thr t = ((s.thr t).setG (fD w) 1).next ∧ OtherThreads t s s' ∧
          s'.flag (ctxBase c + 4) 25 = true ∧ (∀ x, x ≠ ctxBase c + 4 → s'.reg x = s.reg x) ∧
          s' = { s with threads := s'.threads, regs := s'.regs }) ∧
      ((s.ctx c).fast = false → linkEnd (s.thr t).link = false →
        s.opRoom t (descReq (.thread t) c (linkNext (s.thr t).link / 64)) = true →
        s.fld (ctxBase c + 0x38) 31 16 ≠ (if s.fld (ctxBase c + 0xC) 31 16 = 0 then 65535 else s.fld (ctxBase c + 0xC) 31 16) →
        ∃ s', exec (.nextd t) s = .next s' ∧
          s'.thr t = { (s.thr t).waiting (.descriptor (fD w)) with prog := 0 } ∧ OtherThreads t s s' ∧
          s'.curOf c = linkNext (s.thr t).link ∧
          s'.fld (ctxBase c + 0x38) 31 16 = (s.fld (ctxBase c + 0x38) 31 16 + 1) % 65536 ∧
          s'.pool.map Req.asks =
            s.pool.map Req.asks ++ [(.thread t, .rd, linkNext (s.thr t).link / 64, .desc c, 0, false)]) ∧
      (∀ p rest, (s.ctx c).fast = true → (s.thr t).packet = none → (s.ctx c).queue = p :: rest →
        ∃ s', exec (.nextd t) s = .next s' ∧
          s'.thr t = { ((s.thr t).setG (fD w) 0).resumed with
            desc := BitVec.ofNat 512 p.data.toNat, packet := some p } ∧
          OtherThreads t s s' ∧ s'.ctx c = { s.ctx c with queue := rest } ∧
          s' = { s with threads := s'.threads, ctxs := s'.ctxs }))

/-- R121, R175, R177: YIELD that can retire, and DONE whose FENCE.P holds, of a thread that holds no Clasp, leave the
thread IDLE without a context; a YIELD makes the context READY, without hops, behind the others, and LINES as it stood
is kept for the run's end; a DONE, of a cluster with fewer than 32 reports in progress, ends its run as done.
YIELD_RETIRE and DONE_RETIRE do the same for a thread that waited. -/
def Obligations.YieldAndDone : Prop :=
  ∀ (s : State) (t : ThreadRef) (c : Nat), s.Canonical → s.Fed t → t.kind = .stream → (s.thr t).ctx = some c →
    (s.thr t).packet = none → (∀ e ∈ s.clasps, e.2.owner ≠ ownerOf t) → s.claspFull = [] →
    let yields := fun (i : Instr) => ∃ s', exec i s = .next s' ∧ (s'.thr t).st = .idle ∧ (s'.thr t).ctx = none ∧
      OtherThreads t s s' ∧ s'.ctxState c = 2 ∧ s'.fld (ctxBase c + 0x38) 31 16 = 0 ∧
      s'.ready (s.ctx c).cluster = s.ready (s.ctx c).cluster ++ [c] ∧
      s'.ctx c = { s.ctx c with yieldLines := s.fld (ctxBase c + 0x38) 15 0 } ∧ (∀ m, m ≠ c → s'.ctx m = s.ctx m) ∧
      s'.evf = s.evf ∧ s'.out = s.out
    let finishes := fun (i : Instr) => ∃ s', exec i s = .next s' ∧ (s'.thr t).st = .idle ∧ (s'.thr t).ctx = none ∧
      OtherThreads t s s' ∧ (s'.ctx c).outcome = some 1 ∧ s'.regs = s.regs ∧ s'.evf = s.evf ∧ s'.out = s.out
    (∀ w, s.Stands t w → opOf w = 0x35 → bare w = true → (s.ctx c).fast = false → s.yieldReady t = true →
      yields (.yieldCtx t)) ∧
    (s.Waits t .yieldFence → s.yieldReady t = true → yields (.yieldRetire t)) ∧
    (∀ w, s.Stands t w → opOf w = 0x36 → bare w = true → s.fenceHolds t 1 = true → s.reports (s.ctx c).cluster < 32 →
      finishes (.doneRun t)) ∧
    (s.Waits t .doneFence → s.fenceHolds t 1 = true → s.reports (s.ctx c).cluster < 32 → finishes (.doneRetire t))

/-- R178, R179, R187: A run whose writes have met FENCE.P, in a cluster with fewer than 32 reports in progress, writes its
completion record, where that is enabled, and wakes the threads that wait for its report to begin; once the record has
met FENCE.P, with no event or interrupt asked for, the context is IDLE, or HALTED where the run was halted, with
LAST_RUN and its cause. -/
def Obligations.Reports : Prop :=
  ∀ (s : State) (c o : Nat), s.Canonical → s.running = true → (s.ctx c).outcome = some o → o < 4 → (s.ctx c).cause < 256 →
    ((s.ctx c).rep = 0 → s.runFenced c = true → s.reports (s.ctx c).cluster < 32 →
      s.flag (ctxBase c + 8) 30 = true → s.mayEnter (s.recordReq c) = true →
      let a := s.reg2 (ctxBase c + 0x20)
      ∃ s', exec (.runReport c) s = .next s' ∧ s'.ctx c = { s.ctx c with counted := true, rep := 1 } ∧
        (∀ m, m ≠ c → s'.ctx m = s.ctx m) ∧
        s'.pool.map Req.asks = s.pool.map Req.asks ++
          [(.ctx c, .merge (a % 64) 16, a / 64, .none, BitVec.ofNat 512 (s.recordOf c * 2 ^ (8 * (a % 64))), false)] ∧
        (∀ u, (s.thr u).wait ≠ .runSlot c → s'.thr u = s.thr u) ∧
        (∀ u, (s.thr u).wait = .runSlot c → (s'.thr u).wait = .none) ∧ s'.out = s.out) ∧
    ((s.ctx c).rep = 1 → (s.ctx c).pulses = [] → s.recordAdmitted c = true → s.flag (ctxBase c + 8) 29 = false →
      s.flag (ctxBase c + 8) 28 = false → (o ≠ 1 ∨ s.tailGen c = s.seenGen c) →
      ∃ s', exec (.completionRecord c) s = .next s' ∧ s'.ctxState c = (if o = 3 then 5 else 1) ∧
        s'.fld (ctxBase c + 4) 28 27 = o ∧ s'.fld (ctxBase c + 4) 15 8 = (s.ctx c).cause ∧
        s'.flag (ctxBase c + 4) 26 = (s.ctx c).late ∧ (s'.ctx c).outcome = none ∧ (∀ m, m ≠ c → s'.ctx m = s.ctx m) ∧
        (∀ a, a ≠ ctxBase c + 4 → s'.reg a = s.reg a) ∧ s' = { s with regs := s'.regs, ctxs := s'.ctxs })

/-- R218, R219, R380, R382, R387: INVAL empties the Locket, keeps fills that are under way out of it and reads 1 until the
walk ends; CNT_CLR zeroes the two counts. TRIM marks a written plot unwritten and drops its lines from the Locket, and
its write is answered when the walk ends; SEED starts sprouting an unwritten plot in a free slot. The filler takes the
next line of the sprouting plot whose turn it is, and FP passes a line that needs no fill. -/
def Obligations.LocketAndSeedMap : Prop :=
  (
    (∀ (s : State) (p : Port) (v : W32), s.Canonical → s.PortOpen p 0x700C →
      (bitOf v 1 = false → WriteDoes (.inval p v) p s
        (({ s with locket := [], tagBad := [], trks := s.trks.map fun t => { t with fillOk := false } } : State).setFlag 0x700C 0 true)) ∧
      (bitOf v 0 = false → WritesOnly (.cntClr p v) p s [0x7018, 0x701C, 0x7020, 0x7024] fun s' =>
        s'.reg2 0x7018 = 0 ∧ s'.reg2 0x7020 = 0)) ∧
    (∀ s : State, s.running = true → exec .invalEnd s = .next (s.setFlag 0x700C 0 false))) ∧
  (
    (∀ (s : State) (plot : BitVec 21), s.Canonical → s.PortOpen .cfg seedCmd → s.plotRefused plot.toNat = false →
      s.plotBit plot.toNat = true → Tab.wf (fun _ => false) s.plots = true →
      ∃ s', exec (.trim .cfg plot) s = .next s' ∧ s'.plotBit plot.toNat = false ∧ s'.trimming = some plot.toNat ∧
        s'.cfgBusy = .trim ∧ (∀ e ∈ s'.locket, ∀ l ∈ e.2, plotOf l.line ≠ plot.toNat) ∧
        (∀ a, a ≠ seedCmd → s'.reg a = s.reg a) ∧
        s' = { s with regs := s'.regs, plots := s'.plots, trimming := s'.trimming, cfgBusy := s'.cfgBusy,
                      locket := s'.locket, trks := s'.trks }) ∧
    (∀ (s : State) (plot : Nat), s.running = true → s.trimming = some plot → s.cfgBusy = .trim → s.cfgQueue = [] →
      s.dbgQueue = [] → ∃ s', exec .trimWalkEnd s = .next s' ∧ s'.trimming = none ∧ s'.cfgBusy = .none ∧
        s'.out = .portRsp .cfg 0 false :: s.out ∧ (∀ e ∈ s'.locket, ∀ l ∈ e.2, plotOf l.line ≠ plot) ∧
        s' = { s with trimming := s'.trimming, cfgBusy := s'.cfgBusy, out := s'.out, locket := s'.locket, trks := s'.trks }) ∧
    (∀ (s : State) (p : Port) (plot : BitVec 21), s.Canonical → s.PortOpen p seedCmd → s.plotRefused plot.toNat = false →
      s.plotBit plot.toNat = false → s.freeSlots ≠ [] →
      ∃ s' slot, exec (.seed p plot) s = .next s' ∧ slot ∈ s.freeSlots ∧ s'.plotBit plot.toNat = true ∧
        s'.sprout slot = some { plot := plot.toNat, fp := 0, next := 0, fly := [] } ∧
        (∀ k, k ≠ slot → s'.sprout k = s.sprout k) ∧ (∀ a, a ≠ seedCmd → s'.reg a = s.reg a) ∧
        s' = { s with regs := s'.regs, plots := s'.plots, sprouts := s'.sprouts, free := s.free + 1,
                      out := .portRsp p 0 false :: s.out })) ∧
  (
    (∀ (s : State) (i : Nat) (p : Sprout) (q : Place), s.running = true → i < 4 → s.fillTurn = i → s.sprout i = some p →
      p.next < 16384 → p.fly.length < 16 → s.ewt = [] → s.place (plotLine p.plot p.next) = some q → s.scReady q.sc = true →
      ∃ s', exec .seedFillWrite s = .next s' ∧
        s'.sprout i = some { p with next := p.next + 1, fly := p.fly ++ [p.next] } ∧ s'.fillTurn = (i + 1) % 4 ∧
        (∀ k, k ≠ i → s'.sprout k = s.sprout k) ∧ s' = { s with sprouts := s'.sprouts, fillTurn := s'.fillTurn }) ∧
    (∀ (s : State) (i : Nat) (p : Sprout), s.running = true → s.sprout i = some p → p.fp + 1 < 16384 →
      p.fly.contains p.fp = false → (s.ewt.contains (plotLine p.plot p.fp) = true ∨ s.place (plotLine p.plot p.fp) = none) →
      s.trks = [] → ∃ s', exec (.fpAdvance i) s = .next s' ∧
        s'.sprout i = some { p with fp := p.fp + 1, next := max p.next (p.fp + 1), fly := p.fly.filter (· != p.fp) } ∧
        s'.ewt = s.ewt.filter (· != plotLine p.plot p.fp) ∧ (∀ k, k ≠ i → s'.sprout k = s.sprout k) ∧
        s' = { s with sprouts := s'.sprouts, ewt := s'.ewt }))

/-- R231, R232, R236, R389: A slot begins for the scrubber's next line within a walk, and a walk that has covered its
lines is counted. GO starts a migration that may start and otherwise sets MAP_BAD; PAUSE = 1 stops the mover and PAUSE
= 0 releases it. The mover asks the home for the next line that is to be moved; a line that has been moved is passed
by MIG_WM, short of the end of both generations. -/
def Obligations.BackgroundWalks : Prop :=
  (
    ∀ (s : State) (n : Nat), s.Canonical → s.flag scrubCfg 0 = true → s.running = true → s.clustersStopped = false →
      0 < s.scrubLines → s.scrubBusy = false → s.scrubLine = some n → 64 * (n + 1) < 2 ^ 46 →
      (n + 1 < s.scrubN → ∃ s', exec .scrubSlot s = .next s' ∧ s'.scrubLine = some (n + 1) ∧
        s'.reg2 scrubPos = 64 * (n + 1) ∧ s'.reg scrubPasses = s.reg scrubPasses ∧ s'.threads = s.threads) ∧
      (s.scrubN ≤ n + 1 → ∃ s', exec .scrubSlot s = .next s' ∧ s'.scrubLine = some 0 ∧ s'.reg2 scrubPos = 0 ∧
        s'.reg scrubPasses = s.reg scrubPasses + 1 ∧ s'.scrubN = s.scrubLines ∧ s'.threads = s.threads)) ∧
  (
    ∀ (s : State) (p : Port) (v : W32), s.Canonical → s.PortOpen p migCtrl →
      (s.mayMigrate = true → WritesOnly (.migGo p v) p s [migCtrl, migStatus] fun s' => s'.flag migStatus 0 = true ∧
        s'.migPaused = bitOf v 1) ∧
      (s.mayMigrate = false → WritesOnly (.migGo p v) p s [migStatus] fun s' =>
        s'.flag migStatus 1 = true ∧ s'.flag migStatus 0 = s.flag migStatus 0) ∧
      (bitOf v 0 = false → WritesOnly (.pause p v) p s [migCtrl] fun s' => s'.migPaused = true) ∧
      (bitOf v 0 = false → WritesOnly (.migResume p v) p s [migCtrl] fun s' => s'.migPaused = false)) ∧
  (
    (∀ s : State, s.Canonical → s.flag migStatus 0 = true → s.migPaused = false → s.running = true →
      64 * s.moverLine < s.migLimit → s.moverSkip s.moverLine = none → s.sprouting (plotOf s.moverLine) = false →
      s.moverWaits s.moverLine = none → s.moves.length ≤ s.fld migCtrl 11 8 →
      s.mayEnter (Req.mk0 .block .move s.moverLine) = true →
      ∃ s', exec .migrationStep s = .next s' ∧
        s'.moves = s.moves ++ [{ line := s.moverLine, phase := 0, data := 0, hm := 0, poison := false }] ∧
        s'.pool.map Req.asks = s.pool.map Req.asks ++ [(.block, .move, s.moverLine, .none, 0, false)] ∧
        s'.flag migStatus 6 = false ∧ s'.threads = s.threads ∧ s'.out = s.out) ∧
    (∀ (s : State) (m : Move) (rest : List Move), s.Canonical → s.running = true → s.moves = m :: rest → m.phase = 4 →
      s.HomeClear →
      64 * (m.line + 1) < max (s.gen genCur).limit (s.gen genNext).limit → 64 * (m.line + 1) < 2 ^ 46 →
      ∃ s', exec .watermarkAdvance s = .next s' ∧ s'.moves = rest ∧ s'.reg2 migWm = 64 * (m.line + 1) ∧
        (∀ a, a ≠ migWm → a ≠ migWm + 4 → s'.reg a = s.reg a) ∧ s' = { s with moves := rest, regs := s'.regs }))

/-- R272, R278, R291: A window's start zeroes CH_USED; a recomputation ends with the sum of the shares in GUAR_SUM and
OVERSUB telling whether it exceeds DELIVERABLE; a sample takes each charm's depth, misses and delay and restarts their
accumulation. -/
def Obligations.CharmEvents : Prop :=
  (∀ (s : State) (ch : Nat), s.running = true → ch < 64 → s.tbase.toNat % (100 * s.chWindow ch) = 0 →
    exec (.windowStart ch) s = .next (s.setFld (chUsed ch) 23 0 0)) ∧
  (∀ s : State, s.Canonical → s.running = true → s.flag 0x3008 2 = true →
    let sum := min 16777215 (s.ranking.map s.share).sum
    ∃ s', exec .recomputeEnd s = .next s' ∧ s'.flag 0x3008 2 = false ∧ s'.flag 0x3008 0 = decide (sum > s.fld 0x3004 15 0) ∧
      s'.fld 0x300C 23 0 = sum ∧ (∀ a, a ∉ [0x3008, 0x300C, 0x3010, 0x3014] → s'.reg a = s.reg a) ∧
      s' = { s with regs := s'.regs }) ∧
  (∀ (s : State) (ch : Nat), s.Canonical → s.running = true → s.fld 0x3028 15 0 ≠ 0 → ch < 64 →
    ∃ s', exec .sample s = .next s' ∧ s'.charmAcc = [] ∧
      s'.fld (0x3800 + 8 * ch) 31 16 = min 65535 (tget (0, 0) s.charmAcc ch).1 ∧
      s'.fld (0x3800 + 8 * ch) 15 0 = min 1023 (s.queueOf ch).length ∧
      s'.reg (0x3804 + 8 * ch) = BitVec.ofNat 32 (tget (0, 0) s.charmAcc ch).2 ∧
      (∀ a, (a < 0x3800 ∨ 0x3A00 ≤ a) → s'.reg a = s.reg a) ∧ s' = { s with regs := s'.regs, charmAcc := [] })

/-- R286, R287, R288, R289: EN = 1 starts the named bank at slot 0 with that slot's mask, and EN = 0 opens every group;
ARM arms a takeover at TR_AT, or sets ARM_BAD where the Trellis is off; DISARM cancels a takeover; with none pending a
boundary goes on to the next slot and its mask. -/
def Obligations.TrellisControl : Prop :=
  ∀ (s : State) (p : Port) (v : W32), s.Canonical → s.PortOpen p 0x3040 →
    let quiet := bitOf v 3 = false ∧ bitsOf v 4 4 = s.fld 0x3040 4 4
    let keep := quiet ∧ bitOf v 0 = s.trEn
    let mask := fun (b slot : Nat) => s.fld (0x4400 + 0x1000 * b + 4 * slot) 31 16
    let bank := s.fld 0x3040 4 4
    (quiet → bitOf v 1 = false → s.trEn = false → s.trLen bank ≠ 0 → ∃ s', exec (.trEnable p v) s = .next s' ∧
      s'.trEn = true ∧ s'.trActive = bank ∧ s'.fld 0x3044 31 16 = mask bank 0 ∧ s'.fld 0x3044 7 0 = 0 ∧
      (∀ a, a ≠ 0x3040 → a ≠ 0x3044 → s'.reg a = s.reg a) ∧
      s' = { s with regs := s'.regs, charmQ := s'.charmQ, out := .portRsp p 0 false :: s.out }) ∧
    (quiet → bitOf v 1 = false → s.trEn = true → ∃ s', exec (.trDisable p v) s = .next s' ∧ s'.trEn = false ∧
      s'.trPending = false ∧ s'.fld 0x3044 31 16 = 0xFFFF ∧ (∀ a, a ≠ 0x3040 → a ≠ 0x3044 → s'.reg a = s.reg a) ∧
      s' = { s with regs := s'.regs, charmQ := s'.charmQ, out := .portRsp p 0 false :: s.out }) ∧
    (keep → bitOf v 2 = false → s.trEn = true → s.trPending = false → s.trLen (1 - s.trActive) ≠ 0 →
      ∃ s', exec (.trArm p v) s = .next s' ∧ s'.trPending = true ∧ s'.trAt = BitVec.ofNat 64 (s.reg2 0x3048) ∧
        (∀ a, a ≠ 0x3040 → s'.reg a = s.reg a) ∧
        s' = { s with regs := s'.regs, trAt := s'.trAt, out := .portRsp p 0 false :: s.out }) ∧
    (keep → bitOf v 2 = false → s.trEn = false → WritesOnly (.trArm p v) p s [0x3040] fun s' => s'.flag 0x3040 3 = true) ∧
    (keep → bitOf v 1 = false → s.trPending = true → WritesOnly (.disarm p v) p s [0x3040] fun s' => s'.trPending = false) ∧
    (s.trEn = true → s.trPending = false → s.trActive < 2 → ∃ s', exec .slotBoundary s = .next s' ∧
      s'.fld 0x3044 7 0 = (s.fld 0x3044 7 0 + 1) % max 1 (s.trLen s.trActive) % 256 ∧
      s'.fld 0x3044 31 16 = mask s.trActive ((s.fld 0x3044 7 0 + 1) % max 1 (s.trLen s.trActive)) ∧
      (∀ a, a ≠ 0x3044 → s'.reg a = s.reg a) ∧ s' = { s with regs := s'.regs, charmQ := s'.charmQ })

/-- R457, R460, R461, R462, R463, R465: A READ becomes a read request of its line; a WRITE with its beat becomes a write
request, whichever of the two comes last; each passes on at once and its credits return. A READ with a non-zero field
that it does not use is answered with a decode error (its data bytes are free, log entry 71). -/
def Obligations.PortTransfers : Prop :=
  ∀ (s : State) (n : Nat) (w : BitVec 128) (b : Beat), s.Canonical → s.PortTakes n →
    let asks := fun (i : Instr) (r : Src × ReqKind × Nat × Dest × Line × Bool) (credits : List Out) (p : SPort) =>
      ∃ s', exec i s = .next s' ∧ s'.pool.map Req.asks = s.pool.map Req.asks ++ [r] ∧ s'.out = credits ++ s.out ∧
        s'.sp n = p ∧ (∀ m, m ≠ n → s'.sp m = s.sp m) ∧ s'.threads = s.threads ∧ s'.ctxs = s.ctxs ∧ s'.homeQ = s.homeQ
    let good := rqKind w = 2 ∧ rqBad w = false ∧ rqStash w = false ∧ bitsOf b.attr 7 2 = 0 ∧
      (bitOf b.attr 0 = true → b.hm = hallmark b.data)
    let wr : Src × ReqKind × Nat × Dest × Line × Bool := (.port n, .wr, rqLine w, .none, b.data, bitOf b.attr 1)
    (rqKind w = 1 → rqBad w = false → s.mayEnter (Req.mk0 (.port n) .rd (rqLine w)) = true → (s.sp n).held = [] → 0 < (s.sp n).reqCr →
      asks (.read n w) (.port n, .rd, rqLine w, .port (rqTid w), 0, false) [.spCredit n false 1] (s.sp n)) ∧
    (∀ x : HeldBeat, x.beat = b → good → s.mayEnter (Req.mk0 (.port n) .wr (rqLine w)) = true → (s.sp n).held = [] →
      (s.sp n).beats = [x] → 0 < (s.sp n).reqCr →
      asks (.write n w) wr [.spCredit n true 1, .spCredit n false 1]
        { s.sp n with beats := [], wdCr := (s.sp n).wdCr + 1 }) ∧
    (∀ e : HeldReq, e.word = w → good →
      s.mayEnter (Req.mk0 (.port n) .wr (rqLine w)) = true → (s.sp n).held = [e] → (s.sp n).beats = [] → 0 < (s.sp n).wdCr →
      asks (.writeDataBeat n b) wr [.spCredit n true 1, .spCredit n false 1]
        { s.sp n with held := [], reqCr := (s.sp n).reqCr + 1 }) ∧
    (rqKind w = 1 → rqBad w = true → (s.sp n).held = [] → 0 < (s.sp n).reqCr → (s.sp n).rsps = [] → 0 < (s.sp n).rdCr →
      ∃ s' d, exec (.read n w) s = .next s' ∧
        s'.out = .spCredit n false 1 :: .spRsp n 0 (rqTid w) 2 false (hallmark d) d :: s.out ∧ s'.pool = s.pool)

/-- R349, R350, R465, R467, R469: A FLUSH notes the writes of its port that have not ended, with fewer than four waiting,
and is answered once those writes have ended. SP_RST_N rising sets the link; falling clears the port's credits and
what it holds; SP_READY rises with the credits that SP_CFG gives; a response credit is counted, or sends the response
that waited for it, and is ignored while SP_READY is low. -/
def Obligations.PortControl : Prop :=
  (
    (∀ (s : State) (n : Nat) (w : BitVec 128), s.Canonical → s.PortTakes n → rqKind w = 3 → rqBad w = false →
      (s.sp n).held = [] → 0 < (s.sp n).reqCr → (s.sp n).flushes.length < 4 →
      ∃ s', exec (.flush n w) s = .next s' ∧ s'.out = .spCredit n false 1 :: s.out ∧
        s'.sp n = { s.sp n with flushes := (s.sp n).flushes ++ [{ tid := rqTid w, ids := s.openWrites n, dead := false }] } ∧
        (∀ m, m ≠ n → s'.sp m = s.sp m) ∧ s' = { s with sports := s'.sports, out := s'.out }) ∧
    (∀ (s : State) (n k : Nat) (f : FlushWait), s.Canonical → s.PortTakes n → (s.sp n).flushes[k]? = some f →
      f.dead = false → (∀ i ∈ s.openWrites n, i ∉ f.ids) → (s.sp n).held = [] → (s.sp n).rsps = [] → 0 < (s.sp n).rdCr →
      ∃ s', exec (.flushComplete n k) s = .next s' ∧ s'.out = .spRsp n 1 f.tid 0 false 0 0 :: s.out ∧
        s'.sp n = { s.sp n with flushes := (s.sp n).flushes.eraseIdx k, rdCr := (s.sp n).rdCr - 1 } ∧
        (∀ m, m ≠ n → s'.sp m = s.sp m) ∧ s' = { s with sports := s'.sports, out := s'.out })) ∧
  (
    ∀ (s : State) (n : Nat), s.Canonical → n < s.variant.ports →
      (∃ s', exec (.spRstNRise n) s = .next s' ∧ s'.sp n = { s.sp n with link := true } ∧
        (∀ m, m ≠ n → s'.sp m = s.sp m) ∧ s' = { s with sports := s'.sports }) ∧
      (∃ s', exec (.spRstNFall n) s = .next s' ∧
        s'.sp n = { SPort.init with flushes := (s.sp n).flushes.map fun f => { f with dead := true } } ∧
        (∀ m, m ≠ n → s'.sp m = s.sp m) ∧ s'.regs = s.regs ∧ s'.out = s.out) ∧
      ((s.sp n).ready = false → s.spUp n = true → s.en (.port n) = true → s.portsStopped = false → s.ghosts n = false →
        (s.sp n).held = [] → (s.sp n).beats = [] →
        let rq := clamp 1 32 (s.fld (spCfg n) 13 8)
        let wd := clamp 1 16 (s.fld (spCfg n) 20 16)
        ∃ s', exec (.spReady n) s = .next s' ∧ s'.sp n = { s.sp n with ready := true, reqCr := rq, wdCr := wd } ∧
          s'.out = .spCredit n true wd :: .spCredit n false rq :: s.out ∧ (∀ m, m ≠ n → s'.sp m = s.sp m) ∧
          s' = { s with sports := s'.sports, out := s'.out }) ∧
      (s.en (.port n) = true → (s.sp n).ready = false → exec (.rdCrd n) s = .next s) ∧
      (s.spUp n = true → (s.sp n).ready = true → (s.sp n).rdCr < 255 → (s.sp n).rsps = [] →
        ∃ s', exec (.rdCrd n) s = .next s' ∧ s'.sp n = { s.sp n with rdCr := (s.sp n).rdCr + 1 } ∧
          (∀ m, m ≠ n → s'.sp m = s.sp m) ∧ s' = { s with sports := s'.sports }) ∧
      (∀ r, s.spUp n = true → (s.sp n).ready = true → (s.sp n).rdCr = 0 → (s.sp n).rsps = [r] → r.kind ≠ 0 →
        r.stamp = none →
        ∃ s', exec (.rdCrd n) s = .next s' ∧ s'.sp n = { s.sp n with rsps := [] } ∧
          s'.out = .spRsp n r.kind r.tid r.status r.tmo r.hm r.data :: s.out ∧ (∀ m, m ≠ n → s'.sp m = s.sp m) ∧
          s' = { s with sports := s'.sports, out := s'.out }))

/-- R161, R163, R464: A permitted context command of a port is answered with the state of its context: SET_HEAD writes
CTX_HEAD, CLEAR of a HALTED context makes it IDLE, KICK of a context that is not IDLE is ignored, and APPEND to a
context that is not IDLE sets tail and generation. A command that is not permitted, ABORT among them, changes no
register or context and is answered with a decode error. -/
def Obligations.PortCommands : Prop :=
  ∀ (s : State) (n : Nat) (w : BitVec 128) (i : Instr), s.Canonical → s.PortTakes n → rqKind w = 4 → rqBad w = false →
    (s.sp n).held = [] → 0 < (s.sp n).reqCr → (s.sp n).rsps = [] → 0 < (s.sp n).rdCr → rqCtx w < s.variant.contexts →
    (i, rqCmd w) ∈ [(Instr.kick (.port n w), 3), (.abort (.port n w), 4), (.clear (.port n w), 5),
      (.append (.port n w), 6), (.setHead n w, 7)] →
    let c := rqCtx w
    let answered := fun (s0 : State) (status bad : Nat) (s' : State) =>
      s'.out = .spCredit n false 1 ::
        .spRsp n 2 (rqTid w) status false 0 (BitVec.ofNat 512 (bad + 2 * s'.ctxState c)) :: s0.out
    (s.mayCommand n c = false ∨ bitOf (s.reg (spCfg n)) 2 = false →
      ∃ s', exec i s = .next s' ∧ answered s 2 1 s' ∧ s'.regs = s.regs ∧ s'.ctxs = s.ctxs ∧ s'.threads = s.threads) ∧
    (s.mayCommand n c = true → bitOf (s.reg (spCfg n)) 2 = true →
      (i = .setHead n w → ∃ s', exec i s = .next s' ∧ answered s 0 0 s' ∧ s'.reg2 (ctxBase c + 0x10) = 64 * rqLine w ∧
        (∀ a, a ≠ ctxBase c + 0x10 → a ≠ ctxBase c + 0x14 → s'.reg a = s.reg a) ∧
        s' = { s with regs := s'.regs, sports := s'.sports, out := s'.out }) ∧
      (i = .clear (.port n w) → s.ctxState c = 5 → ∃ s', exec i s = .next s' ∧ answered s 0 0 s' ∧ s'.ctxState c = 1 ∧
        s'.fld (ctxBase c + 4) 15 8 = 0 ∧ s' = { s with regs := s'.regs, sports := s'.sports, out := s'.out }) ∧
      (i = .kick (.port n w) → s.ctxState c ≠ 1 → ∃ s', exec i s = .next s' ∧ answered s 0 1 s' ∧
        s'.flag (ctxBase c + 4) 23 = true ∧ s'.ctxState c = s.ctxState c ∧
        s' = { s with regs := s'.regs, sports := s'.sports, out := s'.out }) ∧
      (i = .append (.port n w) → s.ctxState c ≠ 1 → ∃ s', exec i s = .next s' ∧ answered s 0 0 s' ∧
        s'.reg2 (ctxBase c + 0x18) % 2 ^ 48 = 64 * rqLine w ∧ s'.tailGen c = rqGen w ∧
        s' = { s with regs := s'.regs, sports := s'.sports, out := s'.out }))

/-- R182, R183, R185: A packet for a READY or RESIDENT fast context whose queue has room and that no thread serves joins
its queue; one for a context that is neither is answered with not ready. A packet that has ended and owes no data gets
its end response. -/
def Obligations.FastPackets : Prop :=
  (∀ (s : State) (n : Nat) (w : BitVec 128) (b : Beat) (x : HeldBeat), s.Canonical → s.PortTakes n → rqKind w = 5 →
    rqBad w = false → (s.sp n).held = [] → 0 < (s.sp n).reqCr → (s.sp n).beats = [x] → x.beat = b → x.may = true →
    bitOf (s.reg (spCfg n)) 2 = true →
    bitsOf b.attr 7 2 = 0 → b.data.toNat < 2 ^ 256 →
    let d := BitVec.ofNat 256 b.data.toNat
    let c := bitsOf d 11 0
    bitsOf d 63 32 = 0 → bitsOf d 15 12 = 0 → c < s.variant.contexts → s.fastNow c = true →
    ((s.ctxState c = 2 ∨ s.ctxState c = 4) → s.runEnded c = false → (s.ctx c).queue.length < 4 → s.servant c = none →
      ∃ s', exec (.fastCommandPacket n w) s = .next s' ∧
        s'.ctx c = { s.ctx c with queue := (s.ctx c).queue ++ [{ sp := n, tag := bitsOf d 31 24, data := d, dead := false }] } ∧
        (∀ m, m ≠ c → s'.ctx m = s.ctx m) ∧ s'.out = .spCredit n true 1 :: .spCredit n false 1 :: s.out ∧
        s' = { s with ctxs := s'.ctxs, sports := s'.sports, out := s'.out }) ∧
    (s.ctxState c ≠ 2 → s.ctxState c ≠ 4 → (s.sp n).rsps = [] → 0 < (s.sp n).rdCr →
      ∃ s', exec (.fastCommandPacket n w) s = .next s' ∧ s'.ctxs = s.ctxs ∧
        s'.out = .spCredit n true 1 :: .spCredit n false 1 :: .spRsp n 4 (bitsOf d 31 24) 3 false 0 0 :: s.out)) ∧
  (∀ (s : State) (c : Nat) (e : Packet × Nat), s.Canonical →
    (s.ctx c).ending.find? (fun e => !s.owesData e.1) = some e → e.1.dead = false → s.spUp e.1.sp = true →
    (s.sp e.1.sp).rsps = [] → 0 < (s.sp e.1.sp).rdCr →
    ∃ s', exec (.packetEnd c) s = .next s' ∧ s'.ctx c = { s.ctx c with ending := (s.ctx c).ending.erase e } ∧
      (∀ m, m ≠ c → s'.ctx m = s.ctx m) ∧ s'.out = .spRsp e.1.sp 4 e.1.tag e.2 false 0 0 :: s.out ∧
      s'.sp e.1.sp = { s.sp e.1.sp with rdCr := (s.sp e.1.sp).rdCr - 1 } ∧
      s' = { s with ctxs := s'.ctxs, sports := s'.sports, out := s'.out })

/-- R101, R103, R104, R105, R109, R110, R111: PACK, UNPK and BLK2D that pass their checks start a job over the unit or the
rectangle that they name. PACK locks its buffers; UNPK, and BLK2D into line buffers, mark theirs pending; PACK and
UNPK wait for the pipe, and BLK2D goes on. -/
def Obligations.VideoOperations : Prop :=
  ∀ (s : State) (t : ThreadRef) (w : W32), s.Canonical → s.Stands t w → s.Fed t → t.kind = .stream →
    let th := s.thr t
    let g := th.getG (mA w)
    let words := s.frameWords (unitRec g)
    let f := Fr.ofWords words
    let ch := unitPlane g == 1
    let starts := fun (c : Instr) (th' : Thread) (kind : JobKind) (units : List Machine.PUnit) => Does c s fun s' =>
      s'.thr t = th' ∧ OtherThreads t s s' ∧ s'.scratch = s.scratch ∧ s'.ctxs = s.ctxs ∧ s'.clasps = s.clasps ∧
      ∃ j ∈ s'.jobs, j.id = s.nextId + 1 ∧ j.t = t ∧ j.kind = kind ∧ j.frame = words ∧ j.lb = mLb w ∧ j.units = units
    let unitOk := unitClean g = true ∧ unitPlane g < 2 ∧ unitRec g < s.variant.frames ∧ f.ok ch = true ∧
      unitRow g < f.rows ch ∧ unitCol g < f.cols ∧ mCnt w = f.slot ∧ mLb w + mCnt w ≤ 16
    let free := fun (write : Bool) => ∀ k < mCnt w, (th.buf (mLb w + k)).touch write = .ok
    (opOf w = 0x2B → mMode w < 256 → mMode w / 2 % 8 = 0 → unitOk → f.comp = true → free false →
      (∀ k < mCnt w, (th.buf (mLb w + k)).hmValid = true →
        hallmark (th.buf (mLb w + k)).data = (th.buf (mLb w + k)).hm) →
      starts (.pack t) ((th.lockBufs (mLb w) (mCnt w) true).waiting (.pipe (s.nextId + 1)))
        (.pack (mMode w % 2 == 1) ((List.range (mCnt w)).map fun k => (th.buf (mLb w + k)).data)
          ((List.range (mCnt w)).any fun k => (th.buf (mLb w + k)).poison))
        [unitOf g ch 2 0]) ∧
    (opOf w = 0x2C → mMode w = 0 → unitOk → free true →
      starts (.unpk t) ((th.pendBufs (mLb w) (mCnt w)).waiting (.pipe (s.nextId + 1))) .unpk
        [unitOf g ch (if f.comp then 0 else 1) 0]) ∧
    (let h := th.getG (mA w + 1)
     let x := signed 16 (bitsOf g 31 16)
     let y := signed 16 (bitsOf g 47 32)
     let width := bitsOf h 7 0 + 1
     let height := bitsOf h 15 8 + 1
     let layout := mMode w / 4 % 4
     let us := blkUnits f (unitPlane g) width height x y (if f.comp then 0 else 1)
     opOf w = 0x28 → mMode w < 16 → layout < 2 → mA w ≠ 31 → unitClean g = true → unitPlane g ≠ 3 → width ≤ 128 →
     height ≤ 128 → bitsOf h 63 16 = 0 → unitRec g < s.variant.frames → f.ok (unitPlane g != 0) = true → us ≠ [] →
     (mMode w % 4 = 0 → width * height * container f layout ≤ mCnt w * 64 → mLb w + mCnt w ≤ 16 → free true →
       starts (.blk2d t) (th.pendBufs (mLb w) (mCnt w)).next
         (.blk2d x y (unitPlane g) width height layout none) us) ∧
     (∀ p, mMode w % 4 = 1 → mLb w = 0 → bitsOf w 16 11 = 0 → th.packet = some p →
       starts (.blk2d t) th.next (.blk2d x y (unitPlane g) width height layout (some (p.sp, p.tag))) us))

/-- R78, R94, R158, R176, R207, R210, R292: A line that has come back for a line buffer fills it, with its Hallmark and
poison mark, and is counted in LINES of the thread's context unless its run was aborted, and in the misses and the
delay of its charm where it is good. When a PACK job ends the unit's sectors are written and its thread goes on; its
header entry follows when they have met FENCE.P; an expanded unit fills the buffers of its UNPK, whose thread goes on. -/
def Obligations.ReturnedLinesAndPipes : Prop :=
  (
    ∀ (s : State) (t : ThreadRef) (k i : Nat) (a : Arrival), s.Canonical → s.running = true →
      (s.arrivals.filter fun x => x.src == Src.thread t && (match x.dest with | .desc _ => false | _ => true))[k]? = some a →
      a.dest = .buf t i → a.tmo = false →
      (a.status = 0 → hallmark a.data = a.hm) →
      let filled : LineBuf := { data := a.data, hm := hallmark a.data, hmValid := true, poison := a.poison,
                                pending := false, locked := false, err := errOf a.status }
      let s1 := if a.status = 0 ∧ a.poison = false then s.readDone a.stamp else s
      Does (.lineDataArrival t k) s fun s' => s'.thr t = (s.thr t).setBuf i filled ∧ OtherThreads t s s' ∧
        s' = { s1 with threads := s'.threads, regs := s'.regs, arrivals := s.arrivals.erase a } ∧
        (∀ c, (s.thr t).ctx = some c → c < 8192 → (s.ctx c).outcome ≠ some 2 →
          s'.fld (ctxBase c + 0x38) 15 0 = min 65535 (s.fld (ctxBase c + 0x38) 15 0 + 1) ∧
          ∀ x, x ≠ ctxBase c + 0x38 → s'.reg x = s1.reg x) ∧
        ((∀ c, (s.thr t).ctx = some c → (s.ctx c).outcome = some 2) → s'.regs = s1.regs)) ∧
  (
    ∀ (s : State) (cl k : Nat) (j : Job), s.Canonical → s.running = true →
      (∀ x ∈ s.jobs, x.cl = cl → x.kind.afterPipe = false → x.want = []) →
      let u := j.units.headD (unitOf 0 false 3 0)
      let ends := fun (post : State → Prop) => Does (.pipeJobDone cl k) s fun s' =>
        post s' ∧ OtherThreads j.t s s' ∧ s'.scratch = s.scratch ∧ s'.ctxs = s.ctxs ∧ s'.clasps = s.clasps
      (∀ force input bad, (s.pipeWork cl)[k]? = some (.pack j) → j.kind = .pack force input bad →
        let r := packUnit j.fr u.chroma force bad (linesNum input)
        let line := j.fr.slotLine u.chroma u.row u.col
        s.outstanding j.t + r.2.length ≤ 32 → s.pool.length + r.2.length ≤ 512 →
        (∀ i < r.2.length, s.mayEnter (Req.mk0 (.thread j.t) .wr (line + i)) = true) →
        ends fun s' => s'.thr j.t = ((s.thr j.t).lockBufs j.lb j.cnt false).resumed ∧
          s'.pool.map Req.asks = s.pool.map Req.asks ++ (List.range r.2.length).map (fun i =>
            (.thread j.t, .wr, line + i, .none, r.2.getD i 0, bad)) ∧
          ∃ x ∈ s'.jobs, x.id = j.id ∧ x.kind = .packHeader r.1) ∧
      (∀ entry, (s.pipeWork cl)[k]? = some (.pack j) → j.kind = .packHeader entry →
        s.admitted (fun r => j.want.contains r.id) = true →
        let idx := j.fr.hdrIdx u.row u.col
        s.opRoom j.t (Req.mk0 (.thread j.t) (.merge (8 * idx) 8) (j.fr.hdrLine u.chroma u.row u.col)) = true →
        ends fun s' => s'.threads = s.threads ∧ s'.jobs = s.jobs.filter (fun x => x.id != j.id) ∧
          s'.pool.map Req.asks = s.pool.map Req.asks ++ [(.thread j.t, .merge (8 * idx) 8,
            j.fr.hdrLine u.chroma u.row u.col, .none, setLineWord 0 idx entry, false)]) ∧
      (∀ u, (s.pipeWork cl)[k]? = some (.unit j 0) → j.kind = .unpk → j.units = [u] → j.want = [] →
        j.got.length = j.sent → j.err = 0 →
        let str := linesNum ((sectorsOf j.fr u).map j.lineOf)
        let r := if j.fr.comp then expand j.fr u.chroma u.entry str else (rawSamples j.fr.d (j.fr.samples u.chroma) str, false)
        r.2 = false →
        ends fun s' => s'.jobs = s.jobs.filter (fun x => x.id != j.id) ∧
          s'.thr j.t = ((s.thr j.t).fillBufs j.lb
            (linesOf j.cnt (rawBytes (j.fr.bytes u.chroma) (rawOf j.fr.d r.1))) j.bad 0).resumed))

/-- R125, R126, R127, R128, R130, R246, R398: DCMD, MRW, MRR, COMMIT and TRN.SWEEP with operands that they accept queue a
maintenance request and wait for it; TWAIT waits for its ck, or for a multiple of a timing parameter, and TWAIT_END
ends the wait. -/
def Obligations.SequencerWaits : Prop :=
  (∀ (s : State) (t : ThreadRef) (w : W32), s.Canonical → s.Stands t w → s.Fed t → t.kind = .seq →
    let x := (s.thr t).getG (fA w)
    let y := (s.thr t).getG (fB w)
    let ready := s.reportsReady t.unit
    (opOf w = 0x3A → fD w = 0 → fB w = 0 → fFn w < 8 → fFn w % 4 < 2 → bitsOf x 63 29 = 0 → (fFn w < 4 ∨ ready = false) →
      AsksMaint (.dcmd t) s t (.dcmd (BitVec.ofNat 29 x.toNat) (fFn w % 4) (decide (4 ≤ fFn w)))) ∧
    (opOf w = 0x3B → fD w = 0 → fFn w < 128 → fFn w % 4 < 2 → (fFn w / 8 < 10 ∨ fFn w / 8 = 15) →
      AsksMaint (.mrw t) s t (.mrw (bitsOf x 7 0) (bitsOf y 7 0) (fFn w % 4) (fFn w / 4 % 2 == 1) (fFn w / 8))) ∧
    (opOf w = 0x3C → fB w = 0 → fFn w < 8 → fFn w % 4 < 2 →
      AsksMaint (.mrr t) s t (.mrr (fD w) (bitsOf x 7 0) (fFn w % 4) (decide (4 ≤ fFn w)))) ∧
    (opOf w = 0x3E → fFn w = 0 → fD w = 0 → tgKnob x = 0xF0 → bitsOf x 63 17 = 0 → (s.chan t.unit).blocked = false →
      AsksMaint (.commit t) s t (.commit (tgRank x))) ∧
    (opOf w = 0x3E → fFn w % 8 = 1 → fFn w / 8 < 7 → s.targetBad t.unit x = false → bitsOf y 63 30 = 0 →
      bitsOf y 15 0 ≤ knobMax (tgKnob x) →
      (ready = false ∨ (5 ≤ tgKnob x ∧ tgKnob x ≤ 9 ∧ (fFn w / 8 = 3 ∨ fFn w / 8 = 4))) →
      AsksMaint (.trnSweep t) s t (.sweep (fD w) (tgKnob x) (tgLane x) (tgRank x) (fFn w / 8) (bitsOf y 15 0)
        (bitsOf y 23 16) (if bitsOf y 29 24 = 0 then 64 else bitsOf y 29 24) 0 0)) ∧
    (opOf w = 0x3D → fD w = 0 → fA w = 0 → (2 ^ 15 ≤ fImm w ∨ fImm w % 256 ≤ 0x1A) →
      let ck := if 2 ^ 15 ≤ fImm w then fImm w % 2 ^ 15
        else max 1 (fImm w / 256) * s.fld (scReg t.unit (0x100 + 4 * (fImm w % 256))) 11 0
      Does (.twait t) s fun s' => s'.thr t = (s.thr t).waiting (.twait ck) ∧ OtherThreads t s s' ∧
        s' = { s with threads := s'.threads })) ∧
  (∀ (s : State) (t : ThreadRef) (ck : Nat), s.Canonical → s.Waits t (.twait ck) →
    Does (.twaitEnd t) s fun s' => s'.thr t = (s.thr t).resumed ∧ OtherThreads t s s' ∧ s' = { s with threads := s'.threads })

/-- R129, R130, R396, R397, R398, R405, R408, R413: TRN.SET writes the shadow of a knob, and with fn[2] = 1 its live value
too; TRN.EYE returns a middle and the width of the widest run of a bitmap and the number of runs (which of several
middles is free, log entry 53); RESTORE, REPORT, READY, SPARE and CLEAR have the effects of their control knobs. -/
def Obligations.Knobs : Prop :=
  ∀ (s : State) (t : ThreadRef) (w : W32), s.Canonical → s.Stands t w → s.Fed t → t.kind = .seq → opOf w = 0x3E →
    let x := (s.thr t).getG (fA w)
    let y := (s.thr t).getG (fB w)
    let sc := t.unit
    let c := s.chan sc
    let did := fun (i : Instr) (post : State → Prop) => Does i s fun s' =>
      s'.thr t = (s.thr t).next ∧ OtherThreads t s s' ∧ OtherChans sc s s' ∧ post s'
    let knobsOnly := fun (s' : State) => s' = { s with threads := s'.threads, live := s'.live, shadow := s'.shadow }
    let chanOnly := fun (s' : State) => (∀ a, a ≠ mbox12 sc → s'.reg a = s.reg a) ∧
      s' = { s with threads := s'.threads, chans := s'.chans, regs := s'.regs }
    let ctl := fun (k : Nat) => fFn w = 0 ∧ fD w = 0 ∧ tgKnob x = k ∧ bitsOf x 63 17 = 0
    (fFn w % 4 = 0 → fFn w < 8 → fD w = 0 → controlKnob (tgKnob x) = false → s.targetBad sc x = false →
      y.toNat ≤ knobMax (tgKnob x) → (fFn w = 0 ∨ s.reportsReady sc = false) →
      let keys := s.targetKeys sc (tgKnob x) (tgLane x) (tgRank x)
      did (.trnSet t) fun s' => knobsOnly s' ∧
        (∀ k, knobAt s'.shadow k = if k ∈ keys then y.toNat else knobAt s.shadow k) ∧
        (∀ k, knobAt s'.live k = if k ∈ keys ∧ fFn w = 4 then y.toNat else knobAt s.live k)) ∧
    (fFn w = 2 → fB w = 0 →
      let runs := eyeRuns x
      ∃ e ∈ eyeCentres runs, Does (.trnEye t) s fun s' => OtherThreads t s s' ∧
        s' = { s with threads := s'.threads, free := s.free + 1 } ∧
        s'.thr t = ((s.thr t).setG (fD w)
          (BitVec.ofNat 64 (e + 256 * runs.foldl (fun a r => max a r.2) 0 + 65536 * runs.length))).next) ∧
    (ctl 0xF1 → did (.restore t) fun s' => knobsOnly s' ∧ s'.live = s.live ∧
      ∀ k, knobAt s'.shadow k = if k ∈ s.rankKeys sc (tgRank x) then knobAt s.live k else knobAt s.shadow k) ∧
    (ctl 0xF2 → y = 0 → did (.report t) fun s' => chanOnly s' ∧
      s'.chan sc = { c with fails := 0, blocked := false, lastReason := 0 }) ∧
    (ctl 0xF2 → 0 < y.toNat → y.toNat < 0x40 → s.Mild (.chan sc) 6 → s.Mild (.chan sc) 8 →
      did (.report t) fun s' => s'.flag (faultBase (.chan sc)) 6 = true ∧
        s'.chan sc = { c with fails := min 15 (c.fails + 1), blocked := true, lastReason := y.toNat } ∧
        s'.live = s.live ∧ s'.pool = s.pool) ∧
    (ctl 0xF3 → y = 1 → s.en (.chan sc) = true → c.ready = false → c.blocked = false → c.clearing = false →
      c.isolated = false → did (.ready t) fun s' => (s'.chan sc).ready = true ∧
        (s.populated sc = true → c.spare = 0 → ∀ r ∈ s.ranksOf sc, (c.rank r).selfRefresh = false →
          ((s'.chan sc).rank r).armed = true) ∧ s'.scratch = s.scratch ∧ s'.pool = s.pool) ∧
    (ctl 0xF3 → y = 0 → s.disabled (.chan sc) = true → did (.readyWithdraw t) fun s' => chanOnly s' ∧
      (s'.chan sc).ready = false ∧ (s'.chan sc).cleared = false ∧ (s'.chan sc).fails = 0 ∧ (s'.chan sc).spare = 0) ∧
    (ctl 0xF4 → y = 1 → s.reportsReady sc = true → s.twoRanks sc = false → c.spare = 0 →
      did (.spare t) fun s' => chanOnly s' ∧ (s'.chan sc).spare = 1 ∧ (s'.chan sc).copyPtr = 0 ∧
        ((c.rank 1).selfRefresh = false → ((s'.chan sc).rank 1).armed = true)) ∧
    (ctl 0xF5 → y = 1 → s.en (.chan sc) = true → c.ready = false → s.populated sc = true →
      did (.knobClear t) fun s' => chanOnly s' ∧ (s'.chan sc).clearing = true ∧ (s'.chan sc).clearPtr = 0)

/-- R125, R127, R128, R130, R246, R399, R400, R401, R405, R590, R591: A maintenance grant issues the DCMD, MRW or MRR at
the head of the sequencer's requests, and its thread goes on, MRR with the data read; a COMMIT makes the shadow values
of a rank live; without a request the grant advances CLEAR by one line. A sweep step tries one value, which passes
where the samples of every lane are what the pattern expects, and adds its result to the bitmap; the last one returns
the bitmap. -/
def Obligations.MaintenanceGrants : Prop :=
  ∀ (s : State) (sc : Nat) (mr : BitVec 80), s.Canonical → s.MaintHas sc →
    let c := s.chan sc
    let done := fun (i : Instr) (t : ThreadRef) (rest : List Maint) (th : Thread) (post : State → Prop) =>
      Does i s fun s' => (s'.chan sc).maint = rest ∧ (s'.chan sc).run = none ∧ s'.thr t = th.resumed ∧
        OtherThreads t s s' ∧ OtherChans sc s s' ∧ post s'
    (∀ t bits cs raw rest, c.maint = { t := t, cmd := .dcmd bits cs raw, granted := false } :: rest →
      (c.rank cs).powerDown = false → (raw = true ∨ c.caIllegal cs (caDecode bits) = false) →
      done (.maintenanceGrant sc mr) t rest (s.thr t) fun s' => s'.out = sent sc (.ca cs bits) :: s.out ∧
        s' = { s.driven s' sc with threads := s'.threads }) ∧
    (∀ t a v cs dev rest, c.maint = { t := t, cmd := .mrw a v cs false dev, granted := false } :: rest →
      (c.rank cs).powerDown = false →
      done (.maintenanceGrant sc mr) t rest (s.thr t) fun s' => s'.out = sent sc (.mrw cs a v dev) :: s.out ∧
        s' = { s.driven s' sc with threads := s'.threads }) ∧
    (∀ t d a cs high rest, c.maint = { t := t, cmd := .mrr d a cs high, granted := false } :: rest →
      (c.rank cs).powerDown = false →
      done (.maintenanceGrant sc mr) t rest ((s.thr t).setG d
          (BitVec.ofNat 64 (if high then mr.toNat / 2 ^ 64 else mr.toNat % 2 ^ 64))) fun s' =>
        s'.out = sent sc (.mrr cs a) :: s.out ∧ s' = { s.driven s' sc with threads := s'.threads }) ∧
    (∀ t r rest, c.maint = { t := t, cmd := .commit r, granted := false } :: rest →
      done (.maintenanceGrant sc mr) t rest (s.thr t) fun s' =>
        (∀ k, knobAt s'.live k = if k ∈ s.rankKeys sc r then knobAt s.shadow k else knobAt s.live k) ∧
        s' = { s with threads := s'.threads, chans := s'.chans, live := s'.live }) ∧
    (c.maint = [] → c.clearing = true → c.clearPtr < s.clearLines sc →
      Does (.maintenanceGrant sc mr) s fun s' => (s'.chan sc).clearPtr = c.clearPtr + 1 ∧ (s'.chan sc).run = none ∧
        OtherChans sc s s' ∧ s' = s.driven s' sc) ∧
    (∀ t d knob lane rank pat start step count n result rest samples,
      c.maint = { t := t, cmd := .sweep d knob lane rank pat start step count n result, granted := true } :: rest →
      let want := (s.knobLanes sc knob).filter fun l => lane = 255 ∨ l = lane
      let result' := if want.all (s.lanePasses sc pat n rank samples) then result ||| BitVec.ofNat 64 (2 ^ n) else result
      let tried := fun (s' : State) => ∀ k, knobAt s'.shadow k =
        if k ∈ s.targetKeys sc knob lane (if knobPerRank knob then rank else 0) then start + n * step else knobAt s.shadow k
      (count ≤ n + 1 ∨ knobMax knob < start + (n + 1) * step →
        done (.sweepStep sc samples) t rest ((s.thr t).setG d result') fun s' => tried s' ∧ s'.live = s.live ∧
          s'.regs = s.regs) ∧
      (n + 1 < count → start + (n + 1) * step ≤ knobMax knob →
        Does (.sweepStep sc samples) s fun s' => tried s' ∧ s'.live = s.live ∧ s'.threads = s.threads ∧ s'.regs = s.regs ∧
          (s'.chan sc).maint = (⟨t, .sweep d knob lane rank pat start step count (n + 1) result', false⟩ : Maint) :: rest))

/-- R12, R283, R300, R314, R315, R326, R500, R501: The port arbiter's choice leaves the pool and enters home order, with
the next place in it, and waits there while its line is blocked; a read whose line is free, and is found in no cache,
takes a tracker, keeps the place that the address map gives its line, and goes to its sub-channel's queue. A
transaction that has ended frees its line, and the filter holds for it what it leaves; a whole-line write of a ring
agent is answered. A request held for a sub-channel that takes none is answered after BRINGUP_HOLD: a port's read with
not ready (its data bytes are free, log entry 71), a port's write by the port's not-ready source. -/
def Obligations.HomeTransactions : Prop :=
  (
    ∀ (s : State) (r : Req), s.Canonical → s.homeReady = true → s.choose = some r → s.homeQ = [] → s.NoneHeld →
      let left := s.pool.filter fun x => x.id != r.id
      let entered := { r with seq := s.nextId + 1 }
      (s.blocked r.line = true → Does .portArbiterAdmit s fun s' => s'.homeQ = [entered] ∧ s'.pool = left ∧ s'.trks = s.trks ∧
        s'.threads = s.threads ∧ s'.out = s.out) ∧
      (∀ p, s.trks = [] → s.moves = [] → s.walks = [] → s.tagHeld r = false → s.trkRoom r = true →
        setIndex r.line ∉ s.tagBad → r.kind = .rd → s.isSealed r.line = false → s.sf r.line = none →
        s.lkFind r.line = none → s.seedReads r.line = true → s.place r.line = some p → s.scOpen p.sc = true →
        Does .portArbiterAdmit s fun s' => s'.homeQ = [] ∧ s'.pool = left ∧ s'.threads = s.threads ∧ s'.out = s.out ∧
          ∃ k, s'.trks = [k] ∧ k.line = r.line ∧ k.req = entered ∧ k.stage = .queue ∧ k.spot = some p ∧ k.wr = false)) ∧
  (
    ∀ (s : State) (ln : Nat) (t : Trk), s.Canonical → s.running = true → s.HomeClear → s.trk ln = some t → t.stage = .ended →
      t.snpTmo = false → t.gone = false → (t.filt = .keep → t.claimed = false) →
      (t.forced = true → ∀ k ∈ s.trks, k.victim ≠ some ln) →
      Does (.transactionEnd ln) s fun s' => s'.trk ln = none ∧ s'.homeQ = [] ∧ s'.threads = s.threads ∧ s'.regs = s.regs ∧
        s'.sf ln = (match t.filt with
          | .keep => s.sf ln
          | .clear => none
          | .sh => some { line := ln, sum := 0, agent := 0 }
          | .fw x => some { line := ln, sum := 1, agent := x }
          | .ex x => some { line := ln, sum := 2, agent := x }) ∧
        (∀ l, l ≠ ln → s'.sf l = s.sf l) ∧
        (∀ st cw x txn, t.req.kind = .wrFull → t.req.src = .agent st cw x → t.req.dest = .ring txn → s'.out =
          .flit st (!cw) { hdr := ({ Hdr.plain 0x42 (s.nodeId st) x txn ln with err := errCode t.err false }).word,
                           payload := 0 } :: s.out)) ∧
  (
    ∀ (s : State) (ln us n : Nat) (t : Trk), s.Canonical → s.running = true → s.trk ln = some t → t.stage = .notReady us →
      t.gone = false → t.req.src = .port n →
      (∀ tid, t.wr = false → t.req.kind = .rd → t.req.dest = .port tid → s.spUp n = true → (s.sp n).rsps = [] →
        0 < (s.sp n).rdCr → Does (.bringupHold ln) s fun s' =>
          (∃ d, s'.out = .spRsp n 0 tid 3 false (hallmark d) d :: s.out) ∧
          (∃ k, s'.trk ln = some k ∧ k.stage = .ended ∧ k.req = t.req) ∧ s'.threads = s.threads ∧ s'.pool = s.pool) ∧
      (t.wr = true → t.req.kind = .wr → t.req.dest = .none → t.wb = none → t.grant = 0 → s.Mild (.port n) 4 →
        Does (.bringupHold ln) s fun s' => Noted s s' (.port n) 4 [] ∧
          s'.trk ln = some { t with err := 3, stage := .ended } ∧ s'.threads = s.threads ∧ s'.out = s.out))

/-- R14, R302, R316, R330, R332, R472: A request flit enters the pool as the request of its agent, with the charm that its
stop holds for the agent, poisoned where its payload does not match its Hallmark; it waits in the attach slice of its
stop while credits are stopped or others wait there. A write-back and an eviction notice enter home order at once:
they wait while their line is blocked, and take a tracker when the filter holds their agent as the line's exclusive
holder. -/
def Obligations.RingRequests : Prop :=
  ∀ (s : State) (r : RingIn), s.Canonical → s.Mild (.stop r.stop) 1 →
    let h := Hdr.ofWord r.flit.hdr
    let bad := typePv h.type && s.flag (0x6400 + 0x200 * r.stop) 8 && decide ((hallmark r.flit.payload).toNat ≠ h.hm)
    let asked := fun (kind : ReqKind) =>
      (Src.agent r.stop r.cw h.src, kind, h.ladr, Dest.ring h.txn, r.flit.payload, h.poison || bad)
    let slice := fun (s : State) => (s.rs r.stop).slice
    let enters := fun (c : Instr) (code : Nat) (kind : ReqKind) => s.Receives r code →
      let may := slice s = [] ∧ s.mayEnter (Req.mk0 (.agent r.stop r.cw h.src) kind h.ladr) = true
      Does c s fun s' => s'.homeQ = s.homeQ ∧ s'.trks = s.trks ∧ s'.threads = s.threads ∧ s'.out = s.out ∧
        (may → s'.pool.map Req.asks = s.pool.map Req.asks ++ [asked kind] ∧ slice s' = [] ∧
          ∀ q ∈ s'.pool.getLast?, q.stamp.charm = s.ringCharm r.stop h.src) ∧
        (¬may → s'.pool = s.pool ∧ (slice s').map Req.asks = (slice s).map Req.asks ++ [asked kind])
    let waits := fun (c : Instr) (code : Nat) (kind : ReqKind) => s.Receives r code → s.homeQ = [] →
      s.blocked h.ladr = true → Does c s fun s' => s'.homeQ.map Req.asks = [asked kind] ∧ s'.trks = s.trks ∧
        s'.pool = s.pool ∧ s'.threads = s.threads ∧ s'.out = s.out
    let takes := fun (c : Instr) (code : Nat) (kind : ReqKind) (stage : Stage) => s.Receives r code → s.homeQ = [] →
      s.homeWorks = true → s.trks = [] → s.moves = [] → s.walks = [] → s.isSealed h.ladr = false →
      s.sf h.ladr = some { line := h.ladr, sum := 2, agent := h.src } →
      Does c s fun s' => s'.homeQ = [] ∧ s'.pool = s.pool ∧ s'.threads = s.threads ∧
        ∃ k, s'.trks = [k] ∧ k.req.asks = asked kind ∧ k.filt = .clear ∧ k.stage = stage
    enters (.rdS r) 0x01 .rdS ∧ enters (.rdU r) 0x02 .rdU ∧ enters (.upg r) 0x03 .upg ∧ enters (.rdNc r) 0x04 .rdNc ∧
      enters (.wrFull r) 0x0A .wrFull ∧ enters (.wrStash r) 0x0B (.stash (h.op % 64)) ∧
      enters (.atom r) 0x0C (.atom h.op h.offset) ∧ waits (.wrBack r) 0x08 .wrBack ∧
      waits (.evictClean r) 0x09 .evict ∧ takes (.evictClean r) 0x09 .evict .ended ∧
      (∀ p, s.place h.ladr = some p → s.scOpen p.sc = true → s.seedWrite h.ladr = (.go, s) →
        takes (.wrBack r) 0x08 .wrBack .queue)

/-- R304, R314, R317, R318, R320, R321, R327, R330, R589: CMP_ACK ends the grant that it acknowledges and holds its line,
and one that matches no open grant changes nothing; DAT_WB brings a snoop's data; an accepted stash ends; a snoop that
returns with a forward grants the requester its line; one that times out answers a port's read poisoned, with the
timeout qualifier (its data bytes are free, log entry 71); the end of a hold lets the snoop leave. DAT_FWD to the
block is recorded as malformed. -/
def Obligations.RingAnswers : Prop :=
  (∀ (s : State) (r : RingIn) (t : Trk), s.Canonical →
    let h := Hdr.ofWord r.flit.hdr
    s.trk h.ladr = some t →
    (s.Receives r 0x13 → s.HomeClear → reqAgent t.req = h.src → t.req.dest = .ring h.txn → t.grant ≠ 0 →
      t.answered = true → t.gone = false → t.forced = false → t.stage = .ack → Does (.cmpAck r) s fun s' => s'.trk h.ladr = none ∧ h.ladr ∈ s'.heldLines ∧
        (∀ x, t.filt = .ex x → t.snpTmo = false →
          s'.sf h.ladr = some { line := h.ladr, sum := 2, agent := x }) ∧
        s'.threads = s.threads ∧ s'.pool = s.pool) ∧
    (s.Receives r 0x13 → (reqAgent t.req ≠ h.src ∨ t.req.dest ≠ .ring h.txn ∨ t.grant = 0 ∨ t.answered = false) →
      Does (.cmpAck r) s fun s' => s' = s) ∧
    (∀ k, s.Receives r 0x31 → s.Mild (.stop r.stop) 1 → t.stage = .snoop k → t.num = h.txn → t.wb = none →
      t.snpBack = false →
      let bad := s.flag (0x6400 + 0x200 * r.stop) 8 && decide ((hallmark r.flit.payload).toNat ≠ h.hm)
      Does (.datWb r) s fun s' => s'.trk h.ladr = some { t with wb := some (r.flit.payload, h.poison || bad) } ∧
        s'.out = s.out ∧ s'.threads = s.threads ∧ s'.pool = s.pool) ∧
    (s.Receives r 0x32 → t.stage = .stash → t.num = h.txn → t.req.kind = .stash h.src → h.op = 1 →
      Does (.rspStash r) s fun s' => s'.trk h.ladr = some { t with stage := .ended } ∧ h.ladr ∈ s'.heldLines ∧
        s' = { s with trks := s'.trks, heldLines := s'.heldLines })) ∧
  (∀ (s : State) (ln k : Nat) (t : Trk), s.Canonical → s.running = true → s.trk ln = some t →
    (∀ st cw x txn bits, t.stage = .snoop k → t.req.kind = .rdU → t.req.src = .agent st cw x → t.req.dest = .ring txn →
      t.gone = false → t.grant ≠ 0 → bitOf bits 1 = true → bitOf bits 2 = false →
      Does (.snoopReturn ln bits) s fun s' => s'.out = .flit st (!cw)
          { hdr := ({ Hdr.plain 0x41 (s.nodeId st) x txn ln with state := t.grant, op := 1 + 2 * b2n t.far }).word,
            payload := 0 } :: s.out ∧
        (∃ u, s'.trk ln = some u ∧ u.stage = .ack ∧ u.req = t.req) ∧
        s' = { s with trks := s'.trks, out := s'.out }) ∧
    (∀ n tid, t.stage = .snoop k → t.req.kind = .rd → t.req.src = .port n → t.req.dest = .port tid → t.gone = false →
      s.Mild .home 0 → s.spUp n = true → (s.sp n).rsps = [] → 0 < (s.sp n).rdCr →
      Does (.snoopTimeout ln) s fun s' => s'.flag (faultBase .home) 0 = true ∧
        (∃ d, s'.out = .spRsp n 0 tid 1 true (hallmark d) d :: s.out) ∧
        (∃ u, s'.trk ln = some u ∧ u.stage = .ended ∧ u.snpTmo = true) ∧ s'.threads = s.threads ∧ s'.pool = s.pool) ∧
    (t.stage = .hold k → Does (.holdEnd ln) s fun s' => s'.out = .flit t.stop true
          { hdr := ({ Hdr.plain k (s.nodeId t.stop) 0 t.num ln with bcast := true, op := s.snoopFor t }).word,
            payload := 0 } :: s.out ∧
        (∃ u, s'.trk ln = some u ∧ u.stage = .snoop k ∧ u.req = t.req) ∧ ln ∉ s'.heldLines ∧
        s' = { s with trks := s'.trks, heldLines := s'.heldLines, out := s'.out })) ∧
  (∀ (s : State) (r : RingIn), s.Canonical → (s.rs r.stop).inReset = false → s.attached r.stop = true →
    (Hdr.ofWord r.flit.hdr).dst = s.nodeId r.stop → (Hdr.ofWord r.flit.hdr).type = 0x30 → s.pwr = .stable →
    s.pstate = 0 → s.Mild (.stop r.stop) 0 →
    Does (.datFwd r) s fun s' => Noted s s' (.stop r.stop) 0 [] ∧ s' = { s with regs := s'.regs, hist := s'.hist })

/-- R334, R335, R351, R353, R354, R358: Clasp messages of ring agents take, refuse, queue and release Clasps; a Clasp held
too long is BROKEN and recorded, and BREAK breaks a Clasp; PRED_CLR empties the predictor; an agent reset begins a
walk, which WALK_AGENT names, and drops the agent's waiting acquires and the reads among its requests in home order,
and the walk's end, with no poisoned loss and no Clasp of the agent, leaves no line held by it. -/
def Obligations.HomeCommands : Prop :=
  (∀ (s : State) (r : RingIn), s.Canonical →
    let h := Hdr.ofWord r.flit.hdr
    let c := s.clasp h.op
    let answer := fun (result : Nat) => Out.flit r.stop (!r.cw)
      { hdr := ({ Hdr.plain 0x43 (s.nodeId r.stop) h.src h.txn 0 with op := h.op, state := result }).word, payload := 0 }
    let others := fun (s' : State) => (∀ m, m ≠ h.op → s'.clasp m = s.clasp m)
    (s.Receives r 0x10 → c.st ≠ .held → Does (.clspAcqMsg r) s fun s' =>
      s'.clasp h.op = { st := .held, owner := h.src, repair := decide (c.st = .broken), limit := s.holdTo h.op,
                        since := s.tbase } ∧ others s' ∧
      s' = { s with clasps := s'.clasps, out := answer (if c.st = .broken then 1 else 0) :: s.out }) ∧
    (s.Receives r 0x10 → c.st = .held → h.state = 1 →
      Does (.clspAcqMsg r) s fun s' => s' = { s with out := answer 2 :: s.out }) ∧
    (s.Receives r 0x10 → c.st = .held → h.state = 0 → s.claspWaits.length < 128 →
      Does (.clspAcqMsg r) s fun s' => s' = { s with claspWaits := s.claspWaits ++
        [{ clasp := h.op, owner := h.src, ring := some (r.stop, r.cw, h.txn) }] }) ∧
    (s.Receives r 0x11 → c.st = .held → c.owner = h.src → (∀ w ∈ s.claspWaits, w.clasp ≠ h.op) →
      Does (.clspRelMsg r) s fun s' => (s'.clasp h.op).st = (if h.state = 1 ∨ c.repair = false then .free else .broken) ∧
        others s' ∧ s' = { s with clasps := s'.clasps, out := answer 0 :: s.out }) ∧
    (s.Receives r 0x11 → ¬(c.st = .held ∧ c.owner = h.src) →
      Does (.clspRelMsg r) s fun s' => s' = { s with out := answer 3 :: s.out }) ∧
    (s.Receives r 0x12 → s.walks = [] → s.claspFull = [] → (∀ t ∈ s.trks, reqAgent t.req ≠ h.src) →
      Does (.agentReset r) s fun s' => s'.walks.map Prod.fst = [h.src] ∧
        (∀ q ∈ s'.homeQ, reqAgent q = h.src → q.kind.agentRead = false ∧ q.dest = .none) ∧ s'.flag 0x600C 31 = true ∧ s'.fld 0x600C 29 24 = h.src ∧
        (∀ w ∈ s'.claspWaits, w.owner ≠ h.src) ∧ (∀ a, a ≠ 0x600C → s'.reg a = s.reg a) ∧
        s' = { s with walks := s'.walks, regs := s'.regs, homeQ := s'.homeQ, claspWaits := s'.claspWaits })) ∧
  (∀ (s : State) (x : Nat) (ids : List Nat), s.Canonical → s.running = true → s.walks = [(x, ids)] → s.HomeClear →
    s.claspFull = [] →
    (s.flag 0x6004 3 = true → ∀ e ∈ s.filter, ∀ y ∈ e.2, y.agent ≠ x ∨ y.sum ≠ 2) →
    (∀ e ∈ s.clasps, e.2.st = .held → e.2.owner ≠ x) → s.Mild .home 2 →
    Does .agentResetWalkEnd s fun s' => s'.walks = [] ∧ s'.flag 0x600C 31 = false ∧
      s'.fld 0x600C 29 24 = s.fld 0x600C 29 24 ∧ Noted s s' .home 2 [0x600C] ∧
      (∀ l e, s'.sf l = some e → e.sum = 1 ∨ e.sum = 2 → e.agent ≠ x) ∧ s'.trks = s.trks ∧ s'.threads = s.threads) ∧
  (∀ (s : State) (n : Nat), s.Canonical → (∀ w ∈ s.claspWaits, w.clasp ≠ n) →
    (let c := s.clasp n
     s.running = true → c.st = .held → c.limit ≠ 0 → 100 * c.limit ≤ (s.tbase - c.since).toNat → s.Mild .home 1 →
     Does (.holdTo n) s fun s' => (s'.clasp n).st = .broken ∧ (s'.clasp n).owner = c.owner ∧
       (∀ m, m ≠ n → s'.clasp m = s.clasp m) ∧ Noted s s' .home 1 [] ∧
       s' = { s with clasps := s'.clasps, regs := s'.regs, hist := s'.hist }) ∧
    (∀ p v, n < 256 → s.PortOpen p (0x6800 + 4 * n) → Does (.claspBreak p n v) s fun s' =>
      (s'.clasp n).st = .broken ∧ (s'.clasp n).owner = (s.clasp n).owner ∧ (∀ m, m ≠ n → s'.clasp m = s.clasp m) ∧
      s'.holdTo n = bitsOf v 15 0 ∧
      (∀ a, a ≠ 0x6800 + 4 * n → s'.reg a = s.reg a) ∧
      s' = { s with clasps := s'.clasps, regs := s'.regs, out := .portRsp p 0 false :: s.out })) ∧
  (∀ (s : State) (p : Port) (v : W32), s.PortOpen p 0x6010 →
    WriteDoes (.predClr p v) p s { s with atomPred := [] })

/-- R471, R473, R493: A stop attaches while the conditions of ATTACH_READY hold and then has its identity; it is not
attached while they do not; RING_RST_N low bypasses the stop and forgets the identity, and high ends that reset; what
waits in the attach slice stays. No other stop is changed. -/
def Obligations.Attachment : Prop :=
  ∀ (s : State) (n : Nat), s.Canonical →
    let only := fun (s' : State) => (∀ m, m ≠ n → s'.rs m = s.rs m) ∧ s' = { s with stops := s'.stops }
    ((s.rs n).inReset = false → s.attachHigh n = true → Does (.attachReady n) s fun s' =>
      s'.rs n = { s.rs n with attached := true, ident := some (s.nodeId n) } ∧ only s') ∧
    ((s.rs n).inReset = false → s.attachHigh n = false → Does (.attachReady n) s fun s' =>
      s'.rs n = { s.rs n with attached := false } ∧ only s') ∧
    (Does (.ringRstN n false) s fun s' => s'.rs n =
      { attached := false, ident := none, inReset := true, slice := (s.rs n).slice } ∧ only s') ∧
    (Does (.ringRstN n true) s fun s' => s'.rs n = { s.rs n with inReset := false } ∧ only s')

/-- R214, R242, R243, R248, R249, R250, R252, R254, R256, R377, R393, R500: A request for a sub-channel that takes none is
held; a read waits while no queue or ledger entry is free, and enters the queue of an awake rank when one is; a write
that finds no write of its line in the queue enters it, its transaction ends, and the Locket's copy takes its data. An
arbiter grant of a requester with no suspended run starts a run with its best entry and counts it. At a line boundary
a run with no entry to take ends, one that another requester preempts is suspended, and otherwise an entry that the
run takes, whose row is open, has its column command issued, with its burst; the run is over after RUN_MAX_LINES
lines. A run that has held the grant for HOG_LIMIT is recorded, and over with its next line. -/
def Obligations.QueueAndRuns : Prop :=
  (
    ∀ (s : State) (ln : Nat) (t : Trk) (p : Place), s.Canonical → s.running = true → s.trk ln = some t → t.stage = .queue →
      t.spot = some p →
      let c := s.chan p.sc
      (s.scOpen p.sc = false → Does (.queueEntry ln) s fun s' =>
        s'.trk ln = some { t with stage := .notReady (s.fld 8 23 0) } ∧ s' = { s with trks := s'.trks }) ∧
      (s.scOpen p.sc = true → t.wr = false → c.writeOf ln = none → s.readRoom p.sc = false →
        Does (.queueEntry ln) s fun s' => s' = s) ∧
      (s.scOpen p.sc = true → t.wr = false → c.writeOf ln = none → s.readRoom p.sc = true →
        (c.rank (c.csNow p.rank p.ell)).powerDown = false →
        Does (.queueEntry ln) s fun s' => s'.trk ln = some { t with stage := .data } ∧
          (s'.chan p.sc).ents = c.ents ++ [QEnt.mk0 (.trk ln) false 0 ln p t.req.stamp (s.chanTmo p.sc)] ∧
          OtherChans p.sc s s' ∧ s' = { s with trks := s'.trks, chans := s'.chans }) ∧
      (s.scOpen p.sc = true → t.wr = true → t.req.kind = .wr → t.req.dest = .none → t.wb = none → t.grant = 0 →
        (∀ e ∈ c.ents, e.line = ln → e.wr = false) → s.writeRoom p.sc = true → setIndex ln ∉ s.tagBad →
        (c.rank (c.csNow p.rank p.ell)).powerDown = false →
        Does (.queueEntry ln) s fun s' => s'.trk ln = some { t with stage := .ended } ∧
          (s'.chan p.sc).ents = c.ents ++
            [{ QEnt.mk0 (.trk ln) true 1 ln p t.stamp 0 with data := t.data, hm := t.hm, poison := t.poison }] ∧
          (∀ x, s.locketReady = true → s.lkFind ln = some x → s'.lkFind ln =
            some { line := ln, data := t.data, hm := t.hm, poison := t.poison, hdr := t.req.hdr || x.hdr }) ∧
          OtherChans p.sc s s' ∧ s' = { s with trks := s'.trks, chans := s'.chans, locket := s'.locket })) ∧
  (
    (∀ (s : State) (sc rq : Nat) (e : QEnt), s.Canonical → s.arbFree sc = true →
      let s1 := s.latchQ sc
      s1.grantChoice sc = some (rq, false) → rq ≠ 2 → rq ≠ 3 → (s.chan sc).susp = [] →
      s1.bestEnt sc (s1.workOf sc rq) = some e →
      Does (.arbiterGrant sc) s fun s' => (s'.chan sc).run = some
          { rq := rq, cs := (s.chan sc).entCs e, bank := e.bank, row := e.row, issued := 0, reserved := false,
            stamp := e.stamp, oneLine := false, starter := some e.owner, hogged := false } ∧
        s'.reg2 (scReg sc 0x40) = (s.reg2 (scReg sc 0x40) + 1) % 2 ^ 64 ∧ (s'.chan sc).ents = (s.chan sc).ents ∧
        OtherChans sc s s' ∧ s' = { s with chans := s'.chans, regs := s'.regs }) ∧
    (∀ (s : State) (sc k : Nat) (r : Run), s.Canonical → (s.chan sc).run = some r → r.rq ≠ 3 → s.mayIssue sc = true →
      let s1 := (s.updChan sc Chan.replayEnded).latchQ sc
      let takes := s1.runTakes sc r
      let yields := r.hogged = false ∧ s1.preempted sc r = true
      (takes = [] → Does (.lineBoundary sc k) s fun s' => (s'.chan sc).run = none ∧ (s'.chan sc).ents = (s.chan sc).ents ∧
        OtherChans sc s s' ∧ s' = { s with chans := s'.chans }) ∧
      (takes ≠ [] → yields → s1.outranked sc r ((s.chan sc).ents.filter (s1.takeable sc)) = false →
        Does (.lineBoundary sc k) s fun s' => (s'.chan sc).run = none ∧
          (s'.chan sc).susp = (s.chan sc).susp ++ [{ r with oneLine := false }] ∧ (s'.chan sc).ents = (s.chan sc).ents ∧
          OtherChans sc s s' ∧ s' = { s with chans := s'.chans }) ∧
      (∀ e, takes.find? (fun x => x.2 == k) = some (e, k) → ¬yields →
        (e.wr = true → e.raw = none ∧ e.cipher = false ∧ s.isSealed e.line = false ∧ hallmark e.data = e.hm) →
        ((s.chan sc).rank r.cs).powerDown = false → ((s.chan sc).bank (bankKey r.cs e.bg e.bank)).row = some e.row →
        let burst := encodeBurst (s.isX8 sc) (s.crypt true e.line e.data) e.line e.poison
        Does (.lineBoundary sc k) s fun s' =>
          (∃ auto, s'.out = sent sc (if e.wr then .wr r.cs e.bg e.bank e.col auto burst else .rd r.cs e.bg e.bank e.col auto) ::
            s.out) ∧
          (s'.chan sc).ents = (s.chan sc).ents.modify k (fun x => { x with issued := true, cs := r.cs }) ∧
          (s.runMax sc ≤ r.issued + 1 ∨ r.hogged = true → (s'.chan sc).run = none) ∧ OtherChans sc s s' ∧
          s' = s.driven s' sc)) ∧
    (∀ (s : State) (sc : Nat) (r : Run), s.Canonical → (s.chan sc).run = some r → r.hogged = false → s.Mild (.chan sc) 4 →
      sc < s.variant.scs →
      Does (.hog sc) s fun s' => s'.chan sc = { s.chan sc with run := some { r with hogged := true }, hogBan := some r.rq } ∧
        s'.flag (scReg sc 0x34) 0 = true ∧ Noted s s' (.chan sc) 4 [scReg sc 0x34] ∧ OtherChans sc s s' ∧
        s' = { s with chans := s'.chans, regs := s'.regs, hist := s'.hist }))

/-- R8, R234, R242, R244, R463: A clean burst answers the read that its entry was queued for: a port's read with the line
that the symbols and the region give, the mover's with its data. The entry of a completed write is freed, and one that
times out is freed at once where its command was not issued and otherwise with its burst; a port's read that times out
is answered with 64 zero bytes, poison and the timeout qualifier. -/
def Obligations.ReturnedData : Prop :=
  ∀ (s : State) (sc k : Nat) (e : QEnt), s.Canonical → sc < s.variant.scs → (s.chan sc).ents[k]? = some e →
    let dropped := fun (s' : State) => (s'.chan sc).ents = (s.chan sc).ents.eraseIdx k ∧ OtherChans sc s s' ∧
      s'.threads = s.threads
    (∀ burst line n tid t, e.wr = false → e.issued = true → e.timedOut = false → e.owner = .trk line →
      let o := decodeBurst (s.eccMode sc e.cs) burst e.line
      let d := s.crypt false line o.data
      o.ce = false → o.ue = false → o.poison = false → s.isSealed line = false → s.trk line = some t → t.req.kind = .rd →
      t.req.src = .port n → t.req.dest = .port tid → t.gone = false → t.grant = 0 → s.spUp n = true → (s.sp n).rsps = [] →
      0 < (s.sp n).rdCr →
      Does (.dramReadData sc k burst) s fun s' => dropped s' ∧
        s'.out = .spRsp n 0 tid 0 false (hallmark d) d :: s.out ∧
        s'.trk line = some { t with stage := .ended, answered := true } ∧
        s'.reg2 ((Win.port n).base + 0x10) = (s.reg2 ((Win.port n).base + 0x10) + 1) % 2 ^ 64) ∧
    (∀ burst line, e.wr = false → e.issued = true → e.timedOut = false → e.owner = .move line →
      let o := decodeBurst (s.eccMode sc e.cs) burst e.line
      o.ce = false → o.ue = false → Does (.dramReadData sc k burst) s fun s' => dropped s' ∧
        (∀ m ∈ s'.moves, m.line = line → m.phase = 3 ∧ m.data = o.data ∧ m.hm = hallmark o.data ∧ m.poison = o.poison) ∧
        s' = { s with chans := s'.chans, moves := s'.moves }) ∧
    (∀ burst, e.wr = false → e.issued = true → e.timedOut = true → Does (.dramReadData sc k burst) s fun s' =>
      dropped s' ∧ s' = { s with chans := s'.chans }) ∧
    (e.wr = true → e.issued = true → Does (.dramWriteComplete sc k) s fun s' => dropped s' ∧
      s' = { s with chans := s'.chans }) ∧
    (∀ line n tid t, s.running = true → e.inRead = true → e.timedOut = false → e.owner = .trk line →
      s.trk line = some t → t.req.kind = .rd → t.req.src = .port n → t.req.dest = .port tid → t.gone = false →
      s.spUp n = true → (s.sp n).rsps = [] → 0 < (s.sp n).rdCr → s.Mild (.chan sc) 3 →
      Does (.channelTimeout sc k) s fun s' => s'.flag (faultBase (.chan sc)) 3 = true ∧
        (s'.chan sc).ents = (if e.issued then (s.chan sc).ents.modify k fun x => { x with timedOut := true }
          else (s.chan sc).ents.eraseIdx k) ∧
        s'.out = .spRsp n 0 tid 1 true (hallmark 0) 0 :: s.out ∧ OtherChans sc s s' ∧ s'.threads = s.threads ∧
        ∃ u, s'.trk line = some u ∧ u.stage = .ended ∧ u.req = t.req)

/-- R254, R255, R256, R257, R258, R405, R413, R436, R444, R515: The shift that auto-precharge left due is made PAGE_IDLE
later, else an idle row is precharged; an idle rank powers down; an interval of a rank is owed and, with nothing
queued, discharged early by a refresh of all banks; the copy of a line begins; CLEAR ends; ALERT_n stops issue and is
recorded, and is ignored for a held group; the third replay stops the unit and is recorded, and another resumes it. -/
def Obligations.ChannelUpkeep : Prop :=
  ∀ (s : State) (sc r : Nat), s.Canonical → sc < s.variant.scs →
    let c := s.chan sc
    let does := fun (i : Instr) (post : State → Prop) => Does i s fun s' => OtherChans sc s s' ∧ s'.threads = s.threads ∧ post s'
    let sends := fun (s' : State) (m : DramCmd) => s'.out = sent sc m :: s.out ∧ s' = s.driven s' sc
    (∀ k row h rest, s.running = true → (c.bank k).last = (row, h) :: rest → does (.pageIdle sc k) fun s' =>
      (s'.chan sc).bank k = { (c.bank k).shift h with last := rest } ∧ s' = { s with chans := s'.chans }) ∧
    (∀ k row, s.mayIssue sc = true → (c.bank k).last = [] → c.drives (k / 32) = true → c.runOn k = false →
      (c.bank k).row = some row → does (.pageIdle sc k) fun s' =>
        ((s'.chan sc).bank k).row = none ∧ sends s' (.pre (k / 32) (k / 4 % 8) (k % 4))) ∧
    (s.mayPowerDown sc r = true → does (.powerDownEntry sc r) fun s' =>
      ((s'.chan sc).rank r).powerDown = true ∧ sends s' (.pdEnter r)) ∧
    ((c.rank r).armed = true → (c.rank r).selfRefresh = false → does (.refreshInterval sc r) fun s' =>
      ((s'.chan sc).rank r).owed = (c.rank r).owed + 1 ∧
      (((s'.chan sc).rank r).urgent = true ↔ (c.rank r).urgent = true ∨ (s.postponeMax sc : Int) ≤ (c.rank r).owed) ∧
      s' = { s with chans := s'.chans }) ∧
    (c.ents = [] → s.arbFree sc = true → (c.rank r).armed = true → -(s.pullinMax sc : Int) < (c.rank r).owed →
      (c.rank r).powerDown = false → (∀ i < 32, (c.bank (32 * r + i)).row = none) → s.flag (scReg sc 0x20) 0 = false →
      does (.idlePullIn sc r) fun s' => ((s'.chan sc).rank r).owed = (c.rank r).owed - 1 ∧
        s'.out = sent sc (.refAb r) :: sent sc (.preAll r) :: s.out ∧ s' = { s.driven s' sc with regs := s'.regs }) ∧
    (s.running = true → c.spare = 1 → c.copies.length < 8 → c.copyNext < s.rankLines sc → s.readRoom sc = true →
      s.writeRoom sc = true → (c.rank 0).powerDown = false → s.twoRanks sc = false → does (.spareCopyLine sc) fun s' =>
        (s'.chan sc).copies = c.copies ++ [c.copyNext] ∧ (s'.chan sc).copyNext = c.copyNext + 1 ∧
        (∃ e, (s'.chan sc).ents = c.ents ++ [e] ∧ e.owner = .copy c.copyNext ∧ e.ell = c.copyNext ∧ e.wr = false) ∧
        s' = { s with chans := s'.chans }) ∧
    (c.clearing = true → s.clearLines sc ≤ c.clearPtr → does (.cleared sc) fun s' =>
      s'.chan sc = { c with clearing := false, cleared := true } ∧ (∀ a, a ≠ mbox12 sc → s'.reg a = s.reg a) ∧
      s' = { s with chans := s'.chans, regs := s'.regs }) ∧
    (s.flag 0x38004 8 = true → s.running = true → s.held sc = false → c.alert = 0 → s.Mild .phy 0 →
      does (.alert sc) fun s' => s'.chan sc = { c with alert := 1 } ∧ Noted s s' .phy 0 [] ∧
        s' = { s with chans := s'.chans, regs := s'.regs, hist := s'.hist }) ∧
    (s.held sc = true → Does (.alert sc) s fun s' => s' = s) ∧
    (c.alert = 1 → s.pinsLive sc = true → 2 ≤ c.replays → s.Mild .phy 1 → does (.alertReplay sc) fun s' =>
      s'.chan sc = { c with alert := 2, replays := c.replays + 1 } ∧ Noted s s' .phy 1 [] ∧
      s' = { s with chans := s'.chans, regs := s'.regs, hist := s'.hist }) ∧
    (c.alert = 1 → s.pinsLive sc = true → c.replays < 2 → does (.alertReplay sc) fun s' =>
      (s'.chan sc).alert = 0 ∧ (s'.chan sc).replays = c.replays + 1 ∧ (s'.chan sc).replaying = true ∧
      s' = { s with chans := s'.chans, out := s'.out, padQuiet := s'.padQuiet, free := s'.free })

/-- R434, R438, R439, R440, R443, R444, R445, R446, R447, R451, R455: Pads are held, in Float where MODE says so and the
slot's module is not in self-refresh, else in Latch, which FORCED then shows, and are released at the levels of Latch;
DRST_n follows its register while a group of the slot is not held; host calibration, where one is due, stores its
code, or its failure is recorded, and the next interval begins; a sideband transfer sends its bytes and ends with its
status and data; an in-band interrupt is stored; a sample of PRESENT is stored and becomes its status when it equals
the one before. -/
def Obligations.PhyAndSideband : Prop :=
  ∀ (s : State) (p : Port), s.Canonical →
    (∀ g v, g < s.variant.scs → s.PortOpen p (padReg g) →
      let regs := fun (s' : State) => ∀ a, a ∉ [padReg g, cfgStatus, cfgIgnAddr] → s'.reg a = s.reg a
      let asleep := s.moduleAsleep (g / 2)
      (bitOf v 3 = false → s.disabled (.chan g) = true → s.flag (scDecode g) 0 = false →
        Does (.hold p g v) s fun s' => s'.held g = true ∧ regs s' ∧
          (s.held g = false → tget false s'.padFloat g = (s'.flag (padReg g) 0 && !asleep) ∧
            (asleep = true → s'.flag (padReg g) 4 = true)) ∧
          (∀ m, m ≠ g → tget false s'.padFloat m = tget false s.padFloat m) ∧
          s' = { s with regs := s'.regs, padFloat := s'.padFloat, out := .portRsp p 0 false :: s.out }) ∧
      (bitOf v 1 = false → s.held g = true → s.rails.contains .phy = true →
        (∀ n < s.variant.slots, tget false s.drst n = s.flag (slotCtrl n) 0) →
        Does (.release p g v) s fun s' => s'.held g = false ∧ regs s' ∧ s'.padDrive g .dca = .level false ∧
          s' = { s with regs := s'.regs, padFloat := terase s.padFloat g, padQuiet := tset false s.padQuiet g true,
                        out := .portRsp p 0 false :: s.out })) ∧
    (∀ n v, n < s.variant.slots → s.PortOpen p (slotCtrl n) → (s.held (2 * n) && s.held (2 * n + 1)) = false →
      (∀ m < s.variant.slots, tget false s.drst m = s.flag (slotCtrl m) 0) → bitOf v 0 ≠ s.flag (slotCtrl n) 0 →
      Does (.regWrite p ⟨BitVec.ofNat 24 (slotCtrl n), 4⟩ v) s fun s' => tget false s'.drst n = bitOf v 0 ∧
        s'.out = .portRsp p 0 false :: .drst n (bitOf v 0) :: s.out ∧
        s' = { s with regs := s'.regs, drst := s'.drst, out := s'.out }) ∧
    (∀ g c, s.running = true → s.rails.contains .phy = true → g < s.variant.scs →
      (s.calDue g = true →
        Does (.hostCalibration g (some c)) s (fun s' => tfind s'.zqCodes g = some c ∧
          (∀ m, m ≠ g → tfind s'.zqCodes m = tfind s.zqCodes m) ∧
          s' = { s with zqCodes := s'.zqCodes, zqMs := tput s.zqMs g (s.fld 0x38004 7 0) }) ∧
        (s.Mild .phy 2 → Does (.hostCalibration g none) s fun s' => Noted s s' .phy 2 [] ∧
          s' = { s with regs := s'.regs, hist := s'.hist, zqMs := tput s.zqMs g (s.fld 0x38004 7 0) })) ∧
      (s.calDue g = false → ∀ x, exec (.hostCalibration g x) s = .next s)) ∧
    (∀ n v, n < s.variant.slots → s.PortOpen p (sbCmdReg n) → s.en .phy = true → tfind s.sbCmd n = none →
      ∃ s' w, exec (.sbGo p n v) s = .next s' ∧ tfind s'.sbCmd n = some w ∧ s'.flag (sbCmdReg n) 31 = true ∧
        (∀ f ∈ [(30, 30), (29, 29), (28, 28), (27, 26), (24, 24), (22, 16), (15, 8), (7, 0)],
          bitsOf w f.1 f.2 = bitsOf v f.1 f.2) ∧
        s'.out = .portRsp p 0 false ::
          .sideband n ((sbBytes w (s.reg (sbWdata n))).map (BitVec.ofNat 8)) :: s.out ∧
        (∀ a, a ≠ sbCmdReg n → s'.reg a = s.reg a) ∧
        s' = { s with regs := s'.regs, sbCmd := s'.sbCmd, out := s'.out }) ∧
    (∀ n cmd r, n < s.variant.slots → s.running = true → tfind s.sbCmd n = some cmd →
      Does (.sidebandDone n r) s fun s' => s'.flag (sbCmdReg n) 31 = false ∧ s'.flag (sbStatus n) 0 = true ∧
        tfind s'.sbCmd n = none ∧ (∀ m, m ≠ n → tfind s'.sbCmd m = tfind s.sbCmd m) ∧
        (r.nack = true → s'.flag (sbStatus n) 1 = true) ∧ (pecBad cmd r = true → s'.flag (sbStatus n) 2 = true) ∧
        (bitOf cmd 30 = true → r.nack = false → s'.reg (sbRdata n) =
          BitVec.ofNat 32 ((r.data.take (sbLen cmd)).foldr (fun b a => b.toNat + 256 * a) 0)) ∧
        (∀ a, a ∉ [sbCmdReg n, sbStatus n, sbRdata n] → s'.reg a = s.reg a) ∧
        s' = { s with regs := s'.regs, sbCmd := s'.sbCmd }) ∧
    (∀ n addr mdb, n < s.variant.slots → s.running = true → s.flag (slotCtrl n) 2 = true → tfind s.sbCmd n = none →
      Does (.ibi n addr mdb) s fun s' => s'.fld (sbStatus n) 23 16 = mdb.toNat ∧ s'.fld (sbStatus n) 14 8 = addr.toNat ∧
        s'.flag (sbStatus n) 3 = true ∧ (∀ a, a ≠ sbStatus n → s'.reg a = s.reg a) ∧ s' = { s with regs := s'.regs }) ∧
    (∀ n level, n < s.variant.slots → s.running = true → Does (.presentSample n level) s fun s' =>
      tfind s'.prsnt n = some level ∧ (∀ a, a ≠ sbStatus n → s'.reg a = s.reg a) ∧
      s'.flag (sbStatus n) 4 = (if tfind s.prsnt n = some level then !level else s.flag (sbStatus n) 4) ∧
      s' = { s with regs := s'.regs, prsnt := s'.prsnt })

/-- R475, R476, R477, R478, R544: A good READ frame of a register is answered with what the debug port reads there and a
new CRC; a WRITE frame makes the write and is acknowledged (CTX_CFG is given as the example, field by field); a WRITE
frame that the debug level does not permit, and a frame of the reserved operation, are refused; a WAKE frame, where
WAKE_EN has it, wakes the block from IDLE or NAP, and through a bypassed node from DOZE, and is acknowledged. -/
def Obligations.ServiceChain : Prop :=
  (∀ (s : State) (f : Frame) (x : Site), frameMine f = true → frameGood f = true → s.logicUp = true → s.hscKept = none →
    (f.op = 3 → exec (.hscRead f) s = .next (s.emit (.hsc true true none))) ∧
    (siteOf s.variant (framePlace f) = some x → s.PortOpen .dbg (framePlace f) →
      (f.op = 0 →
        let r := s.busRead .dbg (framePlace f)
        exec (.hscRead f) s =
          .next ((r.2.emit (.portRsp .dbg r.1.1 false)).emit (.hsc true false (some (r.1.1, frameCrc f r.1.1))))) ∧
      (f.op = 1 → undefAt s.variant (framePlace f) = false → exec (.hscWrite f) s =
        .next (((s.siteWrite .dbg x (framePlace f) f.data).emit (.portRsp .dbg 0 false)).emit (.hsc true false none))))) ∧
  (∀ (s : State) (f : Frame), s.Canonical → frameMine f = true → frameGood f = true → f.op = 2 → s.logicUp = false →
    s.vddAon = true → s.pwr = .stable → s.pstate = 3 →
    (s.flag 0x1010 3 = false → exec (.hscWake f) s = .next (s.emit (.hsc true false none))) ∧
    (s.flag 0x1010 3 = true → Does (.hscWake f) s fun s' => s'.pwr = .wake 3 1 ∧ s'.pstate = 0 ∧
      s'.fld 0x1014 31 29 = 3 ∧ s'.fld 0x1014 2 0 = 3 ∧ s'.out = .hsc true false none :: s.out ∧
      s' = { s with regs := s'.regs, pwr := s'.pwr, wakeEv := none, out := s'.out })) ∧
  (
    ∀ (s : State) (f : Frame), s.Canonical → frameMine f = true → frameGood f = true → s.logicUp = true →
      (f.op = 0 → s.hscKept = none → s.PortOpen .dbg (ctxBase 0 + 8) → framePlace f = ctxBase 0 + 8 →
        Does (.hscRead f) s fun s' => ∃ v, s'.out =
            .hsc true false (some (v, frameCrc f v)) :: .portRsp .dbg v false :: s.out ∧
          (∀ x ∈ regFlds s.variant (.ctx 0) 8, bitsOf v x.hi x.lo = s.fld (ctxBase 0 + 8) x.hi x.lo) ∧
          s' = { s with out := s'.out, free := s'.free }) ∧
      (f.op = 1 → s.hscKept = none → s.PortOpen .dbg (ctxBase 0 + 8) → framePlace f = ctxBase 0 + 8 →
        Does (.hscWrite f) s fun s' => s'.out = .hsc true false none :: .portRsp .dbg 0 false :: s.out ∧
          (∀ x ∈ regFlds s.variant (.ctx 0) 8, s'.fld (ctxBase 0 + 8) x.hi x.lo = bitsOf f.data x.hi x.lo) ∧
          (∀ a, a ≠ ctxBase 0 + 8 → s'.reg a = s.reg a) ∧ s' = { s with regs := s'.regs, out := s'.out }) ∧
      (f.op = 1 → s.hscKept = none → s.permits (.write .dbg (framePlace f) f.data) = false →
        exec (.hscWrite f) s = .next (s.emit (.hsc true true none))) ∧
      (f.op = 2 → s.hscKept = none → s.vddAon = true → s.flag 0x1010 3 = true → s.pwr = .stable →
        (s.pstate = 1 ∨ s.pstate = 2) →
        Does (.hscWake f) s fun s' => s'.pwr = .wake s.pstate (if s.pstate = 1 then 4 else 1) ∧ s'.pstate = 0 ∧
          s'.fld 0x1014 31 29 = s.pstate ∧ s'.fld 0x1014 2 0 = 3 ∧ s'.out = .hsc true false none :: s.out ∧
          (∀ a, a ≠ 0x1004 → a ≠ 0x1014 → s'.reg a = s.reg a) ∧
          s' = { s with regs := s'.regs, pwr := s'.pwr, wakeEv := none, out := s'.out }))

/-- R482, R483, R557: Beats 0 to 7 in order for one slot load its key at beat 7 where the load is not refused; a beat out
of order is refused with KEY_ERR and discards the load; an erase outside a load erases its slot. No other slot is
changed. -/
def Obligations.KeyPort : Prop :=
  ∀ (s : State) (slot : BitVec 6) (beat : BitVec 3) (data : W64), s.keyReady = true →
    let n := slot.toNat
    let others := fun (s' : State) => ∀ m, m ≠ n → s'.key m = s.key m
    (beat.toNat = s.keyBeats.length → (beat = 0 ∨ s.keySlot = n) → beat ≠ 7 →
      exec (.keyLoadBeat 0 slot beat data) s =
        .next { s with keySlot := n, keyBeats := s.keyBeats ++ [data] }) ∧
    (beat = 7 → s.keyBeats.length = 7 → s.keySlot = n → s.loadRefused n = false →
      Does (.keyLoadBeat 0 slot beat data) s fun s' => s'.key n = some (keyOfBeats (s.keyBeats ++ [data])) ∧ others s' ∧
        s' = { s with keys := s'.keys, keyBeats := [] }) ∧
    (beat.toNat ≠ s.keyBeats.length ∨ (beat ≠ 0 ∧ s.keySlot ≠ n) →
      exec (.keyLoadBeat 0 slot beat data) s = .next { s with keyBeats := [], out := .keyErr :: s.out }) ∧
    (s.keyBeats = [] → Does (.keyErase slot) s fun s' => s'.key n = none ∧ others s' ∧ s' = { s with keys := s'.keys })

/-- R556, R563, R564, R565, R567: DBG_CMD with OP SET and a lower LEVEL takes effect at the write's response; one that
raises the level takes effect only where the rule of R556 allows it, and otherwise sets DENIED. CHAL makes a new
challenge, SUBMIT asks for a judgement, and the judgement ends it. A debug write of a line outside every region, which
the pool, its queue and the trackers have room for and with no other debug access open, starts, and the end of an
access shows its status and its data. -/
def Obligations.DebugLevel : Prop :=
  ∀ (s : State), s.Canonical →
    (∀ p v, s.PortOpen p 0x2008 → s.authBusy = false → bitsOf v 5 4 < 3 →
      let lv := bitsOf v 5 4
      (lv < s.dbgLevel ∨ (s.dbgLevel < lv ∧ s.mayRaise lv = true) →
        WritesOnly (.dbgSet p v) p s [0x2000] fun s' => s'.dbgLevel = lv ∧ s'.lifecycle = s.lifecycle) ∧
      (s.dbgLevel < lv → s.mayRaise lv = false →
        WritesOnly (.dbgSet p v) p s [0x2000] fun s' => s'.flag 0x2000 24 = true ∧ s'.dbgLevel = s.dbgLevel) ∧
      (WritesOnly (.chal p v) p s [0x2000, 0x200C, 0x2010, 0x2014] fun s' => s'.flag 0x2000 26 = true ∧
        s'.reg 0x2014 = s.reg 0x200C + 1 ∧ s'.reg 0x2010 = BitVec.ofNat 32 s.tbase.toNat) ∧
      (s.chalValid = true → s.grave .security = false → Does (.submit p v) s fun s' => s'.authBusy = true ∧
        s'.chalValid = false ∧ s'.authLevel = lv ∧ (∀ a, a ≠ 0x2000 → s'.reg a = s.reg a) ∧
        s' = { s with regs := s'.regs, authLevel := lv, out := .portRsp p 0 false :: s.out })) ∧
    (s.judged = true → s.authLevel < 3 → Does .authGrant s fun s' => s'.dbgLevel = s.authLevel ∧ s'.flag 0x2000 25 = true ∧
      s'.authBusy = false ∧ s'.token = 0 ∧ (∀ a, a ≠ 0x2000 → s'.reg a = s.reg a) ∧
      s' = { s with regs := s'.regs, token := 0 }) ∧
    (s.judged = true → s.Mild .security 3 → ∀ c ∈ [Instr.authDeny, .authTimeout], Does c s fun s' =>
      s'.dbgLevel = s.dbgLevel ∧ s'.flag 0x2000 24 = true ∧ s'.authBusy = false ∧ s'.token = 0 ∧
      Noted s s' .security 3 [0x2000] ∧ s' = { s with regs := s'.regs, hist := s'.hist, token := 0 }) ∧
    (∀ v, s.PortOpen .dbg dbgMctrl → s.locked dbgMctrl = false → s.dbgAcc = none → bitOf v 30 = false →
      (s.region s.dbgLine).isSome = false → s.mayEnter (Req.mk0 .dbg .wr s.dbgLine) = true → s.pool.any ofDbg = false → s.homeQ.any ofDbg = false →
      (s.trks.any fun k => ofDbg k.req) = false →
      Does (.dbgMctrlGo v) s fun s' => s'.flag dbgMctrl 29 = true ∧ s'.dbgAcc = some
          { line := s.dbgLine, rnw := false, status := 0, data := s.dbgData, finished := false } ∧
        s'.pool.map Req.asks = s.pool.map Req.asks ++ [(.dbg, .wr, s.dbgLine, .dbg, s.dbgData, false)] ∧
        s'.threads = s.threads ∧ s'.out = .portRsp .dbg 0 false :: s.out) ∧
    (∀ d, s.dbgAcc = some d → d.finished = true → s.running = true → d.status < 8 → Does .debugAccessDone s fun s' =>
      s'.dbgAcc = none ∧ s'.flag dbgMctrl 29 = false ∧ s'.fld dbgMctrl 28 26 = d.status ∧
      (d.rnw = true → d.status ≤ 1 → s'.dbgData = d.data) ∧ s' = { s with regs := s'.regs, dbgAcc := none })

/-- R488, R489, R490, R491, R498, R502, R503, R504: The PLL locks at the rate that CLK_CTRL or a relock gives, and a
relock's write is answered then; its loss of lock is recorded and lowers SP_READY of the ports; REFCLK stops and
returns; ELAPSED is added to TBASE in one step while a wake from DOZE awaits it, is acknowledged and dropped
otherwise, and its absence is recorded; a write of RATE that may relock stops the clocks. -/
def Obligations.ClockRoot : Prop :=
  ∀ (s : State), s.Canonical →
    (s.mayLock = true → s.flag clkStatus 2 = false → s.pwr = .stable → s.inReset = true → s.cfgQueue = [] → Does .pllLock s fun s' =>
      s'.flag clkStatus 0 = true ∧ s'.fld clkStatus 5 3 = s.rate ∧ (∀ a, a ≠ clkStatus → s'.reg a = s.reg a) ∧
      s' = { s with regs := s'.regs }) ∧
    (s.mayLock = true → s.flag clkStatus 2 = true → s.relockTo < 8 → s.cfgBusy = .relock → s.cfgQueue = [] →
      s.dbgQueue = [] → s.pwr = .stable → s.homeQ = [] → (∀ n < s.variant.ports, (s.sp n).held = []) →
      Does .pllLock s fun s' => s'.flag clkStatus 0 = true ∧ s'.flag clkStatus 2 = false ∧
        s'.fld clkStatus 5 3 = s.relockTo ∧ s'.cfgBusy = .none ∧ s'.out = .portRsp .cfg 0 false :: s.out ∧
        (∀ a, a ≠ clkStatus → s'.reg a = s.reg a) ∧
        s' = { s with regs := s'.regs, cfgBusy := .none, out := s'.out }) ∧
    (s.flag clkStatus 0 = true ∨ s.flag clkStatus 2 = true → s.Mild .power 0 → Does .unlock s fun s' =>
      s'.flag clkStatus 0 = false ∧ s'.flag clkStatus 6 = true ∧ Noted s s' .power 0 [clkStatus] ∧
      (∀ n, s'.sp n = { s.sp n with ready := false, reqCr := 0, wdCr := 0, rdCr := 0 }) ∧
      s' = { s with regs := s'.regs, hist := s'.hist, sports := s'.sports }) ∧
    (s.refclk = true → s.vddAon = true → s.Mild .power 1 → Does .refclkLost s fun s' => s'.refclk = false ∧
      s'.flag clkStatus 7 = true ∧ Noted s s' .power 1 [clkStatus] ∧
      s' = { s with regs := s'.regs, hist := s'.hist, refclk := false, wantElapsed := s.wantElapsed || s.dozing }) ∧
    (exec .refclkReturn s = .next { s with refclk := true }) ∧
    (s.refclk = true → s.vddAon = true → s.awaitsElapsed = true → s.flag clkStatus 0 = false →
      (∀ v, Does (.elapsed v) s fun s' => s'.tbase = s.tbase + BitVec.ofNat 64 (v.toNat * 390625 / 128) ∧
        s'.wantElapsed = false ∧ s'.flag 0x8 31 = true ∧ s'.flag 0x8 28 = false ∧
        (∀ ch < 64, s'.fld (chUsed ch) 23 0 = 0) ∧ s'.out = .elapsedAck :: s.out ∧
        s' = { s with regs := s'.regs, tbase := s'.tbase, wantElapsed := false, out := s'.out }) ∧
      (s.Mild .power 4 → Does .elapsedTimeout s fun s' => s'.wantElapsed = false ∧ s'.flag 0x8 30 = true ∧
        Noted s s' .power 4 [0x8] ∧ s' = { s with regs := s'.regs, hist := s'.hist, wantElapsed := false })) ∧
    (s.refclk = true → s.vddAon = true → s.awaitsElapsed = false → ∀ v, exec (.elapsed v) s =
      .next { s with out := .elapsedAck :: s.out }) ∧
    (∀ v, s.PortOpen .cfg clkCtrl → bitsOf v 2 0 ≠ s.rate → s.mayRelock (bitsOf v 2 0) = true →
      Does (.relock .cfg v) s fun s' => s'.rate = bitsOf v 2 0 ∧ s'.flag clkStatus 2 = true ∧ s'.flag clkStatus 0 = false ∧
        s'.relockTo = bitsOf v 2 0 ∧ s'.cfgBusy = .relock ∧ s'.out = s.out ∧
        (∀ a, a ≠ clkCtrl → a ≠ clkStatus → s'.reg a = s.reg a) ∧
        s' = { s with regs := s'.regs, relockTo := s'.relockTo, cfgBusy := .relock })

/-- R493, R494, R495, R507, R529, R556, R571: AON_RST_N resets every register but the holds of the pads, and loses
everything else; BLK_RST_N keeps the registers of the always-on domain, TBASE, the lifecycle and the power phase, and
loses the rest; its release samples the lifecycle, which never falls, sets the debug level and in RETIRED has erased
the keys; a function that ends its initialisation is ready for use. -/
def Obligations.Resets : Prop :=
  ∀ (s : State), s.Canonical →
    (Does .aonRstN s fun s' => s'.inReset = true ∧ s'.tbase = 0 ∧ s'.threads = [] ∧ s'.ctxs = [] ∧ s'.pool = [] ∧
      s'.trks = [] ∧ s'.keys = [] ∧ s'.hist = [] ∧ s'.inited = [] ∧ s'.pwr = .stable ∧ s'.vddAon = true ∧
      s'.pending = s.pending ∧ (∀ a, (∀ g < s.variant.scs, a ≠ padReg g) → s'.reg a = resetWord s.variant a)) ∧
    (Does .blkRstN s fun s' => s'.inReset = true ∧ s'.tbase = s.tbase ∧ s'.lifecycle = s.lifecycle ∧
      s'.dbgLevel = (if s.lifecycle = 2 then 0 else 2) ∧ s'.threads = [] ∧ s'.ctxs = [] ∧ s'.pool = [] ∧ s'.trks = [] ∧
      s'.keys = [] ∧ s'.inited = [] ∧ s'.pwr = s.pwr ∧ s'.relockTo = s.relockTo ∧ s'.pending = s.pending ∧
      (∀ b src, src < 4 → b = .power → s'.flag (faultBase b) src = s.flag (faultBase b) src) ∧
      (∀ a, 0x1000 ≤ a → a < 0x1E00 → s'.reg a = s.reg a) ∧
      (∀ g < s.variant.scs, s'.held g = s.held g)) ∧
    (∀ lc : BitVec 2, s.inReset = true → Does (.blkRstNRelease lc) s fun s' => s'.inReset = false ∧
      s'.lifecycle = max s.lifecycle lc.toNat ∧ s'.dbgLevel = (if s'.lifecycle = 2 then 0 else 2) ∧
      (s'.lifecycle = 3 → s'.keys = []) ∧ (∀ a, a ≠ 0x2000 → s'.reg a = s.reg a) ∧
      s' = { s with inReset := false, regs := s'.regs, keys := s'.keys }) ∧
    (∀ f, s.mayInit f = true → s.homeQ = [] → (∀ n < s.variant.ports, (s.sp n).held = []) → s.cfgQueue = [] →
      s.dbgQueue = [] → Does (.initDone f) s fun s' => s' = { s with inited := s.inited ++ [f] })

/-- R485, R573, R574, R575, R576, R578, R583: TPRIO and TSLEEP take their new values; ROUTE marks the active level sources
pending and gives every delivered source with an eligible target one of them; a take through the configuration port
returns the lowest source assigned in its class, clears it and moves the rotation on; a moderator's timer makes it
fire. -/
def Obligations.Interrupts : Prop :=
  ∀ (s : State), s.Canonical →
    (∀ n v, s.running = true → n < 8 → Does (.tprio n v) s fun s' => s'.prioOf n = v.toNat ∧ s' = { s with tprio := s'.tprio }) ∧
    (∀ n level, s.running = true → n < 8 → (∀ m < 64, s.modCount m = 0) → Does (.tsleep n level) s fun s' =>
      (level = true → s'.sleeps n = true) ∧ s' = { s with tsleep := s'.tsleep }) ∧
    (s.intcReady = true → s.pwr = .stable → s.pstate = 0 → Does .route s fun s' =>
      (∀ src ∈ s.levels, src < 512 → s'.flag (irqPend src) (src % 32) = true) ∧
      (∀ src k, tget 0 s'.assigned src = k + 1 → s'.delivered src = true ∧ k ∈ s'.eligible src) ∧
      (∀ src < 512, s'.delivered src = true → s'.eligible src ≠ [] → tget 0 s'.assigned src ≠ 0) ∧
      (∀ a, (a < 0x40200 ∨ 0x40240 ≤ a) → s'.reg a = s.reg a) ∧
      s' = { s with regs := s'.regs, assigned := s'.assigned }) ∧
    (∀ n src rest fast c, n < 8 → (c, fast) ∈ [(Instr.take .cfg n, false), (.ftake .cfg n, true)] →
      s.PortOpen .cfg ((if fast then 0x41000 else 0x40300) + 4 * n) → s.assignedTo n fast = src :: rest → src < 512 →
      Does c s fun s' => (∃ v, s'.out = .portRsp .cfg v false :: s.out ∧ bitOf v 31 = true ∧ bitsOf v 8 0 = src) ∧
        s'.flag (irqPend src) (src % 32) = false ∧ tget 0 s'.assigned src = 0 ∧
        s'.fld (rrReg fast) 2 0 = (n + 1) % 8 ∧ (∀ x, x ≠ src → tget 0 s'.assigned x = tget 0 s.assigned x) ∧
        (∀ a, a ≠ irqPend src → a ≠ rrReg fast → s'.reg a = s.reg a) ∧
        s' = { s with regs := s'.regs, assigned := s'.assigned, out := s'.out, free := s'.free }) ∧
    (∀ m, m < 64 → s.running = true → s.modEn m = true → tget false s.modTimer m = true → s.modCount m ≠ 0 →
      Does (.moderatorTimeout m) s fun s' => s'.modCount m = 0 ∧ s'.flag (irqPend m) (m % 32) = true ∧
        (∀ a, a ≠ modStat m → a ≠ irqPend m → s'.reg a = s.reg a) ∧
        s' = { s with regs := s'.regs, modTimer := s'.modTimer })

/-- R512, R516, R517, R518, R521, R522, R523: An acknowledgement clears the sources whose bits are 1; an injected event of
a source that contains nothing is recorded as forced with its time; HIST_CLR empties the history; a read of word 0 of
a history entry changes no register; a block in GRAVE on the OVM-2440 recovers after its quiet period, or stays
latched past RECOVERY_MAX. -/
def Obligations.FaultBlocks : Prop :=
  ∀ (s : State) (p : Port) (b : FaultRef), s.Canonical → b.present s.variant = true →
    (∀ v, s.PortOpen p (faultBase b + 8) → (∀ n < s.variant.scs, (s.chan n).isolated = false) → s.engHold = [] →
      (∀ n < s.variant.scs, (s.chan n).isoBy = [] ∧ (s.chan n).alert ≠ 2) →
      (∀ n, b = .chan n → bitOf v 9 = false ∧ bitOf v 10 = false) →
      Does (.fltAck p b v) s fun s' =>
        (∀ i < (sevReset b).length, s'.flag (faultBase b) i = (s.flag (faultBase b) i && !bitOf v i) ∧
          s'.flag (faultBase b + 4) i = (s.flag (faultBase b + 4) i && !bitOf v i)) ∧
        (∀ a, a ≠ faultBase b → a ≠ faultBase b + 4 → s'.reg a = s.reg a) ∧
        s' = { s with regs := s'.regs, out := .portRsp p 0 false :: s.out }) ∧
    (∀ v i, s.PortOpen p (faultBase b + 0xC) → s.locked (faultBase b + 0xC) = false → i < (sevReset b).length →
      v = BitVec.ofNat 32 (2 ^ i) → s.Mild b i → Does (.fltForce p b v) s fun s' => Noted s s' b i [] ∧
        (∃ e rest, tget [] s'.hist (faultBase b) = e :: rest ∧ e.source = i ∧ e.forced = true ∧ e.tbase = s.tbase) ∧
        s' = { s with regs := s'.regs, hist := s'.hist, out := .portRsp p 0 false :: s.out }) ∧
    (∀ v, s.PortOpen p (faultBase b + 0x18) → Does (.histClr p b v) s fun s' =>
      s'.fld (faultBase b + 0x20) 12 8 = 0 ∧ s'.fld (faultBase b + 0x20) 23 17 = s.fld (faultBase b + 0x20) 23 17 ∧
      (∀ a, a ≠ faultBase b + 0x18 → a ≠ faultBase b + 0x20 → s'.reg a = s.reg a) ∧
      s' = { s with regs := s'.regs, hist := terase s.hist (faultBase b), out := .portRsp p 0 false :: s.out }) ∧
    (s.PortOpen p (faultBase b + 0x24) → Does (.fltHistE0 p b) s fun s' => ∃ v, s'.out = .portRsp p v false :: s.out ∧
      s' = { s with histShadow := s'.histShadow, out := s'.out, free := s'.free }) ∧
    (s.variant.graveAuto = true → b ≠ .power → b ≠ .home → s.grave b = true → s.refclk = true →
      s.flag (faultBase b + 0x1C) 30 = false → (∀ n < s.variant.scs, (s.chan n).isolated = false) →
      (s.nextRecovery ≤ s.recoveryMax → Does (.quietPeriod b) s fun s' => s'.grave b = false ∧
        s'.fld 0x1E14 7 0 = s.nextRecovery ∧ (∀ a, a ≠ faultBase b + 0x1C → a ≠ 0x1E14 → s'.reg a = s.reg a) ∧
        s' = { s with regs := s'.regs }) ∧
      (s.recoveryMax < s.nextRecovery → Does (.quietPeriod b) s fun s' => s'.grave b = true ∧
        s'.flag (faultBase b + 0x1C) 30 = true ∧ (∀ a, a ≠ faultBase b + 0x1C → s'.reg a = s.reg a) ∧
        s' = { s with regs := s'.regs }))

/-- R525, R526, R527: ALIVE toggles while the block is kicked, not stalled and not in GRAVE, and goes low otherwise; a
kick arms the watchdog, whose expiry is a stall; in compatibility mode a pulse ends at the level of FAULT_HOLD, a
change of it alters the level only after an onset, and a change of MODE begins at the level of the new mode. -/
def Obligations.AliveOutput : Prop :=
  ∀ (s : State) (p : Port) (v : W32), s.Canonical →
    (s.compat = false → s.refclk = true →
      exec .aliveToggle s = .next { s with alive := s.kicked && !s.stalled && !s.graveAny && !s.alive }) ∧
    (s.PortOpen p 0x1E08 → Does (.aliveKick p v) s fun s' => s'.kicked = true ∧ s'.stalled = false ∧ s'.wdArmed = true ∧
      (∀ a, a ≠ 0x1E0C → s'.reg a = s.reg a) ∧
      s' = { s with regs := s'.regs, wdArmed := true, out := .portRsp p 0 false :: s.out }) ∧
    (s.wdRuns = true → s.compat = false → s.Mild .power 2 → Does .watchdogExpiry s fun s' => s'.stalled = true ∧
      s'.wdArmed = false ∧ Noted s s' .power 2 [0x1E0C] ∧
      s' = { s with regs := s'.regs, hist := s'.hist, wdArmed := false }) ∧
    (s.pulse = true → s.compat = true → s.refclk = true →
      exec .pulseEnd s = .next { s with pulse := false, alive := !s.faultHold }) ∧
    (s.PortOpen p 0x1E00 → bitOf v 31 ≠ s.compat → Does (.aliveMode p v) s fun s' =>
      (∀ f ∈ regFlds s.variant .power 0xE00, s'.fld 0x1E00 f.hi f.lo = bitsOf v f.hi f.lo) ∧
      s'.pulse = (bitOf v 31 && (s.graveAny || s.stalled)) ∧ s'.alive = (bitOf v 31 && !(s.graveAny || s.stalled)) ∧
      s'.onsetSeen = s'.pulse ∧ (∀ a, a ≠ 0x1E00 → s'.reg a = s.reg a) ∧
      s' = { s with regs := s'.regs, pulse := s'.pulse, alive := s'.alive, onsetSeen := s'.onsetSeen,
                    out := .portRsp p 0 false :: s.out }) ∧
    (s.PortOpen p 0x1E00 → s.compat = true → bitOf v 31 = true → s.pulse = false → Does (.aliveMode p v) s fun s' =>
      s'.alive = (if s.onsetSeen = true ∧ bitOf v 30 ≠ s.faultHold then !bitOf v 30 else s.alive) ∧
      (∀ a, a ≠ 0x1E00 → s'.reg a = s.reg a) ∧
      s' = { s with regs := s'.regs, alive := s'.alive, out := .portRsp p 0 false :: s.out })

/-- R535, R536, R537, R538, R539, R551: A request for a sleep that is taken and not refused begins the entry, by PWR_REQ
or by PC_REQ; a PC_REQ that cannot be taken is answered as refused (both while VDD_AON is present); each step that has
finished goes on to the next, and the last reaches IDLE; a step that takes too long turns the block back, is recorded
and names the unit it waits for. -/
def Obligations.SleepEntry : Prop :=
  ∀ (s : State), s.Canonical →
    let at_ := fun (s' : State) (t : Nat) => s'.pwr = (if t = 1 then .entry 1 2 else .entry t 1) ∧ s'.wakeEv = none ∧
      s'.pstate = 0 ∧ (t = 1 → s'.clustersStopped = true) ∧ (t ≠ 1 → s'.portsStopped = true) ∧ s'.threads = s.threads ∧
      s'.entryMark = s.nextId ∧ (∀ a, a ≠ 0x1004 → s'.reg a = s.reg a)
    let begun := { s.setFld 0x1004 31 29 0 with byPc := false, wakeEv := none }
    (∀ p v, s.PortOpen p 0x1000 → s.takesSleep = true → s.fld 0x1000 2 0 = bitsOf v 2 0 → 1 ≤ bitsOf v 2 0 →
      bitsOf v 2 0 ≤ 4 → begun.refusal (bitsOf v 2 0) false = none →
      Does (.pwrGo p v) s fun s' => at_ s' (bitsOf v 2 0) ∧ s'.byPc = false ∧ s'.out = .portRsp p 0 false :: s.out) ∧
    (∀ r : BitVec 3, s.refclk = true → s.vddAon = true → 1 ≤ r.toNat → r.toNat ≤ 4 → s.takesSleep = true →
      begun.refusal r.toNat false = none →
      Does (.pcReq r) s fun s' => at_ s' r.toNat ∧ s'.byPc = true ∧ s'.out = s.out) ∧
    (∀ r : BitVec 3, s.refclk = true → s.vddAon = true → 1 ≤ r.toNat → (4 < r.toNat ∨ s.takesSleep = false) →
      exec (.pcReq r) s = .next { s with out := .pcDone 1 :: s.out }) ∧
    (∀ t, s.pwr = .entry t 1 → Does .entryStepEnd s fun s' => s' = { s with pwr := .entry t 2, clustersStopped := true }) ∧
    (∀ t, s.pwr = .entry t 2 → 2 ≤ t → s.step2Done = true → s.wakeEv = none →
      Does .entryStepEnd s fun s' => s' = { s with pwr := .entry t 3 }) ∧
    (∀ t, s.pwr = .entry t 3 → s.homeQuiet = true → (List.range s.variant.ports).all s.portQuiet = true →
      (t < 3 ∨ s.filter = []) → s.wakeEv = none →
      Does .entryStepEnd s fun s' => s' = { s with stopsLowered := true, pwr := .entry t 4 }) ∧
    (s.pwr = .entry 3 5 → s.wakeEv = none → s.refusal 3 true = none → (∀ m < 64, s.modCount m = 0) → s.lifecycle ≠ 2 →
      Does .entryStepEnd s fun s' => s'.pwr = .entry 3 6 ∧ s'.saved = some s.saveArea ∧ s'.regs = s.regs ∧
        s'.threads = s.threads) ∧
    (s.pwr = .entry 1 6 → s.wakeEv = none → s.byPc = true → Does .entryStepEnd s fun s' => s'.pwr = .stable ∧
      s'.pstate = 1 ∧ s'.out = .pcDone 0 :: s.out ∧ (∀ a, a ≠ 0x1004 → s'.reg a = s.reg a) ∧
      s' = { s with regs := s'.regs, pwr := .stable, wakeEv := none, byPc := false, out := s'.out }) ∧
    (∀ t step u i, s.pwr = .entry t step → s.unfinished t step u i = true → s.chans = [] → s.evWaiters = [] →
      (∀ n < s.variant.ports, (s.sp n).held = []) → s.byPc = true → s.Mild .power 3 → u < 16 → i < 32 →
      Does (.pwrTmo u i) s fun s' => s'.pwr = .stable ∧ s'.pstate = 0 ∧ s'.flag 0x1004 23 = true ∧ s'.fld 0x1004 22 19 = u ∧
        s'.fld 0x1004 18 14 = i ∧ s'.fld 0x1004 13 10 = 3 ∧ Noted s s' .power 3 [0x1004] ∧
        s'.out = .pcDone 1 :: s.out ∧ s'.portsStopped = false ∧ s'.clustersStopped = false ∧ s'.threads = s.threads)

/-- R481, R504, R530, R541, R544, R546, R551: An enabled wake event in a sleep begins the wake and is recorded as its
reason, and one in an entry is kept for the next abort point; rails come on, the PLL's step ends, and a wake from IDLE
ends with the block running again. VDD_AON removed in OFF loses everything. -/
def Obligations.WakeSequence : Prop :=
  ∀ (s : State), s.Canonical →
    let wakes := fun (c : Instr) (code : Nat) (o : List Out) => s.vddAon = true → s.pwr = .stable → 1 ≤ s.pstate → wakeFires code s.pstate = true →
      s.wakeEnabled code = true → Does c s fun s' => s'.pwr = .wake s.pstate (if s.pstate = 1 then 4 else 1) ∧
        s'.pstate = 0 ∧ s'.fld 0x1014 31 29 = s.pstate ∧ s'.fld 0x1014 2 0 = code ∧
        (∀ a, a ≠ 0x1004 → a ≠ 0x1014 → s'.reg a = s.reg a) ∧
        s' = { s with regs := s'.regs, pwr := s'.pwr, wakeEv := none, out := o ++ s.out }
    wakes .pcWake 6 [] ∧ (s.refclk = true → wakes .pcReqWake 6 [.pcDone 0] ∧ wakes (.pcReq 0) 6 [.pcDone 0]) ∧
    (s.refclk = true → s.reg2 0x1018 ≤ s.tbase.toNat → wakes .timerWake 4 []) ∧
    (∀ t step, s.vddAon = true → s.pwr = .entry t step → s.wakeEv = none →
      exec .pcWake s = .next { s with wakeEv := some (6, 0) }) ∧
    (∀ r left, s.pwr = .wake left 1 → Does (.railOk r) s fun s' => (∀ x, x ∈ s'.rails ↔ x = r ∨ x ∈ s.rails) ∧
      s'.pwr = (if s'.railsUp left then .wake left (if left ≤ 2 then 4 else 2) else s.pwr) ∧
      s' = { s with rails := s'.rails, pwr := s'.pwr }) ∧
    (∀ left, s.pwr = .wake left 3 → left ≠ 4 → exec .wakeStepEnd s = .next { s with pwr := .wake left 4 }) ∧
    (s.pwr = .wake 4 3 → Does .wakeStepEnd s fun s' => s'.pwr = .wake 4 4 ∧ s'.inReset = true ∧ s'.threads = [] ∧
      s'.tbase = s.tbase) ∧
    (s.pwr = .wake 1 4 → s.trEn = false → s.chans = [] → s.homeQ = [] → s.evWaiters = [] → s.cfgQueue = [] →
      s.dbgQueue = [] → (∀ n < s.variant.ports, (s.sp n).held = []) → s.pstate = 0 → Does .wakeStepEnd s fun s' =>
        s' = { s with pwr := .stable, wakeEv := none, portsStopped := false, clustersStopped := false,
                      stopsLowered := false }) ∧
    (s.pwr = .stable → s.pstate = 4 → Does .vddAonRemoved s fun s' => s'.rails = [] ∧ s'.vddAon = false ∧ s'.pstate = 4 ∧ s'.tbase = 0 ∧
      s'.keys = [] ∧ s'.threads = [] ∧ s'.inReset = true ∧ s'.pending = s.pending)
end

