-- ==== Sys2Proof/Laws/State.lean ====
section
/-! SUPPORT. One lemma per field and update: what each store into the state leaves alone. -/

namespace Sys2Proof.Machine

/-! ### setReg -/

@[simp] theorem State.setReg_variant (s : State) (a : Nat) (v : W32) : (s.setReg a v).variant = s.variant := rfl
@[simp] theorem State.setReg_pending (s : State) (a : Nat) (v : W32) : (s.setReg a v).pending = s.pending := rfl
@[simp] theorem State.setReg_rdShadow (s : State) (a : Nat) (v : W32) : (s.setReg a v).rdShadow = s.rdShadow := rfl
@[simp] theorem State.setReg_wrShadow (s : State) (a : Nat) (v : W32) : (s.setReg a v).wrShadow = s.wrShadow := rfl
@[simp] theorem State.setReg_histShadow (s : State) (a : Nat) (v : W32) : (s.setReg a v).histShadow = s.histShadow := rfl
@[simp] theorem State.setReg_cfgBusy (s : State) (a : Nat) (v : W32) : (s.setReg a v).cfgBusy = s.cfgBusy := rfl
@[simp] theorem State.setReg_cfgQueue (s : State) (a : Nat) (v : W32) : (s.setReg a v).cfgQueue = s.cfgQueue := rfl
@[simp] theorem State.setReg_dbgQueue (s : State) (a : Nat) (v : W32) : (s.setReg a v).dbgQueue = s.dbgQueue := rfl
@[simp] theorem State.setReg_tbase (s : State) (a : Nat) (v : W32) : (s.setReg a v).tbase = s.tbase := rfl
@[simp] theorem State.setReg_refclk (s : State) (a : Nat) (v : W32) : (s.setReg a v).refclk = s.refclk := rfl
@[simp] theorem State.setReg_inReset (s : State) (a : Nat) (v : W32) : (s.setReg a v).inReset = s.inReset := rfl
@[simp] theorem State.setReg_inited (s : State) (a : Nat) (v : W32) : (s.setReg a v).inited = s.inited := rfl
@[simp] theorem State.setReg_relockTo (s : State) (a : Nat) (v : W32) : (s.setReg a v).relockTo = s.relockTo := rfl
@[simp] theorem State.setReg_wantElapsed (s : State) (a : Nat) (v : W32) : (s.setReg a v).wantElapsed = s.wantElapsed := rfl
@[simp] theorem State.setReg_threads (s : State) (a : Nat) (v : W32) : (s.setReg a v).threads = s.threads := rfl
@[simp] theorem State.setReg_scratch (s : State) (a : Nat) (v : W32) : (s.setReg a v).scratch = s.scratch := rfl
@[simp] theorem State.setReg_engHold (s : State) (a : Nat) (v : W32) : (s.setReg a v).engHold = s.engHold := rfl
@[simp] theorem State.setReg_store (s : State) (a : Nat) (v : W32) : (s.setReg a v).store = s.store := rfl
@[simp] theorem State.setReg_jobs (s : State) (a : Nat) (v : W32) : (s.setReg a v).jobs = s.jobs := rfl
@[simp] theorem State.setReg_arrivals (s : State) (a : Nat) (v : W32) : (s.setReg a v).arrivals = s.arrivals := rfl
@[simp] theorem State.setReg_evWaiters (s : State) (a : Nat) (v : W32) : (s.setReg a v).evWaiters = s.evWaiters := rfl
@[simp] theorem State.setReg_evf (s : State) (a : Nat) (v : W32) : (s.setReg a v).evf = s.evf := rfl
@[simp] theorem State.setReg_evtPend (s : State) (a : Nat) (v : W32) : (s.setReg a v).evtPend = s.evtPend := rfl
@[simp] theorem State.setReg_ctxs (s : State) (a : Nat) (v : W32) : (s.setReg a v).ctxs = s.ctxs := rfl
@[simp] theorem State.setReg_readyQ (s : State) (a : Nat) (v : W32) : (s.setReg a v).readyQ = s.readyQ := rfl
@[simp] theorem State.setReg_nextId (s : State) (a : Nat) (v : W32) : (s.setReg a v).nextId = s.nextId := rfl
@[simp] theorem State.setReg_pool (s : State) (a : Nat) (v : W32) : (s.setReg a v).pool = s.pool := rfl
@[simp] theorem State.setReg_vtime (s : State) (a : Nat) (v : W32) : (s.setReg a v).vtime = s.vtime := rfl
@[simp] theorem State.setReg_charmQ (s : State) (a : Nat) (v : W32) : (s.setReg a v).charmQ = s.charmQ := rfl
@[simp] theorem State.setReg_homeQ (s : State) (a : Nat) (v : W32) : (s.setReg a v).homeQ = s.homeQ := rfl
@[simp] theorem State.setReg_trks (s : State) (a : Nat) (v : W32) : (s.setReg a v).trks = s.trks := rfl
@[simp] theorem State.setReg_heldLines (s : State) (a : Nat) (v : W32) : (s.setReg a v).heldLines = s.heldLines := rfl
@[simp] theorem State.setReg_filter (s : State) (a : Nat) (v : W32) : (s.setReg a v).filter = s.filter := rfl
@[simp] theorem State.setReg_atomPred (s : State) (a : Nat) (v : W32) : (s.setReg a v).atomPred = s.atomPred := rfl
@[simp] theorem State.setReg_clasps (s : State) (a : Nat) (v : W32) : (s.setReg a v).clasps = s.clasps := rfl
@[simp] theorem State.setReg_claspWaits (s : State) (a : Nat) (v : W32) : (s.setReg a v).claspWaits = s.claspWaits := rfl
@[simp] theorem State.setReg_claspFull (s : State) (a : Nat) (v : W32) : (s.setReg a v).claspFull = s.claspFull := rfl
@[simp] theorem State.setReg_walks (s : State) (a : Nat) (v : W32) : (s.setReg a v).walks = s.walks := rfl
@[simp] theorem State.setReg_locket (s : State) (a : Nat) (v : W32) : (s.setReg a v).locket = s.locket := rfl
@[simp] theorem State.setReg_tagBad (s : State) (a : Nat) (v : W32) : (s.setReg a v).tagBad = s.tagBad := rfl
@[simp] theorem State.setReg_plots (s : State) (a : Nat) (v : W32) : (s.setReg a v).plots = s.plots := rfl
@[simp] theorem State.setReg_sprouts (s : State) (a : Nat) (v : W32) : (s.setReg a v).sprouts = s.sprouts := rfl
@[simp] theorem State.setReg_ewt (s : State) (a : Nat) (v : W32) : (s.setReg a v).ewt = s.ewt := rfl
@[simp] theorem State.setReg_fillTurn (s : State) (a : Nat) (v : W32) : (s.setReg a v).fillTurn = s.fillTurn := rfl
@[simp] theorem State.setReg_trimming (s : State) (a : Nat) (v : W32) : (s.setReg a v).trimming = s.trimming := rfl
@[simp] theorem State.setReg_moves (s : State) (a : Nat) (v : W32) : (s.setReg a v).moves = s.moves := rfl
@[simp] theorem State.setReg_scrubLine (s : State) (a : Nat) (v : W32) : (s.setReg a v).scrubLine = s.scrubLine := rfl
@[simp] theorem State.setReg_scrubDirty (s : State) (a : Nat) (v : W32) : (s.setReg a v).scrubDirty = s.scrubDirty := rfl
@[simp] theorem State.setReg_scrubWb (s : State) (a : Nat) (v : W32) : (s.setReg a v).scrubWb = s.scrubWb := rfl
@[simp] theorem State.setReg_scrubN (s : State) (a : Nat) (v : W32) : (s.setReg a v).scrubN = s.scrubN := rfl
@[simp] theorem State.setReg_chans (s : State) (a : Nat) (v : W32) : (s.setReg a v).chans = s.chans := rfl
@[simp] theorem State.setReg_live (s : State) (a : Nat) (v : W32) : (s.setReg a v).live = s.live := rfl
@[simp] theorem State.setReg_shadow (s : State) (a : Nat) (v : W32) : (s.setReg a v).shadow = s.shadow := rfl
@[simp] theorem State.setReg_sports (s : State) (a : Nat) (v : W32) : (s.setReg a v).sports = s.sports := rfl
@[simp] theorem State.setReg_stops (s : State) (a : Nat) (v : W32) : (s.setReg a v).stops = s.stops := rfl
@[simp] theorem State.setReg_charmAcc (s : State) (a : Nat) (v : W32) : (s.setReg a v).charmAcc = s.charmAcc := rfl
@[simp] theorem State.setReg_trAt (s : State) (a : Nat) (v : W32) : (s.setReg a v).trAt = s.trAt := rfl
@[simp] theorem State.setReg_hist (s : State) (a : Nat) (v : W32) : (s.setReg a v).hist = s.hist := rfl
@[simp] theorem State.setReg_tprio (s : State) (a : Nat) (v : W32) : (s.setReg a v).tprio = s.tprio := rfl
@[simp] theorem State.setReg_tsleep (s : State) (a : Nat) (v : W32) : (s.setReg a v).tsleep = s.tsleep := rfl
@[simp] theorem State.setReg_assigned (s : State) (a : Nat) (v : W32) : (s.setReg a v).assigned = s.assigned := rfl
@[simp] theorem State.setReg_modTimer (s : State) (a : Nat) (v : W32) : (s.setReg a v).modTimer = s.modTimer := rfl
@[simp] theorem State.setReg_pwr (s : State) (a : Nat) (v : W32) : (s.setReg a v).pwr = s.pwr := rfl
@[simp] theorem State.setReg_wakeEv (s : State) (a : Nat) (v : W32) : (s.setReg a v).wakeEv = s.wakeEv := rfl
@[simp] theorem State.setReg_entryMark (s : State) (a : Nat) (v : W32) : (s.setReg a v).entryMark = s.entryMark := rfl
@[simp] theorem State.setReg_byPc (s : State) (a : Nat) (v : W32) : (s.setReg a v).byPc = s.byPc := rfl
@[simp] theorem State.setReg_rails (s : State) (a : Nat) (v : W32) : (s.setReg a v).rails = s.rails := rfl
@[simp] theorem State.setReg_saved (s : State) (a : Nat) (v : W32) : (s.setReg a v).saved = s.saved := rfl
@[simp] theorem State.setReg_portsStopped (s : State) (a : Nat) (v : W32) : (s.setReg a v).portsStopped = s.portsStopped := rfl
@[simp] theorem State.setReg_clustersStopped (s : State) (a : Nat) (v : W32) : (s.setReg a v).clustersStopped = s.clustersStopped := rfl
@[simp] theorem State.setReg_stopsLowered (s : State) (a : Nat) (v : W32) : (s.setReg a v).stopsLowered = s.stopsLowered := rfl
@[simp] theorem State.setReg_alive (s : State) (a : Nat) (v : W32) : (s.setReg a v).alive = s.alive := rfl
@[simp] theorem State.setReg_pulse (s : State) (a : Nat) (v : W32) : (s.setReg a v).pulse = s.pulse := rfl
@[simp] theorem State.setReg_onsetSeen (s : State) (a : Nat) (v : W32) : (s.setReg a v).onsetSeen = s.onsetSeen := rfl
@[simp] theorem State.setReg_vddAon (s : State) (a : Nat) (v : W32) : (s.setReg a v).vddAon = s.vddAon := rfl
@[simp] theorem State.setReg_wdArmed (s : State) (a : Nat) (v : W32) : (s.setReg a v).wdArmed = s.wdArmed := rfl
@[simp] theorem State.setReg_keys (s : State) (a : Nat) (v : W32) : (s.setReg a v).keys = s.keys := rfl
@[simp] theorem State.setReg_keySlot (s : State) (a : Nat) (v : W32) : (s.setReg a v).keySlot = s.keySlot := rfl
@[simp] theorem State.setReg_keyBeats (s : State) (a : Nat) (v : W32) : (s.setReg a v).keyBeats = s.keyBeats := rfl
@[simp] theorem State.setReg_token (s : State) (a : Nat) (v : W32) : (s.setReg a v).token = s.token := rfl
@[simp] theorem State.setReg_authLevel (s : State) (a : Nat) (v : W32) : (s.setReg a v).authLevel = s.authLevel := rfl
@[simp] theorem State.setReg_dbgAcc (s : State) (a : Nat) (v : W32) : (s.setReg a v).dbgAcc = s.dbgAcc := rfl
@[simp] theorem State.setReg_hscKept (s : State) (a : Nat) (v : W32) : (s.setReg a v).hscKept = s.hscKept := rfl
@[simp] theorem State.setReg_sbCmd (s : State) (a : Nat) (v : W32) : (s.setReg a v).sbCmd = s.sbCmd := rfl
@[simp] theorem State.setReg_prsnt (s : State) (a : Nat) (v : W32) : (s.setReg a v).prsnt = s.prsnt := rfl
@[simp] theorem State.setReg_zqCodes (s : State) (a : Nat) (v : W32) : (s.setReg a v).zqCodes = s.zqCodes := rfl
@[simp] theorem State.setReg_zqMs (s : State) (a : Nat) (v : W32) : (s.setReg a v).zqMs = s.zqMs := rfl
@[simp] theorem State.setReg_padFloat (s : State) (a : Nat) (v : W32) : (s.setReg a v).padFloat = s.padFloat := rfl
@[simp] theorem State.setReg_padQuiet (s : State) (a : Nat) (v : W32) : (s.setReg a v).padQuiet = s.padQuiet := rfl
@[simp] theorem State.setReg_drst (s : State) (a : Nat) (v : W32) : (s.setReg a v).drst = s.drst := rfl
@[simp] theorem State.setReg_free (s : State) (a : Nat) (v : W32) : (s.setReg a v).free = s.free := rfl
@[simp] theorem State.setReg_out (s : State) (a : Nat) (v : W32) : (s.setReg a v).out = s.out := rfl

/-! ### setThr -/

@[simp] theorem State.setThr_variant (s : State) (t : ThreadRef) (th : Thread) : (s.setThr t th).variant = s.variant := rfl
@[simp] theorem State.setThr_pending (s : State) (t : ThreadRef) (th : Thread) : (s.setThr t th).pending = s.pending := rfl
@[simp] theorem State.setThr_regs (s : State) (t : ThreadRef) (th : Thread) : (s.setThr t th).regs = s.regs := rfl
@[simp] theorem State.setThr_rdShadow (s : State) (t : ThreadRef) (th : Thread) : (s.setThr t th).rdShadow = s.rdShadow := rfl
@[simp] theorem State.setThr_wrShadow (s : State) (t : ThreadRef) (th : Thread) : (s.setThr t th).wrShadow = s.wrShadow := rfl
@[simp] theorem State.setThr_histShadow (s : State) (t : ThreadRef) (th : Thread) : (s.setThr t th).histShadow = s.histShadow := rfl
@[simp] theorem State.setThr_cfgBusy (s : State) (t : ThreadRef) (th : Thread) : (s.setThr t th).cfgBusy = s.cfgBusy := rfl
@[simp] theorem State.setThr_cfgQueue (s : State) (t : ThreadRef) (th : Thread) : (s.setThr t th).cfgQueue = s.cfgQueue := rfl
@[simp] theorem State.setThr_dbgQueue (s : State) (t : ThreadRef) (th : Thread) : (s.setThr t th).dbgQueue = s.dbgQueue := rfl
@[simp] theorem State.setThr_tbase (s : State) (t : ThreadRef) (th : Thread) : (s.setThr t th).tbase = s.tbase := rfl
@[simp] theorem State.setThr_refclk (s : State) (t : ThreadRef) (th : Thread) : (s.setThr t th).refclk = s.refclk := rfl
@[simp] theorem State.setThr_inReset (s : State) (t : ThreadRef) (th : Thread) : (s.setThr t th).inReset = s.inReset := rfl
@[simp] theorem State.setThr_inited (s : State) (t : ThreadRef) (th : Thread) : (s.setThr t th).inited = s.inited := rfl
@[simp] theorem State.setThr_relockTo (s : State) (t : ThreadRef) (th : Thread) : (s.setThr t th).relockTo = s.relockTo := rfl
@[simp] theorem State.setThr_wantElapsed (s : State) (t : ThreadRef) (th : Thread) : (s.setThr t th).wantElapsed = s.wantElapsed := rfl
@[simp] theorem State.setThr_scratch (s : State) (t : ThreadRef) (th : Thread) : (s.setThr t th).scratch = s.scratch := rfl
@[simp] theorem State.setThr_engHold (s : State) (t : ThreadRef) (th : Thread) : (s.setThr t th).engHold = s.engHold := rfl
@[simp] theorem State.setThr_store (s : State) (t : ThreadRef) (th : Thread) : (s.setThr t th).store = s.store := rfl
@[simp] theorem State.setThr_jobs (s : State) (t : ThreadRef) (th : Thread) : (s.setThr t th).jobs = s.jobs := rfl
@[simp] theorem State.setThr_arrivals (s : State) (t : ThreadRef) (th : Thread) : (s.setThr t th).arrivals = s.arrivals := rfl
@[simp] theorem State.setThr_evWaiters (s : State) (t : ThreadRef) (th : Thread) : (s.setThr t th).evWaiters = s.evWaiters := rfl
@[simp] theorem State.setThr_evf (s : State) (t : ThreadRef) (th : Thread) : (s.setThr t th).evf = s.evf := rfl
@[simp] theorem State.setThr_evtPend (s : State) (t : ThreadRef) (th : Thread) : (s.setThr t th).evtPend = s.evtPend := rfl
@[simp] theorem State.setThr_ctxs (s : State) (t : ThreadRef) (th : Thread) : (s.setThr t th).ctxs = s.ctxs := rfl
@[simp] theorem State.setThr_readyQ (s : State) (t : ThreadRef) (th : Thread) : (s.setThr t th).readyQ = s.readyQ := rfl
@[simp] theorem State.setThr_nextId (s : State) (t : ThreadRef) (th : Thread) : (s.setThr t th).nextId = s.nextId := rfl
@[simp] theorem State.setThr_pool (s : State) (t : ThreadRef) (th : Thread) : (s.setThr t th).pool = s.pool := rfl
@[simp] theorem State.setThr_vtime (s : State) (t : ThreadRef) (th : Thread) : (s.setThr t th).vtime = s.vtime := rfl
@[simp] theorem State.setThr_charmQ (s : State) (t : ThreadRef) (th : Thread) : (s.setThr t th).charmQ = s.charmQ := rfl
@[simp] theorem State.setThr_homeQ (s : State) (t : ThreadRef) (th : Thread) : (s.setThr t th).homeQ = s.homeQ := rfl
@[simp] theorem State.setThr_trks (s : State) (t : ThreadRef) (th : Thread) : (s.setThr t th).trks = s.trks := rfl
@[simp] theorem State.setThr_heldLines (s : State) (t : ThreadRef) (th : Thread) : (s.setThr t th).heldLines = s.heldLines := rfl
@[simp] theorem State.setThr_filter (s : State) (t : ThreadRef) (th : Thread) : (s.setThr t th).filter = s.filter := rfl
@[simp] theorem State.setThr_atomPred (s : State) (t : ThreadRef) (th : Thread) : (s.setThr t th).atomPred = s.atomPred := rfl
@[simp] theorem State.setThr_clasps (s : State) (t : ThreadRef) (th : Thread) : (s.setThr t th).clasps = s.clasps := rfl
@[simp] theorem State.setThr_claspWaits (s : State) (t : ThreadRef) (th : Thread) : (s.setThr t th).claspWaits = s.claspWaits := rfl
@[simp] theorem State.setThr_claspFull (s : State) (t : ThreadRef) (th : Thread) : (s.setThr t th).claspFull = s.claspFull := rfl
@[simp] theorem State.setThr_walks (s : State) (t : ThreadRef) (th : Thread) : (s.setThr t th).walks = s.walks := rfl
@[simp] theorem State.setThr_locket (s : State) (t : ThreadRef) (th : Thread) : (s.setThr t th).locket = s.locket := rfl
@[simp] theorem State.setThr_tagBad (s : State) (t : ThreadRef) (th : Thread) : (s.setThr t th).tagBad = s.tagBad := rfl
@[simp] theorem State.setThr_plots (s : State) (t : ThreadRef) (th : Thread) : (s.setThr t th).plots = s.plots := rfl
@[simp] theorem State.setThr_sprouts (s : State) (t : ThreadRef) (th : Thread) : (s.setThr t th).sprouts = s.sprouts := rfl
@[simp] theorem State.setThr_ewt (s : State) (t : ThreadRef) (th : Thread) : (s.setThr t th).ewt = s.ewt := rfl
@[simp] theorem State.setThr_fillTurn (s : State) (t : ThreadRef) (th : Thread) : (s.setThr t th).fillTurn = s.fillTurn := rfl
@[simp] theorem State.setThr_trimming (s : State) (t : ThreadRef) (th : Thread) : (s.setThr t th).trimming = s.trimming := rfl
@[simp] theorem State.setThr_moves (s : State) (t : ThreadRef) (th : Thread) : (s.setThr t th).moves = s.moves := rfl
@[simp] theorem State.setThr_scrubLine (s : State) (t : ThreadRef) (th : Thread) : (s.setThr t th).scrubLine = s.scrubLine := rfl
@[simp] theorem State.setThr_scrubDirty (s : State) (t : ThreadRef) (th : Thread) : (s.setThr t th).scrubDirty = s.scrubDirty := rfl
@[simp] theorem State.setThr_scrubWb (s : State) (t : ThreadRef) (th : Thread) : (s.setThr t th).scrubWb = s.scrubWb := rfl
@[simp] theorem State.setThr_scrubN (s : State) (t : ThreadRef) (th : Thread) : (s.setThr t th).scrubN = s.scrubN := rfl
@[simp] theorem State.setThr_chans (s : State) (t : ThreadRef) (th : Thread) : (s.setThr t th).chans = s.chans := rfl
@[simp] theorem State.setThr_live (s : State) (t : ThreadRef) (th : Thread) : (s.setThr t th).live = s.live := rfl
@[simp] theorem State.setThr_shadow (s : State) (t : ThreadRef) (th : Thread) : (s.setThr t th).shadow = s.shadow := rfl
@[simp] theorem State.setThr_sports (s : State) (t : ThreadRef) (th : Thread) : (s.setThr t th).sports = s.sports := rfl
@[simp] theorem State.setThr_stops (s : State) (t : ThreadRef) (th : Thread) : (s.setThr t th).stops = s.stops := rfl
@[simp] theorem State.setThr_charmAcc (s : State) (t : ThreadRef) (th : Thread) : (s.setThr t th).charmAcc = s.charmAcc := rfl
@[simp] theorem State.setThr_trAt (s : State) (t : ThreadRef) (th : Thread) : (s.setThr t th).trAt = s.trAt := rfl
@[simp] theorem State.setThr_hist (s : State) (t : ThreadRef) (th : Thread) : (s.setThr t th).hist = s.hist := rfl
@[simp] theorem State.setThr_tprio (s : State) (t : ThreadRef) (th : Thread) : (s.setThr t th).tprio = s.tprio := rfl
@[simp] theorem State.setThr_tsleep (s : State) (t : ThreadRef) (th : Thread) : (s.setThr t th).tsleep = s.tsleep := rfl
@[simp] theorem State.setThr_assigned (s : State) (t : ThreadRef) (th : Thread) : (s.setThr t th).assigned = s.assigned := rfl
@[simp] theorem State.setThr_modTimer (s : State) (t : ThreadRef) (th : Thread) : (s.setThr t th).modTimer = s.modTimer := rfl
@[simp] theorem State.setThr_pwr (s : State) (t : ThreadRef) (th : Thread) : (s.setThr t th).pwr = s.pwr := rfl
@[simp] theorem State.setThr_wakeEv (s : State) (t : ThreadRef) (th : Thread) : (s.setThr t th).wakeEv = s.wakeEv := rfl
@[simp] theorem State.setThr_entryMark (s : State) (t : ThreadRef) (th : Thread) : (s.setThr t th).entryMark = s.entryMark := rfl
@[simp] theorem State.setThr_byPc (s : State) (t : ThreadRef) (th : Thread) : (s.setThr t th).byPc = s.byPc := rfl
@[simp] theorem State.setThr_rails (s : State) (t : ThreadRef) (th : Thread) : (s.setThr t th).rails = s.rails := rfl
@[simp] theorem State.setThr_saved (s : State) (t : ThreadRef) (th : Thread) : (s.setThr t th).saved = s.saved := rfl
@[simp] theorem State.setThr_portsStopped (s : State) (t : ThreadRef) (th : Thread) : (s.setThr t th).portsStopped = s.portsStopped := rfl
@[simp] theorem State.setThr_clustersStopped (s : State) (t : ThreadRef) (th : Thread) : (s.setThr t th).clustersStopped = s.clustersStopped := rfl
@[simp] theorem State.setThr_stopsLowered (s : State) (t : ThreadRef) (th : Thread) : (s.setThr t th).stopsLowered = s.stopsLowered := rfl
@[simp] theorem State.setThr_alive (s : State) (t : ThreadRef) (th : Thread) : (s.setThr t th).alive = s.alive := rfl
@[simp] theorem State.setThr_pulse (s : State) (t : ThreadRef) (th : Thread) : (s.setThr t th).pulse = s.pulse := rfl
@[simp] theorem State.setThr_onsetSeen (s : State) (t : ThreadRef) (th : Thread) : (s.setThr t th).onsetSeen = s.onsetSeen := rfl
@[simp] theorem State.setThr_vddAon (s : State) (t : ThreadRef) (th : Thread) : (s.setThr t th).vddAon = s.vddAon := rfl
@[simp] theorem State.setThr_wdArmed (s : State) (t : ThreadRef) (th : Thread) : (s.setThr t th).wdArmed = s.wdArmed := rfl
@[simp] theorem State.setThr_keys (s : State) (t : ThreadRef) (th : Thread) : (s.setThr t th).keys = s.keys := rfl
@[simp] theorem State.setThr_keySlot (s : State) (t : ThreadRef) (th : Thread) : (s.setThr t th).keySlot = s.keySlot := rfl
@[simp] theorem State.setThr_keyBeats (s : State) (t : ThreadRef) (th : Thread) : (s.setThr t th).keyBeats = s.keyBeats := rfl
@[simp] theorem State.setThr_token (s : State) (t : ThreadRef) (th : Thread) : (s.setThr t th).token = s.token := rfl
@[simp] theorem State.setThr_authLevel (s : State) (t : ThreadRef) (th : Thread) : (s.setThr t th).authLevel = s.authLevel := rfl
@[simp] theorem State.setThr_dbgAcc (s : State) (t : ThreadRef) (th : Thread) : (s.setThr t th).dbgAcc = s.dbgAcc := rfl
@[simp] theorem State.setThr_hscKept (s : State) (t : ThreadRef) (th : Thread) : (s.setThr t th).hscKept = s.hscKept := rfl
@[simp] theorem State.setThr_sbCmd (s : State) (t : ThreadRef) (th : Thread) : (s.setThr t th).sbCmd = s.sbCmd := rfl
@[simp] theorem State.setThr_prsnt (s : State) (t : ThreadRef) (th : Thread) : (s.setThr t th).prsnt = s.prsnt := rfl
@[simp] theorem State.setThr_zqCodes (s : State) (t : ThreadRef) (th : Thread) : (s.setThr t th).zqCodes = s.zqCodes := rfl
@[simp] theorem State.setThr_zqMs (s : State) (t : ThreadRef) (th : Thread) : (s.setThr t th).zqMs = s.zqMs := rfl
@[simp] theorem State.setThr_padFloat (s : State) (t : ThreadRef) (th : Thread) : (s.setThr t th).padFloat = s.padFloat := rfl
@[simp] theorem State.setThr_padQuiet (s : State) (t : ThreadRef) (th : Thread) : (s.setThr t th).padQuiet = s.padQuiet := rfl
@[simp] theorem State.setThr_drst (s : State) (t : ThreadRef) (th : Thread) : (s.setThr t th).drst = s.drst := rfl
@[simp] theorem State.setThr_free (s : State) (t : ThreadRef) (th : Thread) : (s.setThr t th).free = s.free := rfl
@[simp] theorem State.setThr_out (s : State) (t : ThreadRef) (th : Thread) : (s.setThr t th).out = s.out := rfl

/-! ### setCtx -/

@[simp] theorem State.setCtx_variant (s : State) (n : Nat) (c : Ctx) : (s.setCtx n c).variant = s.variant := rfl
@[simp] theorem State.setCtx_pending (s : State) (n : Nat) (c : Ctx) : (s.setCtx n c).pending = s.pending := rfl
@[simp] theorem State.setCtx_regs (s : State) (n : Nat) (c : Ctx) : (s.setCtx n c).regs = s.regs := rfl
@[simp] theorem State.setCtx_rdShadow (s : State) (n : Nat) (c : Ctx) : (s.setCtx n c).rdShadow = s.rdShadow := rfl
@[simp] theorem State.setCtx_wrShadow (s : State) (n : Nat) (c : Ctx) : (s.setCtx n c).wrShadow = s.wrShadow := rfl
@[simp] theorem State.setCtx_histShadow (s : State) (n : Nat) (c : Ctx) : (s.setCtx n c).histShadow = s.histShadow := rfl
@[simp] theorem State.setCtx_cfgBusy (s : State) (n : Nat) (c : Ctx) : (s.setCtx n c).cfgBusy = s.cfgBusy := rfl
@[simp] theorem State.setCtx_cfgQueue (s : State) (n : Nat) (c : Ctx) : (s.setCtx n c).cfgQueue = s.cfgQueue := rfl
@[simp] theorem State.setCtx_dbgQueue (s : State) (n : Nat) (c : Ctx) : (s.setCtx n c).dbgQueue = s.dbgQueue := rfl
@[simp] theorem State.setCtx_tbase (s : State) (n : Nat) (c : Ctx) : (s.setCtx n c).tbase = s.tbase := rfl
@[simp] theorem State.setCtx_refclk (s : State) (n : Nat) (c : Ctx) : (s.setCtx n c).refclk = s.refclk := rfl
@[simp] theorem State.setCtx_inReset (s : State) (n : Nat) (c : Ctx) : (s.setCtx n c).inReset = s.inReset := rfl
@[simp] theorem State.setCtx_inited (s : State) (n : Nat) (c : Ctx) : (s.setCtx n c).inited = s.inited := rfl
@[simp] theorem State.setCtx_relockTo (s : State) (n : Nat) (c : Ctx) : (s.setCtx n c).relockTo = s.relockTo := rfl
@[simp] theorem State.setCtx_wantElapsed (s : State) (n : Nat) (c : Ctx) : (s.setCtx n c).wantElapsed = s.wantElapsed := rfl
@[simp] theorem State.setCtx_threads (s : State) (n : Nat) (c : Ctx) : (s.setCtx n c).threads = s.threads := rfl
@[simp] theorem State.setCtx_scratch (s : State) (n : Nat) (c : Ctx) : (s.setCtx n c).scratch = s.scratch := rfl
@[simp] theorem State.setCtx_engHold (s : State) (n : Nat) (c : Ctx) : (s.setCtx n c).engHold = s.engHold := rfl
@[simp] theorem State.setCtx_store (s : State) (n : Nat) (c : Ctx) : (s.setCtx n c).store = s.store := rfl
@[simp] theorem State.setCtx_jobs (s : State) (n : Nat) (c : Ctx) : (s.setCtx n c).jobs = s.jobs := rfl
@[simp] theorem State.setCtx_arrivals (s : State) (n : Nat) (c : Ctx) : (s.setCtx n c).arrivals = s.arrivals := rfl
@[simp] theorem State.setCtx_evWaiters (s : State) (n : Nat) (c : Ctx) : (s.setCtx n c).evWaiters = s.evWaiters := rfl
@[simp] theorem State.setCtx_evf (s : State) (n : Nat) (c : Ctx) : (s.setCtx n c).evf = s.evf := rfl
@[simp] theorem State.setCtx_evtPend (s : State) (n : Nat) (c : Ctx) : (s.setCtx n c).evtPend = s.evtPend := rfl
@[simp] theorem State.setCtx_readyQ (s : State) (n : Nat) (c : Ctx) : (s.setCtx n c).readyQ = s.readyQ := rfl
@[simp] theorem State.setCtx_nextId (s : State) (n : Nat) (c : Ctx) : (s.setCtx n c).nextId = s.nextId := rfl
@[simp] theorem State.setCtx_pool (s : State) (n : Nat) (c : Ctx) : (s.setCtx n c).pool = s.pool := rfl
@[simp] theorem State.setCtx_vtime (s : State) (n : Nat) (c : Ctx) : (s.setCtx n c).vtime = s.vtime := rfl
@[simp] theorem State.setCtx_charmQ (s : State) (n : Nat) (c : Ctx) : (s.setCtx n c).charmQ = s.charmQ := rfl
@[simp] theorem State.setCtx_homeQ (s : State) (n : Nat) (c : Ctx) : (s.setCtx n c).homeQ = s.homeQ := rfl
@[simp] theorem State.setCtx_trks (s : State) (n : Nat) (c : Ctx) : (s.setCtx n c).trks = s.trks := rfl
@[simp] theorem State.setCtx_heldLines (s : State) (n : Nat) (c : Ctx) : (s.setCtx n c).heldLines = s.heldLines := rfl
@[simp] theorem State.setCtx_filter (s : State) (n : Nat) (c : Ctx) : (s.setCtx n c).filter = s.filter := rfl
@[simp] theorem State.setCtx_atomPred (s : State) (n : Nat) (c : Ctx) : (s.setCtx n c).atomPred = s.atomPred := rfl
@[simp] theorem State.setCtx_clasps (s : State) (n : Nat) (c : Ctx) : (s.setCtx n c).clasps = s.clasps := rfl
@[simp] theorem State.setCtx_claspWaits (s : State) (n : Nat) (c : Ctx) : (s.setCtx n c).claspWaits = s.claspWaits := rfl
@[simp] theorem State.setCtx_claspFull (s : State) (n : Nat) (c : Ctx) : (s.setCtx n c).claspFull = s.claspFull := rfl
@[simp] theorem State.setCtx_walks (s : State) (n : Nat) (c : Ctx) : (s.setCtx n c).walks = s.walks := rfl
@[simp] theorem State.setCtx_locket (s : State) (n : Nat) (c : Ctx) : (s.setCtx n c).locket = s.locket := rfl
@[simp] theorem State.setCtx_tagBad (s : State) (n : Nat) (c : Ctx) : (s.setCtx n c).tagBad = s.tagBad := rfl
@[simp] theorem State.setCtx_plots (s : State) (n : Nat) (c : Ctx) : (s.setCtx n c).plots = s.plots := rfl
@[simp] theorem State.setCtx_sprouts (s : State) (n : Nat) (c : Ctx) : (s.setCtx n c).sprouts = s.sprouts := rfl
@[simp] theorem State.setCtx_ewt (s : State) (n : Nat) (c : Ctx) : (s.setCtx n c).ewt = s.ewt := rfl
@[simp] theorem State.setCtx_fillTurn (s : State) (n : Nat) (c : Ctx) : (s.setCtx n c).fillTurn = s.fillTurn := rfl
@[simp] theorem State.setCtx_trimming (s : State) (n : Nat) (c : Ctx) : (s.setCtx n c).trimming = s.trimming := rfl
@[simp] theorem State.setCtx_moves (s : State) (n : Nat) (c : Ctx) : (s.setCtx n c).moves = s.moves := rfl
@[simp] theorem State.setCtx_scrubLine (s : State) (n : Nat) (c : Ctx) : (s.setCtx n c).scrubLine = s.scrubLine := rfl
@[simp] theorem State.setCtx_scrubDirty (s : State) (n : Nat) (c : Ctx) : (s.setCtx n c).scrubDirty = s.scrubDirty := rfl
@[simp] theorem State.setCtx_scrubWb (s : State) (n : Nat) (c : Ctx) : (s.setCtx n c).scrubWb = s.scrubWb := rfl
@[simp] theorem State.setCtx_scrubN (s : State) (n : Nat) (c : Ctx) : (s.setCtx n c).scrubN = s.scrubN := rfl
@[simp] theorem State.setCtx_chans (s : State) (n : Nat) (c : Ctx) : (s.setCtx n c).chans = s.chans := rfl
@[simp] theorem State.setCtx_live (s : State) (n : Nat) (c : Ctx) : (s.setCtx n c).live = s.live := rfl
@[simp] theorem State.setCtx_shadow (s : State) (n : Nat) (c : Ctx) : (s.setCtx n c).shadow = s.shadow := rfl
@[simp] theorem State.setCtx_sports (s : State) (n : Nat) (c : Ctx) : (s.setCtx n c).sports = s.sports := rfl
@[simp] theorem State.setCtx_stops (s : State) (n : Nat) (c : Ctx) : (s.setCtx n c).stops = s.stops := rfl
@[simp] theorem State.setCtx_charmAcc (s : State) (n : Nat) (c : Ctx) : (s.setCtx n c).charmAcc = s.charmAcc := rfl
@[simp] theorem State.setCtx_trAt (s : State) (n : Nat) (c : Ctx) : (s.setCtx n c).trAt = s.trAt := rfl
@[simp] theorem State.setCtx_hist (s : State) (n : Nat) (c : Ctx) : (s.setCtx n c).hist = s.hist := rfl
@[simp] theorem State.setCtx_tprio (s : State) (n : Nat) (c : Ctx) : (s.setCtx n c).tprio = s.tprio := rfl
@[simp] theorem State.setCtx_tsleep (s : State) (n : Nat) (c : Ctx) : (s.setCtx n c).tsleep = s.tsleep := rfl
@[simp] theorem State.setCtx_assigned (s : State) (n : Nat) (c : Ctx) : (s.setCtx n c).assigned = s.assigned := rfl
@[simp] theorem State.setCtx_modTimer (s : State) (n : Nat) (c : Ctx) : (s.setCtx n c).modTimer = s.modTimer := rfl
@[simp] theorem State.setCtx_pwr (s : State) (n : Nat) (c : Ctx) : (s.setCtx n c).pwr = s.pwr := rfl
@[simp] theorem State.setCtx_wakeEv (s : State) (n : Nat) (c : Ctx) : (s.setCtx n c).wakeEv = s.wakeEv := rfl
@[simp] theorem State.setCtx_entryMark (s : State) (n : Nat) (c : Ctx) : (s.setCtx n c).entryMark = s.entryMark := rfl
@[simp] theorem State.setCtx_byPc (s : State) (n : Nat) (c : Ctx) : (s.setCtx n c).byPc = s.byPc := rfl
@[simp] theorem State.setCtx_rails (s : State) (n : Nat) (c : Ctx) : (s.setCtx n c).rails = s.rails := rfl
@[simp] theorem State.setCtx_saved (s : State) (n : Nat) (c : Ctx) : (s.setCtx n c).saved = s.saved := rfl
@[simp] theorem State.setCtx_portsStopped (s : State) (n : Nat) (c : Ctx) : (s.setCtx n c).portsStopped = s.portsStopped := rfl
@[simp] theorem State.setCtx_clustersStopped (s : State) (n : Nat) (c : Ctx) : (s.setCtx n c).clustersStopped = s.clustersStopped := rfl
@[simp] theorem State.setCtx_stopsLowered (s : State) (n : Nat) (c : Ctx) : (s.setCtx n c).stopsLowered = s.stopsLowered := rfl
@[simp] theorem State.setCtx_alive (s : State) (n : Nat) (c : Ctx) : (s.setCtx n c).alive = s.alive := rfl
@[simp] theorem State.setCtx_pulse (s : State) (n : Nat) (c : Ctx) : (s.setCtx n c).pulse = s.pulse := rfl
@[simp] theorem State.setCtx_onsetSeen (s : State) (n : Nat) (c : Ctx) : (s.setCtx n c).onsetSeen = s.onsetSeen := rfl
@[simp] theorem State.setCtx_vddAon (s : State) (n : Nat) (c : Ctx) : (s.setCtx n c).vddAon = s.vddAon := rfl
@[simp] theorem State.setCtx_wdArmed (s : State) (n : Nat) (c : Ctx) : (s.setCtx n c).wdArmed = s.wdArmed := rfl
@[simp] theorem State.setCtx_keys (s : State) (n : Nat) (c : Ctx) : (s.setCtx n c).keys = s.keys := rfl
@[simp] theorem State.setCtx_keySlot (s : State) (n : Nat) (c : Ctx) : (s.setCtx n c).keySlot = s.keySlot := rfl
@[simp] theorem State.setCtx_keyBeats (s : State) (n : Nat) (c : Ctx) : (s.setCtx n c).keyBeats = s.keyBeats := rfl
@[simp] theorem State.setCtx_token (s : State) (n : Nat) (c : Ctx) : (s.setCtx n c).token = s.token := rfl
@[simp] theorem State.setCtx_authLevel (s : State) (n : Nat) (c : Ctx) : (s.setCtx n c).authLevel = s.authLevel := rfl
@[simp] theorem State.setCtx_dbgAcc (s : State) (n : Nat) (c : Ctx) : (s.setCtx n c).dbgAcc = s.dbgAcc := rfl
@[simp] theorem State.setCtx_hscKept (s : State) (n : Nat) (c : Ctx) : (s.setCtx n c).hscKept = s.hscKept := rfl
@[simp] theorem State.setCtx_sbCmd (s : State) (n : Nat) (c : Ctx) : (s.setCtx n c).sbCmd = s.sbCmd := rfl
@[simp] theorem State.setCtx_prsnt (s : State) (n : Nat) (c : Ctx) : (s.setCtx n c).prsnt = s.prsnt := rfl
@[simp] theorem State.setCtx_zqCodes (s : State) (n : Nat) (c : Ctx) : (s.setCtx n c).zqCodes = s.zqCodes := rfl
@[simp] theorem State.setCtx_zqMs (s : State) (n : Nat) (c : Ctx) : (s.setCtx n c).zqMs = s.zqMs := rfl
@[simp] theorem State.setCtx_padFloat (s : State) (n : Nat) (c : Ctx) : (s.setCtx n c).padFloat = s.padFloat := rfl
@[simp] theorem State.setCtx_padQuiet (s : State) (n : Nat) (c : Ctx) : (s.setCtx n c).padQuiet = s.padQuiet := rfl
@[simp] theorem State.setCtx_drst (s : State) (n : Nat) (c : Ctx) : (s.setCtx n c).drst = s.drst := rfl
@[simp] theorem State.setCtx_free (s : State) (n : Nat) (c : Ctx) : (s.setCtx n c).free = s.free := rfl
@[simp] theorem State.setCtx_out (s : State) (n : Nat) (c : Ctx) : (s.setCtx n c).out = s.out := rfl

/-! ### setChan -/

@[simp] theorem State.setChan_variant (s : State) (n : Nat) (c : Chan) : (s.setChan n c).variant = s.variant := rfl
@[simp] theorem State.setChan_pending (s : State) (n : Nat) (c : Chan) : (s.setChan n c).pending = s.pending := rfl
@[simp] theorem State.setChan_regs (s : State) (n : Nat) (c : Chan) : (s.setChan n c).regs = s.regs := rfl
@[simp] theorem State.setChan_rdShadow (s : State) (n : Nat) (c : Chan) : (s.setChan n c).rdShadow = s.rdShadow := rfl
@[simp] theorem State.setChan_wrShadow (s : State) (n : Nat) (c : Chan) : (s.setChan n c).wrShadow = s.wrShadow := rfl
@[simp] theorem State.setChan_histShadow (s : State) (n : Nat) (c : Chan) : (s.setChan n c).histShadow = s.histShadow := rfl
@[simp] theorem State.setChan_cfgBusy (s : State) (n : Nat) (c : Chan) : (s.setChan n c).cfgBusy = s.cfgBusy := rfl
@[simp] theorem State.setChan_cfgQueue (s : State) (n : Nat) (c : Chan) : (s.setChan n c).cfgQueue = s.cfgQueue := rfl
@[simp] theorem State.setChan_dbgQueue (s : State) (n : Nat) (c : Chan) : (s.setChan n c).dbgQueue = s.dbgQueue := rfl
@[simp] theorem State.setChan_tbase (s : State) (n : Nat) (c : Chan) : (s.setChan n c).tbase = s.tbase := rfl
@[simp] theorem State.setChan_refclk (s : State) (n : Nat) (c : Chan) : (s.setChan n c).refclk = s.refclk := rfl
@[simp] theorem State.setChan_inReset (s : State) (n : Nat) (c : Chan) : (s.setChan n c).inReset = s.inReset := rfl
@[simp] theorem State.setChan_inited (s : State) (n : Nat) (c : Chan) : (s.setChan n c).inited = s.inited := rfl
@[simp] theorem State.setChan_relockTo (s : State) (n : Nat) (c : Chan) : (s.setChan n c).relockTo = s.relockTo := rfl
@[simp] theorem State.setChan_wantElapsed (s : State) (n : Nat) (c : Chan) : (s.setChan n c).wantElapsed = s.wantElapsed := rfl
@[simp] theorem State.setChan_threads (s : State) (n : Nat) (c : Chan) : (s.setChan n c).threads = s.threads := rfl
@[simp] theorem State.setChan_scratch (s : State) (n : Nat) (c : Chan) : (s.setChan n c).scratch = s.scratch := rfl
@[simp] theorem State.setChan_engHold (s : State) (n : Nat) (c : Chan) : (s.setChan n c).engHold = s.engHold := rfl
@[simp] theorem State.setChan_store (s : State) (n : Nat) (c : Chan) : (s.setChan n c).store = s.store := rfl
@[simp] theorem State.setChan_jobs (s : State) (n : Nat) (c : Chan) : (s.setChan n c).jobs = s.jobs := rfl
@[simp] theorem State.setChan_arrivals (s : State) (n : Nat) (c : Chan) : (s.setChan n c).arrivals = s.arrivals := rfl
@[simp] theorem State.setChan_evWaiters (s : State) (n : Nat) (c : Chan) : (s.setChan n c).evWaiters = s.evWaiters := rfl
@[simp] theorem State.setChan_evf (s : State) (n : Nat) (c : Chan) : (s.setChan n c).evf = s.evf := rfl
@[simp] theorem State.setChan_evtPend (s : State) (n : Nat) (c : Chan) : (s.setChan n c).evtPend = s.evtPend := rfl
@[simp] theorem State.setChan_ctxs (s : State) (n : Nat) (c : Chan) : (s.setChan n c).ctxs = s.ctxs := rfl
@[simp] theorem State.setChan_readyQ (s : State) (n : Nat) (c : Chan) : (s.setChan n c).readyQ = s.readyQ := rfl
@[simp] theorem State.setChan_nextId (s : State) (n : Nat) (c : Chan) : (s.setChan n c).nextId = s.nextId := rfl
@[simp] theorem State.setChan_pool (s : State) (n : Nat) (c : Chan) : (s.setChan n c).pool = s.pool := rfl
@[simp] theorem State.setChan_vtime (s : State) (n : Nat) (c : Chan) : (s.setChan n c).vtime = s.vtime := rfl
@[simp] theorem State.setChan_charmQ (s : State) (n : Nat) (c : Chan) : (s.setChan n c).charmQ = s.charmQ := rfl
@[simp] theorem State.setChan_homeQ (s : State) (n : Nat) (c : Chan) : (s.setChan n c).homeQ = s.homeQ := rfl
@[simp] theorem State.setChan_trks (s : State) (n : Nat) (c : Chan) : (s.setChan n c).trks = s.trks := rfl
@[simp] theorem State.setChan_heldLines (s : State) (n : Nat) (c : Chan) : (s.setChan n c).heldLines = s.heldLines := rfl
@[simp] theorem State.setChan_filter (s : State) (n : Nat) (c : Chan) : (s.setChan n c).filter = s.filter := rfl
@[simp] theorem State.setChan_atomPred (s : State) (n : Nat) (c : Chan) : (s.setChan n c).atomPred = s.atomPred := rfl
@[simp] theorem State.setChan_clasps (s : State) (n : Nat) (c : Chan) : (s.setChan n c).clasps = s.clasps := rfl
@[simp] theorem State.setChan_claspWaits (s : State) (n : Nat) (c : Chan) : (s.setChan n c).claspWaits = s.claspWaits := rfl
@[simp] theorem State.setChan_claspFull (s : State) (n : Nat) (c : Chan) : (s.setChan n c).claspFull = s.claspFull := rfl
@[simp] theorem State.setChan_walks (s : State) (n : Nat) (c : Chan) : (s.setChan n c).walks = s.walks := rfl
@[simp] theorem State.setChan_locket (s : State) (n : Nat) (c : Chan) : (s.setChan n c).locket = s.locket := rfl
@[simp] theorem State.setChan_tagBad (s : State) (n : Nat) (c : Chan) : (s.setChan n c).tagBad = s.tagBad := rfl
@[simp] theorem State.setChan_plots (s : State) (n : Nat) (c : Chan) : (s.setChan n c).plots = s.plots := rfl
@[simp] theorem State.setChan_sprouts (s : State) (n : Nat) (c : Chan) : (s.setChan n c).sprouts = s.sprouts := rfl
@[simp] theorem State.setChan_ewt (s : State) (n : Nat) (c : Chan) : (s.setChan n c).ewt = s.ewt := rfl
@[simp] theorem State.setChan_fillTurn (s : State) (n : Nat) (c : Chan) : (s.setChan n c).fillTurn = s.fillTurn := rfl
@[simp] theorem State.setChan_trimming (s : State) (n : Nat) (c : Chan) : (s.setChan n c).trimming = s.trimming := rfl
@[simp] theorem State.setChan_moves (s : State) (n : Nat) (c : Chan) : (s.setChan n c).moves = s.moves := rfl
@[simp] theorem State.setChan_scrubLine (s : State) (n : Nat) (c : Chan) : (s.setChan n c).scrubLine = s.scrubLine := rfl
@[simp] theorem State.setChan_scrubDirty (s : State) (n : Nat) (c : Chan) : (s.setChan n c).scrubDirty = s.scrubDirty := rfl
@[simp] theorem State.setChan_scrubWb (s : State) (n : Nat) (c : Chan) : (s.setChan n c).scrubWb = s.scrubWb := rfl
@[simp] theorem State.setChan_scrubN (s : State) (n : Nat) (c : Chan) : (s.setChan n c).scrubN = s.scrubN := rfl
@[simp] theorem State.setChan_live (s : State) (n : Nat) (c : Chan) : (s.setChan n c).live = s.live := rfl
@[simp] theorem State.setChan_shadow (s : State) (n : Nat) (c : Chan) : (s.setChan n c).shadow = s.shadow := rfl
@[simp] theorem State.setChan_sports (s : State) (n : Nat) (c : Chan) : (s.setChan n c).sports = s.sports := rfl
@[simp] theorem State.setChan_stops (s : State) (n : Nat) (c : Chan) : (s.setChan n c).stops = s.stops := rfl
@[simp] theorem State.setChan_charmAcc (s : State) (n : Nat) (c : Chan) : (s.setChan n c).charmAcc = s.charmAcc := rfl
@[simp] theorem State.setChan_trAt (s : State) (n : Nat) (c : Chan) : (s.setChan n c).trAt = s.trAt := rfl
@[simp] theorem State.setChan_hist (s : State) (n : Nat) (c : Chan) : (s.setChan n c).hist = s.hist := rfl
@[simp] theorem State.setChan_tprio (s : State) (n : Nat) (c : Chan) : (s.setChan n c).tprio = s.tprio := rfl
@[simp] theorem State.setChan_tsleep (s : State) (n : Nat) (c : Chan) : (s.setChan n c).tsleep = s.tsleep := rfl
@[simp] theorem State.setChan_assigned (s : State) (n : Nat) (c : Chan) : (s.setChan n c).assigned = s.assigned := rfl
@[simp] theorem State.setChan_modTimer (s : State) (n : Nat) (c : Chan) : (s.setChan n c).modTimer = s.modTimer := rfl
@[simp] theorem State.setChan_pwr (s : State) (n : Nat) (c : Chan) : (s.setChan n c).pwr = s.pwr := rfl
@[simp] theorem State.setChan_wakeEv (s : State) (n : Nat) (c : Chan) : (s.setChan n c).wakeEv = s.wakeEv := rfl
@[simp] theorem State.setChan_entryMark (s : State) (n : Nat) (c : Chan) : (s.setChan n c).entryMark = s.entryMark := rfl
@[simp] theorem State.setChan_byPc (s : State) (n : Nat) (c : Chan) : (s.setChan n c).byPc = s.byPc := rfl
@[simp] theorem State.setChan_rails (s : State) (n : Nat) (c : Chan) : (s.setChan n c).rails = s.rails := rfl
@[simp] theorem State.setChan_saved (s : State) (n : Nat) (c : Chan) : (s.setChan n c).saved = s.saved := rfl
@[simp] theorem State.setChan_portsStopped (s : State) (n : Nat) (c : Chan) : (s.setChan n c).portsStopped = s.portsStopped := rfl
@[simp] theorem State.setChan_clustersStopped (s : State) (n : Nat) (c : Chan) : (s.setChan n c).clustersStopped = s.clustersStopped := rfl
@[simp] theorem State.setChan_stopsLowered (s : State) (n : Nat) (c : Chan) : (s.setChan n c).stopsLowered = s.stopsLowered := rfl
@[simp] theorem State.setChan_alive (s : State) (n : Nat) (c : Chan) : (s.setChan n c).alive = s.alive := rfl
@[simp] theorem State.setChan_pulse (s : State) (n : Nat) (c : Chan) : (s.setChan n c).pulse = s.pulse := rfl
@[simp] theorem State.setChan_onsetSeen (s : State) (n : Nat) (c : Chan) : (s.setChan n c).onsetSeen = s.onsetSeen := rfl
@[simp] theorem State.setChan_vddAon (s : State) (n : Nat) (c : Chan) : (s.setChan n c).vddAon = s.vddAon := rfl
@[simp] theorem State.setChan_wdArmed (s : State) (n : Nat) (c : Chan) : (s.setChan n c).wdArmed = s.wdArmed := rfl
@[simp] theorem State.setChan_keys (s : State) (n : Nat) (c : Chan) : (s.setChan n c).keys = s.keys := rfl
@[simp] theorem State.setChan_keySlot (s : State) (n : Nat) (c : Chan) : (s.setChan n c).keySlot = s.keySlot := rfl
@[simp] theorem State.setChan_keyBeats (s : State) (n : Nat) (c : Chan) : (s.setChan n c).keyBeats = s.keyBeats := rfl
@[simp] theorem State.setChan_token (s : State) (n : Nat) (c : Chan) : (s.setChan n c).token = s.token := rfl
@[simp] theorem State.setChan_authLevel (s : State) (n : Nat) (c : Chan) : (s.setChan n c).authLevel = s.authLevel := rfl
@[simp] theorem State.setChan_dbgAcc (s : State) (n : Nat) (c : Chan) : (s.setChan n c).dbgAcc = s.dbgAcc := rfl
@[simp] theorem State.setChan_hscKept (s : State) (n : Nat) (c : Chan) : (s.setChan n c).hscKept = s.hscKept := rfl
@[simp] theorem State.setChan_sbCmd (s : State) (n : Nat) (c : Chan) : (s.setChan n c).sbCmd = s.sbCmd := rfl
@[simp] theorem State.setChan_prsnt (s : State) (n : Nat) (c : Chan) : (s.setChan n c).prsnt = s.prsnt := rfl
@[simp] theorem State.setChan_zqCodes (s : State) (n : Nat) (c : Chan) : (s.setChan n c).zqCodes = s.zqCodes := rfl
@[simp] theorem State.setChan_zqMs (s : State) (n : Nat) (c : Chan) : (s.setChan n c).zqMs = s.zqMs := rfl
@[simp] theorem State.setChan_padFloat (s : State) (n : Nat) (c : Chan) : (s.setChan n c).padFloat = s.padFloat := rfl
@[simp] theorem State.setChan_padQuiet (s : State) (n : Nat) (c : Chan) : (s.setChan n c).padQuiet = s.padQuiet := rfl
@[simp] theorem State.setChan_drst (s : State) (n : Nat) (c : Chan) : (s.setChan n c).drst = s.drst := rfl
@[simp] theorem State.setChan_free (s : State) (n : Nat) (c : Chan) : (s.setChan n c).free = s.free := rfl
@[simp] theorem State.setChan_out (s : State) (n : Nat) (c : Chan) : (s.setChan n c).out = s.out := rfl

/-! ### setSp -/

@[simp] theorem State.setSp_variant (s : State) (n : Nat) (p : SPort) : (s.setSp n p).variant = s.variant := rfl
@[simp] theorem State.setSp_pending (s : State) (n : Nat) (p : SPort) : (s.setSp n p).pending = s.pending := rfl
@[simp] theorem State.setSp_regs (s : State) (n : Nat) (p : SPort) : (s.setSp n p).regs = s.regs := rfl
@[simp] theorem State.setSp_rdShadow (s : State) (n : Nat) (p : SPort) : (s.setSp n p).rdShadow = s.rdShadow := rfl
@[simp] theorem State.setSp_wrShadow (s : State) (n : Nat) (p : SPort) : (s.setSp n p).wrShadow = s.wrShadow := rfl
@[simp] theorem State.setSp_histShadow (s : State) (n : Nat) (p : SPort) : (s.setSp n p).histShadow = s.histShadow := rfl
@[simp] theorem State.setSp_cfgBusy (s : State) (n : Nat) (p : SPort) : (s.setSp n p).cfgBusy = s.cfgBusy := rfl
@[simp] theorem State.setSp_cfgQueue (s : State) (n : Nat) (p : SPort) : (s.setSp n p).cfgQueue = s.cfgQueue := rfl
@[simp] theorem State.setSp_dbgQueue (s : State) (n : Nat) (p : SPort) : (s.setSp n p).dbgQueue = s.dbgQueue := rfl
@[simp] theorem State.setSp_tbase (s : State) (n : Nat) (p : SPort) : (s.setSp n p).tbase = s.tbase := rfl
@[simp] theorem State.setSp_refclk (s : State) (n : Nat) (p : SPort) : (s.setSp n p).refclk = s.refclk := rfl
@[simp] theorem State.setSp_inReset (s : State) (n : Nat) (p : SPort) : (s.setSp n p).inReset = s.inReset := rfl
@[simp] theorem State.setSp_inited (s : State) (n : Nat) (p : SPort) : (s.setSp n p).inited = s.inited := rfl
@[simp] theorem State.setSp_relockTo (s : State) (n : Nat) (p : SPort) : (s.setSp n p).relockTo = s.relockTo := rfl
@[simp] theorem State.setSp_wantElapsed (s : State) (n : Nat) (p : SPort) : (s.setSp n p).wantElapsed = s.wantElapsed := rfl
@[simp] theorem State.setSp_threads (s : State) (n : Nat) (p : SPort) : (s.setSp n p).threads = s.threads := rfl
@[simp] theorem State.setSp_scratch (s : State) (n : Nat) (p : SPort) : (s.setSp n p).scratch = s.scratch := rfl
@[simp] theorem State.setSp_engHold (s : State) (n : Nat) (p : SPort) : (s.setSp n p).engHold = s.engHold := rfl
@[simp] theorem State.setSp_store (s : State) (n : Nat) (p : SPort) : (s.setSp n p).store = s.store := rfl
@[simp] theorem State.setSp_jobs (s : State) (n : Nat) (p : SPort) : (s.setSp n p).jobs = s.jobs := rfl
@[simp] theorem State.setSp_arrivals (s : State) (n : Nat) (p : SPort) : (s.setSp n p).arrivals = s.arrivals := rfl
@[simp] theorem State.setSp_evWaiters (s : State) (n : Nat) (p : SPort) : (s.setSp n p).evWaiters = s.evWaiters := rfl
@[simp] theorem State.setSp_evf (s : State) (n : Nat) (p : SPort) : (s.setSp n p).evf = s.evf := rfl
@[simp] theorem State.setSp_evtPend (s : State) (n : Nat) (p : SPort) : (s.setSp n p).evtPend = s.evtPend := rfl
@[simp] theorem State.setSp_ctxs (s : State) (n : Nat) (p : SPort) : (s.setSp n p).ctxs = s.ctxs := rfl
@[simp] theorem State.setSp_readyQ (s : State) (n : Nat) (p : SPort) : (s.setSp n p).readyQ = s.readyQ := rfl
@[simp] theorem State.setSp_nextId (s : State) (n : Nat) (p : SPort) : (s.setSp n p).nextId = s.nextId := rfl
@[simp] theorem State.setSp_pool (s : State) (n : Nat) (p : SPort) : (s.setSp n p).pool = s.pool := rfl
@[simp] theorem State.setSp_vtime (s : State) (n : Nat) (p : SPort) : (s.setSp n p).vtime = s.vtime := rfl
@[simp] theorem State.setSp_charmQ (s : State) (n : Nat) (p : SPort) : (s.setSp n p).charmQ = s.charmQ := rfl
@[simp] theorem State.setSp_homeQ (s : State) (n : Nat) (p : SPort) : (s.setSp n p).homeQ = s.homeQ := rfl
@[simp] theorem State.setSp_trks (s : State) (n : Nat) (p : SPort) : (s.setSp n p).trks = s.trks := rfl
@[simp] theorem State.setSp_heldLines (s : State) (n : Nat) (p : SPort) : (s.setSp n p).heldLines = s.heldLines := rfl
@[simp] theorem State.setSp_filter (s : State) (n : Nat) (p : SPort) : (s.setSp n p).filter = s.filter := rfl
@[simp] theorem State.setSp_atomPred (s : State) (n : Nat) (p : SPort) : (s.setSp n p).atomPred = s.atomPred := rfl
@[simp] theorem State.setSp_clasps (s : State) (n : Nat) (p : SPort) : (s.setSp n p).clasps = s.clasps := rfl
@[simp] theorem State.setSp_claspWaits (s : State) (n : Nat) (p : SPort) : (s.setSp n p).claspWaits = s.claspWaits := rfl
@[simp] theorem State.setSp_claspFull (s : State) (n : Nat) (p : SPort) : (s.setSp n p).claspFull = s.claspFull := rfl
@[simp] theorem State.setSp_walks (s : State) (n : Nat) (p : SPort) : (s.setSp n p).walks = s.walks := rfl
@[simp] theorem State.setSp_locket (s : State) (n : Nat) (p : SPort) : (s.setSp n p).locket = s.locket := rfl
@[simp] theorem State.setSp_tagBad (s : State) (n : Nat) (p : SPort) : (s.setSp n p).tagBad = s.tagBad := rfl
@[simp] theorem State.setSp_plots (s : State) (n : Nat) (p : SPort) : (s.setSp n p).plots = s.plots := rfl
@[simp] theorem State.setSp_sprouts (s : State) (n : Nat) (p : SPort) : (s.setSp n p).sprouts = s.sprouts := rfl
@[simp] theorem State.setSp_ewt (s : State) (n : Nat) (p : SPort) : (s.setSp n p).ewt = s.ewt := rfl
@[simp] theorem State.setSp_fillTurn (s : State) (n : Nat) (p : SPort) : (s.setSp n p).fillTurn = s.fillTurn := rfl
@[simp] theorem State.setSp_trimming (s : State) (n : Nat) (p : SPort) : (s.setSp n p).trimming = s.trimming := rfl
@[simp] theorem State.setSp_moves (s : State) (n : Nat) (p : SPort) : (s.setSp n p).moves = s.moves := rfl
@[simp] theorem State.setSp_scrubLine (s : State) (n : Nat) (p : SPort) : (s.setSp n p).scrubLine = s.scrubLine := rfl
@[simp] theorem State.setSp_scrubDirty (s : State) (n : Nat) (p : SPort) : (s.setSp n p).scrubDirty = s.scrubDirty := rfl
@[simp] theorem State.setSp_scrubWb (s : State) (n : Nat) (p : SPort) : (s.setSp n p).scrubWb = s.scrubWb := rfl
@[simp] theorem State.setSp_scrubN (s : State) (n : Nat) (p : SPort) : (s.setSp n p).scrubN = s.scrubN := rfl
@[simp] theorem State.setSp_chans (s : State) (n : Nat) (p : SPort) : (s.setSp n p).chans = s.chans := rfl
@[simp] theorem State.setSp_live (s : State) (n : Nat) (p : SPort) : (s.setSp n p).live = s.live := rfl
@[simp] theorem State.setSp_shadow (s : State) (n : Nat) (p : SPort) : (s.setSp n p).shadow = s.shadow := rfl
@[simp] theorem State.setSp_stops (s : State) (n : Nat) (p : SPort) : (s.setSp n p).stops = s.stops := rfl
@[simp] theorem State.setSp_charmAcc (s : State) (n : Nat) (p : SPort) : (s.setSp n p).charmAcc = s.charmAcc := rfl
@[simp] theorem State.setSp_trAt (s : State) (n : Nat) (p : SPort) : (s.setSp n p).trAt = s.trAt := rfl
@[simp] theorem State.setSp_hist (s : State) (n : Nat) (p : SPort) : (s.setSp n p).hist = s.hist := rfl
@[simp] theorem State.setSp_tprio (s : State) (n : Nat) (p : SPort) : (s.setSp n p).tprio = s.tprio := rfl
@[simp] theorem State.setSp_tsleep (s : State) (n : Nat) (p : SPort) : (s.setSp n p).tsleep = s.tsleep := rfl
@[simp] theorem State.setSp_assigned (s : State) (n : Nat) (p : SPort) : (s.setSp n p).assigned = s.assigned := rfl
@[simp] theorem State.setSp_modTimer (s : State) (n : Nat) (p : SPort) : (s.setSp n p).modTimer = s.modTimer := rfl
@[simp] theorem State.setSp_pwr (s : State) (n : Nat) (p : SPort) : (s.setSp n p).pwr = s.pwr := rfl
@[simp] theorem State.setSp_wakeEv (s : State) (n : Nat) (p : SPort) : (s.setSp n p).wakeEv = s.wakeEv := rfl
@[simp] theorem State.setSp_entryMark (s : State) (n : Nat) (p : SPort) : (s.setSp n p).entryMark = s.entryMark := rfl
@[simp] theorem State.setSp_byPc (s : State) (n : Nat) (p : SPort) : (s.setSp n p).byPc = s.byPc := rfl
@[simp] theorem State.setSp_rails (s : State) (n : Nat) (p : SPort) : (s.setSp n p).rails = s.rails := rfl
@[simp] theorem State.setSp_saved (s : State) (n : Nat) (p : SPort) : (s.setSp n p).saved = s.saved := rfl
@[simp] theorem State.setSp_portsStopped (s : State) (n : Nat) (p : SPort) : (s.setSp n p).portsStopped = s.portsStopped := rfl
@[simp] theorem State.setSp_clustersStopped (s : State) (n : Nat) (p : SPort) : (s.setSp n p).clustersStopped = s.clustersStopped := rfl
@[simp] theorem State.setSp_stopsLowered (s : State) (n : Nat) (p : SPort) : (s.setSp n p).stopsLowered = s.stopsLowered := rfl
@[simp] theorem State.setSp_alive (s : State) (n : Nat) (p : SPort) : (s.setSp n p).alive = s.alive := rfl
@[simp] theorem State.setSp_pulse (s : State) (n : Nat) (p : SPort) : (s.setSp n p).pulse = s.pulse := rfl
@[simp] theorem State.setSp_onsetSeen (s : State) (n : Nat) (p : SPort) : (s.setSp n p).onsetSeen = s.onsetSeen := rfl
@[simp] theorem State.setSp_vddAon (s : State) (n : Nat) (p : SPort) : (s.setSp n p).vddAon = s.vddAon := rfl
@[simp] theorem State.setSp_wdArmed (s : State) (n : Nat) (p : SPort) : (s.setSp n p).wdArmed = s.wdArmed := rfl
@[simp] theorem State.setSp_keys (s : State) (n : Nat) (p : SPort) : (s.setSp n p).keys = s.keys := rfl
@[simp] theorem State.setSp_keySlot (s : State) (n : Nat) (p : SPort) : (s.setSp n p).keySlot = s.keySlot := rfl
@[simp] theorem State.setSp_keyBeats (s : State) (n : Nat) (p : SPort) : (s.setSp n p).keyBeats = s.keyBeats := rfl
@[simp] theorem State.setSp_token (s : State) (n : Nat) (p : SPort) : (s.setSp n p).token = s.token := rfl
@[simp] theorem State.setSp_authLevel (s : State) (n : Nat) (p : SPort) : (s.setSp n p).authLevel = s.authLevel := rfl
@[simp] theorem State.setSp_dbgAcc (s : State) (n : Nat) (p : SPort) : (s.setSp n p).dbgAcc = s.dbgAcc := rfl
@[simp] theorem State.setSp_hscKept (s : State) (n : Nat) (p : SPort) : (s.setSp n p).hscKept = s.hscKept := rfl
@[simp] theorem State.setSp_sbCmd (s : State) (n : Nat) (p : SPort) : (s.setSp n p).sbCmd = s.sbCmd := rfl
@[simp] theorem State.setSp_prsnt (s : State) (n : Nat) (p : SPort) : (s.setSp n p).prsnt = s.prsnt := rfl
@[simp] theorem State.setSp_zqCodes (s : State) (n : Nat) (p : SPort) : (s.setSp n p).zqCodes = s.zqCodes := rfl
@[simp] theorem State.setSp_zqMs (s : State) (n : Nat) (p : SPort) : (s.setSp n p).zqMs = s.zqMs := rfl
@[simp] theorem State.setSp_padFloat (s : State) (n : Nat) (p : SPort) : (s.setSp n p).padFloat = s.padFloat := rfl
@[simp] theorem State.setSp_padQuiet (s : State) (n : Nat) (p : SPort) : (s.setSp n p).padQuiet = s.padQuiet := rfl
@[simp] theorem State.setSp_drst (s : State) (n : Nat) (p : SPort) : (s.setSp n p).drst = s.drst := rfl
@[simp] theorem State.setSp_free (s : State) (n : Nat) (p : SPort) : (s.setSp n p).free = s.free := rfl
@[simp] theorem State.setSp_out (s : State) (n : Nat) (p : SPort) : (s.setSp n p).out = s.out := rfl

/-! ### setClasp -/

@[simp] theorem State.setClasp_variant (s : State) (n : Nat) (c : Clasp) : (s.setClasp n c).variant = s.variant := rfl
@[simp] theorem State.setClasp_pending (s : State) (n : Nat) (c : Clasp) : (s.setClasp n c).pending = s.pending := rfl
@[simp] theorem State.setClasp_regs (s : State) (n : Nat) (c : Clasp) : (s.setClasp n c).regs = s.regs := rfl
@[simp] theorem State.setClasp_rdShadow (s : State) (n : Nat) (c : Clasp) : (s.setClasp n c).rdShadow = s.rdShadow := rfl
@[simp] theorem State.setClasp_wrShadow (s : State) (n : Nat) (c : Clasp) : (s.setClasp n c).wrShadow = s.wrShadow := rfl
@[simp] theorem State.setClasp_histShadow (s : State) (n : Nat) (c : Clasp) : (s.setClasp n c).histShadow = s.histShadow := rfl
@[simp] theorem State.setClasp_cfgBusy (s : State) (n : Nat) (c : Clasp) : (s.setClasp n c).cfgBusy = s.cfgBusy := rfl
@[simp] theorem State.setClasp_cfgQueue (s : State) (n : Nat) (c : Clasp) : (s.setClasp n c).cfgQueue = s.cfgQueue := rfl
@[simp] theorem State.setClasp_dbgQueue (s : State) (n : Nat) (c : Clasp) : (s.setClasp n c).dbgQueue = s.dbgQueue := rfl
@[simp] theorem State.setClasp_tbase (s : State) (n : Nat) (c : Clasp) : (s.setClasp n c).tbase = s.tbase := rfl
@[simp] theorem State.setClasp_refclk (s : State) (n : Nat) (c : Clasp) : (s.setClasp n c).refclk = s.refclk := rfl
@[simp] theorem State.setClasp_inReset (s : State) (n : Nat) (c : Clasp) : (s.setClasp n c).inReset = s.inReset := rfl
@[simp] theorem State.setClasp_inited (s : State) (n : Nat) (c : Clasp) : (s.setClasp n c).inited = s.inited := rfl
@[simp] theorem State.setClasp_relockTo (s : State) (n : Nat) (c : Clasp) : (s.setClasp n c).relockTo = s.relockTo := rfl
@[simp] theorem State.setClasp_wantElapsed (s : State) (n : Nat) (c : Clasp) : (s.setClasp n c).wantElapsed = s.wantElapsed := rfl
@[simp] theorem State.setClasp_threads (s : State) (n : Nat) (c : Clasp) : (s.setClasp n c).threads = s.threads := rfl
@[simp] theorem State.setClasp_scratch (s : State) (n : Nat) (c : Clasp) : (s.setClasp n c).scratch = s.scratch := rfl
@[simp] theorem State.setClasp_engHold (s : State) (n : Nat) (c : Clasp) : (s.setClasp n c).engHold = s.engHold := rfl
@[simp] theorem State.setClasp_store (s : State) (n : Nat) (c : Clasp) : (s.setClasp n c).store = s.store := rfl
@[simp] theorem State.setClasp_jobs (s : State) (n : Nat) (c : Clasp) : (s.setClasp n c).jobs = s.jobs := rfl
@[simp] theorem State.setClasp_arrivals (s : State) (n : Nat) (c : Clasp) : (s.setClasp n c).arrivals = s.arrivals := rfl
@[simp] theorem State.setClasp_evWaiters (s : State) (n : Nat) (c : Clasp) : (s.setClasp n c).evWaiters = s.evWaiters := rfl
@[simp] theorem State.setClasp_evf (s : State) (n : Nat) (c : Clasp) : (s.setClasp n c).evf = s.evf := rfl
@[simp] theorem State.setClasp_evtPend (s : State) (n : Nat) (c : Clasp) : (s.setClasp n c).evtPend = s.evtPend := rfl
@[simp] theorem State.setClasp_ctxs (s : State) (n : Nat) (c : Clasp) : (s.setClasp n c).ctxs = s.ctxs := rfl
@[simp] theorem State.setClasp_readyQ (s : State) (n : Nat) (c : Clasp) : (s.setClasp n c).readyQ = s.readyQ := rfl
@[simp] theorem State.setClasp_nextId (s : State) (n : Nat) (c : Clasp) : (s.setClasp n c).nextId = s.nextId := rfl
@[simp] theorem State.setClasp_pool (s : State) (n : Nat) (c : Clasp) : (s.setClasp n c).pool = s.pool := rfl
@[simp] theorem State.setClasp_vtime (s : State) (n : Nat) (c : Clasp) : (s.setClasp n c).vtime = s.vtime := rfl
@[simp] theorem State.setClasp_charmQ (s : State) (n : Nat) (c : Clasp) : (s.setClasp n c).charmQ = s.charmQ := rfl
@[simp] theorem State.setClasp_homeQ (s : State) (n : Nat) (c : Clasp) : (s.setClasp n c).homeQ = s.homeQ := rfl
@[simp] theorem State.setClasp_trks (s : State) (n : Nat) (c : Clasp) : (s.setClasp n c).trks = s.trks := rfl
@[simp] theorem State.setClasp_heldLines (s : State) (n : Nat) (c : Clasp) : (s.setClasp n c).heldLines = s.heldLines := rfl
@[simp] theorem State.setClasp_filter (s : State) (n : Nat) (c : Clasp) : (s.setClasp n c).filter = s.filter := rfl
@[simp] theorem State.setClasp_atomPred (s : State) (n : Nat) (c : Clasp) : (s.setClasp n c).atomPred = s.atomPred := rfl
@[simp] theorem State.setClasp_claspWaits (s : State) (n : Nat) (c : Clasp) : (s.setClasp n c).claspWaits = s.claspWaits := rfl
@[simp] theorem State.setClasp_claspFull (s : State) (n : Nat) (c : Clasp) : (s.setClasp n c).claspFull = s.claspFull := rfl
@[simp] theorem State.setClasp_walks (s : State) (n : Nat) (c : Clasp) : (s.setClasp n c).walks = s.walks := rfl
@[simp] theorem State.setClasp_locket (s : State) (n : Nat) (c : Clasp) : (s.setClasp n c).locket = s.locket := rfl
@[simp] theorem State.setClasp_tagBad (s : State) (n : Nat) (c : Clasp) : (s.setClasp n c).tagBad = s.tagBad := rfl
@[simp] theorem State.setClasp_plots (s : State) (n : Nat) (c : Clasp) : (s.setClasp n c).plots = s.plots := rfl
@[simp] theorem State.setClasp_sprouts (s : State) (n : Nat) (c : Clasp) : (s.setClasp n c).sprouts = s.sprouts := rfl
@[simp] theorem State.setClasp_ewt (s : State) (n : Nat) (c : Clasp) : (s.setClasp n c).ewt = s.ewt := rfl
@[simp] theorem State.setClasp_fillTurn (s : State) (n : Nat) (c : Clasp) : (s.setClasp n c).fillTurn = s.fillTurn := rfl
@[simp] theorem State.setClasp_trimming (s : State) (n : Nat) (c : Clasp) : (s.setClasp n c).trimming = s.trimming := rfl
@[simp] theorem State.setClasp_moves (s : State) (n : Nat) (c : Clasp) : (s.setClasp n c).moves = s.moves := rfl
@[simp] theorem State.setClasp_scrubLine (s : State) (n : Nat) (c : Clasp) : (s.setClasp n c).scrubLine = s.scrubLine := rfl
@[simp] theorem State.setClasp_scrubDirty (s : State) (n : Nat) (c : Clasp) : (s.setClasp n c).scrubDirty = s.scrubDirty := rfl
@[simp] theorem State.setClasp_scrubWb (s : State) (n : Nat) (c : Clasp) : (s.setClasp n c).scrubWb = s.scrubWb := rfl
@[simp] theorem State.setClasp_scrubN (s : State) (n : Nat) (c : Clasp) : (s.setClasp n c).scrubN = s.scrubN := rfl
@[simp] theorem State.setClasp_chans (s : State) (n : Nat) (c : Clasp) : (s.setClasp n c).chans = s.chans := rfl
@[simp] theorem State.setClasp_live (s : State) (n : Nat) (c : Clasp) : (s.setClasp n c).live = s.live := rfl
@[simp] theorem State.setClasp_shadow (s : State) (n : Nat) (c : Clasp) : (s.setClasp n c).shadow = s.shadow := rfl
@[simp] theorem State.setClasp_sports (s : State) (n : Nat) (c : Clasp) : (s.setClasp n c).sports = s.sports := rfl
@[simp] theorem State.setClasp_stops (s : State) (n : Nat) (c : Clasp) : (s.setClasp n c).stops = s.stops := rfl
@[simp] theorem State.setClasp_charmAcc (s : State) (n : Nat) (c : Clasp) : (s.setClasp n c).charmAcc = s.charmAcc := rfl
@[simp] theorem State.setClasp_trAt (s : State) (n : Nat) (c : Clasp) : (s.setClasp n c).trAt = s.trAt := rfl
@[simp] theorem State.setClasp_hist (s : State) (n : Nat) (c : Clasp) : (s.setClasp n c).hist = s.hist := rfl
@[simp] theorem State.setClasp_tprio (s : State) (n : Nat) (c : Clasp) : (s.setClasp n c).tprio = s.tprio := rfl
@[simp] theorem State.setClasp_tsleep (s : State) (n : Nat) (c : Clasp) : (s.setClasp n c).tsleep = s.tsleep := rfl
@[simp] theorem State.setClasp_assigned (s : State) (n : Nat) (c : Clasp) : (s.setClasp n c).assigned = s.assigned := rfl
@[simp] theorem State.setClasp_modTimer (s : State) (n : Nat) (c : Clasp) : (s.setClasp n c).modTimer = s.modTimer := rfl
@[simp] theorem State.setClasp_pwr (s : State) (n : Nat) (c : Clasp) : (s.setClasp n c).pwr = s.pwr := rfl
@[simp] theorem State.setClasp_wakeEv (s : State) (n : Nat) (c : Clasp) : (s.setClasp n c).wakeEv = s.wakeEv := rfl
@[simp] theorem State.setClasp_entryMark (s : State) (n : Nat) (c : Clasp) : (s.setClasp n c).entryMark = s.entryMark := rfl
@[simp] theorem State.setClasp_byPc (s : State) (n : Nat) (c : Clasp) : (s.setClasp n c).byPc = s.byPc := rfl
@[simp] theorem State.setClasp_rails (s : State) (n : Nat) (c : Clasp) : (s.setClasp n c).rails = s.rails := rfl
@[simp] theorem State.setClasp_saved (s : State) (n : Nat) (c : Clasp) : (s.setClasp n c).saved = s.saved := rfl
@[simp] theorem State.setClasp_portsStopped (s : State) (n : Nat) (c : Clasp) : (s.setClasp n c).portsStopped = s.portsStopped := rfl
@[simp] theorem State.setClasp_clustersStopped (s : State) (n : Nat) (c : Clasp) : (s.setClasp n c).clustersStopped = s.clustersStopped := rfl
@[simp] theorem State.setClasp_stopsLowered (s : State) (n : Nat) (c : Clasp) : (s.setClasp n c).stopsLowered = s.stopsLowered := rfl
@[simp] theorem State.setClasp_alive (s : State) (n : Nat) (c : Clasp) : (s.setClasp n c).alive = s.alive := rfl
@[simp] theorem State.setClasp_pulse (s : State) (n : Nat) (c : Clasp) : (s.setClasp n c).pulse = s.pulse := rfl
@[simp] theorem State.setClasp_onsetSeen (s : State) (n : Nat) (c : Clasp) : (s.setClasp n c).onsetSeen = s.onsetSeen := rfl
@[simp] theorem State.setClasp_vddAon (s : State) (n : Nat) (c : Clasp) : (s.setClasp n c).vddAon = s.vddAon := rfl
@[simp] theorem State.setClasp_wdArmed (s : State) (n : Nat) (c : Clasp) : (s.setClasp n c).wdArmed = s.wdArmed := rfl
@[simp] theorem State.setClasp_keys (s : State) (n : Nat) (c : Clasp) : (s.setClasp n c).keys = s.keys := rfl
@[simp] theorem State.setClasp_keySlot (s : State) (n : Nat) (c : Clasp) : (s.setClasp n c).keySlot = s.keySlot := rfl
@[simp] theorem State.setClasp_keyBeats (s : State) (n : Nat) (c : Clasp) : (s.setClasp n c).keyBeats = s.keyBeats := rfl
@[simp] theorem State.setClasp_token (s : State) (n : Nat) (c : Clasp) : (s.setClasp n c).token = s.token := rfl
@[simp] theorem State.setClasp_authLevel (s : State) (n : Nat) (c : Clasp) : (s.setClasp n c).authLevel = s.authLevel := rfl
@[simp] theorem State.setClasp_dbgAcc (s : State) (n : Nat) (c : Clasp) : (s.setClasp n c).dbgAcc = s.dbgAcc := rfl
@[simp] theorem State.setClasp_hscKept (s : State) (n : Nat) (c : Clasp) : (s.setClasp n c).hscKept = s.hscKept := rfl
@[simp] theorem State.setClasp_sbCmd (s : State) (n : Nat) (c : Clasp) : (s.setClasp n c).sbCmd = s.sbCmd := rfl
@[simp] theorem State.setClasp_prsnt (s : State) (n : Nat) (c : Clasp) : (s.setClasp n c).prsnt = s.prsnt := rfl
@[simp] theorem State.setClasp_zqCodes (s : State) (n : Nat) (c : Clasp) : (s.setClasp n c).zqCodes = s.zqCodes := rfl
@[simp] theorem State.setClasp_zqMs (s : State) (n : Nat) (c : Clasp) : (s.setClasp n c).zqMs = s.zqMs := rfl
@[simp] theorem State.setClasp_padFloat (s : State) (n : Nat) (c : Clasp) : (s.setClasp n c).padFloat = s.padFloat := rfl
@[simp] theorem State.setClasp_padQuiet (s : State) (n : Nat) (c : Clasp) : (s.setClasp n c).padQuiet = s.padQuiet := rfl
@[simp] theorem State.setClasp_drst (s : State) (n : Nat) (c : Clasp) : (s.setClasp n c).drst = s.drst := rfl
@[simp] theorem State.setClasp_free (s : State) (n : Nat) (c : Clasp) : (s.setClasp n c).free = s.free := rfl
@[simp] theorem State.setClasp_out (s : State) (n : Nat) (c : Clasp) : (s.setClasp n c).out = s.out := rfl

/-! ### emit -/

@[simp] theorem State.emit_variant (s : State) (o : Out) : (s.emit o).variant = s.variant := rfl
@[simp] theorem State.emit_pending (s : State) (o : Out) : (s.emit o).pending = s.pending := rfl
@[simp] theorem State.emit_regs (s : State) (o : Out) : (s.emit o).regs = s.regs := rfl
@[simp] theorem State.emit_rdShadow (s : State) (o : Out) : (s.emit o).rdShadow = s.rdShadow := rfl
@[simp] theorem State.emit_wrShadow (s : State) (o : Out) : (s.emit o).wrShadow = s.wrShadow := rfl
@[simp] theorem State.emit_histShadow (s : State) (o : Out) : (s.emit o).histShadow = s.histShadow := rfl
@[simp] theorem State.emit_cfgBusy (s : State) (o : Out) : (s.emit o).cfgBusy = s.cfgBusy := rfl
@[simp] theorem State.emit_cfgQueue (s : State) (o : Out) : (s.emit o).cfgQueue = s.cfgQueue := rfl
@[simp] theorem State.emit_dbgQueue (s : State) (o : Out) : (s.emit o).dbgQueue = s.dbgQueue := rfl
@[simp] theorem State.emit_tbase (s : State) (o : Out) : (s.emit o).tbase = s.tbase := rfl
@[simp] theorem State.emit_refclk (s : State) (o : Out) : (s.emit o).refclk = s.refclk := rfl
@[simp] theorem State.emit_inReset (s : State) (o : Out) : (s.emit o).inReset = s.inReset := rfl
@[simp] theorem State.emit_inited (s : State) (o : Out) : (s.emit o).inited = s.inited := rfl
@[simp] theorem State.emit_relockTo (s : State) (o : Out) : (s.emit o).relockTo = s.relockTo := rfl
@[simp] theorem State.emit_wantElapsed (s : State) (o : Out) : (s.emit o).wantElapsed = s.wantElapsed := rfl
@[simp] theorem State.emit_threads (s : State) (o : Out) : (s.emit o).threads = s.threads := rfl
@[simp] theorem State.emit_scratch (s : State) (o : Out) : (s.emit o).scratch = s.scratch := rfl
@[simp] theorem State.emit_engHold (s : State) (o : Out) : (s.emit o).engHold = s.engHold := rfl
@[simp] theorem State.emit_store (s : State) (o : Out) : (s.emit o).store = s.store := rfl
@[simp] theorem State.emit_jobs (s : State) (o : Out) : (s.emit o).jobs = s.jobs := rfl
@[simp] theorem State.emit_arrivals (s : State) (o : Out) : (s.emit o).arrivals = s.arrivals := rfl
@[simp] theorem State.emit_evWaiters (s : State) (o : Out) : (s.emit o).evWaiters = s.evWaiters := rfl
@[simp] theorem State.emit_evf (s : State) (o : Out) : (s.emit o).evf = s.evf := rfl
@[simp] theorem State.emit_evtPend (s : State) (o : Out) : (s.emit o).evtPend = s.evtPend := rfl
@[simp] theorem State.emit_ctxs (s : State) (o : Out) : (s.emit o).ctxs = s.ctxs := rfl
@[simp] theorem State.emit_readyQ (s : State) (o : Out) : (s.emit o).readyQ = s.readyQ := rfl
@[simp] theorem State.emit_nextId (s : State) (o : Out) : (s.emit o).nextId = s.nextId := rfl
@[simp] theorem State.emit_pool (s : State) (o : Out) : (s.emit o).pool = s.pool := rfl
@[simp] theorem State.emit_vtime (s : State) (o : Out) : (s.emit o).vtime = s.vtime := rfl
@[simp] theorem State.emit_charmQ (s : State) (o : Out) : (s.emit o).charmQ = s.charmQ := rfl
@[simp] theorem State.emit_homeQ (s : State) (o : Out) : (s.emit o).homeQ = s.homeQ := rfl
@[simp] theorem State.emit_trks (s : State) (o : Out) : (s.emit o).trks = s.trks := rfl
@[simp] theorem State.emit_heldLines (s : State) (o : Out) : (s.emit o).heldLines = s.heldLines := rfl
@[simp] theorem State.emit_filter (s : State) (o : Out) : (s.emit o).filter = s.filter := rfl
@[simp] theorem State.emit_atomPred (s : State) (o : Out) : (s.emit o).atomPred = s.atomPred := rfl
@[simp] theorem State.emit_clasps (s : State) (o : Out) : (s.emit o).clasps = s.clasps := rfl
@[simp] theorem State.emit_claspWaits (s : State) (o : Out) : (s.emit o).claspWaits = s.claspWaits := rfl
@[simp] theorem State.emit_claspFull (s : State) (o : Out) : (s.emit o).claspFull = s.claspFull := rfl
@[simp] theorem State.emit_walks (s : State) (o : Out) : (s.emit o).walks = s.walks := rfl
@[simp] theorem State.emit_locket (s : State) (o : Out) : (s.emit o).locket = s.locket := rfl
@[simp] theorem State.emit_tagBad (s : State) (o : Out) : (s.emit o).tagBad = s.tagBad := rfl
@[simp] theorem State.emit_plots (s : State) (o : Out) : (s.emit o).plots = s.plots := rfl
@[simp] theorem State.emit_sprouts (s : State) (o : Out) : (s.emit o).sprouts = s.sprouts := rfl
@[simp] theorem State.emit_ewt (s : State) (o : Out) : (s.emit o).ewt = s.ewt := rfl
@[simp] theorem State.emit_fillTurn (s : State) (o : Out) : (s.emit o).fillTurn = s.fillTurn := rfl
@[simp] theorem State.emit_trimming (s : State) (o : Out) : (s.emit o).trimming = s.trimming := rfl
@[simp] theorem State.emit_moves (s : State) (o : Out) : (s.emit o).moves = s.moves := rfl
@[simp] theorem State.emit_scrubLine (s : State) (o : Out) : (s.emit o).scrubLine = s.scrubLine := rfl
@[simp] theorem State.emit_scrubDirty (s : State) (o : Out) : (s.emit o).scrubDirty = s.scrubDirty := rfl
@[simp] theorem State.emit_scrubWb (s : State) (o : Out) : (s.emit o).scrubWb = s.scrubWb := rfl
@[simp] theorem State.emit_scrubN (s : State) (o : Out) : (s.emit o).scrubN = s.scrubN := rfl
@[simp] theorem State.emit_chans (s : State) (o : Out) : (s.emit o).chans = s.chans := rfl
@[simp] theorem State.emit_live (s : State) (o : Out) : (s.emit o).live = s.live := rfl
@[simp] theorem State.emit_shadow (s : State) (o : Out) : (s.emit o).shadow = s.shadow := rfl
@[simp] theorem State.emit_sports (s : State) (o : Out) : (s.emit o).sports = s.sports := rfl
@[simp] theorem State.emit_stops (s : State) (o : Out) : (s.emit o).stops = s.stops := rfl
@[simp] theorem State.emit_charmAcc (s : State) (o : Out) : (s.emit o).charmAcc = s.charmAcc := rfl
@[simp] theorem State.emit_trAt (s : State) (o : Out) : (s.emit o).trAt = s.trAt := rfl
@[simp] theorem State.emit_hist (s : State) (o : Out) : (s.emit o).hist = s.hist := rfl
@[simp] theorem State.emit_tprio (s : State) (o : Out) : (s.emit o).tprio = s.tprio := rfl
@[simp] theorem State.emit_tsleep (s : State) (o : Out) : (s.emit o).tsleep = s.tsleep := rfl
@[simp] theorem State.emit_assigned (s : State) (o : Out) : (s.emit o).assigned = s.assigned := rfl
@[simp] theorem State.emit_modTimer (s : State) (o : Out) : (s.emit o).modTimer = s.modTimer := rfl
@[simp] theorem State.emit_pwr (s : State) (o : Out) : (s.emit o).pwr = s.pwr := rfl
@[simp] theorem State.emit_wakeEv (s : State) (o : Out) : (s.emit o).wakeEv = s.wakeEv := rfl
@[simp] theorem State.emit_entryMark (s : State) (o : Out) : (s.emit o).entryMark = s.entryMark := rfl
@[simp] theorem State.emit_byPc (s : State) (o : Out) : (s.emit o).byPc = s.byPc := rfl
@[simp] theorem State.emit_rails (s : State) (o : Out) : (s.emit o).rails = s.rails := rfl
@[simp] theorem State.emit_saved (s : State) (o : Out) : (s.emit o).saved = s.saved := rfl
@[simp] theorem State.emit_portsStopped (s : State) (o : Out) : (s.emit o).portsStopped = s.portsStopped := rfl
@[simp] theorem State.emit_clustersStopped (s : State) (o : Out) : (s.emit o).clustersStopped = s.clustersStopped := rfl
@[simp] theorem State.emit_stopsLowered (s : State) (o : Out) : (s.emit o).stopsLowered = s.stopsLowered := rfl
@[simp] theorem State.emit_alive (s : State) (o : Out) : (s.emit o).alive = s.alive := rfl
@[simp] theorem State.emit_pulse (s : State) (o : Out) : (s.emit o).pulse = s.pulse := rfl
@[simp] theorem State.emit_onsetSeen (s : State) (o : Out) : (s.emit o).onsetSeen = s.onsetSeen := rfl
@[simp] theorem State.emit_vddAon (s : State) (o : Out) : (s.emit o).vddAon = s.vddAon := rfl
@[simp] theorem State.emit_wdArmed (s : State) (o : Out) : (s.emit o).wdArmed = s.wdArmed := rfl
@[simp] theorem State.emit_keys (s : State) (o : Out) : (s.emit o).keys = s.keys := rfl
@[simp] theorem State.emit_keySlot (s : State) (o : Out) : (s.emit o).keySlot = s.keySlot := rfl
@[simp] theorem State.emit_keyBeats (s : State) (o : Out) : (s.emit o).keyBeats = s.keyBeats := rfl
@[simp] theorem State.emit_token (s : State) (o : Out) : (s.emit o).token = s.token := rfl
@[simp] theorem State.emit_authLevel (s : State) (o : Out) : (s.emit o).authLevel = s.authLevel := rfl
@[simp] theorem State.emit_dbgAcc (s : State) (o : Out) : (s.emit o).dbgAcc = s.dbgAcc := rfl
@[simp] theorem State.emit_hscKept (s : State) (o : Out) : (s.emit o).hscKept = s.hscKept := rfl
@[simp] theorem State.emit_sbCmd (s : State) (o : Out) : (s.emit o).sbCmd = s.sbCmd := rfl
@[simp] theorem State.emit_prsnt (s : State) (o : Out) : (s.emit o).prsnt = s.prsnt := rfl
@[simp] theorem State.emit_zqCodes (s : State) (o : Out) : (s.emit o).zqCodes = s.zqCodes := rfl
@[simp] theorem State.emit_zqMs (s : State) (o : Out) : (s.emit o).zqMs = s.zqMs := rfl
@[simp] theorem State.emit_padFloat (s : State) (o : Out) : (s.emit o).padFloat = s.padFloat := rfl
@[simp] theorem State.emit_padQuiet (s : State) (o : Out) : (s.emit o).padQuiet = s.padQuiet := rfl
@[simp] theorem State.emit_drst (s : State) (o : Out) : (s.emit o).drst = s.drst := rfl
@[simp] theorem State.emit_free (s : State) (o : Out) : (s.emit o).free = s.free := rfl

/-! ### draw -/

@[simp] theorem State.draw_variant (s : State) : (s.draw).variant = s.variant := rfl
@[simp] theorem State.draw_pending (s : State) : (s.draw).pending = s.pending := rfl
@[simp] theorem State.draw_regs (s : State) : (s.draw).regs = s.regs := rfl
@[simp] theorem State.draw_rdShadow (s : State) : (s.draw).rdShadow = s.rdShadow := rfl
@[simp] theorem State.draw_wrShadow (s : State) : (s.draw).wrShadow = s.wrShadow := rfl
@[simp] theorem State.draw_histShadow (s : State) : (s.draw).histShadow = s.histShadow := rfl
@[simp] theorem State.draw_cfgBusy (s : State) : (s.draw).cfgBusy = s.cfgBusy := rfl
@[simp] theorem State.draw_cfgQueue (s : State) : (s.draw).cfgQueue = s.cfgQueue := rfl
@[simp] theorem State.draw_dbgQueue (s : State) : (s.draw).dbgQueue = s.dbgQueue := rfl
@[simp] theorem State.draw_tbase (s : State) : (s.draw).tbase = s.tbase := rfl
@[simp] theorem State.draw_refclk (s : State) : (s.draw).refclk = s.refclk := rfl
@[simp] theorem State.draw_inReset (s : State) : (s.draw).inReset = s.inReset := rfl
@[simp] theorem State.draw_inited (s : State) : (s.draw).inited = s.inited := rfl
@[simp] theorem State.draw_relockTo (s : State) : (s.draw).relockTo = s.relockTo := rfl
@[simp] theorem State.draw_wantElapsed (s : State) : (s.draw).wantElapsed = s.wantElapsed := rfl
@[simp] theorem State.draw_threads (s : State) : (s.draw).threads = s.threads := rfl
@[simp] theorem State.draw_scratch (s : State) : (s.draw).scratch = s.scratch := rfl
@[simp] theorem State.draw_engHold (s : State) : (s.draw).engHold = s.engHold := rfl
@[simp] theorem State.draw_store (s : State) : (s.draw).store = s.store := rfl
@[simp] theorem State.draw_jobs (s : State) : (s.draw).jobs = s.jobs := rfl
@[simp] theorem State.draw_arrivals (s : State) : (s.draw).arrivals = s.arrivals := rfl
@[simp] theorem State.draw_evWaiters (s : State) : (s.draw).evWaiters = s.evWaiters := rfl
@[simp] theorem State.draw_evf (s : State) : (s.draw).evf = s.evf := rfl
@[simp] theorem State.draw_evtPend (s : State) : (s.draw).evtPend = s.evtPend := rfl
@[simp] theorem State.draw_ctxs (s : State) : (s.draw).ctxs = s.ctxs := rfl
@[simp] theorem State.draw_readyQ (s : State) : (s.draw).readyQ = s.readyQ := rfl
@[simp] theorem State.draw_nextId (s : State) : (s.draw).nextId = s.nextId := rfl
@[simp] theorem State.draw_pool (s : State) : (s.draw).pool = s.pool := rfl
@[simp] theorem State.draw_vtime (s : State) : (s.draw).vtime = s.vtime := rfl
@[simp] theorem State.draw_charmQ (s : State) : (s.draw).charmQ = s.charmQ := rfl
@[simp] theorem State.draw_homeQ (s : State) : (s.draw).homeQ = s.homeQ := rfl
@[simp] theorem State.draw_trks (s : State) : (s.draw).trks = s.trks := rfl
@[simp] theorem State.draw_heldLines (s : State) : (s.draw).heldLines = s.heldLines := rfl
@[simp] theorem State.draw_filter (s : State) : (s.draw).filter = s.filter := rfl
@[simp] theorem State.draw_atomPred (s : State) : (s.draw).atomPred = s.atomPred := rfl
@[simp] theorem State.draw_clasps (s : State) : (s.draw).clasps = s.clasps := rfl
@[simp] theorem State.draw_claspWaits (s : State) : (s.draw).claspWaits = s.claspWaits := rfl
@[simp] theorem State.draw_claspFull (s : State) : (s.draw).claspFull = s.claspFull := rfl
@[simp] theorem State.draw_walks (s : State) : (s.draw).walks = s.walks := rfl
@[simp] theorem State.draw_locket (s : State) : (s.draw).locket = s.locket := rfl
@[simp] theorem State.draw_tagBad (s : State) : (s.draw).tagBad = s.tagBad := rfl
@[simp] theorem State.draw_plots (s : State) : (s.draw).plots = s.plots := rfl
@[simp] theorem State.draw_sprouts (s : State) : (s.draw).sprouts = s.sprouts := rfl
@[simp] theorem State.draw_ewt (s : State) : (s.draw).ewt = s.ewt := rfl
@[simp] theorem State.draw_fillTurn (s : State) : (s.draw).fillTurn = s.fillTurn := rfl
@[simp] theorem State.draw_trimming (s : State) : (s.draw).trimming = s.trimming := rfl
@[simp] theorem State.draw_moves (s : State) : (s.draw).moves = s.moves := rfl
@[simp] theorem State.draw_scrubLine (s : State) : (s.draw).scrubLine = s.scrubLine := rfl
@[simp] theorem State.draw_scrubDirty (s : State) : (s.draw).scrubDirty = s.scrubDirty := rfl
@[simp] theorem State.draw_scrubWb (s : State) : (s.draw).scrubWb = s.scrubWb := rfl
@[simp] theorem State.draw_scrubN (s : State) : (s.draw).scrubN = s.scrubN := rfl
@[simp] theorem State.draw_chans (s : State) : (s.draw).chans = s.chans := rfl
@[simp] theorem State.draw_live (s : State) : (s.draw).live = s.live := rfl
@[simp] theorem State.draw_shadow (s : State) : (s.draw).shadow = s.shadow := rfl
@[simp] theorem State.draw_sports (s : State) : (s.draw).sports = s.sports := rfl
@[simp] theorem State.draw_stops (s : State) : (s.draw).stops = s.stops := rfl
@[simp] theorem State.draw_charmAcc (s : State) : (s.draw).charmAcc = s.charmAcc := rfl
@[simp] theorem State.draw_trAt (s : State) : (s.draw).trAt = s.trAt := rfl
@[simp] theorem State.draw_hist (s : State) : (s.draw).hist = s.hist := rfl
@[simp] theorem State.draw_tprio (s : State) : (s.draw).tprio = s.tprio := rfl
@[simp] theorem State.draw_tsleep (s : State) : (s.draw).tsleep = s.tsleep := rfl
@[simp] theorem State.draw_assigned (s : State) : (s.draw).assigned = s.assigned := rfl
@[simp] theorem State.draw_modTimer (s : State) : (s.draw).modTimer = s.modTimer := rfl
@[simp] theorem State.draw_pwr (s : State) : (s.draw).pwr = s.pwr := rfl
@[simp] theorem State.draw_wakeEv (s : State) : (s.draw).wakeEv = s.wakeEv := rfl
@[simp] theorem State.draw_entryMark (s : State) : (s.draw).entryMark = s.entryMark := rfl
@[simp] theorem State.draw_byPc (s : State) : (s.draw).byPc = s.byPc := rfl
@[simp] theorem State.draw_rails (s : State) : (s.draw).rails = s.rails := rfl
@[simp] theorem State.draw_saved (s : State) : (s.draw).saved = s.saved := rfl
@[simp] theorem State.draw_portsStopped (s : State) : (s.draw).portsStopped = s.portsStopped := rfl
@[simp] theorem State.draw_clustersStopped (s : State) : (s.draw).clustersStopped = s.clustersStopped := rfl
@[simp] theorem State.draw_stopsLowered (s : State) : (s.draw).stopsLowered = s.stopsLowered := rfl
@[simp] theorem State.draw_alive (s : State) : (s.draw).alive = s.alive := rfl
@[simp] theorem State.draw_pulse (s : State) : (s.draw).pulse = s.pulse := rfl
@[simp] theorem State.draw_onsetSeen (s : State) : (s.draw).onsetSeen = s.onsetSeen := rfl
@[simp] theorem State.draw_vddAon (s : State) : (s.draw).vddAon = s.vddAon := rfl
@[simp] theorem State.draw_wdArmed (s : State) : (s.draw).wdArmed = s.wdArmed := rfl
@[simp] theorem State.draw_keys (s : State) : (s.draw).keys = s.keys := rfl
@[simp] theorem State.draw_keySlot (s : State) : (s.draw).keySlot = s.keySlot := rfl
@[simp] theorem State.draw_keyBeats (s : State) : (s.draw).keyBeats = s.keyBeats := rfl
@[simp] theorem State.draw_token (s : State) : (s.draw).token = s.token := rfl
@[simp] theorem State.draw_authLevel (s : State) : (s.draw).authLevel = s.authLevel := rfl
@[simp] theorem State.draw_dbgAcc (s : State) : (s.draw).dbgAcc = s.dbgAcc := rfl
@[simp] theorem State.draw_hscKept (s : State) : (s.draw).hscKept = s.hscKept := rfl
@[simp] theorem State.draw_sbCmd (s : State) : (s.draw).sbCmd = s.sbCmd := rfl
@[simp] theorem State.draw_prsnt (s : State) : (s.draw).prsnt = s.prsnt := rfl
@[simp] theorem State.draw_zqCodes (s : State) : (s.draw).zqCodes = s.zqCodes := rfl
@[simp] theorem State.draw_zqMs (s : State) : (s.draw).zqMs = s.zqMs := rfl
@[simp] theorem State.draw_padFloat (s : State) : (s.draw).padFloat = s.padFloat := rfl
@[simp] theorem State.draw_padQuiet (s : State) : (s.draw).padQuiet = s.padQuiet := rfl
@[simp] theorem State.draw_drst (s : State) : (s.draw).drst = s.drst := rfl
@[simp] theorem State.draw_out (s : State) : (s.draw).out = s.out := rfl

/-! ### evtQueue -/

@[simp] theorem State.evtQueue_variant (s : State) (l : Nat) : (s.evtQueue l).variant = s.variant := rfl
@[simp] theorem State.evtQueue_pending (s : State) (l : Nat) : (s.evtQueue l).pending = s.pending := rfl
@[simp] theorem State.evtQueue_regs (s : State) (l : Nat) : (s.evtQueue l).regs = s.regs := rfl
@[simp] theorem State.evtQueue_rdShadow (s : State) (l : Nat) : (s.evtQueue l).rdShadow = s.rdShadow := rfl
@[simp] theorem State.evtQueue_wrShadow (s : State) (l : Nat) : (s.evtQueue l).wrShadow = s.wrShadow := rfl
@[simp] theorem State.evtQueue_histShadow (s : State) (l : Nat) : (s.evtQueue l).histShadow = s.histShadow := rfl
@[simp] theorem State.evtQueue_cfgBusy (s : State) (l : Nat) : (s.evtQueue l).cfgBusy = s.cfgBusy := rfl
@[simp] theorem State.evtQueue_cfgQueue (s : State) (l : Nat) : (s.evtQueue l).cfgQueue = s.cfgQueue := rfl
@[simp] theorem State.evtQueue_dbgQueue (s : State) (l : Nat) : (s.evtQueue l).dbgQueue = s.dbgQueue := rfl
@[simp] theorem State.evtQueue_tbase (s : State) (l : Nat) : (s.evtQueue l).tbase = s.tbase := rfl
@[simp] theorem State.evtQueue_refclk (s : State) (l : Nat) : (s.evtQueue l).refclk = s.refclk := rfl
@[simp] theorem State.evtQueue_inReset (s : State) (l : Nat) : (s.evtQueue l).inReset = s.inReset := rfl
@[simp] theorem State.evtQueue_inited (s : State) (l : Nat) : (s.evtQueue l).inited = s.inited := rfl
@[simp] theorem State.evtQueue_relockTo (s : State) (l : Nat) : (s.evtQueue l).relockTo = s.relockTo := rfl
@[simp] theorem State.evtQueue_wantElapsed (s : State) (l : Nat) : (s.evtQueue l).wantElapsed = s.wantElapsed := rfl
@[simp] theorem State.evtQueue_threads (s : State) (l : Nat) : (s.evtQueue l).threads = s.threads := rfl
@[simp] theorem State.evtQueue_scratch (s : State) (l : Nat) : (s.evtQueue l).scratch = s.scratch := rfl
@[simp] theorem State.evtQueue_engHold (s : State) (l : Nat) : (s.evtQueue l).engHold = s.engHold := rfl
@[simp] theorem State.evtQueue_store (s : State) (l : Nat) : (s.evtQueue l).store = s.store := rfl
@[simp] theorem State.evtQueue_jobs (s : State) (l : Nat) : (s.evtQueue l).jobs = s.jobs := rfl
@[simp] theorem State.evtQueue_arrivals (s : State) (l : Nat) : (s.evtQueue l).arrivals = s.arrivals := rfl
@[simp] theorem State.evtQueue_evWaiters (s : State) (l : Nat) : (s.evtQueue l).evWaiters = s.evWaiters := rfl
@[simp] theorem State.evtQueue_evf (s : State) (l : Nat) : (s.evtQueue l).evf = s.evf := rfl
@[simp] theorem State.evtQueue_ctxs (s : State) (l : Nat) : (s.evtQueue l).ctxs = s.ctxs := rfl
@[simp] theorem State.evtQueue_readyQ (s : State) (l : Nat) : (s.evtQueue l).readyQ = s.readyQ := rfl
@[simp] theorem State.evtQueue_nextId (s : State) (l : Nat) : (s.evtQueue l).nextId = s.nextId := rfl
@[simp] theorem State.evtQueue_pool (s : State) (l : Nat) : (s.evtQueue l).pool = s.pool := rfl
@[simp] theorem State.evtQueue_vtime (s : State) (l : Nat) : (s.evtQueue l).vtime = s.vtime := rfl
@[simp] theorem State.evtQueue_charmQ (s : State) (l : Nat) : (s.evtQueue l).charmQ = s.charmQ := rfl
@[simp] theorem State.evtQueue_homeQ (s : State) (l : Nat) : (s.evtQueue l).homeQ = s.homeQ := rfl
@[simp] theorem State.evtQueue_trks (s : State) (l : Nat) : (s.evtQueue l).trks = s.trks := rfl
@[simp] theorem State.evtQueue_heldLines (s : State) (l : Nat) : (s.evtQueue l).heldLines = s.heldLines := rfl
@[simp] theorem State.evtQueue_filter (s : State) (l : Nat) : (s.evtQueue l).filter = s.filter := rfl
@[simp] theorem State.evtQueue_atomPred (s : State) (l : Nat) : (s.evtQueue l).atomPred = s.atomPred := rfl
@[simp] theorem State.evtQueue_clasps (s : State) (l : Nat) : (s.evtQueue l).clasps = s.clasps := rfl
@[simp] theorem State.evtQueue_claspWaits (s : State) (l : Nat) : (s.evtQueue l).claspWaits = s.claspWaits := rfl
@[simp] theorem State.evtQueue_claspFull (s : State) (l : Nat) : (s.evtQueue l).claspFull = s.claspFull := rfl
@[simp] theorem State.evtQueue_walks (s : State) (l : Nat) : (s.evtQueue l).walks = s.walks := rfl
@[simp] theorem State.evtQueue_locket (s : State) (l : Nat) : (s.evtQueue l).locket = s.locket := rfl
@[simp] theorem State.evtQueue_tagBad (s : State) (l : Nat) : (s.evtQueue l).tagBad = s.tagBad := rfl
@[simp] theorem State.evtQueue_plots (s : State) (l : Nat) : (s.evtQueue l).plots = s.plots := rfl
@[simp] theorem State.evtQueue_sprouts (s : State) (l : Nat) : (s.evtQueue l).sprouts = s.sprouts := rfl
@[simp] theorem State.evtQueue_ewt (s : State) (l : Nat) : (s.evtQueue l).ewt = s.ewt := rfl
@[simp] theorem State.evtQueue_fillTurn (s : State) (l : Nat) : (s.evtQueue l).fillTurn = s.fillTurn := rfl
@[simp] theorem State.evtQueue_trimming (s : State) (l : Nat) : (s.evtQueue l).trimming = s.trimming := rfl
@[simp] theorem State.evtQueue_moves (s : State) (l : Nat) : (s.evtQueue l).moves = s.moves := rfl
@[simp] theorem State.evtQueue_scrubLine (s : State) (l : Nat) : (s.evtQueue l).scrubLine = s.scrubLine := rfl
@[simp] theorem State.evtQueue_scrubDirty (s : State) (l : Nat) : (s.evtQueue l).scrubDirty = s.scrubDirty := rfl
@[simp] theorem State.evtQueue_scrubWb (s : State) (l : Nat) : (s.evtQueue l).scrubWb = s.scrubWb := rfl
@[simp] theorem State.evtQueue_scrubN (s : State) (l : Nat) : (s.evtQueue l).scrubN = s.scrubN := rfl
@[simp] theorem State.evtQueue_chans (s : State) (l : Nat) : (s.evtQueue l).chans = s.chans := rfl
@[simp] theorem State.evtQueue_live (s : State) (l : Nat) : (s.evtQueue l).live = s.live := rfl
@[simp] theorem State.evtQueue_shadow (s : State) (l : Nat) : (s.evtQueue l).shadow = s.shadow := rfl
@[simp] theorem State.evtQueue_sports (s : State) (l : Nat) : (s.evtQueue l).sports = s.sports := rfl
@[simp] theorem State.evtQueue_stops (s : State) (l : Nat) : (s.evtQueue l).stops = s.stops := rfl
@[simp] theorem State.evtQueue_charmAcc (s : State) (l : Nat) : (s.evtQueue l).charmAcc = s.charmAcc := rfl
@[simp] theorem State.evtQueue_trAt (s : State) (l : Nat) : (s.evtQueue l).trAt = s.trAt := rfl
@[simp] theorem State.evtQueue_hist (s : State) (l : Nat) : (s.evtQueue l).hist = s.hist := rfl
@[simp] theorem State.evtQueue_tprio (s : State) (l : Nat) : (s.evtQueue l).tprio = s.tprio := rfl
@[simp] theorem State.evtQueue_tsleep (s : State) (l : Nat) : (s.evtQueue l).tsleep = s.tsleep := rfl
@[simp] theorem State.evtQueue_assigned (s : State) (l : Nat) : (s.evtQueue l).assigned = s.assigned := rfl
@[simp] theorem State.evtQueue_modTimer (s : State) (l : Nat) : (s.evtQueue l).modTimer = s.modTimer := rfl
@[simp] theorem State.evtQueue_pwr (s : State) (l : Nat) : (s.evtQueue l).pwr = s.pwr := rfl
@[simp] theorem State.evtQueue_wakeEv (s : State) (l : Nat) : (s.evtQueue l).wakeEv = s.wakeEv := rfl
@[simp] theorem State.evtQueue_entryMark (s : State) (l : Nat) : (s.evtQueue l).entryMark = s.entryMark := rfl
@[simp] theorem State.evtQueue_byPc (s : State) (l : Nat) : (s.evtQueue l).byPc = s.byPc := rfl
@[simp] theorem State.evtQueue_rails (s : State) (l : Nat) : (s.evtQueue l).rails = s.rails := rfl
@[simp] theorem State.evtQueue_saved (s : State) (l : Nat) : (s.evtQueue l).saved = s.saved := rfl
@[simp] theorem State.evtQueue_portsStopped (s : State) (l : Nat) : (s.evtQueue l).portsStopped = s.portsStopped := rfl
@[simp] theorem State.evtQueue_clustersStopped (s : State) (l : Nat) : (s.evtQueue l).clustersStopped = s.clustersStopped := rfl
@[simp] theorem State.evtQueue_stopsLowered (s : State) (l : Nat) : (s.evtQueue l).stopsLowered = s.stopsLowered := rfl
@[simp] theorem State.evtQueue_alive (s : State) (l : Nat) : (s.evtQueue l).alive = s.alive := rfl
@[simp] theorem State.evtQueue_pulse (s : State) (l : Nat) : (s.evtQueue l).pulse = s.pulse := rfl
@[simp] theorem State.evtQueue_onsetSeen (s : State) (l : Nat) : (s.evtQueue l).onsetSeen = s.onsetSeen := rfl
@[simp] theorem State.evtQueue_vddAon (s : State) (l : Nat) : (s.evtQueue l).vddAon = s.vddAon := rfl
@[simp] theorem State.evtQueue_wdArmed (s : State) (l : Nat) : (s.evtQueue l).wdArmed = s.wdArmed := rfl
@[simp] theorem State.evtQueue_keys (s : State) (l : Nat) : (s.evtQueue l).keys = s.keys := rfl
@[simp] theorem State.evtQueue_keySlot (s : State) (l : Nat) : (s.evtQueue l).keySlot = s.keySlot := rfl
@[simp] theorem State.evtQueue_keyBeats (s : State) (l : Nat) : (s.evtQueue l).keyBeats = s.keyBeats := rfl
@[simp] theorem State.evtQueue_token (s : State) (l : Nat) : (s.evtQueue l).token = s.token := rfl
@[simp] theorem State.evtQueue_authLevel (s : State) (l : Nat) : (s.evtQueue l).authLevel = s.authLevel := rfl
@[simp] theorem State.evtQueue_dbgAcc (s : State) (l : Nat) : (s.evtQueue l).dbgAcc = s.dbgAcc := rfl
@[simp] theorem State.evtQueue_hscKept (s : State) (l : Nat) : (s.evtQueue l).hscKept = s.hscKept := rfl
@[simp] theorem State.evtQueue_sbCmd (s : State) (l : Nat) : (s.evtQueue l).sbCmd = s.sbCmd := rfl
@[simp] theorem State.evtQueue_prsnt (s : State) (l : Nat) : (s.evtQueue l).prsnt = s.prsnt := rfl
@[simp] theorem State.evtQueue_zqCodes (s : State) (l : Nat) : (s.evtQueue l).zqCodes = s.zqCodes := rfl
@[simp] theorem State.evtQueue_zqMs (s : State) (l : Nat) : (s.evtQueue l).zqMs = s.zqMs := rfl
@[simp] theorem State.evtQueue_padFloat (s : State) (l : Nat) : (s.evtQueue l).padFloat = s.padFloat := rfl
@[simp] theorem State.evtQueue_padQuiet (s : State) (l : Nat) : (s.evtQueue l).padQuiet = s.padQuiet := rfl
@[simp] theorem State.evtQueue_drst (s : State) (l : Nat) : (s.evtQueue l).drst = s.drst := rfl
@[simp] theorem State.evtQueue_free (s : State) (l : Nat) : (s.evtQueue l).free = s.free := rfl
@[simp] theorem State.evtQueue_out (s : State) (l : Nat) : (s.evtQueue l).out = s.out := rfl

/-! ### setFld -/

@[simp] theorem State.setFld_variant (s : State) (a hi lo n : Nat) : (s.setFld a hi lo n).variant = s.variant := State.setReg_variant ..
@[simp] theorem State.setFld_pending (s : State) (a hi lo n : Nat) : (s.setFld a hi lo n).pending = s.pending := State.setReg_pending ..
@[simp] theorem State.setFld_tbase (s : State) (a hi lo n : Nat) : (s.setFld a hi lo n).tbase = s.tbase := State.setReg_tbase ..
@[simp] theorem State.setFld_threads (s : State) (a hi lo n : Nat) : (s.setFld a hi lo n).threads = s.threads := State.setReg_threads ..
@[simp] theorem State.setFld_ctxs (s : State) (a hi lo n : Nat) : (s.setFld a hi lo n).ctxs = s.ctxs := State.setReg_ctxs ..
@[simp] theorem State.setFld_chans (s : State) (a hi lo n : Nat) : (s.setFld a hi lo n).chans = s.chans := State.setReg_chans ..
@[simp] theorem State.setFld_sports (s : State) (a hi lo n : Nat) : (s.setFld a hi lo n).sports = s.sports := State.setReg_sports ..
@[simp] theorem State.setFld_clasps (s : State) (a hi lo n : Nat) : (s.setFld a hi lo n).clasps = s.clasps := State.setReg_clasps ..
@[simp] theorem State.setFld_stops (s : State) (a hi lo n : Nat) : (s.setFld a hi lo n).stops = s.stops := State.setReg_stops ..
@[simp] theorem State.setFld_filter (s : State) (a hi lo n : Nat) : (s.setFld a hi lo n).filter = s.filter := State.setReg_filter ..
@[simp] theorem State.setFld_trks (s : State) (a hi lo n : Nat) : (s.setFld a hi lo n).trks = s.trks := State.setReg_trks ..
@[simp] theorem State.setFld_homeQ (s : State) (a hi lo n : Nat) : (s.setFld a hi lo n).homeQ = s.homeQ := State.setReg_homeQ ..
@[simp] theorem State.setFld_pool (s : State) (a hi lo n : Nat) : (s.setFld a hi lo n).pool = s.pool := State.setReg_pool ..
@[simp] theorem State.setFld_jobs (s : State) (a hi lo n : Nat) : (s.setFld a hi lo n).jobs = s.jobs := State.setReg_jobs ..
@[simp] theorem State.setFld_evf (s : State) (a hi lo n : Nat) : (s.setFld a hi lo n).evf = s.evf := State.setReg_evf ..
@[simp] theorem State.setFld_hist (s : State) (a hi lo n : Nat) : (s.setFld a hi lo n).hist = s.hist := State.setReg_hist ..
@[simp] theorem State.setFld_store (s : State) (a hi lo n : Nat) : (s.setFld a hi lo n).store = s.store := State.setReg_store ..
@[simp] theorem State.setFld_scratch (s : State) (a hi lo n : Nat) : (s.setFld a hi lo n).scratch = s.scratch := State.setReg_scratch ..
@[simp] theorem State.setFld_out (s : State) (a hi lo n : Nat) : (s.setFld a hi lo n).out = s.out := State.setReg_out ..
@[simp] theorem State.setFld_free (s : State) (a hi lo n : Nat) : (s.setFld a hi lo n).free = s.free := State.setReg_free ..

/-! ### setFlag -/

@[simp] theorem State.setFlag_variant (s : State) (a i : Nat) (b : Bool) : (s.setFlag a i b).variant = s.variant := State.setFld_variant ..
@[simp] theorem State.setFlag_pending (s : State) (a i : Nat) (b : Bool) : (s.setFlag a i b).pending = s.pending := State.setFld_pending ..
@[simp] theorem State.setFlag_tbase (s : State) (a i : Nat) (b : Bool) : (s.setFlag a i b).tbase = s.tbase := State.setFld_tbase ..
@[simp] theorem State.setFlag_threads (s : State) (a i : Nat) (b : Bool) : (s.setFlag a i b).threads = s.threads := State.setFld_threads ..
@[simp] theorem State.setFlag_ctxs (s : State) (a i : Nat) (b : Bool) : (s.setFlag a i b).ctxs = s.ctxs := State.setFld_ctxs ..
@[simp] theorem State.setFlag_chans (s : State) (a i : Nat) (b : Bool) : (s.setFlag a i b).chans = s.chans := State.setFld_chans ..
@[simp] theorem State.setFlag_sports (s : State) (a i : Nat) (b : Bool) : (s.setFlag a i b).sports = s.sports := State.setFld_sports ..
@[simp] theorem State.setFlag_clasps (s : State) (a i : Nat) (b : Bool) : (s.setFlag a i b).clasps = s.clasps := State.setFld_clasps ..
@[simp] theorem State.setFlag_stops (s : State) (a i : Nat) (b : Bool) : (s.setFlag a i b).stops = s.stops := State.setFld_stops ..
@[simp] theorem State.setFlag_filter (s : State) (a i : Nat) (b : Bool) : (s.setFlag a i b).filter = s.filter := State.setFld_filter ..
@[simp] theorem State.setFlag_trks (s : State) (a i : Nat) (b : Bool) : (s.setFlag a i b).trks = s.trks := State.setFld_trks ..
@[simp] theorem State.setFlag_homeQ (s : State) (a i : Nat) (b : Bool) : (s.setFlag a i b).homeQ = s.homeQ := State.setFld_homeQ ..
@[simp] theorem State.setFlag_pool (s : State) (a i : Nat) (b : Bool) : (s.setFlag a i b).pool = s.pool := State.setFld_pool ..
@[simp] theorem State.setFlag_jobs (s : State) (a i : Nat) (b : Bool) : (s.setFlag a i b).jobs = s.jobs := State.setFld_jobs ..
@[simp] theorem State.setFlag_evf (s : State) (a i : Nat) (b : Bool) : (s.setFlag a i b).evf = s.evf := State.setFld_evf ..
@[simp] theorem State.setFlag_hist (s : State) (a i : Nat) (b : Bool) : (s.setFlag a i b).hist = s.hist := State.setFld_hist ..
@[simp] theorem State.setFlag_store (s : State) (a i : Nat) (b : Bool) : (s.setFlag a i b).store = s.store := State.setFld_store ..
@[simp] theorem State.setFlag_scratch (s : State) (a i : Nat) (b : Bool) : (s.setFlag a i b).scratch = s.scratch := State.setFld_scratch ..
@[simp] theorem State.setFlag_out (s : State) (a i : Nat) (b : Bool) : (s.setFlag a i b).out = s.out := State.setFld_out ..
@[simp] theorem State.setFlag_free (s : State) (a i : Nat) (b : Bool) : (s.setFlag a i b).free = s.free := State.setFld_free ..

/-! ### setReg2 -/

@[simp] theorem State.setReg2_variant (s : State) (a n : Nat) : (s.setReg2 a n).variant = s.variant := (State.setReg_variant ..).trans (State.setReg_variant ..)
@[simp] theorem State.setReg2_pending (s : State) (a n : Nat) : (s.setReg2 a n).pending = s.pending := (State.setReg_pending ..).trans (State.setReg_pending ..)
@[simp] theorem State.setReg2_tbase (s : State) (a n : Nat) : (s.setReg2 a n).tbase = s.tbase := (State.setReg_tbase ..).trans (State.setReg_tbase ..)
@[simp] theorem State.setReg2_threads (s : State) (a n : Nat) : (s.setReg2 a n).threads = s.threads := (State.setReg_threads ..).trans (State.setReg_threads ..)
@[simp] theorem State.setReg2_ctxs (s : State) (a n : Nat) : (s.setReg2 a n).ctxs = s.ctxs := (State.setReg_ctxs ..).trans (State.setReg_ctxs ..)
@[simp] theorem State.setReg2_chans (s : State) (a n : Nat) : (s.setReg2 a n).chans = s.chans := (State.setReg_chans ..).trans (State.setReg_chans ..)
@[simp] theorem State.setReg2_sports (s : State) (a n : Nat) : (s.setReg2 a n).sports = s.sports := (State.setReg_sports ..).trans (State.setReg_sports ..)
@[simp] theorem State.setReg2_clasps (s : State) (a n : Nat) : (s.setReg2 a n).clasps = s.clasps := (State.setReg_clasps ..).trans (State.setReg_clasps ..)
@[simp] theorem State.setReg2_stops (s : State) (a n : Nat) : (s.setReg2 a n).stops = s.stops := (State.setReg_stops ..).trans (State.setReg_stops ..)
@[simp] theorem State.setReg2_filter (s : State) (a n : Nat) : (s.setReg2 a n).filter = s.filter := (State.setReg_filter ..).trans (State.setReg_filter ..)
@[simp] theorem State.setReg2_trks (s : State) (a n : Nat) : (s.setReg2 a n).trks = s.trks := (State.setReg_trks ..).trans (State.setReg_trks ..)
@[simp] theorem State.setReg2_homeQ (s : State) (a n : Nat) : (s.setReg2 a n).homeQ = s.homeQ := (State.setReg_homeQ ..).trans (State.setReg_homeQ ..)
@[simp] theorem State.setReg2_pool (s : State) (a n : Nat) : (s.setReg2 a n).pool = s.pool := (State.setReg_pool ..).trans (State.setReg_pool ..)
@[simp] theorem State.setReg2_jobs (s : State) (a n : Nat) : (s.setReg2 a n).jobs = s.jobs := (State.setReg_jobs ..).trans (State.setReg_jobs ..)
@[simp] theorem State.setReg2_evf (s : State) (a n : Nat) : (s.setReg2 a n).evf = s.evf := (State.setReg_evf ..).trans (State.setReg_evf ..)
@[simp] theorem State.setReg2_hist (s : State) (a n : Nat) : (s.setReg2 a n).hist = s.hist := (State.setReg_hist ..).trans (State.setReg_hist ..)
@[simp] theorem State.setReg2_store (s : State) (a n : Nat) : (s.setReg2 a n).store = s.store := (State.setReg_store ..).trans (State.setReg_store ..)
@[simp] theorem State.setReg2_scratch (s : State) (a n : Nat) : (s.setReg2 a n).scratch = s.scratch := (State.setReg_scratch ..).trans (State.setReg_scratch ..)
@[simp] theorem State.setReg2_out (s : State) (a n : Nat) : (s.setReg2 a n).out = s.out := (State.setReg_out ..).trans (State.setReg_out ..)
@[simp] theorem State.setReg2_free (s : State) (a n : Nat) : (s.setReg2 a n).free = s.free := (State.setReg_free ..).trans (State.setReg_free ..)

/-! ### count2 -/

@[simp] theorem State.count2_variant (s : State) (a : Nat) : (s.count2 a).variant = s.variant := State.setReg2_variant ..
@[simp] theorem State.count2_pending (s : State) (a : Nat) : (s.count2 a).pending = s.pending := State.setReg2_pending ..
@[simp] theorem State.count2_tbase (s : State) (a : Nat) : (s.count2 a).tbase = s.tbase := State.setReg2_tbase ..
@[simp] theorem State.count2_threads (s : State) (a : Nat) : (s.count2 a).threads = s.threads := State.setReg2_threads ..
@[simp] theorem State.count2_ctxs (s : State) (a : Nat) : (s.count2 a).ctxs = s.ctxs := State.setReg2_ctxs ..
@[simp] theorem State.count2_chans (s : State) (a : Nat) : (s.count2 a).chans = s.chans := State.setReg2_chans ..
@[simp] theorem State.count2_sports (s : State) (a : Nat) : (s.count2 a).sports = s.sports := State.setReg2_sports ..
@[simp] theorem State.count2_clasps (s : State) (a : Nat) : (s.count2 a).clasps = s.clasps := State.setReg2_clasps ..
@[simp] theorem State.count2_stops (s : State) (a : Nat) : (s.count2 a).stops = s.stops := State.setReg2_stops ..
@[simp] theorem State.count2_filter (s : State) (a : Nat) : (s.count2 a).filter = s.filter := State.setReg2_filter ..
@[simp] theorem State.count2_trks (s : State) (a : Nat) : (s.count2 a).trks = s.trks := State.setReg2_trks ..
@[simp] theorem State.count2_homeQ (s : State) (a : Nat) : (s.count2 a).homeQ = s.homeQ := State.setReg2_homeQ ..
@[simp] theorem State.count2_pool (s : State) (a : Nat) : (s.count2 a).pool = s.pool := State.setReg2_pool ..
@[simp] theorem State.count2_jobs (s : State) (a : Nat) : (s.count2 a).jobs = s.jobs := State.setReg2_jobs ..
@[simp] theorem State.count2_evf (s : State) (a : Nat) : (s.count2 a).evf = s.evf := State.setReg2_evf ..
@[simp] theorem State.count2_hist (s : State) (a : Nat) : (s.count2 a).hist = s.hist := State.setReg2_hist ..
@[simp] theorem State.count2_store (s : State) (a : Nat) : (s.count2 a).store = s.store := State.setReg2_store ..
@[simp] theorem State.count2_scratch (s : State) (a : Nat) : (s.count2 a).scratch = s.scratch := State.setReg2_scratch ..
@[simp] theorem State.count2_out (s : State) (a : Nat) : (s.count2 a).out = s.out := State.setReg2_out ..
@[simp] theorem State.count2_free (s : State) (a : Nat) : (s.count2 a).free = s.free := State.setReg2_free ..

/-! ### setCtxState -/

@[simp] theorem State.setCtxState_variant (s : State) (n st : Nat) : (s.setCtxState n st).variant = s.variant := State.setFld_variant ..
@[simp] theorem State.setCtxState_pending (s : State) (n st : Nat) : (s.setCtxState n st).pending = s.pending := State.setFld_pending ..
@[simp] theorem State.setCtxState_tbase (s : State) (n st : Nat) : (s.setCtxState n st).tbase = s.tbase := State.setFld_tbase ..
@[simp] theorem State.setCtxState_threads (s : State) (n st : Nat) : (s.setCtxState n st).threads = s.threads := State.setFld_threads ..
@[simp] theorem State.setCtxState_ctxs (s : State) (n st : Nat) : (s.setCtxState n st).ctxs = s.ctxs := State.setFld_ctxs ..
@[simp] theorem State.setCtxState_chans (s : State) (n st : Nat) : (s.setCtxState n st).chans = s.chans := State.setFld_chans ..
@[simp] theorem State.setCtxState_sports (s : State) (n st : Nat) : (s.setCtxState n st).sports = s.sports := State.setFld_sports ..
@[simp] theorem State.setCtxState_clasps (s : State) (n st : Nat) : (s.setCtxState n st).clasps = s.clasps := State.setFld_clasps ..
@[simp] theorem State.setCtxState_stops (s : State) (n st : Nat) : (s.setCtxState n st).stops = s.stops := State.setFld_stops ..
@[simp] theorem State.setCtxState_filter (s : State) (n st : Nat) : (s.setCtxState n st).filter = s.filter := State.setFld_filter ..
@[simp] theorem State.setCtxState_trks (s : State) (n st : Nat) : (s.setCtxState n st).trks = s.trks := State.setFld_trks ..
@[simp] theorem State.setCtxState_homeQ (s : State) (n st : Nat) : (s.setCtxState n st).homeQ = s.homeQ := State.setFld_homeQ ..
@[simp] theorem State.setCtxState_pool (s : State) (n st : Nat) : (s.setCtxState n st).pool = s.pool := State.setFld_pool ..
@[simp] theorem State.setCtxState_jobs (s : State) (n st : Nat) : (s.setCtxState n st).jobs = s.jobs := State.setFld_jobs ..
@[simp] theorem State.setCtxState_evf (s : State) (n st : Nat) : (s.setCtxState n st).evf = s.evf := State.setFld_evf ..
@[simp] theorem State.setCtxState_hist (s : State) (n st : Nat) : (s.setCtxState n st).hist = s.hist := State.setFld_hist ..
@[simp] theorem State.setCtxState_store (s : State) (n st : Nat) : (s.setCtxState n st).store = s.store := State.setFld_store ..
@[simp] theorem State.setCtxState_scratch (s : State) (n st : Nat) : (s.setCtxState n st).scratch = s.scratch := State.setFld_scratch ..
@[simp] theorem State.setCtxState_out (s : State) (n st : Nat) : (s.setCtxState n st).out = s.out := State.setFld_out ..
@[simp] theorem State.setCtxState_free (s : State) (n st : Nat) : (s.setCtxState n st).free = s.free := State.setFld_free ..

end Sys2Proof.Machine
end

