-- ==== Sys2Proof/Laws/Tables.lean ====
section
/-! SUPPORT. What each operation on sparse tables can do: reading back, leaving other keys alone, and keeping the canonical
form. -/

namespace Sys2Proof.Machine

variable {α β : Type}

theorem tfind_tput (t : Tab α) (k : Nat) (v : α) (j : Nat) :
    tfind (tput t k v) j = if j = k then some v else tfind t j := by
  induction t with
  | nil => simp [tput, tfind, eq_comm]
  | cons e t ih =>
    obtain ⟨k', v'⟩ := e
    unfold tput
    split
    · by_cases h : j = k
      · subst h; simp [tfind]
      · rw [if_neg h]; simp [tfind, Ne.symm h]
    · split
      · rename_i _ h
        subst h
        by_cases h : j = k
        · subst h; simp [tfind]
        · rw [if_neg h]; simp [tfind, Ne.symm h]
      · rename_i h1 h2
        by_cases h : j = k
        · subst h; simp [tfind, ih, Ne.symm h2]
        · simp [tfind, ih, h]

theorem keysAbove_mono {t : Tab α} {lo lo' : Nat} (hl : lo' ≤ lo) (h : keysAbove lo t = true) : keysAbove lo' t = true := by
  cases t with
  | nil => rfl
  | cons e t => simp only [keysAbove, Bool.and_eq_true, decide_eq_true_eq] at h ⊢; exact ⟨by omega, h.2⟩

theorem tfind_below {t : Tab α} {lo : Nat} (h : keysAbove lo t = true) {j : Nat} (hj : j < lo) : tfind t j = none := by
  induction t generalizing lo with
  | nil => rfl
  | cons e t ih =>
    simp only [keysAbove, Bool.and_eq_true, decide_eq_true_eq] at h
    simp only [tfind]
    rw [if_neg (by omega)]
    exact ih h.2 (by omega)

theorem tfind_terase {t : Tab α} {lo : Nat} (h : keysAbove lo t = true) (k j : Nat) :
    tfind (terase t k) j = if j = k then none else tfind t j := by
  induction t generalizing lo with
  | nil => simp [terase, tfind]
  | cons e t ih =>
    obtain ⟨k', v'⟩ := e
    simp only [keysAbove, Bool.and_eq_true, decide_eq_true_eq] at h
    unfold terase
    split
    · rename_i hk
      subst hk
      by_cases hj : j = k'
      · subst hj; simp [tfind_below h.2 (Nat.lt_succ_self j)]
      · simp [tfind, hj, Ne.symm hj]
    · rename_i hk
      by_cases hj : j = k
      · subst hj; simp [tfind, hk, ih h.2]
      · simp [tfind, ih h.2, hj]

theorem keysAbove_tput {t : Tab α} {lo : Nat} (h : keysAbove lo t = true) {k : Nat} (hk : lo ≤ k) (v : α) :
    keysAbove lo (tput t k v) = true := by
  induction t generalizing lo with
  | nil => simpa [tput, keysAbove] using hk
  | cons e t ih =>
    obtain ⟨k', v'⟩ := e
    simp only [keysAbove, Bool.and_eq_true, decide_eq_true_eq] at h
    unfold tput
    split
    · simp only [keysAbove, Bool.and_eq_true, decide_eq_true_eq]
      exact ⟨hk, by omega, h.2⟩
    · split
      · rename_i _ he
        subst he
        simp only [keysAbove, Bool.and_eq_true, decide_eq_true_eq]
        exact ⟨hk, h.2⟩
      · simp only [keysAbove, Bool.and_eq_true, decide_eq_true_eq]
        exact ⟨h.1, ih h.2 (by omega)⟩

theorem keysAbove_terase {t : Tab α} {lo : Nat} (h : keysAbove lo t = true) (k : Nat) : keysAbove lo (terase t k) = true := by
  induction t generalizing lo with
  | nil => rfl
  | cons e t ih =>
    simp only [keysAbove, Bool.and_eq_true, decide_eq_true_eq] at h
    unfold terase
    split
    · exact keysAbove_mono (by omega) h.2
    · simp only [keysAbove, Bool.and_eq_true, decide_eq_true_eq]
      exact ⟨h.1, ih h.2⟩

theorem mem_tput {t : Tab α} {k : Nat} {v : α} {e : Nat × α} (h : e ∈ tput t k v) : e = (k, v) ∨ e ∈ t := by
  induction t with
  | nil => simpa [tput] using h
  | cons x t ih =>
    unfold tput at h
    split at h
    · rcases List.mem_cons.mp h with h | h <;> simp [h]
    · split at h
      · rcases List.mem_cons.mp h with h | h <;> simp [h]
      · rcases List.mem_cons.mp h with h | h
        · simp [h]
        · rcases ih h with h | h <;> simp [h]

theorem mem_terase {t : Tab α} {k : Nat} {e : Nat × α} (h : e ∈ terase t k) : e ∈ t := by
  induction t with
  | nil => exact h
  | cons x t ih =>
    unfold terase at h
    split at h
    · exact List.mem_cons_of_mem _ h
    · rcases List.mem_cons.mp h with h | h
      · simp [h]
      · exact List.mem_cons_of_mem _ (ih h)

theorem Tab.wf_iff [DecidableEq α] {d : Nat → α} {t : Tab α} :
    Tab.wf d t = true ↔ keysAbove 0 t = true ∧ ∀ e ∈ t, e.2 ≠ d e.1 := by
  simp [Tab.wf]

theorem Tab.wf_nil [DecidableEq α] (d : Nat → α) : Tab.wf d ([] : Tab α) = true := rfl

/-- The canonical form is kept by storing a value at a key. -/
theorem Tab.wf_tset [DecidableEq α] {d : Nat → α} {t : Tab α} (h : Tab.wf d t = true) (k : Nat) (v : α) :
    Tab.wf d (tset (d k) t k v) = true := by
  rw [Tab.wf_iff] at h ⊢
  unfold tset
  split
  · exact ⟨keysAbove_terase h.1 k, fun e he => h.2 e (mem_terase he)⟩
  · rename_i hv
    refine ⟨keysAbove_tput h.1 (Nat.zero_le k) v, fun e he => ?_⟩
    rcases mem_tput he with he | he
    · subst he; exact hv
    · exact h.2 e he

/-- The canonical form is kept by removing a key. -/
theorem Tab.wf_terase [DecidableEq α] {d : Nat → α} {t : Tab α} (h : Tab.wf d t = true) (k : Nat) :
    Tab.wf d (terase t k) = true := by
  rw [Tab.wf_iff] at h ⊢
  exact ⟨keysAbove_terase h.1 k, fun e he => h.2 e (mem_terase he)⟩

/-- The canonical form is kept by filtering entries. -/
theorem keysAbove_filter {t : Tab α} {lo : Nat} (h : keysAbove lo t = true) (p : Nat × α → Bool) :
    keysAbove lo (t.filter p) = true := by
  induction t generalizing lo with
  | nil => rfl
  | cons e t ih =>
    simp only [keysAbove, Bool.and_eq_true, decide_eq_true_eq] at h
    by_cases hp : p e = true
    · simp only [List.filter_cons, hp, if_true, keysAbove, Bool.and_eq_true, decide_eq_true_eq]
      exact ⟨h.1, ih h.2⟩
    · simp only [List.filter_cons, hp]
      exact ih (keysAbove_mono (by omega) h.2)

theorem Tab.wf_filter [DecidableEq α] {d : Nat → α} {t : Tab α} (h : Tab.wf d t = true) (p : Nat × α → Bool) :
    Tab.wf d (t.filter p) = true := by
  rw [Tab.wf_iff] at h ⊢
  exact ⟨keysAbove_filter h.1 p, fun e he => h.2 e (List.mem_filter.mp he).1⟩

theorem keysAbove_map {t : Tab α} {lo : Nat} (h : keysAbove lo t = true) (f : Nat × α → β) :
    keysAbove lo (t.map fun e => (e.1, f e)) = true := by
  induction t generalizing lo with
  | nil => rfl
  | cons e t ih =>
    simp only [keysAbove, List.map_cons, Bool.and_eq_true, decide_eq_true_eq] at h ⊢
    exact ⟨h.1, ih h.2⟩

/-- A table whose values are all changed is canonical again. -/
theorem Tab.wf_tmap [DecidableEq β] {t : Tab α} (h : keysAbove 0 t = true) (d : β) (f : α → β) :
    Tab.wf (fun _ => d) (tmap d f t) = true := by
  rw [Tab.wf_iff]
  refine ⟨keysAbove_filter (keysAbove_map h fun e => f e.2) _, fun e he => ?_⟩
  simpa using (List.mem_filter.mp he).2

/-- A value stored in a canonical table is read back, and every other key reads as before. -/
theorem tget_tset [DecidableEq α] {d : α} {t : Tab α} (h : keysAbove 0 t = true) (k : Nat) (v : α) (j : Nat) :
    tget d (tset d t k v) j = if j = k then v else tget d t j := by
  unfold tget tset
  split
  · rename_i hv
    rw [tfind_terase h]
    split <;> simp [*]
  · rw [tfind_tput]
    split <;> simp

/-- Every other key reads as before, whatever its default. -/
theorem tget_tset_ne [DecidableEq α] {d d' : α} {t : Tab α} (h : keysAbove 0 t = true) {k j : Nat} (hj : j ≠ k) (v : α) :
    tget d' (tset d t k v) j = tget d' t j := by
  unfold tget tset
  split
  · rw [tfind_terase h, if_neg hj]
  · rw [tfind_tput, if_neg hj]

/-- Canonical tables with equal contents are equal data. -/
theorem Tab.ext_of_tfind {t u : Tab α} {lo : Nat} (ht : keysAbove lo t = true) (hu : keysAbove lo u = true)
    (h : ∀ k, tfind t k = tfind u k) : t = u := by
  induction t generalizing u lo with
  | nil =>
    cases u with
    | nil => rfl
    | cons e u => simpa [tfind] using h e.1
  | cons e t ih =>
    obtain ⟨k, v⟩ := e
    cases u with
    | nil => simpa [tfind] using h k
    | cons e u =>
      obtain ⟨k', v'⟩ := e
      simp only [keysAbove, Bool.and_eq_true, decide_eq_true_eq] at ht hu
      have hk : k = k' := by
        rcases Nat.lt_trichotomy k k' with hlt | heq | hgt
        · have := h k
          simp only [tfind, if_true, if_neg (Nat.ne_of_gt hlt), tfind_below hu.2 (Nat.lt_succ_of_lt hlt)] at this
          cases this
        · exact heq
        · have := h k'
          simp only [tfind, if_true, if_neg (Nat.ne_of_gt hgt), tfind_below ht.2 (Nat.lt_succ_of_lt hgt)] at this
          cases this
      subst hk
      have hv : v = v' := by simpa [tfind] using h k
      subst hv
      congr 1
      refine ih ht.2 hu.2 fun j => ?_
      by_cases hj : k = j
      · subst hj
        rw [tfind_below ht.2 (Nat.lt_succ_self k), tfind_below hu.2 (Nat.lt_succ_self k)]
      · simpa [tfind, hj] using h j

end Sys2Proof.Machine
end

