-- ==== Sys2Proof/Laws/Ops.lean ====
section
/-! SUPPORT. What the shared operations on registers, threads and units can do: a value stored is read back, everything
else reads as before, and the tables stay in canonical form. -/

namespace Sys2Proof.Machine

theorem Tab.wf_keys {α : Type} [DecidableEq α] {d : Nat → α} {t : Tab α} (h : Tab.wf d t = true) : keysAbove 0 t = true :=
  (Tab.wf_iff.mp h).1

/-! ### Bit fields -/

theorem putBits_toNat (w : W32) {hi lo : Nat} (hlo : lo ≤ hi) (hhi : hi < 32) (n : Nat) :
    (putBits w hi lo n).toNat =
      w.toNat / 2 ^ (hi + 1) * 2 ^ (hi + 1) + n % 2 ^ (hi + 1 - lo) * 2 ^ lo + w.toNat % 2 ^ lo := by
  have hp : 2 ^ (hi + 1) = 2 ^ (hi + 1 - lo) * 2 ^ lo := by rw [← pow_add]; congr 1; omega
  have hq : (2 : Nat) ^ 32 = 2 ^ (31 - hi) * 2 ^ (hi + 1) := by rw [← pow_add]; congr 1; omega
  have hx : w.toNat < 2 ^ (31 - hi) * 2 ^ (hi + 1) := hq ▸ w.isLt
  have hn : n % 2 ^ (hi + 1 - lo) < 2 ^ (hi + 1 - lo) := Nat.mod_lt _ (by positivity)
  unfold putBits bitsOf
  rw [BitVec.toNat_ofNat, hq, hp]
  rw [hp] at hx
  generalize 2 ^ (hi + 1 - lo) = b at *
  generalize 2 ^ lo = a at *
  generalize 2 ^ (31 - hi) = c at *
  generalize n % b = m at *
  generalize w.toNat = x at *
  have ha : 0 < a := Nat.pos_of_ne_zero (by rintro rfl; simp at hx)
  have h1 := Nat.div_add_mod x a
  have h2 := Nat.div_add_mod (x / a) b
  have h3 : x / (b * a) = x / a / b := by rw [Nat.mul_comm, Nat.div_div_eq_div_mul]
  have h4 : x / a / b < c := by rw [← h3]; exact (Nat.div_lt_iff_lt_mul (Nat.mul_pos (Nat.pos_of_ne_zero (by rintro rfl; simp at hx)) ha)).mpr hx
  have h5 := Nat.mod_lt x ha
  rw [h3]
  generalize x % a = r at *
  generalize x / a / b = q at *
  generalize x / a % b = k at *
  have hxe : x = q * (b * a) + k * a + r := by rw [← h1, ← h2]; ring
  have hsub : x - k * a + m * a = q * (b * a) + m * a + r := by rw [hxe]; omega
  rw [hsub]
  refine Nat.mod_eq_of_lt ?_
  have h6 : (q + 1) * (b * a) ≤ c * (b * a) := Nat.mul_le_mul_right _ h4
  have h7 : (m + 1) * a ≤ b * a := Nat.mul_le_mul_right _ hn
  have h8 : (q + 1) * (b * a) = q * (b * a) + b * a := by ring
  have h9 : (m + 1) * a = m * a + a := by ring
  omega

/-- A field stored is read back. -/
theorem bitsOf_putBits (w : W32) {hi lo : Nat} (hlo : lo ≤ hi) (hhi : hi < 32) (n : Nat) :
    bitsOf (putBits w hi lo n) hi lo = n % 2 ^ (hi + 1 - lo) := by
  have hp : 2 ^ (hi + 1) = 2 ^ (hi + 1 - lo) * 2 ^ lo := by rw [← pow_add]; congr 1; omega
  have ha : 0 < 2 ^ lo := by positivity
  unfold bitsOf
  rw [putBits_toNat w hlo hhi, hp, ← Nat.mul_assoc, ← Nat.add_mul, Nat.add_comm, Nat.add_mul_div_right _ _ ha,
    Nat.div_eq_of_lt (Nat.mod_lt _ ha), Nat.zero_add, Nat.add_comm, Nat.add_mul_mod_self_right, Nat.mod_mod]

/-- A field below the one stored reads as before. -/
theorem bitsOf_putBits_below (w : W32) {hi lo : Nat} (hlo : lo ≤ hi) (hhi : hi < 32) (n : Nat) {h l : Nat} (hl : h < lo) :
    bitsOf (putBits w hi lo n) h l = bitsOf w h l := by
  by_cases hll : h + 1 ≤ l
  · have hz : h + 1 - l = 0 := by omega
    simp [bitsOf, hz, Nat.mod_one]
  have hp : 2 ^ (hi + 1) = 2 ^ (hi + 1 - lo) * 2 ^ lo := by rw [← pow_add]; congr 1; omega
  have hq : 2 ^ lo = 2 ^ (lo - (h + 1)) * 2 ^ (h + 1) := by rw [← pow_add]; congr 1; omega
  have hr : 2 ^ (h + 1) = 2 ^ l * 2 ^ (h + 1 - l) := by rw [← pow_add]; congr 1; omega
  have key : ∀ x : Nat, x / 2 ^ l % 2 ^ (h + 1 - l) = x % 2 ^ (h + 1) / 2 ^ l := by
    intro x; rw [hr, Nat.mod_mul_right_div_self]
  have hm : (putBits w hi lo n).toNat % 2 ^ (h + 1) = w.toNat % 2 ^ (h + 1) := by
    have hd : 2 ^ (h + 1) ∣ 2 ^ lo := ⟨_, by rw [hq, Nat.mul_comm]⟩
    rw [putBits_toNat w hlo hhi, hp, ← Nat.mul_assoc, ← Nat.add_mul, hq, ← Nat.mul_assoc, Nat.add_comm,
      Nat.add_mul_mod_self_right, ← hq, Nat.mod_mod_of_dvd _ hd]
  unfold bitsOf
  rw [key, key, hm]

/-- A field above the one stored reads as before. -/
theorem bitsOf_putBits_above (w : W32) {hi lo : Nat} (hlo : lo ≤ hi) (hhi : hi < 32) (n : Nat) {h l : Nat} (hl : hi < l) :
    bitsOf (putBits w hi lo n) h l = bitsOf w h l := by
  have hs : 2 ^ l = 2 ^ (hi + 1) * 2 ^ (l - (hi + 1)) := by rw [← pow_add]; congr 1; omega
  have hd : (putBits w hi lo n).toNat / 2 ^ (hi + 1) = w.toNat / 2 ^ (hi + 1) := by
    have hp : 2 ^ (hi + 1) = 2 ^ (hi + 1 - lo) * 2 ^ lo := by rw [← pow_add]; congr 1; omega
    have ha : 0 < 2 ^ lo := by positivity
    have hlt : n % 2 ^ (hi + 1 - lo) * 2 ^ lo + w.toNat % 2 ^ lo < 2 ^ (hi + 1) := by
      have h1 := Nat.mod_lt w.toNat ha
      have h2 := Nat.mul_le_mul_right (2 ^ lo) (Nat.mod_lt n (show 0 < 2 ^ (hi + 1 - lo) by positivity))
      rw [← hp, Nat.succ_mul] at h2
      omega
    rw [putBits_toNat w hlo hhi, Nat.add_assoc, Nat.add_comm, Nat.add_mul_div_right _ _ (by positivity),
      Nat.div_eq_of_lt hlt, Nat.zero_add]
  unfold bitsOf
  rw [hs, ← Nat.div_div_eq_div_mul, ← Nat.div_div_eq_div_mul, hd]

/-! ### Register words -/

/-- A stored register word is read back; every other word reads as before (R38). -/
theorem State.reg_setReg {s : State} (h : Tab.wf (resetWord s.variant) s.regs = true) (a : Nat) (v : W32) (b : Nat) :
    (s.setReg a v).reg b = if b = a then v else s.reg b := by
  by_cases hb : b = a
  · subst hb
    have := tget_tset (d := resetWord s.variant b) (Tab.wf_keys h) b v b
    simpa [State.reg, State.setReg] using this
  · rw [if_neg hb]
    exact tget_tset_ne (Tab.wf_keys h) hb v

theorem State.regs_wf_setReg {s : State} (h : Tab.wf (resetWord s.variant) s.regs = true) (a : Nat) (v : W32) :
    Tab.wf (resetWord (s.setReg a v).variant) (s.setReg a v).regs = true :=
  Tab.wf_tset h a v

theorem State.regs_wf_setFld {s : State} (h : Tab.wf (resetWord s.variant) s.regs = true) (a hi lo n : Nat) :
    Tab.wf (resetWord (s.setFld a hi lo n).variant) (s.setFld a hi lo n).regs = true :=
  State.regs_wf_setReg h ..

theorem State.regs_wf_setReg2 {s : State} (h : Tab.wf (resetWord s.variant) s.regs = true) (a n : Nat) :
    Tab.wf (resetWord (s.setReg2 a n).variant) (s.setReg2 a n).regs = true :=
  State.regs_wf_setReg (State.regs_wf_setReg h ..) ..

/-- A stored field changes its own word only. -/
theorem State.reg_setFld {s : State} (h : Tab.wf (resetWord s.variant) s.regs = true) (a hi lo n b : Nat) :
    (s.setFld a hi lo n).reg b = if b = a then putBits (s.reg a) hi lo n else s.reg b :=
  State.reg_setReg h ..

theorem State.reg_setFlag {s : State} (h : Tab.wf (resetWord s.variant) s.regs = true) (a i : Nat) (v : Bool) (b : Nat) :
    (s.setFlag a i v).reg b = if b = a then putBits (s.reg a) i i (b2n v) else s.reg b :=
  State.reg_setReg h ..

/-- A stored two-word value changes its own two words only (R49). -/
theorem State.reg_setReg2 {s : State} (h : Tab.wf (resetWord s.variant) s.regs = true) (a n b : Nat) :
    (s.setReg2 a n).reg b =
      if b = a + 4 then BitVec.ofNat 32 (n / 2 ^ 32) else if b = a then BitVec.ofNat 32 n else s.reg b := by
  unfold State.setReg2
  rw [State.reg_setReg (State.regs_wf_setReg h ..), State.reg_setReg h]

/-! ### Threads and units -/

theorem State.thr_setThr {s : State} (h : Tab.wf (fun _ => Thread.init) s.threads = true) (t : ThreadRef) (th : Thread)
    (u : ThreadRef) : (s.setThr t th).thr u = if tkey u = tkey t then th else s.thr u :=
  tget_tset (Tab.wf_keys h) ..

theorem State.ctx_setCtx {s : State} (h : Tab.wf (fun _ => Ctx.init) s.ctxs = true) (n : Nat) (c : Ctx) (k : Nat) :
    (s.setCtx n c).ctx k = if k = n then c else s.ctx k :=
  tget_tset (Tab.wf_keys h) ..

theorem State.chan_setChan {s : State} (h : Tab.wf (fun _ => Chan.init) s.chans = true) (n : Nat) (c : Chan) (k : Nat) :
    (s.setChan n c).chan k = if k = n then c else s.chan k :=
  tget_tset (Tab.wf_keys h) ..

theorem State.sp_setSp {s : State} (h : Tab.wf (fun _ => SPort.init) s.sports = true) (n : Nat) (p : SPort) (k : Nat) :
    (s.setSp n p).sp k = if k = n then p else s.sp k :=
  tget_tset (Tab.wf_keys h) ..

theorem State.clasp_setClasp {s : State} (h : Tab.wf (fun _ => Clasp.init) s.clasps = true) (n : Nat) (c : Clasp) (k : Nat) :
    (s.setClasp n c).clasp k = if k = n then c else s.clasp k :=
  tget_tset (Tab.wf_keys h) ..

theorem State.threads_wf_setThr {s : State} (h : Tab.wf (fun _ => Thread.init) s.threads = true) (t : ThreadRef)
    (th : Thread) : Tab.wf (fun _ => Thread.init) (s.setThr t th).threads = true :=
  Tab.wf_tset h ..

theorem State.ctxs_wf_setCtx {s : State} (h : Tab.wf (fun _ => Ctx.init) s.ctxs = true) (n : Nat) (c : Ctx) :
    Tab.wf (fun _ => Ctx.init) (s.setCtx n c).ctxs = true :=
  Tab.wf_tset h ..

theorem State.chans_wf_setChan {s : State} (h : Tab.wf (fun _ => Chan.init) s.chans = true) (n : Nat) (c : Chan) :
    Tab.wf (fun _ => Chan.init) (s.setChan n c).chans = true :=
  Tab.wf_tset h ..

theorem State.sports_wf_setSp {s : State} (h : Tab.wf (fun _ => SPort.init) s.sports = true) (n : Nat) (p : SPort) :
    Tab.wf (fun _ => SPort.init) (s.setSp n p).sports = true :=
  Tab.wf_tset h ..

theorem State.clasps_wf_setClasp {s : State} (h : Tab.wf (fun _ => Clasp.init) s.clasps = true) (n : Nat) (c : Clasp) :
    Tab.wf (fun _ => Clasp.init) (s.setClasp n c).clasps = true :=
  Tab.wf_tset h ..

/-- One more pulse stays in canonical form, and leaves every other line's count. -/
theorem State.evtPend_wf_evtQueue {s : State} (h : Tab.wf (fun _ => 0) s.evtPend = true) (l : Nat) :
    Tab.wf (fun _ => 0) (s.evtQueue l).evtPend = true :=
  Tab.wf_tset h ..

end Sys2Proof.Machine
end

