-- ==== Sys2Proof/Laws/PerInstr.lean ====
section
/-! SUPPORT. The family of statements over every command, one lemma per constructor: a command of the smallest
configuration is a command of the larger ones (R1, R7). -/

namespace Sys2Proof.Laws

/-- A condition that holds in the smallest configuration holds in the larger ones. -/
def Grows (p : Variant → Bool) : Prop := p .ovm0840 = true → p .ovm1640 = true ∧ p .ovm2440 = true

theorem growsConst (b : Bool) : Grows fun _ => b := fun h => ⟨h, h⟩

theorem Grows.and {p q : Variant → Bool} (hp : Grows p) (hq : Grows q) : Grows fun v => p v && q v := by
  intro h
  simp only [Bool.and_eq_true] at h ⊢
  exact ⟨⟨(hp h.1).1, (hq h.2).1⟩, (hp h.1).2, (hq h.2).2⟩

theorem growsDecide {p : Variant → Prop} [∀ v, Decidable (p v)] (h1 : p .ovm0840 → p .ovm1640)
    (h2 : p .ovm0840 → p .ovm2440) : Grows fun v => decide (p v) :=
  fun h => ⟨decide_eq_true (h1 (of_decide_eq_true h)), decide_eq_true (h2 (of_decide_eq_true h))⟩

theorem growsScs (n : Nat) : Grows fun v => decide (n < v.scs) :=
  growsDecide (fun h => Nat.lt_of_lt_of_le h (by decide)) fun h => Nat.lt_of_lt_of_le h (by decide)

theorem growsClusters (n : Nat) : Grows fun v => decide (n < v.clusters) :=
  growsDecide (fun h => Nat.lt_of_lt_of_le h (by decide)) fun h => Nat.lt_of_lt_of_le h (by decide)

theorem growsStops (n : Nat) : Grows fun v => decide (n < v.stops) :=
  growsDecide (fun h => Nat.lt_of_lt_of_le h (by decide)) fun h => Nat.lt_of_lt_of_le h (by decide)

theorem growsPorts (n : Nat) : Grows fun v => decide (n < v.ports) :=
  growsDecide (fun h => Nat.lt_of_lt_of_le h (by decide)) fun h => Nat.lt_of_lt_of_le h (by decide)

theorem growsSlots (n : Nat) : Grows fun v => decide (n < v.slots) :=
  growsDecide (fun h => Nat.lt_of_lt_of_le h (by decide)) fun h => Nat.lt_of_lt_of_le h (by decide)

theorem growsContexts (n : Nat) : Grows fun v => decide (n < v.contexts) :=
  growsDecide (fun h => Nat.lt_of_lt_of_le h (by decide)) fun h => Nat.lt_of_lt_of_le h (by decide)

theorem growsThread (t : ThreadRef) : Grows t.present := by
  obtain ⟨k, u, i⟩ := t
  cases k <;>
    exact growsDecide (fun h => ⟨Nat.lt_of_lt_of_le h.1 (by decide), h.2⟩) fun h => ⟨Nat.lt_of_lt_of_le h.1 (by decide), h.2⟩

theorem growsUnit (u : UnitRef) : Grows u.present := by
  cases u <;> first | exact growsConst true | exact growsScs _ | exact growsClusters _

theorem growsFault (b : FaultRef) : Grows b.present := by
  cases b <;> first | exact growsConst true | exact growsScs _ | exact growsClusters _ | exact growsStops _

theorem growsBank (b : BankRef) : Grows b.present := by
  cases b <;> first | exact growsScs _ | exact growsClusters _

theorem growsFunc (f : Func) : Grows f.present := by
  cases f <;> first | exact growsConst true | exact growsStops _ | exact growsClusters _

theorem growsCmdSrc (c : CmdSrc) : Grows c.wf := by
  cases c <;> first | exact growsContexts _ | exact growsPorts _

theorem growsAppendSrc (c : AppendSrc) : Grows c.wf := by
  cases c <;> first | exact growsContexts _ | exact growsPorts _

/-- A well-formed command of OVM-0840 is one of OVM-1640 and of OVM-2440. -/
def Wf.Statement (i : Instr) : Prop := Grows i.wf

theorem Wf.regWrite (p : Port) (a : Access) (v : W32) : Wf.Statement (.regWrite p a v) := growsConst _
theorem Wf.readClear (p : Port) (a : Access) : Wf.Statement (.readClear p a) := growsConst _
theorem Wf.lowWordRead (p : Port) (off : BitVec 24) : Wf.Statement (.lowWordRead p off) := growsConst _
theorem Wf.lowWordWrite (p : Port) (off : BitVec 24) (v : W32) : Wf.Statement (.lowWordWrite p off v) := growsConst _
theorem Wf.highWordWrite (p : Port) (off : BitVec 24) (v : W32) : Wf.Statement (.highWordWrite p off v) := growsConst _
theorem Wf.aliasWrite (p : Port) (off : BitVec 24) (v : W32) : Wf.Statement (.aliasWrite p off v) := growsConst _
theorem Wf.unitEnable (p : Port) (u : UnitRef) (v : W32) : Wf.Statement (.unitEnable p u v) := growsUnit _
theorem Wf.unitDisable (p : Port) (u : UnitRef) (v : W32) : Wf.Statement (.unitDisable p u v) := growsUnit _
theorem Wf.quiesced (u : UnitRef) : Wf.Statement (.quiesced u) := growsUnit _
theorem Wf.add (t : ThreadRef) : Wf.Statement (.add t) := growsThread _
theorem Wf.sub (t : ThreadRef) : Wf.Statement (.sub t) := growsThread _
theorem Wf.mul (t : ThreadRef) : Wf.Statement (.mul t) := growsThread _
theorem Wf.and (t : ThreadRef) : Wf.Statement (.and t) := growsThread _
theorem Wf.or (t : ThreadRef) : Wf.Statement (.or t) := growsThread _
theorem Wf.xor (t : ThreadRef) : Wf.Statement (.xor t) := growsThread _
theorem Wf.shl (t : ThreadRef) : Wf.Statement (.shl t) := growsThread _
theorem Wf.shr (t : ThreadRef) : Wf.Statement (.shr t) := growsThread _
theorem Wf.sra (t : ThreadRef) : Wf.Statement (.sra t) := growsThread _
theorem Wf.min (t : ThreadRef) : Wf.Statement (.min t) := growsThread _
theorem Wf.max (t : ThreadRef) : Wf.Statement (.max t) := growsThread _
theorem Wf.cmp (t : ThreadRef) : Wf.Statement (.cmp t) := growsThread _
theorem Wf.sel (t : ThreadRef) : Wf.Statement (.sel t) := growsThread _
theorem Wf.addImm (t : ThreadRef) : Wf.Statement (.addImm t) := growsThread _
theorem Wf.andImm (t : ThreadRef) : Wf.Statement (.andImm t) := growsThread _
theorem Wf.orImm (t : ThreadRef) : Wf.Statement (.orImm t) := growsThread _
theorem Wf.xorImm (t : ThreadRef) : Wf.Statement (.xorImm t) := growsThread _
theorem Wf.shlImm (t : ThreadRef) : Wf.Statement (.shlImm t) := growsThread _
theorem Wf.shrImm (t : ThreadRef) : Wf.Statement (.shrImm t) := growsThread _
theorem Wf.sraImm (t : ThreadRef) : Wf.Statement (.sraImm t) := growsThread _
theorem Wf.li (t : ThreadRef) : Wf.Statement (.li t) := growsThread _
theorem Wf.lui (t : ThreadRef) : Wf.Statement (.lui t) := growsThread _
theorem Wf.lds (t : ThreadRef) : Wf.Statement (.lds t) := growsThread _
theorem Wf.sts (t : ThreadRef) : Wf.Statement (.sts t) := growsThread _
theorem Wf.br (t : ThreadRef) : Wf.Statement (.br t) := growsThread _
theorem Wf.brc (t : ThreadRef) : Wf.Statement (.brc t) := growsThread _
theorem Wf.call (t : ThreadRef) : Wf.Statement (.call t) := growsThread _
theorem Wf.ret (t : ThreadRef) : Wf.Statement (.ret t) := growsThread _
theorem Wf.ldl (t : ThreadRef) : Wf.Statement (.ldl t) := growsThread _
theorem Wf.stl (t : ThreadRef) : Wf.Statement (.stl t) := growsThread _
theorem Wf.pref (t : ThreadRef) : Wf.Statement (.pref t) := growsThread _
theorem Wf.blk2d (t : ThreadRef) : Wf.Statement (.blk2d t) := growsThread _
theorem Wf.gather (t : ThreadRef) : Wf.Statement (.gather t) := growsThread _
theorem Wf.scat (t : ThreadRef) : Wf.Statement (.scat t) := growsThread _
theorem Wf.pack (t : ThreadRef) : Wf.Statement (.pack t) := growsThread _
theorem Wf.unpk (t : ThreadRef) : Wf.Statement (.unpk t) := growsThread _
theorem Wf.fenceL (t : ThreadRef) : Wf.Statement (.fenceL t) := growsThread _
theorem Wf.fenceP (t : ThreadRef) : Wf.Statement (.fenceP t) := growsThread _
theorem Wf.fenceG (t : ThreadRef) : Wf.Statement (.fenceG t) := growsThread _
theorem Wf.fenceRetire (t : ThreadRef) : Wf.Statement (.fenceRetire t) := growsThread _
theorem Wf.clspAcq (t : ThreadRef) : Wf.Statement (.clspAcq t) := growsThread _
theorem Wf.clspAcqTry (t : ThreadRef) : Wf.Statement (.clspAcqTry t) := growsThread _
theorem Wf.clspRel (t : ThreadRef) : Wf.Statement (.clspRel t) := growsThread _
theorem Wf.clspRelR (t : ThreadRef) : Wf.Statement (.clspRelR t) := growsThread _
theorem Wf.waitev (t : ThreadRef) : Wf.Statement (.waitev t) := growsThread _
theorem Wf.waitevTimeout (t : ThreadRef) : Wf.Statement (.waitevTimeout t) := growsThread _
theorem Wf.evt (t : ThreadRef) : Wf.Statement (.evt t) := growsThread _
theorem Wf.nextd (t : ThreadRef) : Wf.Statement (.nextd t) := growsThread _
theorem Wf.yieldCtx (t : ThreadRef) : Wf.Statement (.yieldCtx t) := growsThread _
theorem Wf.yieldRetire (t : ThreadRef) : Wf.Statement (.yieldRetire t) := growsThread _
theorem Wf.doneRun (t : ThreadRef) : Wf.Statement (.doneRun t) := growsThread _
theorem Wf.doneRetire (t : ThreadRef) : Wf.Statement (.doneRetire t) := growsThread _
theorem Wf.trap (t : ThreadRef) : Wf.Statement (.trap t) := growsThread _
theorem Wf.hmchk (t : ThreadRef) : Wf.Statement (.hmchk t) := growsThread _
theorem Wf.graftpt (t : ThreadRef) : Wf.Statement (.graftpt t) := growsThread _
theorem Wf.dcmd (t : ThreadRef) : Wf.Statement (.dcmd t) := growsThread _
theorem Wf.mrw (t : ThreadRef) : Wf.Statement (.mrw t) := growsThread _
theorem Wf.mrr (t : ThreadRef) : Wf.Statement (.mrr t) := growsThread _
theorem Wf.twait (t : ThreadRef) : Wf.Statement (.twait t) := growsThread _
theorem Wf.twaitEnd (t : ThreadRef) : Wf.Statement (.twaitEnd t) := growsThread _
theorem Wf.trnSet (t : ThreadRef) : Wf.Statement (.trnSet t) := growsThread _
theorem Wf.trnSweep (t : ThreadRef) : Wf.Statement (.trnSweep t) := growsThread _
theorem Wf.trnEye (t : ThreadRef) : Wf.Statement (.trnEye t) := growsThread _
theorem Wf.sweepStep (sc : Nat) (samples : List (Nat × Nat)) : Wf.Statement (.sweepStep sc samples) := (growsScs _).and (growsConst _)
theorem Wf.maintenanceGrant (sc : Nat) (mr : BitVec 80) : Wf.Statement (.maintenanceGrant sc mr) := growsScs _
theorem Wf.lineDataArrival (t : ThreadRef) (k : Nat) : Wf.Statement (.lineDataArrival t k) := growsThread _
theorem Wf.pipeJobDone (cl : Nat) (k : Nat) : Wf.Statement (.pipeJobDone cl k) := growsClusters _
theorem Wf.clrFault (p : Port) (cl : Nat) : Wf.Statement (.clrFault p cl) := growsClusters _
theorem Wf.engFclr (p : Port) (b : BankRef) (v : W32) : Wf.Statement (.engFclr p b v) := growsBank _
theorem Wf.instrStoreWrite (p : Port) (cl : Nat) (bank : Nat) (idx : Nat) (v : W32) : Wf.Statement (.instrStoreWrite p cl bank idx v) := ((growsClusters _).and (growsConst _)).and (growsConst _)
theorem Wf.progData (p : Port) (b : BankRef) (w : Option W32) : Wf.Statement (.progData p b w) := growsBank _
theorem Wf.loadArm (p : Port) (b : BankRef) (v : W32) : Wf.Statement (.loadArm p b v) := growsBank _
theorem Wf.loadCheckEnd (b : BankRef) : Wf.Statement (.loadCheckEnd b) := growsBank _
theorem Wf.graftGo (p : Port) (b : BankRef) (v : W32) : Wf.Statement (.graftGo p b v) := growsBank _
theorem Wf.abandon (p : Port) (b : BankRef) (v : W32) : Wf.Statement (.abandon p b v) := growsBank _
theorem Wf.graftDone (b : BankRef) : Wf.Statement (.graftDone b) := growsBank _
theorem Wf.evfSet (p : Port) (cl : Nat) (hi : Bool) (v : W32) : Wf.Statement (.evfSet p cl hi v) := growsClusters _
theorem Wf.enable (p : Port) (ctx : Nat) : Wf.Statement (.enable p ctx) := growsContexts _
theorem Wf.disable (p : Port) (ctx : Nat) : Wf.Statement (.disable p ctx) := growsContexts _
theorem Wf.kick (src : CmdSrc) : Wf.Statement (.kick src) := growsCmdSrc _
theorem Wf.abort (src : CmdSrc) : Wf.Statement (.abort src) := growsCmdSrc _
theorem Wf.clear (src : CmdSrc) : Wf.Statement (.clear src) := growsCmdSrc _
theorem Wf.append (src : AppendSrc) : Wf.Statement (.append src) := growsAppendSrc _
theorem Wf.setHead (sp : Nat) (req : BitVec 128) : Wf.Statement (.setHead sp req) := growsPorts _
theorem Wf.dispatch (cl : Nat) (t : ThreadRef) : Wf.Statement (.dispatch cl t) := (growsClusters _).and (growsThread _)
theorem Wf.descriptorReadResponse (ctx : Nat) : Wf.Statement (.descriptorReadResponse ctx) := growsContexts _
theorem Wf.runReport (ctx : Nat) : Wf.Statement (.runReport ctx) := growsContexts _
theorem Wf.completionRecord (ctx : Nat) : Wf.Statement (.completionRecord ctx) := growsContexts _
theorem Wf.fastCommandPacket (sp : Nat) (req : BitVec 128) : Wf.Statement (.fastCommandPacket sp req) := growsPorts _
theorem Wf.packetEnd (ctx : Nat) : Wf.Statement (.packetEnd ctx) := growsContexts _
theorem Wf.channelTimeout (sc : Nat) (k : Nat) : Wf.Statement (.channelTimeout sc k) := growsScs _
theorem Wf.inval (p : Port) (v : W32) : Wf.Statement (.inval p v) := growsConst _
theorem Wf.invalEnd : Wf.Statement (.invalEnd) := growsConst _
theorem Wf.cntClr (p : Port) (v : W32) : Wf.Statement (.cntClr p v) := growsConst _
theorem Wf.read (sp : Nat) (req : BitVec 128) : Wf.Statement (.read sp req) := growsPorts _
theorem Wf.write (sp : Nat) (req : BitVec 128) : Wf.Statement (.write sp req) := growsPorts _
theorem Wf.writeDataBeat (sp : Nat) (beat : Beat) : Wf.Statement (.writeDataBeat sp beat) := growsPorts _
theorem Wf.flush (sp : Nat) (req : BitVec 128) : Wf.Statement (.flush sp req) := growsPorts _
theorem Wf.flushComplete (sp : Nat) (k : Nat) : Wf.Statement (.flushComplete sp k) := growsPorts _
theorem Wf.portArbiterAdmit : Wf.Statement (.portArbiterAdmit) := growsConst _
theorem Wf.transactionEnd (ln : Nat) : Wf.Statement (.transactionEnd ln) := growsConst _
theorem Wf.queueEntry (ln : Nat) : Wf.Statement (.queueEntry ln) := growsConst _
theorem Wf.arbiterGrant (sc : Nat) : Wf.Statement (.arbiterGrant sc) := growsScs _
theorem Wf.lineBoundary (sc : Nat) (k : Nat) : Wf.Statement (.lineBoundary sc k) := growsScs _
theorem Wf.hog (sc : Nat) : Wf.Statement (.hog sc) := growsScs _
theorem Wf.dramReadData (sc : Nat) (k : Nat) (burst : BitVec 640) : Wf.Statement (.dramReadData sc k burst) := growsScs _
theorem Wf.pageIdle (sc : Nat) (bank : Nat) : Wf.Statement (.pageIdle sc bank) := (growsScs _).and (growsConst _)
theorem Wf.powerDownEntry (sc : Nat) (rank : Nat) : Wf.Statement (.powerDownEntry sc rank) := (growsScs _).and (growsConst _)
theorem Wf.refreshInterval (sc : Nat) (rank : Nat) : Wf.Statement (.refreshInterval sc rank) := (growsScs _).and (growsConst _)
theorem Wf.idlePullIn (sc : Nat) (rank : Nat) : Wf.Statement (.idlePullIn sc rank) := (growsScs _).and (growsConst _)
theorem Wf.migGo (p : Port) (v : W32) : Wf.Statement (.migGo p v) := growsConst _
theorem Wf.pause (p : Port) (v : W32) : Wf.Statement (.pause p v) := growsConst _
theorem Wf.migResume (p : Port) (v : W32) : Wf.Statement (.migResume p v) := growsConst _
theorem Wf.migrationStep : Wf.Statement (.migrationStep) := growsConst _
theorem Wf.watermarkAdvance : Wf.Statement (.watermarkAdvance) := growsConst _
theorem Wf.windowStart (ch : Nat) : Wf.Statement (.windowStart ch) := growsConst _
theorem Wf.recomputeEnd : Wf.Statement (.recomputeEnd) := growsConst _
theorem Wf.trEnable (p : Port) (v : W32) : Wf.Statement (.trEnable p v) := growsConst _
theorem Wf.trDisable (p : Port) (v : W32) : Wf.Statement (.trDisable p v) := growsConst _
theorem Wf.trArm (p : Port) (v : W32) : Wf.Statement (.trArm p v) := growsConst _
theorem Wf.disarm (p : Port) (v : W32) : Wf.Statement (.disarm p v) := growsConst _
theorem Wf.slotBoundary : Wf.Statement (.slotBoundary) := growsConst _
theorem Wf.sample : Wf.Statement (.sample) := growsConst _
theorem Wf.rdS (r : RingIn) : Wf.Statement (.rdS r) := growsStops _
theorem Wf.rdU (r : RingIn) : Wf.Statement (.rdU r) := growsStops _
theorem Wf.upg (r : RingIn) : Wf.Statement (.upg r) := growsStops _
theorem Wf.rdNc (r : RingIn) : Wf.Statement (.rdNc r) := growsStops _
theorem Wf.wrBack (r : RingIn) : Wf.Statement (.wrBack r) := growsStops _
theorem Wf.evictClean (r : RingIn) : Wf.Statement (.evictClean r) := growsStops _
theorem Wf.wrFull (r : RingIn) : Wf.Statement (.wrFull r) := growsStops _
theorem Wf.wrStash (r : RingIn) : Wf.Statement (.wrStash r) := growsStops _
theorem Wf.atom (r : RingIn) : Wf.Statement (.atom r) := growsStops _
theorem Wf.clspAcqMsg (r : RingIn) : Wf.Statement (.clspAcqMsg r) := growsStops _
theorem Wf.clspRelMsg (r : RingIn) : Wf.Statement (.clspRelMsg r) := growsStops _
theorem Wf.agentReset (r : RingIn) : Wf.Statement (.agentReset r) := growsStops _
theorem Wf.cmpAck (r : RingIn) : Wf.Statement (.cmpAck r) := growsStops _
theorem Wf.datFwd (r : RingIn) : Wf.Statement (.datFwd r) := growsStops _
theorem Wf.datWb (r : RingIn) : Wf.Statement (.datWb r) := growsStops _
theorem Wf.rspStash (r : RingIn) : Wf.Statement (.rspStash r) := growsStops _
theorem Wf.agentResetWalkEnd : Wf.Statement (.agentResetWalkEnd) := growsConst _
theorem Wf.snoopReturn (ln : Nat) (bits : BitVec 3) : Wf.Statement (.snoopReturn ln bits) := growsConst _
theorem Wf.snoopTimeout (ln : Nat) : Wf.Statement (.snoopTimeout ln) := growsConst _
theorem Wf.holdEnd (ln : Nat) : Wf.Statement (.holdEnd ln) := growsConst _
theorem Wf.predClr (p : Port) (v : W32) : Wf.Statement (.predClr p v) := growsConst _
theorem Wf.attachReady (rs : Nat) : Wf.Statement (.attachReady rs) := growsStops _
theorem Wf.ringRstN (rs : Nat) (level : Bool) : Wf.Statement (.ringRstN rs level) := growsStops _
theorem Wf.claspBreak (p : Port) (clasp : Nat) (v : W32) : Wf.Statement (.claspBreak p clasp v) := growsConst _
theorem Wf.holdTo (clasp : Nat) : Wf.Statement (.holdTo clasp) := growsConst _
theorem Wf.trim (p : Port) (plot : BitVec 21) : Wf.Statement (.trim p plot) := growsConst _
theorem Wf.seed (p : Port) (plot : BitVec 21) : Wf.Statement (.seed p plot) := growsConst _
theorem Wf.seedFillWrite : Wf.Statement (.seedFillWrite) := growsConst _
theorem Wf.fpAdvance (slot : Nat) : Wf.Statement (.fpAdvance slot) := growsConst _
theorem Wf.scrubSlot : Wf.Statement (.scrubSlot) := growsConst _
theorem Wf.commit (t : ThreadRef) : Wf.Statement (.commit t) := growsThread _
theorem Wf.restore (t : ThreadRef) : Wf.Statement (.restore t) := growsThread _
theorem Wf.report (t : ThreadRef) : Wf.Statement (.report t) := growsThread _
theorem Wf.ready (t : ThreadRef) : Wf.Statement (.ready t) := growsThread _
theorem Wf.readyWithdraw (t : ThreadRef) : Wf.Statement (.readyWithdraw t) := growsThread _
theorem Wf.spare (t : ThreadRef) : Wf.Statement (.spare t) := growsThread _
theorem Wf.knobClear (t : ThreadRef) : Wf.Statement (.knobClear t) := growsThread _
theorem Wf.spareCopyLine (sc : Nat) : Wf.Statement (.spareCopyLine sc) := growsScs _
theorem Wf.cleared (sc : Nat) : Wf.Statement (.cleared sc) := growsScs _
theorem Wf.alert (sc : Nat) : Wf.Statement (.alert sc) := growsScs _
theorem Wf.alertReplay (sc : Nat) : Wf.Statement (.alertReplay sc) := growsScs _
theorem Wf.hostCalibration (g : Nat) (code : Option Nat) : Wf.Statement (.hostCalibration g code) := (growsScs _).and (growsConst _)
theorem Wf.sbGo (p : Port) (slot : Nat) (v : W32) : Wf.Statement (.sbGo p slot v) := growsSlots _
theorem Wf.sidebandDone (slot : Nat) (r : SbResult) : Wf.Statement (.sidebandDone slot r) := growsSlots _
theorem Wf.ibi (slot : Nat) (addr : BitVec 7) (mdb : BitVec 8) : Wf.Statement (.ibi slot addr mdb) := growsSlots _
theorem Wf.hold (p : Port) (g : Nat) (v : W32) : Wf.Statement (.hold p g v) := growsScs _
theorem Wf.release (p : Port) (g : Nat) (v : W32) : Wf.Statement (.release p g v) := growsScs _
theorem Wf.presentSample (slot : Nat) (level : Bool) : Wf.Statement (.presentSample slot level) := growsSlots _
theorem Wf.spRstNFall (sp : Nat) : Wf.Statement (.spRstNFall sp) := growsPorts _
theorem Wf.spRstNRise (sp : Nat) : Wf.Statement (.spRstNRise sp) := growsPorts _
theorem Wf.spReady (sp : Nat) : Wf.Statement (.spReady sp) := growsPorts _
theorem Wf.hscRead (f : Frame) : Wf.Statement (.hscRead f) := growsConst _
theorem Wf.hscWrite (f : Frame) : Wf.Statement (.hscWrite f) := growsConst _
theorem Wf.hscWake (f : Frame) : Wf.Statement (.hscWake f) := growsConst _
theorem Wf.evtOutPulse (line : Nat) : Wf.Statement (.evtOutPulse line) := growsConst _
theorem Wf.keyLoadBeat (kop : BitVec 2) (slot : BitVec 6) (beat : BitVec 3) (data : W64) : Wf.Statement (.keyLoadBeat kop slot beat data) := growsConst _
theorem Wf.keyErase (slot : BitVec 6) : Wf.Statement (.keyErase slot) := growsConst _
theorem Wf.elapsed (v : W32) : Wf.Statement (.elapsed v) := growsConst _
theorem Wf.elapsedTimeout : Wf.Statement (.elapsedTimeout) := growsConst _
theorem Wf.tprio (n : Nat) (v : BitVec 4) : Wf.Statement (.tprio n v) := growsConst _
theorem Wf.tsleep (n : Nat) (level : Bool) : Wf.Statement (.tsleep n level) := growsConst _
theorem Wf.relock (p : Port) (v : W32) : Wf.Statement (.relock p v) := growsConst _
theorem Wf.pllLock : Wf.Statement (.pllLock) := growsConst _
theorem Wf.unlock : Wf.Statement (.unlock) := growsConst _
theorem Wf.refclkLost : Wf.Statement (.refclkLost) := growsConst _
theorem Wf.aonRstN : Wf.Statement (.aonRstN) := growsConst _
theorem Wf.blkRstN : Wf.Statement (.blkRstN) := growsConst _
theorem Wf.blkRstNRelease (lc : BitVec 2) : Wf.Statement (.blkRstNRelease lc) := growsConst _
theorem Wf.initDone (f : Func) : Wf.Statement (.initDone f) := growsFunc _
theorem Wf.bringupHold (ln : Nat) : Wf.Statement (.bringupHold ln) := growsConst _
theorem Wf.fltAck (p : Port) (b : FaultRef) (v : W32) : Wf.Statement (.fltAck p b v) := growsFault _
theorem Wf.fltForce (p : Port) (b : FaultRef) (v : W32) : Wf.Statement (.fltForce p b v) := growsFault _
theorem Wf.histClr (p : Port) (b : FaultRef) (v : W32) : Wf.Statement (.histClr p b v) := growsFault _
theorem Wf.fltHistE0 (p : Port) (b : FaultRef) : Wf.Statement (.fltHistE0 p b) := growsFault _
theorem Wf.quietPeriod (b : FaultRef) : Wf.Statement (.quietPeriod b) := growsFault _
theorem Wf.aliveToggle : Wf.Statement (.aliveToggle) := growsConst _
theorem Wf.aliveKick (p : Port) (v : W32) : Wf.Statement (.aliveKick p v) := growsConst _
theorem Wf.watchdogExpiry : Wf.Statement (.watchdogExpiry) := growsConst _
theorem Wf.pulseEnd : Wf.Statement (.pulseEnd) := growsConst _
theorem Wf.aliveMode (p : Port) (v : W32) : Wf.Statement (.aliveMode p v) := growsConst _
theorem Wf.pwrGo (p : Port) (v : W32) : Wf.Statement (.pwrGo p v) := growsConst _
theorem Wf.pcReq (r : BitVec 3) : Wf.Statement (.pcReq r) := growsConst _
theorem Wf.pcReqWake : Wf.Statement (.pcReqWake) := growsConst _
theorem Wf.pcWake : Wf.Statement (.pcWake) := growsConst _
theorem Wf.entryStepEnd : Wf.Statement (.entryStepEnd) := growsConst _
theorem Wf.pwrTmo (unit : Nat) (index : Nat) : Wf.Statement (.pwrTmo unit index) := growsConst _
theorem Wf.timerWake : Wf.Statement (.timerWake) := growsConst _
theorem Wf.railOk (rail : Rail) : Wf.Statement (.railOk rail) := growsConst _
theorem Wf.wakeStepEnd : Wf.Statement (.wakeStepEnd) := growsConst _
theorem Wf.dbgSet (p : Port) (v : W32) : Wf.Statement (.dbgSet p v) := growsConst _
theorem Wf.chal (p : Port) (v : W32) : Wf.Statement (.chal p v) := growsConst _
theorem Wf.submit (p : Port) (v : W32) : Wf.Statement (.submit p v) := growsConst _
theorem Wf.authGrant : Wf.Statement (.authGrant) := growsConst _
theorem Wf.authDeny : Wf.Statement (.authDeny) := growsConst _
theorem Wf.authTimeout : Wf.Statement (.authTimeout) := growsConst _
theorem Wf.dbgMctrlGo (v : W32) : Wf.Statement (.dbgMctrlGo v) := growsConst _
theorem Wf.debugAccessDone : Wf.Statement (.debugAccessDone) := growsConst _
theorem Wf.route : Wf.Statement (.route) := growsConst _
theorem Wf.take (p : Port) (n : Nat) : Wf.Statement (.take p n) := growsConst _
theorem Wf.ftake (p : Port) (n : Nat) : Wf.Statement (.ftake p n) := growsConst _
theorem Wf.moderatorTimeout (m : Nat) : Wf.Statement (.moderatorTimeout m) := growsConst _
theorem Wf.dramWriteComplete (sc : Nat) (k : Nat) : Wf.Statement (.dramWriteComplete sc k) := growsScs _
theorem Wf.rdCrd (sp : Nat) : Wf.Statement (.rdCrd sp) := growsPorts _
theorem Wf.refclkReturn : Wf.Statement (.refclkReturn) := growsConst _
theorem Wf.vddAonRemoved : Wf.Statement (.vddAonRemoved) := growsConst _
theorem Wf.trimWalkEnd : Wf.Statement (.trimWalkEnd) := growsConst _

end Sys2Proof.Laws
end

