-- ==== Sys2Proof/Tests/Slice0.lean ====
section
/-! SUPPORT. Tests: for every statement S with hypotheses, states and operands that meet them all (test_S_applies, or
test_S_<part>_applies for the parts of a statement over several groups of commands); ill-formed commands;
worked examples of the spec. -/

namespace Sys2Proof.Tests
open Sys2Proof Sys2Proof.Machine
set_option maxRecDepth 20000
set_option Elab.async false

/-! ### Instruction words (R81, R82) -/

/-- Formats A, I, M and B. -/
def wA (op d a b fn : Nat) : W32 := BitVec.ofNat 32 (op * 2 ^ 26 + d * 2 ^ 21 + a * 2 ^ 16 + b * 2 ^ 11 + fn)
def wI (op d a imm : Nat) : W32 := BitVec.ofNat 32 (op * 2 ^ 26 + d * 2 ^ 21 + a * 2 ^ 16 + imm)
def wM (op lb a cnt mode : Nat) : W32 := BitVec.ofNat 32 (op * 2 ^ 26 + lb * 2 ^ 22 + a * 2 ^ 17 + cnt * 2 ^ 11 + mode)

/-! ### States -/

/-- The block of the smallest configuration with its clocks running, every function initialised, home and PHY enabled. -/
def up : State :=
  (({ State.resetOf .ovm0840 with inited := [.cfg, .home, .locket, .intc, .stop 0, .cluster 0] }.setFlag clkStatus 0 true).setFlag
    (unitCtrl .home) 0 true).setFlag (unitCtrl .phy) 0 true

/-- The severity of a fault source is 0, so that its event is noted only. -/
def gentle (b : FaultRef) (src : Nat) (s : State) : State :=
  s.setFld (faultBase b + 0x10 + 4 * (src / 16)) (2 * (src % 16) + 1) (2 * (src % 16)) 0

/-- A stream thread, a sequencer thread and a service thread. -/
abbrev t0 : ThreadRef := ⟨.stream, 0, 0⟩
abbrev q0 : ThreadRef := ⟨.seq, 0, 0⟩
abbrev v0 : ThreadRef := ⟨.svc, 0, 0⟩

/-- A thread stands at a word, the first of an image of 16, with registers. -/
def standing (s : State) (t : ThreadRef) (w : W32) (g : Tab W64) : State :=
  (((((s.setInstr (bankOf t) 0 0 w).setBankSt (bankOf t) 0 2).setFld (bankBase (bankOf t) + 0xC) 29 16 16).setFlag
    (unitCtrl (engUnit t)) 0 true).setFld 0x28004 11 0 4095).setThr t { s.thr t with st := .run, g := g }

/-- A thread waits. -/
def waits (s : State) (t : ThreadRef) (w : Wait) : State :=
  (standing s t (wA 0 0 0 0 0) []).setThr t { (standing s t (wA 0 0 0 0 0) []).thr t with st := .wait, wait := w }

/-- A write of a thread before the port arbiter. -/
def busy (s : State) (t : ThreadRef) : State := { s with pool := [{ Req.mk0 (.thread t) .wr 5 with id := 1, run := s.runOf t }], nextId := 1 }

def sFence (n : Nat) : State := standing up v0 (wA 0x30 0 0 0 n) []
def sClasp (s : State) (fn : Nat) : State := standing s v0 (wA 0x31 (if fn < 2 then 3 else 0) 1 0 fn) [(1, 255)]
def clasp255 (st : ClaspSt) (o : Nat) (rep : Bool) : State := up.setClasp 255 { st := st, owner := o, repair := rep, limit := 0, since := 0 }

def sGather (op : Nat) : State :=
  { standing up t0 (wM op 15 1 2 0) [(1, 0x1000)] with scratch := [(scratchKey t0 0, 0x00010000)] }

/-- A thread serves context `n`. -/
def serving (s : State) (n : Nat) (link : W64) : State :=
  s.setThr t0 { s.thr t0 with ctx := some n, link := link }

/-- A map of one way over sub-channel 0, whose module is populated and ready. -/
def mapped : State :=
  let s := (((up.setReg genCur 0x80000000).setReg2 (genCur + 8) 0x10000000).setReg (scDecode 0) 1).setFlag (unitCtrl (.chan 0)) 0 true
  s.setChan 0 { Chan.init with ready := true }

def rdReq (n tid : Nat) : Req := { Req.mk0 (.port n) .rd 3 with id := 1, dest := .port tid }
def stamp0 : Stamp := { charm := 0, cls := 0, base := 0, target := 0, degraded := false, overBudget := false, entry := 0 }
/-- A transaction for line 3. -/
def trk0 (r : Req) (st : Stage) : Trk :=
  { num := 2, req := r, line := 3, stage := st, wr := false, data := 0, hm := 0, poison := false, snpBack := false, snpFwd := false,
    snpWb := false, wb := none, grant := 0, far := false, filt := .keep, claimed := false, victim := none, fillOk := false,
    gone := false, err := 0, snpTmo := false, stop := 0, placing := none, spot := none, stamp := stamp0, answered := false }
def withTrk (s : State) (t : Trk) : State := { s with trks := [t] }

/-- Port 3 is up and takes requests. -/
def ported : State := (mapped.setFlag (unitCtrl (.port 3)) 0 true).setSp 3 { SPort.init with link := true, ready := true, reqCr := 1, wdCr := 1, rdCr := 1 }

/-! ### request words, flits, frames -/
def rq (kind tid line ctx cmd gen : Nat) : BitVec 128 :=
  BitVec.ofNat 128 (kind + tid * 2 ^ 16 + line * 2 ^ 32 + ctx * 2 ^ 88 + cmd * 2 ^ 100 + gen * 2 ^ 104)
def flit (s : State) (code src txn line op st : Nat) (pl : Line) : RingIn :=
  { stop := 0, cw := true, flit := { hdr := ({ Hdr.plain code src (s.nodeId 0) txn line with op := op, state := st, pv := typePv code, hm := if typePv code then (hallmark pl).toNat else 0 } : Hdr).word, payload := pl } }
def fr0 (op off data : Nat) : Frame := { addr := Config.hscId, op := BitVec.ofNat 2 op, offset := BitVec.ofNat 22 off, data := BitVec.ofNat 32 data, crc := 0 }
def fr (op off data : Nat) : Frame := { fr0 op off data with crc := frameCrc (fr0 op off data) (BitVec.ofNat 32 data) }

/-! ### states -/
def banks (s : State) (b : BankRef) (s0 s1 : Nat) : State := (s.setBankSt b 0 s0).setBankSt b 1 s1
def ctx7 (st : Nat) : State := (up.setCtxState 7 st).setFlag (ctxBase 7 + 0xC) 4 true
def sDispatch : State :=
  ((((ctx7 2).setReady 0 [7]).setFlag (unitCtrl (.cluster 0)) 0 true).setFld 0x28004 11 0 4095).setBankSt (.cluster 0) 0 2
def arr (dest : Dest) (src : Src) (d : Line) : Arrival :=
  { dest := dest, src := src, line := 3, data := d, hm := hallmark d, poison := false, status := 0, tmo := false, stamp := stamp0 }
def sDesc (w : Wait) : State := { serving (waits up t0 w) 7 0 with arrivals := [arr (.desc 7) (.ctx 7) 0x40] }
def sNextd (fast : Bool) (link : W64) (q : List Packet) : State :=
  (serving (standing up t0 (wA 0x34 3 0 0 0) []) 7 link).setCtx 7 { Ctx.init with fast := fast, queue := q }
def pkt : Packet := { sp := 3, tag := 9, data := 5, dead := false }
def sRep (r : Nat) (o : Nat) : State := (ctx7 3).setCtx 7 { Ctx.init with outcome := some o, cause := 0x0E, rep := r }

def seeded : State := mapped.setFlag 0x7010 0 true
def sprouting (p : Sprout) : State := { mapped with sprouts := [(2, p)], plots := [(p.plot, true)], fillTurn := 2 }
def scrubbing (n total : Nat) : State := { (mapped.setFlag scrubCfg 0 true).setReg2 (genCur + 8) (64 * 8) with scrubLine := some n, scrubN := total }
def migrating : State :=
  let s := (({ mapped with plots := [(0, true)] }.setReg genNext 0x80000010).setReg2 (genNext + 8) 0x10000000).setReg (genNext + 0x20) 1
  let s := ((s.setReg (scDecode 1) 1).setFlag (unitCtrl (.chan 1)) 0 true).setChan 1 { Chan.init with ready := true }
  ((s.setFlag migStatus 0 true).setReg2 migEnd 0x10000000).setReg (genNext) 0x80000000
def trellis (en : Bool) : State := (((up.setFlag 0x3040 0 en).setFld 0x4400 31 16 0xABCD).setFld 0x4000 8 0 3).setFld 0x5000 8 0 2

def port3 (p : SPort) : State := ported.setSp 3 p
def cfgW : W32 := 0x10A007
def goodBeat (d : Line) : Beat := ⟨d, hallmark d, 1⟩
def pktBeat (c tag : Nat) : Beat := ⟨BitVec.ofNat 512 (c + tag * 2 ^ 24), 0, 0⟩
def fastCtx (st : Nat) (q : List Packet) : State :=
  ((((ported.setCtxState 7 st).setFlag (ctxBase 7 + 8) 31 true).setFld (ctxBase 7 + 0xC) 4 0 0x13).setCtx 7 { Ctx.init with fast := true, queue := q })
def permitCtx (st : Nat) : State := (ported.setCtxState 7 st).setFld (ctxBase 7 + 0xC) 4 0 0x13

/-- A frame record of one 16 by 16 unit in 4:2:0, 8 bits, compressed. -/
def framed (s : State) (comp : Bool) : State :=
  let b := (Win.frame 0).base
  ((s.setReg b (if comp then 0xE0000000 else 0xC0000000)).setReg (b + 4) 0x000F000F).setReg (b + 8) 8
def sVid (op mode cnt : Nat) (comp : Bool) : State :=
  framed (standing up t0 (wM op 0 1 cnt mode) []) comp
def job0 (k : JobKind) (s : State) (us : List Machine.PUnit) : Job :=
  { id := 5, cl := 0, t := t0, kind := k, frame := s.frameWords 0, lb := 0, cnt := 4, otag := 0, units := us, want := [], sent := 0, got := [],
    run := none, bad := false, tmo := false, err := 0 }
def unit2 (ph : Nat) : Machine.PUnit := { chroma := false, row := 0, col := 0, phase := ph, entry := 0, samples := [] }
def sPipe (k : JobKind) (us : List Machine.PUnit) (comp : Bool) : State :=
  let s := framed (waits up t0 (.pipe 5)) comp
  { s with jobs := [job0 k s us] }

def seq (op d a b fn : Nat) (g : Tab W64) : State := standing up q0 (wA op d a b fn) g
def maintOf (s : State) (c : MaintCmd) (granted : Bool) : State :=
  let s := s.setThr q0 { s.thr q0 with st := .wait, wait := .maint }
  s.setChan 0 { s.chan 0 with maint := [{ t := q0, cmd := c, granted := granted }], run := some ⟨3, 0, 0, 0, 0, false, stamp0, false, none, false⟩ }
def readySeq (s : State) : State := (s.setFlag (unitCtrl (.chan 0)) 0 true).setChan 0 { s.chan 0 with ready := true }

/-- A ring stop that is attached. -/
def ringed (s : State) : State := s.setRs 0 { attached := true, ident := some (s.nodeId 0), inReset := false, slice := [] }
def ent0 (o : QOwner) (wr issued : Bool) : QEnt := { QEnt.mk0 o wr 0 3 ((mapped.place 3).getD ⟨0,0,0,0,0,0,0⟩) stamp0 8 with issued := issued }
def queued (e : QEnt) (s : State) : State := s.updChan 0 fun c => { c with ents := [e] }
/-- A transaction whose line 3 goes to its sub-channel's queue. -/
def trkQ (wr : Bool) : Trk :=
  { trk0 { Req.mk0 (.port 3) (if wr then .wr else .rd) 3 with id := 1, dest := if wr then .none else .port 9 } .queue with
    wr := wr, spot := mapped.place 3 }
/-- Entry 0 of sub-channel 0 is the read of line 3. -/
def e0 : QEnt := ent0 (.trk 3) false false
def run0 : Run := ⟨0, 0, 0, 0, 0, false, stamp0, false, none, false⟩
/-- A run of the read queue with no line issued. -/
def runE : Run := { run0 with bank := e0.bank }
def running (es : List QEnt) : State :=
  mapped.updChan 0 fun c =>
    { c with run := some runE, ents := es }.setBank (bankKey 0 e0.bg e0.bank) { Bank.init with row := some 0 }
def urgentRank : Rank := { Rank.init with armed := true, owed := 8, urgent := true }
def armed : Rank := { Rank.init with armed := true }
def asleep (st : Nat) : State := up.setFld 0x1004 31 29 st
def entering (t step : Nat) : State := { up with pwr := .entry t step, byPc := true }

def place0 : Place := ⟨0, 0, 0, 0, 0, 0, 0⟩
/-- An attached stop over a mapped home; a line on the move, a line held exclusively by agent 9. -/
def rm : State := ringed mapped
def rmMove : State := { rm with moves := [⟨3, 1, 0, 0, false⟩] }
def rmEx : State := { rm.sfApply 3 (.ex 9) with plots := [(0, true)] }
def agReq : Req := { Req.mk0 (.agent 0 true 9) .rdU 3 with dest := .ring 11 }
def trkAck : Trk := { trk0 agReq .ack with grant := 4, filt := .ex 9, answered := true }
def rmAck : State := withTrk rm trkAck
def rmSnoop : State := withTrk rm { trk0 agReq (.snoop 0x22) with grant := 4 }
def rmStash : State := withTrk rm (trk0 { Req.mk0 (.agent 0 true 8) (.stash 9) 3 with dest := .ring 11 } .stash)
def spSnoop : State := withTrk ported (trk0 (rdReq 3 9) (.snoop 0x20))
def rmHold : State := withTrk rm (trk0 agReq (.hold 0x22))

/-- The register form: opcode, fn and word, each standing on operands of all ones and 65. -/
theorem test_RegisterInstructions_RegisterForm_applies :
    ∀ e ∈ [(0, 0, (0x00611000 : W32)), (1, 0, 0x04611000), (2, 0, 0x08611000), (3, 0, 0x0C611000), (4, 0, 0x10611000),
        (5, 0, 0x14611000), (6, 0, 0x18611000), (7, 0, 0x1C611000), (8, 0, 0x20611000), (9, 0, 0x24611000),
        (9, 1, 0x24611001), (10, 0, 0x28611000), (10, 1, 0x28611001), (12, 31, 0x3061101F)],
      let s : State := standing up v0 e.2.2 [(1, 0xFFFFFFFFFFFFFFFF), (2, 65), (31, 1)]
      s.Canonical ∧ s.Stands v0 e.2.2 ∧ opOf e.2.2 = e.1 ∧ fFn e.2.2 = e.2.1 ∧ fFn e.2.2 < 32 := by
  decide +kernel

theorem test_RegisterInstructions_CompareForm_applies :
    ∀ k ∈ [0, 1, 2, 3, 4, 5],
      let w : W32 := 0x2C611000 + BitVec.ofNat 32 k
      let s : State := standing up v0 w [(1, 5), (2, 5)]
      s.Canonical ∧ s.Stands v0 w ∧ opOf w = 11 ∧ fFn w = k := by
  decide +kernel

theorem test_ImmediateInstructions_ImmediateForm_applies :
    ∀ e ∈ [(16, (0x4061003F : W32)), (19, 0x4C61003F), (20, 0x5061003F), (21, 0x5461003F), (22, 0x5861003F), (23, 0x5C61003F),
        (24, 0x6061003F), (25, 0x64608000), (26, 0x6861003F)],
      let s : State := standing up v0 e.2 [(1, 0x8000000000000000)]
      s.Canonical ∧ s.Stands v0 e.2 ∧ opOf e.2 = e.1 ∧ (e.1 = 25 ∨ fImm e.2 < 64) ∧ (e.1 = 25 → fA e.2 = 0) := by
  decide +kernel

/-- What a BRC condition asks of its register (R91). -/
def condHolds (c : Nat) (x : W64) : Bool :=
  match c with
  | 0 => decide (x = 0)
  | 1 => decide (x ≠ 0)
  | 2 => decide (x.toInt < 0)
  | 3 => decide (0 ≤ x.toInt)
  | 4 => decide (0 < x.toInt)
  | 5 => decide (x.toInt ≤ 0)
  | 6 => bitOf x 0
  | _ => !bitOf x 0

theorem test_Branches_applies :
    (∀ e ∈ [(0x20, (0x8000000F : W32)), (0x22, 0x8800000F), (0x23, 0x8C010000)],
      let s : State := standing up v0 e.2 [(1, 15)]
      s.Canonical ∧ s.Stands v0 e.2 ∧ opOf e.2 = e.1 ∧ (e.1 ≠ 0x23 → bCond e.2 = 0 ∧ bA e.2 = 0 ∧ bOff e.2 = 15) ∧
        (e.1 = 0x23 → fD e.2 = 0 ∧ fB e.2 = 0 ∧ fFn e.2 = 0 ∧ (s.thr v0).getG (fA e.2) = 15) ∧
        (s.thr v0).pc + 15 < s.imageLen v0) ∧
    (∀ e ∈ [(0, (0 : W64)), (1, 1), (2, 0xFFFFFFFFFFFFFFFE), (3, 1), (4, 1), (5, 0xFFFFFFFFFFFFFFFE), (6, 1),
        (7, 0xFFFFFFFFFFFFFFFE)],
      let w : W32 := 0x84020001 + BitVec.ofNat 32 (e.1 * 2 ^ 22)
      let s : State := standing up v0 w (if e.2 = 0 then [] else [(1, e.2)])
      s.Canonical ∧ s.Stands v0 w ∧ opOf w = 0x21 ∧ bCond w = e.1 ∧ condHolds e.1 ((s.thr v0).getG (bA w)) = true ∧
        bOff w = 1 ∧ (s.thr v0).pc + 1 < s.imageLen v0) ∧
    (∀ e ∈ [(0, (1 : W64)), (1, 0), (2, 1), (3, 0xFFFFFFFFFFFFFFFE), (4, 0xFFFFFFFFFFFFFFFE), (5, 1), (6, 0xFFFFFFFFFFFFFFFE),
        (7, 1)],
      let w : W32 := 0x84020001 + BitVec.ofNat 32 (e.1 * 2 ^ 22)
      let s : State := standing up v0 w (if e.2 = 0 then [] else [(1, e.2)])
      s.Canonical ∧ s.Stands v0 w ∧ opOf w = 0x21 ∧ bCond w = e.1 ∧ condHolds e.1 ((s.thr v0).getG (bA w)) = false) := by
  refine ⟨?_, ?_, ?_⟩ <;> decide +kernel

theorem test_Fences_applies :
    (∀ k ∈ [0, 1, 2], ∀ b ∈ [true, false],
      let w : W32 := 0xC0000000 + BitVec.ofNat 32 k
      let s : State := if b then sFence k else busy (sFence k) v0
      s.Canonical ∧ s.Stands v0 w ∧ s.Fed v0 ∧ opOf w = 48 ∧ fD w = 0 ∧ fA w = 0 ∧ fB w = 0 ∧ fFn w = k ∧
        s.fenceHolds v0 k = b) ∧
    (let s : State := waits up v0 (.fence 1)
     s.Canonical ∧ s.Waits v0 (Wait.fence 1) ∧ s.Fed v0 ∧ s.fenceHolds v0 1 = true) := by
  refine ⟨?_, ?_⟩ <;> decide +kernel

/-! ### Statements whose witness is made by hand -/

theorem fr_mine (op off data : Nat) : frameMine (fr op off data) = true := by simp [frameMine, fr, fr0]

theorem fr_good (op off data : Nat) : frameGood (fr op off data) = true := by
  simp only [frameGood, beq_iff_eq]; rfl

theorem clamp_pos (n : Nat) : 1 ≤ clamp 1 16 n := by unfold clamp; omega

theorem test_GeneralRegisters_applies : Tab.wf (fun _ => (0 : W64)) [(1, 5), (31, 7)] = true := by decide

theorem test_EmptyQueueTicks_applies : State.reset.pending = [] := rfl

theorem test_StepKeepsCanonical_applies : up.Canonical ∧ ∃ s', step up = .next s' :=
  ⟨by decide +kernel, _, rfl⟩

/-- A register of two plain windows takes what is written to its fields. -/
theorem takesFields {s : State} {p : Port} {w : Win} {o off : Nat} (hw : w = .glob ∨ w = .power)
    (h1 : ¬((p = .cfg ∧ dbgOnly off = true) ∨ s.locked off = true))
    (h2 : ∀ f ∈ regFlds s.variant w o, f.cls = .st → s.stOpen w = true) : s.TakesFields p w o off := by
  intro f hf
  refine ⟨fun _ n => ?_, h2 f hf⟩
  rcases hw with rfl | rfl <;> simp [State.lvHold, h1]

theorem test_ServiceChain_applies :
    (let s : State := up
     let f : Frame := fr 3 0x40002 0
     frameMine f = true ∧ frameGood f = true ∧
     s.logicUp = true ∧ s.hscKept = none ∧ f.op = 3) ∧
    (let s : State := up
     let f : Frame := fr 0 0x40002 0
     let x : Site := (siteOf s.variant (framePlace f)).getD ⟨.glob, 0, 0, none⟩
     frameMine f = true ∧ frameGood f = true ∧
     s.logicUp = true ∧ s.hscKept = none ∧ siteOf s.variant (framePlace f) = some x ∧ s.PortOpen Port.dbg
        (framePlace f) ∧ f.op = 0) ∧
    (let s : State := up
     let f : Frame := fr 1 0x40002 0x55
     let x : Site := (siteOf s.variant (framePlace f)).getD ⟨.glob, 0, 0, none⟩
     frameMine f = true ∧ frameGood f = true ∧
     s.logicUp = true ∧ s.hscKept = none ∧ siteOf s.variant (framePlace f) = some x ∧ s.PortOpen Port.dbg
        (framePlace f) ∧ f.op = 1 ∧ undefAt s.variant (framePlace f) = false) ∧
    (let s : State := { (asleep 3).setFlag 0x1010 3 false with rails := [] }
     let f : Frame := fr 2 0 0
     frameMine f = true ∧ frameGood f = true ∧
     s.Canonical ∧ f.op = 2 ∧ s.logicUp = false ∧ s.vddAon = true ∧ s.pwr = PwrPhase.stable ∧ s.pstate = 3 ∧
        s.flag 4112 3 = false) ∧
    (let s : State := { (asleep 3).setFlag 0x1010 3 true with rails := [] }
     let f : Frame := fr 2 0 0
     frameMine f = true ∧ frameGood f = true ∧
     s.Canonical ∧ f.op = 2 ∧ s.logicUp = false ∧ s.vddAon = true ∧ s.pwr = PwrPhase.stable ∧ s.pstate = 3 ∧
        s.flag 4112 3 = true) ∧
    (let s : State := up
     let f : Frame := fr 0 0x40002 0
     frameMine f = true ∧ frameGood f = true ∧
     s.Canonical ∧ s.logicUp = true ∧ f.op = 0 ∧ s.hscKept = none ∧ s.PortOpen Port.dbg (ctxBase 0 + 8) ∧
        framePlace f = ctxBase 0 + 8) ∧
    (let s : State := up
     let f : Frame := fr 1 0x40002 0x55
     frameMine f = true ∧ frameGood f = true ∧
     s.Canonical ∧ s.logicUp = true ∧ f.op = 1 ∧ s.hscKept = none ∧ s.PortOpen Port.dbg (ctxBase 0 + 8) ∧
        framePlace f = ctxBase 0 + 8) ∧
    (let s : State := up.setFld 0x2000 29 28 0
     let f : Frame := fr 1 0x40002 0x55
     frameMine f = true ∧ frameGood f = true ∧
     s.Canonical ∧ s.logicUp = true ∧ f.op = 1 ∧ s.hscKept = none ∧ s.permits (HeldAcc.write Port.dbg
        (framePlace f) f.data) = false) ∧
    (let s : State := (asleep 1).setFlag 0x1010 3 true
     let f : Frame := fr 2 0 0
     frameMine f = true ∧ frameGood f = true ∧
     s.Canonical ∧ s.logicUp = true ∧ f.op = 2 ∧ s.hscKept = none ∧ s.vddAon = true ∧ s.flag 4112 3 = true ∧
        s.pwr = PwrPhase.stable ∧ (s.pstate = 1 ∨ s.pstate = 2)) := by
  refine ⟨⟨fr_mine .., fr_good .., ?_⟩, ⟨fr_mine .., fr_good .., ?_⟩, ⟨fr_mine .., fr_good .., ?_⟩, ⟨fr_mine .., fr_good .., ?_⟩, ⟨fr_mine .., fr_good .., ?_⟩, ⟨fr_mine .., fr_good .., ?_⟩, ⟨fr_mine .., fr_good .., ?_⟩, ⟨fr_mine .., fr_good .., ?_⟩, ⟨fr_mine .., fr_good .., ?_⟩⟩ <;>
    decide +kernel

theorem test_Dispatch_applies :
    (let s : State := sDispatch
     let cl : ℕ := 0
     let t : ThreadRef := t0
     let c : ℕ := 7
     let bank : ℕ := 0
     s.Canonical ∧ t.kind = EngKind.stream ∧ t.unit = cl ∧ threadPresent s.variant t = true ∧ s.engUp t = true
        ∧ s.clusterReady cl = true ∧ s.clustersStopped = false ∧ s.thrSt t = ThrState.idle ∧ s.nextReady cl =
        some c ∧ s.opRoom t (descReq (Src.thread t) c (s.curOf c / 64)) = true ∧ s.boundBank (BankRef.cluster
        cl) (s.fld (ctxBase c + 52) 15 0) = some bank ∧
        ∀ k, (s.ctx c).entry < clamp 1 16 k) := by
  refine ⟨?_, ?_, ?_, ?_, ?_, ?_, ?_, ?_, ?_, ?_, ?_, fun k => Nat.lt_of_lt_of_le (m := 1) (by decide +kernel) (clamp_pos k)⟩ <;>
    decide +kernel

theorem test_FaultBlocks_applies :
    (let s : State := up
     let p : Port := .cfg
     let b : FaultRef := (Sys2Proof.FaultRef.home)
     s.Canonical ∧ FaultRef.present s.variant b = true ∧ s.PortOpen p (faultBase b + 8) ∧ (∀ n <
        s.variant.scs, (s.chan n).isolated = false) ∧ s.engHold = [] ∧ (∀ n < s.variant.scs, (s.chan n).isoBy
        = [] ∧ (s.chan n).alert ≠ 2) ∧ ∀ (n : ℕ) (v : W32), b = .chan n → bitOf v 9 = false ∧ bitOf v 10 = false) ∧
    (let s : State := up
     let p : Port := .cfg
     let b : FaultRef := (Sys2Proof.FaultRef.locket)
     let v : BitVec 32 := 1
     let i : ℕ := 0
     s.Canonical ∧ FaultRef.present s.variant b = true ∧ s.PortOpen p (faultBase b + 12) ∧ s.locked (faultBase
        b + 12) = false ∧ i < (sevReset b).length ∧ v = BitVec.ofNat 32 (2 ^ i) ∧ s.Mild b i) ∧
    (let s : State := up
     let p : Port := .cfg
     let b : FaultRef := (Sys2Proof.FaultRef.home)
     s.Canonical ∧ FaultRef.present s.variant b = true ∧ s.PortOpen p (faultBase b + 24)) ∧
    (let s : State := up
     let p : Port := .cfg
     let b : FaultRef := (Sys2Proof.FaultRef.home)
     s.Canonical ∧ FaultRef.present s.variant b = true ∧ s.PortOpen p (faultBase b + 36)) ∧
    (let s : State := State.setFlag { State.resetOf .ovm2440 with inited := [.cfg] } (faultBase .phy + 0x1C)
        31 true |>.setFlag clkStatus 0 true
     let b : FaultRef := (Sys2Proof.FaultRef.phy)
     s.Canonical ∧ FaultRef.present s.variant b = true ∧ s.variant.graveAuto = true ∧ b ≠ FaultRef.power ∧ b ≠
        FaultRef.home ∧ s.grave b = true ∧ s.refclk = true ∧ s.flag (faultBase b + 28) 30 = false ∧ (∀ n <
        s.variant.scs, (s.chan n).isolated = false) ∧ s.nextRecovery ≤ s.recoveryMax) ∧
    (let s : State := (State.setFlag { State.resetOf .ovm2440 with inited := [.cfg] } (faultBase .phy + 0x1C)
        31 true |>.setFlag clkStatus 0 true).setFld 0x1E14 7 0 255
     let b : FaultRef := (Sys2Proof.FaultRef.phy)
     s.Canonical ∧ FaultRef.present s.variant b = true ∧ s.variant.graveAuto = true ∧ b ≠ FaultRef.power ∧ b ≠
        FaultRef.home ∧ s.grave b = true ∧ s.refclk = true ∧ s.flag (faultBase b + 28) 30 = false ∧ (∀ n <
        s.variant.scs, (s.chan n).isolated = false) ∧ s.recoveryMax < s.nextRecovery) := by
  refine ⟨⟨?_, ?_, ?_, ?_, ?_, ?_, by intro n v h; cases h⟩, ?_, ?_, ?_, ?_, ?_⟩ <;> decide +kernel

theorem test_LocalSpace_LocalLoads_applies :
    (let s : State := standing up v0 (wI 0x1C 3 1 0x7F8) []
     let t : ThreadRef := v0
     let w : W32 := 0x706107f8
     let i : ℕ := 255
     let l := localAt t.kind (localAddr (s.thr t) w)
     s.Canonical ∧ s.Stands t w ∧ s.Fed t ∧ opOf w = 28 ∧ localAddr (s.thr t) w % 8 = 0 ∧ l = Local.scratch i) ∧
    (let s : State := standing up v0 (wI 0x1C 3 1 0) [(1, 0x838)]
     let t : ThreadRef := v0
     let w : W32 := 0x70610000
     let k : ℕ := 7
     let l := localAt t.kind (localAddr (s.thr t) w)
     s.Canonical ∧ s.Stands t w ∧ s.Fed t ∧ opOf w = 28 ∧ localAddr (s.thr t) w % 8 = 0 ∧ l = Local.mbox k) ∧
    (let s : State := standing up t0 (wI 0x1C 3 1 0) [(1, 0x13F8)]
     let t : ThreadRef := t0
     let w : W32 := 0x70610000
     let k : ℕ := 15
     let j : ℕ := 7
     let l := localAt t.kind (localAddr (s.thr t) w)
     s.Canonical ∧ s.Stands t w ∧ s.Fed t ∧ opOf w = 28 ∧ localAddr (s.thr t) w % 8 = 0 ∧ l = Local.buf k j ∧
        ((s.thr t).buf k).pending = false ∧ ((s.thr t).buf k).err = 0 ∧ ((s.thr t).buf k).poison = false) ∧
    (let s : State := standing up t0 (wI 0x1C 3 1 0) [(1, 0x1438)]
     let t : ThreadRef := t0
     let w : W32 := 0x70610000
     let j : ℕ := 7
     let l := localAt t.kind (localAddr (s.thr t) w)
     s.Canonical ∧ s.Stands t w ∧ s.Fed t ∧ opOf w = 28 ∧ localAddr (s.thr t) w % 8 = 0 ∧ l = Local.desc j) := by
  refine ⟨?_, ?_, ?_, ?_⟩ <;> decide +kernel

theorem test_LocalSpace_LocalStores_applies :
    (let s : State := standing up v0 (wI 0x1D 3 1 0x7F8) [(3, 5)]
     let t : ThreadRef := v0
     let w : W32 := 0x746107f8
     let i : ℕ := 255
     let l := localAt t.kind (localAddr (s.thr t) w)
     s.Canonical ∧ s.Stands t w ∧ s.Fed t ∧ opOf w = 29 ∧ localAddr (s.thr t) w % 8 = 0 ∧ l = Local.scratch i) ∧
    (let s : State := standing up v0 (wI 0x1D 3 1 0) [(1, 0x838), (3, 5)]
     let t : ThreadRef := v0
     let w : W32 := 0x74610000
     let k : ℕ := 7
     let l := localAt t.kind (localAddr (s.thr t) w)
     s.Canonical ∧ s.Stands t w ∧ s.Fed t ∧ opOf w = 29 ∧ localAddr (s.thr t) w % 8 = 0 ∧ l = Local.mbox k) ∧
    (let s : State := standing up t0 (wI 0x1D 3 1 0) [(1, 0x13F8), (3, 5)]
     let t : ThreadRef := t0
     let w : W32 := 0x74610000
     let k : ℕ := 15
     let j : ℕ := 7
     let l := localAt t.kind (localAddr (s.thr t) w)
     s.Canonical ∧ s.Stands t w ∧ s.Fed t ∧ opOf w = 29 ∧ localAddr (s.thr t) w % 8 = 0 ∧ l = Local.buf k j ∧
        ((s.thr t).buf k).touch true = Touch.ok) ∧
    (let s : State := standing up t0 (wI 0x1D 3 1 0) [(1, 0x1438), (3, 5)]
     let t : ThreadRef := t0
     let w : W32 := 0x74610000
     let j : ℕ := 7
     let l := localAt t.kind (localAddr (s.thr t) w)
     s.Canonical ∧ s.Stands t w ∧ s.Fed t ∧ opOf w = 29 ∧ localAddr (s.thr t) w % 8 = 0 ∧ l = Local.desc j) := by
  refine ⟨?_, ?_, ?_, ?_⟩ <;> decide +kernel

theorem test_LineTransfers_applies :
    (let s : State := standing up t0 (wM 0x24 14 1 2 0) [(1, 0x3FFFFFFFFF80)]
     let t : ThreadRef := t0
     let w : W32 := 0x93821000
     let th := s.thr t
     let base := BitVec.toNat (th.getG (mA w))
     s.Canonical ∧ s.Stands t w ∧ s.Fed t ∧ (s.thr t).prog = 0 ∧ t.kind ≠ EngKind.seq ∧ base % 64 = 0 ∧ base +
        64 * mCnt w ≤ 2 ^ 46 ∧ opOf w = 36 ∧ mMode w < 64 ∧ mMode w % 4 ≠ 3 ∧ mCnt w ≤ 16 ∧ mLb w + mCnt w ≤
        bufCount t.kind ∧ (∀ k < mCnt w, (th.buf (mLb w + k)).touch true = Touch.ok)) ∧
    (let s : State := standing up t0 (wM 0x25 14 1 2 0) [(1, 0x3FFFFFFFFF80)]
     let t : ThreadRef := t0
     let w : W32 := 0x97821000
     let th := s.thr t
     let base := BitVec.toNat (th.getG (mA w))
     s.Canonical ∧ s.Stands t w ∧ s.Fed t ∧ (s.thr t).prog = 0 ∧ t.kind ≠ EngKind.seq ∧ base % 64 = 0 ∧ base +
        64 * mCnt w ≤ 2 ^ 46 ∧ opOf w = 37 ∧ mMode w < 64 ∧ mMode w % 4 ≠ 3 ∧ mCnt w ≤ 16 ∧ mLb w + mCnt w ≤
        bufCount t.kind ∧ (∀ k < mCnt w, (th.buf (mLb w + k)).touch false = Touch.ok ∧ ((th.buf (mLb w +
        k)).hmValid = true → hallmark (th.buf (mLb w + k)).data = (th.buf (mLb w + k)).hm))) ∧
    (let s : State := standing up t0 (wM 0x26 0 1 0 0) [(1, 0x1000)]
     let t : ThreadRef := t0
     let w : W32 := 0x98020000
     let th := s.thr t
     let base := BitVec.toNat (th.getG (mA w))
     s.Canonical ∧ s.Stands t w ∧ s.Fed t ∧ (s.thr t).prog = 0 ∧ t.kind ≠ EngKind.seq ∧ base % 64 = 0 ∧ base +
        64 * mCnt w ≤ 2 ^ 46 ∧ opOf w = 38 ∧ mLb w = 0 ∧ mMode w = 0) := by
  refine ⟨?_, ?_, ?_⟩ <;> decide +kernel

theorem test_GatherScatter_applies :
    (let s : State := sGather 0x29
     let t : ThreadRef := t0
     let w : W32 := 0xa7c21000
     let idx : List W64 := [0, 1]
     let th := s.thr t
     let size := 2 ^ (mMode w % 8)
     let width := if mMode w / 8 % 2 = 0 then 2 else 4
     let base := th.getG (mA w)
     let list := BitVec.toNat (th.getG (mA w + 1))
     let n := (mCnt w * size + 63) / 64
     s.Canonical ∧ s.Stands t w ∧ s.Fed t ∧ (s.thr t).prog = 0 ∧ t.kind = EngKind.stream ∧ mMode w % 8 ≠ 7 ∧
        mA w ≠ 31 ∧ mCnt w * 2 ^ (mMode w % 8) ≤ (16 - mLb w) * 64 ∧ BitVec.toNat base % size = 0 ∧ list %
        width = 0 ∧ s.indices t th list width (mCnt w) = List.map LRes.ok idx ∧ opOf w = 41 ∧ mMode w < 16 ∧
        (∀ k < n, (th.buf (mLb w + k)).touch true = Touch.ok)) ∧
    (let s : State := (sGather 0x2A).setThr t0 (((sGather 0x2A).thr t0).setBuf 15 { LineBuf.init with hmValid
        := false })
     let t : ThreadRef := t0
     let w : W32 := 0xabc21000
     let idx : List W64 := [0, 1]
     let th := s.thr t
     let size := 2 ^ (mMode w % 8)
     let width := if mMode w / 8 % 2 = 0 then 2 else 4
     let base := th.getG (mA w)
     let list := BitVec.toNat (th.getG (mA w + 1))
     let n := (mCnt w * size + 63) / 64
     s.Canonical ∧ s.Stands t w ∧ s.Fed t ∧ (s.thr t).prog = 0 ∧ t.kind = EngKind.stream ∧ mMode w % 8 ≠ 7 ∧
        mA w ≠ 31 ∧ mCnt w * 2 ^ (mMode w % 8) ≤ (16 - mLb w) * 64 ∧ BitVec.toNat base % size = 0 ∧ list %
        width = 0 ∧ s.indices t th list width (mCnt w) = List.map LRes.ok idx ∧ opOf w = 42 ∧ mMode w < 256 ∧
        size < 64 ∧ (∀ k < n, (th.buf (mLb w + k)).touch false = Touch.ok ∧ (th.buf (mLb w + k)).hmValid =
        false)) := by
  refine ⟨?_, ?_⟩ <;> decide +kernel

theorem test_HallmarkAndGraftPoints_HallmarkCheck_applies :
    (let s : State := standing up t0 (wM 0x38 14 0 2 0) []
     let t : ThreadRef := t0
     let w : W32 := 0xe3801000
     let th := s.thr t
     s.Canonical ∧ s.Stands t w ∧ s.Fed t ∧ t.kind ≠ EngKind.seq ∧ opOf w = 56 ∧ mLb w + mCnt w ≤ bufCount
        t.kind ∧ (∀ k < mCnt w, (th.buf (mLb w + k)).touch false = Touch.ok) ∧ mMode w = 0 ∧ mA w = 0 ∧ (∀ k <
        mCnt w, (th.buf (mLb w + k)).poison = false ∧ (th.buf (mLb w + k)).hmValid = true ∧ hallmark (th.buf
        (mLb w + k)).data = (th.buf (mLb w + k)).hm)) ∧
    (let s : State := standing up t0 (wM 0x38 15 1 1 1) [(1, 0x03C8EB67)]
     let t : ThreadRef := t0
     let w : W32 := 0xe3c20801
     let th := s.thr t
     s.Canonical ∧ s.Stands t w ∧ s.Fed t ∧ t.kind ≠ EngKind.seq ∧ opOf w = 56 ∧ mLb w + mCnt w ≤ bufCount
        t.kind ∧ (∀ k < mCnt w, (th.buf (mLb w + k)).touch false = Touch.ok) ∧ mMode w = 1 ∧ mCnt w = 1 ∧
        (th.buf (mLb w)).poison = false ∧ BitVec.toNat (hallmark (th.buf (mLb w)).data) = BitVec.toNat
        (th.getG (mA w)) % 2 ^ 32) := by
  refine ⟨?_, ?_⟩ <;> decide +kernel

theorem test_ThreadFaults_applies :
    (let s : State := standing up v0 (wI 0x37 0 0 0xFFFF) []
     let t : ThreadRef := v0
     let w : W32 := 0xdc00ffff
     s.Canonical ∧ s.Stands t w ∧ s.Fed t ∧ t.kind ≠ EngKind.stream ∧ (s.thr t).ctx = none ∧ (s.thr t).wait =
        Wait.none ∧ (∀ e ∈ s.clasps, e.2.owner ≠ ownerOf t) ∧ s.claspFull = [] ∧ s.effSev (FaultRef.chan
        t.unit) (if t.kind = EngKind.seq then 9 else 10) < 2 ∧ opOf w = 55 ∧ fD w = 0 ∧ fA w = 0) ∧
    (let s : State := standing up q0 (wA 0 3 1 2 1) []
     let t : ThreadRef := q0
     let w : W32 := 0x00611001
     s.Canonical ∧ s.Stands t w ∧ s.Fed t ∧ t.kind ≠ EngKind.stream ∧ (s.thr t).ctx = none ∧ (s.thr t).wait =
        Wait.none ∧ (∀ e ∈ s.clasps, e.2.owner ≠ ownerOf t) ∧ s.claspFull = [] ∧ s.effSev (FaultRef.chan
        t.unit) (if t.kind = EngKind.seq then 9 else 10) < 2 ∧ opOf w = 0 ∧ fFn w ≠ 0) := by
  refine ⟨?_, ?_⟩ <;> decide +kernel

theorem test_HallmarkAndGraftPoints_GraftPoint_applies :
    (let s : State := standing up t0 (wA 0x39 0 0 0 0) []
     let t : ThreadRef := t0
     let w : W32 := 0xe4000000
     s.Canonical ∧ s.Stands t w ∧ s.Fed t ∧ opOf w = 57 ∧ fD w = 0 ∧ fA w = 0 ∧ fB w = 0 ∧ fFn w = 0 ∧ (t.kind
        = EngKind.stream ∨ s.bankSt (bankOf t) (s.thr t).bank ≠ 3)) ∧
    (let s : State := banks (standing up v0 (wA 0x39 0 0 0 0) []) (.svc 0) 3 2
     let t : ThreadRef := v0
     let w : W32 := 0xe4000000
     let i : ℕ := 1
     s.Canonical ∧ s.Stands t w ∧ s.Fed t ∧ opOf w = 57 ∧ fD w = 0 ∧ fA w = 0 ∧ fB w = 0 ∧ fFn w = 0 ∧ t.kind
        = EngKind.svc ∧ s.bankSt (bankOf t) (s.thr t).bank = 3 ∧ s.bankIn (bankOf t) 2 = some i) := by
  refine ⟨?_, ?_⟩ <;> decide +kernel

theorem test_ClaspInstructions_ClaspAcquire_applies :
    (let s : State := sClasp up 0
     let t : ThreadRef := v0
     let w : W32 := 0xc4610000
     let n := BitVec.toNat ((s.thr t).getG (fA w))
     s.Canonical ∧ s.Stands t w ∧ s.Fed t ∧ opOf w = 49 ∧ fB w = 0 ∧ threadPresent s.variant t = true ∧ n <
        256 ∧ fFn w = 0 ∧ (s.clasp n).st ≠ ClaspSt.held) ∧
    (let s : State := sClasp up 1
     let t : ThreadRef := v0
     let w : W32 := 0xc4610001
     let n := BitVec.toNat ((s.thr t).getG (fA w))
     s.Canonical ∧ s.Stands t w ∧ s.Fed t ∧ opOf w = 49 ∧ fB w = 0 ∧ threadPresent s.variant t = true ∧ n <
        256 ∧ fFn w = 1 ∧ (s.clasp n).st ≠ ClaspSt.held) ∧
    (let s : State := sClasp (clasp255 .held 5 false) 1
     let t : ThreadRef := v0
     let w : W32 := 0xc4610001
     let n := BitVec.toNat ((s.thr t).getG (fA w))
     s.Canonical ∧ s.Stands t w ∧ s.Fed t ∧ opOf w = 49 ∧ fB w = 0 ∧ threadPresent s.variant t = true ∧ n <
        256 ∧ fFn w = 1 ∧ (s.clasp n).st = ClaspSt.held) := by
  refine ⟨?_, ?_, ?_⟩ <;> decide +kernel

theorem test_ClaspInstructions_ClaspRelease_applies :
    (let s : State := sClasp (clasp255 .held (ownerOf v0) true) 2
     let t : ThreadRef := v0
     let w : W32 := 0xc4010002
     let n := BitVec.toNat ((s.thr t).getG (fA w))
     s.Canonical ∧ s.Stands t w ∧ s.Fed t ∧ opOf w = 49 ∧ fB w = 0 ∧ fD w = 0 ∧ n < 256 ∧ s.fenceHolds t 2 =
        true ∧ (s.clasp n).st = ClaspSt.held ∧ (s.clasp n).owner = ownerOf t ∧ (∀ q ∈ s.claspWaits, q.clasp ≠
        n) ∧ fFn w = 2) ∧
    (let s : State := sClasp (clasp255 .held (ownerOf v0) true) 3
     let t : ThreadRef := v0
     let w : W32 := 0xc4010003
     let n := BitVec.toNat ((s.thr t).getG (fA w))
     s.Canonical ∧ s.Stands t w ∧ s.Fed t ∧ opOf w = 49 ∧ fB w = 0 ∧ fD w = 0 ∧ n < 256 ∧ s.fenceHolds t 2 =
        true ∧ (s.clasp n).st = ClaspSt.held ∧ (s.clasp n).owner = ownerOf t ∧ (∀ q ∈ s.claspWaits, q.clasp ≠
        n) ∧ fFn w = 3) := by
  refine ⟨?_, ?_⟩ <;> decide +kernel

theorem test_EventInstructions_WaitEvents_applies :
    (let s : State := { standing up v0 (wA 0x32 3 1 0 0) [(1, 6)] with evf := 0xC }
     let t : ThreadRef := v0
     let w : W32 := 0xc8610000
     let mask := (s.thr t).getG (fA w)
     s.Canonical ∧ s.Stands t w ∧ s.Fed t ∧ opOf w = 50 ∧ s.evf &&& mask ≠ 0) ∧
    (let s : State := { waits up v0 (.events 6 3 10) with evWaiters := [v0] }
     let t : ThreadRef := v0
     let mask : W64 := 6
     let d : ℕ := 3
     let us : ℕ := 10
     s.Canonical ∧ s.Waits t (Wait.events mask d us) ∧ us ≠ 0) := by
  refine ⟨?_, ?_⟩ <;> decide +kernel

theorem test_EventInstructions_EventPulses_applies :
    (let s : State := standing up v0 (wI 0x33 0 0 62) []
     let t : ThreadRef := v0
     let w : W32 := 0xcc00003e
     s.Canonical ∧ s.Stands t w ∧ s.Fed t ∧ opOf w = 51 ∧ fD w = 0 ∧ fA w = 0 ∧ fImm w < 64 ∧ s.evWaiters = []
        ∧ (t.kind = EngKind.svc → s.fld 7680 29 24 ≠ fImm w) ∧ tget 0 s.evtPend (fImm w) < 255) ∧
    (let s : State := { up with evtPend := [(1, 2)] }
     let line : ℕ := 1
     s.Canonical ∧ s.running = true ∧ 0 < tget 0 s.evtPend line ∧ s.evtWaiting line = []) := by
  refine ⟨?_, ?_⟩ <;> decide +kernel

theorem test_BusErrors_applies :
    (let s : State := up
     let p : Port := .cfg
     let a : Access := ({ addr := 0x000008#24, bytes := 2 })
     s.Canonical ∧ s.PortOpen p a.addr.toNat ∧ (a.bytes ≠ 4 ∨ a.addr.toNat % 4 ≠ 0)) ∧
    (let s : State := up
     let p : Port := .cfg
     let a : Access := ({ addr := 0x000008#24, bytes := 2 })
     s.Canonical ∧ s.PortOpen p a.addr.toNat ∧ (a.bytes ≠ 4 ∨ a.addr.toNat % 4 ≠ 0)) ∧
    (let s : State := up
     let p : Port := .cfg
     let a : Access := ({ addr := 0x070000#24, bytes := 4 })
     s.Canonical ∧ s.PortOpen p a.addr.toNat ∧ a.bytes = 4 ∧ a.addr.toNat % 4 = 0 ∧ siteOf s.variant
        a.addr.toNat = none) ∧
    (let s : State := up
     let p : Port := .cfg
     let a : Access := ({ addr := 0x070000#24, bytes := 4 })
     s.Canonical ∧ s.PortOpen p a.addr.toNat ∧ a.bytes = 4 ∧ a.addr.toNat % 4 = 0 ∧ siteOf s.variant
        a.addr.toNat = none) := by
  refine ⟨?_, ?_, ?_, ?_⟩ <;> decide +kernel

theorem test_RegisterAccesses_MappedAccesses_applies :
    (let s : State := up
     let p : Port := .cfg
     let a : BitVec 24 := 28
     let v : W32 := 0
     let x : Site := (siteOf s.variant a.toNat).getD ⟨.glob, 0, 0, none⟩
     let c : Instr := (Sys2Proof.Instr.regWrite (Sys2Proof.Port.cfg) { addr := 0x00001c#24, bytes := 4 }
        0x00000000#32)
     siteOf s.variant a.toNat = some x ∧ a.toNat % 4 = 0 ∧ s.PortOpen p a.toNat ∧ c ∈ [Instr.regWrite p
        (Access.mk a 4) v, Instr.lowWordWrite p a v, Instr.highWordWrite p a v, Instr.aliasWrite p a v] ∧
        undefAt s.variant a.toNat = true) ∧
    (let s : State := up
     let p : Port := .cfg
     let a : BitVec 24 := 0
     let v : W32 := 0
     let x : Site := (siteOf s.variant a.toNat).getD ⟨.glob, 0, 0, none⟩
     let c : Instr := (Sys2Proof.Instr.regWrite (Sys2Proof.Port.cfg) { addr := 0x000000#24, bytes := 4 }
        0x00000000#32)
     siteOf s.variant a.toNat = some x ∧ a.toNat % 4 = 0 ∧ s.PortOpen p a.toNat ∧ c ∈ [Instr.regWrite p
        (Access.mk a 4) v, Instr.lowWordWrite p a v, Instr.highWordWrite p a v, Instr.aliasWrite p a v] ∧
        undefAt s.variant a.toNat = false) ∧
    (let s : State := up
     let p : Port := .cfg
     let a : BitVec 24 := 0
     let x : Site := (siteOf s.variant a.toNat).getD ⟨.glob, 0, 0, none⟩
     let c : Instr := (Sys2Proof.Instr.readClear (Sys2Proof.Port.cfg) { addr := 0x000000#24, bytes := 4 })
     siteOf s.variant a.toNat = some x ∧ a.toNat % 4 = 0 ∧ s.PortOpen p a.toNat ∧ c ∈ [Instr.readClear p
        (Access.mk a 4), Instr.lowWordRead p a]) := by
  refine ⟨?_, ?_, ?_⟩ <;> decide +kernel

theorem test_RegisterAccesses_FieldsByClass_applies :
    (let s : State := up
     let p : Port := .cfg
     let off : ℕ := 0
     let w : Win := .glob
     let o : ℕ := 0
     s.Canonical ∧ locate s.variant off = some (w, o) ∧ off < 8388608 ∧ off % 4 = 0 ∧ s.PortOpen p off ∧
        regFlds s.variant w o ≠ [] ∧ blockAt s.variant off = none ∧ isLow w o = false ∧ (4 ≤ o → isLow w (o -
        4) = false) ∧ storesOnly w o = true ∧ s.TakesFields p w o off) ∧
    (let s : State := up
     let p : Port := .cfg
     let off : ℕ := 0
     let w : Win := .glob
     let o : ℕ := 0
     s.Canonical ∧ locate s.variant off = some (w, o) ∧ off < 8388608 ∧ off % 4 = 0 ∧ s.PortOpen p off ∧
        regFlds s.variant w o ≠ [] ∧ blockAt s.variant off = none ∧ isLow w o = false ∧ (4 ≤ o → isLow w (o -
        4) = false) ∧ w ≠ Win.intc ∧ (∀ (n : ℕ), w ≠ Win.seq n ∧ w ≠ Win.svc n ∧ w ≠ Win.cluster n) ∧ (p =
        Port.dbg ∨ dbgOnly off = false)) := by
  refine ⟨⟨?_, ?_, ?_, ?_, ?_, ?_, ?_, ?_, ?_, ?_, ?_⟩, ⟨?_, ?_, ?_, ?_, ?_, ?_, ?_, ?_, ?_, ?_, ?_, ?_⟩⟩ <;>
    first
    | decide +kernel
    | exact takesFields (by decide) (by decide +kernel) (by decide +kernel)
    | exact fun _ => ⟨nofun, nofun, nofun⟩

theorem test_RegisterAccesses_TwoWordValues_applies :
    (let s : State := up
     let p : Port := .cfg
     let off : ℕ := 32
     let w : Win := .glob
     let o : ℕ := 32
     s.Canonical ∧ locate s.variant off = some (w, o) ∧ off < 8388608 ∧ isLow w o = true ∧ s.PortOpen p off ∧
        s.PortOpen p (off + 4) ∧ (p = Port.dbg ∨ dbgOnly off = false)) ∧
    (let s : State := up
     let p : Port := .cfg
     let off : ℕ := 32
     let w : Win := .glob
     let o : ℕ := 32
     s.Canonical ∧ locate s.variant off = some (w, o) ∧ off < 8388608 ∧ isLow w o = true ∧ s.PortOpen p off ∧
        s.PortOpen p (off + 4)) ∧
    (let s : State := up
     let p : Port := .cfg
     let off : ℕ := 4120
     let w : Win := .power
     let o : ℕ := 24
     s.Canonical ∧ locate s.variant off = some (w, o) ∧ off < 8388608 ∧ isLow w o = true ∧ s.PortOpen p off ∧
        s.PortOpen p (off + 4) ∧ storesOnly w o = true ∧ storesOnly w (o + 4) = true ∧ s.TakesFields p w o off
        ∧ s.TakesFields p w (o + 4) (off + 4)) := by
  refine ⟨⟨?_, ?_, ?_, ?_, ?_, ?_, ?_⟩, ⟨?_, ?_, ?_, ?_, ?_, ?_⟩, ⟨?_, ?_, ?_, ?_, ?_, ?_, ?_, ?_, ?_, ?_⟩⟩ <;>
    first
    | decide +kernel
    | exact takesFields (by decide) (by decide +kernel) (by decide +kernel)

theorem test_RegisterAccesses_BitAlias_applies :
    (let s : State := up
     let p : Port := .cfg
     let off : ℕ := 4
     let w : Win := .glob
     let o : ℕ := 4
     let i : ℕ := 0
     let f : Fld := (regFlds s.variant w o).getLastD ⟨0, 0, .lv, 0⟩
     let addr := 8388608 + 32 * off + 4 * i
     s.Canonical ∧ locate s.variant off = some (w, o) ∧ off % 4 = 0 ∧ i < 32 ∧ f ∈ regFlds s.variant w o ∧
        f.lo ≤ i ∧ i ≤ f.hi ∧ f.cls ≠ Cls.st ∧ storesOnly w o = true ∧ s.TakesFields p w o off ∧ blockAt
        s.variant off = none ∧ addr < 2 ^ 24 ∧ s.PortOpen p addr) := by
  refine ⟨?_, ?_, ?_, ?_, ?_, ?_, ?_, ?_, ?_, ?_, ?_, ?_, ?_⟩ <;>
    first
    | decide +kernel
    | exact takesFields (by decide) (by decide +kernel) (by decide +kernel)

theorem test_UnitEnables_applies :
    (let s : State := mapped
     let p : Port := .cfg
     let u : UnitRef := (Sys2Proof.UnitRef.locket)
     UnitRef.present s.variant u = true ∧ s.PortOpen p (unitCtrl u) ∧ s.en u = false ∧ s.mapBad u = false) ∧
    (let s : State := mapped
     let p : Port := .cfg
     let u : UnitRef := (Sys2Proof.UnitRef.home)
     UnitRef.present s.variant u = true ∧ s.PortOpen p (unitCtrl u) ∧ s.en u = true) ∧
    (let s : State := mapped
     let u : UnitRef := (Sys2Proof.UnitRef.port 0)
     s.Canonical ∧ u ≠ UnitRef.locket ∧ UnitRef.present s.variant u = true ∧ s.running = true ∧ s.en u = false
        ∧ s.unitIdle u = true) := by
  refine ⟨?_, ?_, ?_⟩ <;> decide +kernel

theorem test_FaultAndEventWrites_FaultClears_applies :
    (let s : State := (standing up t0 (wA 0 0 0 0 0) []).setThr t0 { Thread.init with st := .faulted, fault :=
        3 }
     let p : Port := .cfg
     let cl : ℕ := 0
     let t := ThreadRef.mk EngKind.stream cl (s.fld ((Win.cluster cl).base + 32) 5 0)
     s.Canonical ∧ cl < s.variant.clusters ∧ s.PortOpen p ((Win.cluster cl).base + 44) ∧ t.idx < 48 ∧ s.thrSt
        t = ThrState.faulted) ∧
    (let s : State := (standing up q0 (wA 0 0 0 0 0) []).setThr q0 { Thread.init with st := .faulted, fault :=
        3 }
     let p : Port := .cfg
     let b : BankRef := (Sys2Proof.BankRef.seq 0)
     let v : W32 := 1
     let t : ThreadRef := q0
     s.Canonical ∧ hasFclr b = true ∧ bankPresent s.variant b = true ∧ s.PortOpen p (bankBase b + 56) ∧ t ∈
        ownerThreads b ∧ bitOf v t.idx = true ∧ s.thrSt t = ThrState.faulted) := by
  refine ⟨?_, ?_⟩ <;> decide +kernel

theorem test_InstructionStores_applies :
    (let s : State := up
     let p : Port := .cfg
     let cl : ℕ := 0
     let bank : ℕ := 0
     let idx : ℕ := 0
     let off := (Win.store cl).base + 32768 * bank + 4 * idx
     s.Canonical ∧ cl < s.variant.clusters ∧ bank < 2 ∧ idx < 8192 ∧ s.PortOpen p off ∧ s.bankSt
        (BankRef.cluster cl) bank ≤ 1) ∧
    (let s : State := banks up (.cluster 0) 2 3
     let p : Port := .cfg
     let cl : ℕ := 0
     let bank : ℕ := 0
     let idx : ℕ := 0
     let off := (Win.store cl).base + 32768 * bank + 4 * idx
     s.Canonical ∧ cl < s.variant.clusters ∧ bank < 2 ∧ idx < 8192 ∧ s.PortOpen p off ∧ 2 ≤ s.bankSt
        (BankRef.cluster cl) bank) ∧
    (let s : State := up
     let p : Port := .cfg
     let b : BankRef := (Sys2Proof.BankRef.seq 0)
     s.Canonical ∧ hasFclr b = true ∧ bankPresent s.variant b = true ∧ s.PortOpen p (bankBase b + 36) ∧
        s.bankSt b (s.progBank b) ≤ 1) ∧
    (let s : State := up
     let p : Port := .cfg
     let b : BankRef := (Sys2Proof.BankRef.seq 0)
     s.Canonical ∧ hasFclr b = true ∧ bankPresent s.variant b = true ∧ s.PortOpen p (bankBase b + 36)) := by
  refine ⟨?_, ?_, ?_, ?_⟩ <;> decide +kernel

theorem test_LoadsAndGrafts_Loads_applies :
    (let s : State := up
     let p : Port := .cfg
     let b : BankRef := (Sys2Proof.BankRef.cluster 0)
     s.Canonical ∧ bankPresent s.variant b = true ∧ s.PortOpen p (bankBase b + 20) ∧ s.graftState b ≠ 2) ∧
    (let s : State := (banks up (.svc 0) 2 0).setReg (bankBase (.svc 0) + 0x14) 0x80010005
     let b : BankRef := (Sys2Proof.BankRef.svc 0)
     let i : ℕ := 1
     s.Canonical ∧ s.running = true ∧ bankPresent s.variant b = true ∧ s.flag (bankBase b + 20) 31 = true ∧
        s.loadTargets b = [i]) := by
  refine ⟨?_, ?_⟩ <;> decide +kernel

theorem test_LoadsAndGrafts_Grafts_applies :
    (let s : State := banks up (.svc 0) 2 1
     let p : Port := .cfg
     let b : BankRef := (Sys2Proof.BankRef.svc 0)
     let v : W32 := 0
     let i : ℕ := 1
     let j : ℕ := 0
     s.Canonical ∧ bankPresent s.variant b = true ∧ s.PortOpen p (bankBase b + 28) ∧ bitOf v 1 = false ∧
        s.bankIn b 1 = some i ∧ s.bankIn b 2 = some j) ∧
    (let s : State := banks up (.svc 0) 2 1
     let p : Port := .cfg
     let b : BankRef := (Sys2Proof.BankRef.svc 0)
     let v : W32 := 0
     let i : ℕ := 1
     s.Canonical ∧ bankPresent s.variant b = true ∧ s.PortOpen p (bankBase b + 28) ∧ bitOf v 0 = false ∧
        s.bankIn b 1 = some i) ∧
    (let s : State := (banks up (.svc 0) 3 2).setFld (bankBase (.svc 0) + 8) 5 4 2
     let b : BankRef := (Sys2Proof.BankRef.svc 0)
     let i : ℕ := 0
     s.Canonical ∧ s.running = true ∧ bankPresent s.variant b = true ∧ s.graftState b = 2 ∧ s.oldRefs b = 0 ∧
        s.oldThreads b = 0 ∧ s.bankIn b 3 = some i) := by
  refine ⟨?_, ?_, ?_⟩ <;> decide +kernel

theorem test_FaultAndEventWrites_EventFlagWrites_applies :
    (let s : State := up
     let p : Port := .cfg
     let cl : ℕ := 0
     let hi : Bool := true
     cl < s.variant.clusters ∧ s.PortOpen p ((Win.cluster cl).base + if hi = true then 60 else 56) ∧
        s.evWaiters = []) := by
  decide +kernel

theorem test_ContextCommands_applies :
    (let s : State := ctx7 0
     let p : Port := .cfg
     let n : ℕ := 0
     s.Canonical ∧ n < s.variant.contexts ∧ s.PortOpen p (ctxBase n) ∧ s.ctxState n = 0) ∧
    (let s : State := ctx7 1
     let p : Port := .cfg
     let n : ℕ := 7
     s.Canonical ∧ n < s.variant.contexts ∧ s.PortOpen p (ctxBase n) ∧ s.ctxState n ≠ 0) ∧
    (let s : State := ctx7 1
     let p : Port := .cfg
     let n : ℕ := 7
     s.Canonical ∧ n < s.variant.contexts ∧ s.PortOpen p (ctxBase n) ∧ (s.ctxState n = 1 ∨ s.ctxState n = 5) ∧
        s.runEnded n = false ∧ (s.ctx n).rearm = false) ∧
    (let s : State := ctx7 5
     let p : Port := .cfg
     let n : ℕ := 7
     s.Canonical ∧ n < s.variant.contexts ∧ s.PortOpen p (ctxBase n) ∧ s.ctxState n = 5) ∧
    (let s : State := ctx7 1
     let p : Port := .cfg
     let n : ℕ := 7
     let b := ctxBase n
     let cl := s.fld (b + 8) 11 8
     s.Canonical ∧ n < s.variant.contexts ∧ s.PortOpen p (ctxBase n) ∧ s.ctxState n = 1 ∧ s.runEnded n = false
        ∧ (s.ctx n).rearm = false ∧ cl < s.variant.clusters ∧ s.flag (b + 8) 31 = false) ∧
    (let s : State := ctx7 2
     let p : Port := .cfg
     let n : ℕ := 7
     s.Canonical ∧ n < s.variant.contexts ∧ s.PortOpen p (ctxBase n) ∧ s.ctxState n = 2 ∧ (s.ctx n).outcome =
        none ∧ (s.ctx n).queue = []) := by
  refine ⟨?_, ?_, ?_, ?_, ?_, ?_⟩ <;> decide +kernel

theorem test_ContextCommands_AppendWord_applies :
    (let s : State := ctx7 3
     let p : Port := .cfg
     let n : ℕ := 0
     s.Canonical ∧ n < s.variant.contexts ∧ s.PortOpen p (ctxBase n + 28) ∧ s.ctxState n ≠ 1) := by
  decide +kernel

theorem test_Descriptors_DescriptorArrives_applies :
    (let s : State := sDesc .start
     let c : ℕ := 7
     let t : ThreadRef := t0
     let a : Arrival := arr (.desc 7) (.ctx 7) 0x40
     s.Canonical ∧ s.running = true ∧ (List.find? (fun x => x.dest == Dest.desc c) s.arrivals = some a) ∧
        a.status = 0 ∧ a.tmo = false ∧ a.poison = false ∧ hallmark a.data = a.hm ∧ linkBad (lineWord a.data 0)
        = false ∧ (s.ctx c).rearm = false ∧ s.servant c = some t ∧ (s.thr t).wait = Wait.start) ∧
    (let s : State := sDesc (.descriptor 3)
     let c : ℕ := 7
     let t : ThreadRef := t0
     let a : Arrival := arr (.desc 7) (.ctx 7) 0x40
     let d : ℕ := 3
     s.Canonical ∧ s.running = true ∧ (List.find? (fun x => x.dest == Dest.desc c) s.arrivals = some a) ∧
        a.status = 0 ∧ a.tmo = false ∧ a.poison = false ∧ hallmark a.data = a.hm ∧ linkBad (lineWord a.data 0)
        = false ∧ (s.ctx c).rearm = false ∧ s.servant c = some t ∧ (s.thr t).wait = Wait.descriptor d ∧ (s.thr
        t).prog = 0) := by
  refine ⟨?_, ?_⟩ <;> decide +kernel

theorem test_Descriptors_NextDescriptor_applies :
    (let s : State := sNextd false 1 []
     let t : ThreadRef := t0
     let w : W32 := 0xd0600000
     let c : ℕ := 7
     s.Canonical ∧ s.Stands t w ∧ s.Fed t ∧ t.kind = EngKind.stream ∧ opOf w = 52 ∧ fA w = 0 ∧ fB w = 0 ∧ fFn
        w = 0 ∧ (s.thr t).ctx = some c ∧ (s.ctx c).fast = false ∧ linkEnd (s.thr t).link = true ∧ s.tailGen c
        = s.seenGen c) ∧
    (let s : State := sNextd false 0x1000 []
     let t : ThreadRef := t0
     let w : W32 := 0xd0600000
     let c : ℕ := 7
     s.Canonical ∧ s.Stands t w ∧ s.Fed t ∧ t.kind = EngKind.stream ∧ opOf w = 52 ∧ fA w = 0 ∧ fB w = 0 ∧ fFn
        w = 0 ∧ (s.thr t).ctx = some c ∧ (s.ctx c).fast = false ∧ linkEnd (s.thr t).link = false ∧ s.opRoom t
        (descReq (Src.thread t) c (linkNext (s.thr t).link / 64)) = true ∧ s.fld (ctxBase c + 56) 31 16 ≠ if
        s.fld (ctxBase c + 12) 31 16 = 0 then 65535 else s.fld (ctxBase c + 12) 31 16) ∧
    (let s : State := sNextd true 0 [pkt]
     let t : ThreadRef := t0
     let w : W32 := 0xd0600000
     let c : ℕ := 7
     let p : Packet := pkt
     let rest : List Packet := []
     s.Canonical ∧ s.Stands t w ∧ s.Fed t ∧ t.kind = EngKind.stream ∧ opOf w = 52 ∧ fA w = 0 ∧ fB w = 0 ∧ fFn
        w = 0 ∧ (s.thr t).ctx = some c ∧ (s.ctx c).fast = true ∧ (s.thr t).packet = none ∧ (s.ctx c).queue = p
        :: rest) := by
  refine ⟨?_, ?_, ?_⟩ <;> decide +kernel

theorem test_YieldAndDone_applies :
    (let s : State := serving (standing up t0 (wA 0x35 0 0 0 0) []) 7 0
     let t : ThreadRef := t0
     let c : ℕ := 7
     let w : W32 := 0xd4000000
     s.Canonical ∧ s.Fed t ∧ t.kind = EngKind.stream ∧ (s.thr t).ctx = some c ∧ (s.thr t).packet = none ∧ (∀ e
        ∈ s.clasps, e.2.owner ≠ ownerOf t) ∧ s.claspFull = [] ∧ s.Stands t w ∧ opOf w = 53 ∧ bare w = true ∧
        (s.ctx c).fast = false ∧ s.yieldReady t = true) ∧
    (let s : State := serving (waits up t0 .yieldFence) 7 0
     let t : ThreadRef := t0
     let c : ℕ := 7
     s.Canonical ∧ s.Fed t ∧ t.kind = EngKind.stream ∧ (s.thr t).ctx = some c ∧ (s.thr t).packet = none ∧ (∀ e
        ∈ s.clasps, e.2.owner ≠ ownerOf t) ∧ s.claspFull = [] ∧ s.Waits t Wait.yieldFence ∧ s.yieldReady t =
        true) ∧
    (let s : State := serving (standing up t0 (wA 0x36 0 0 0 0) []) 7 0
     let t : ThreadRef := t0
     let c : ℕ := 7
     let w : W32 := 0xd8000000
     s.Canonical ∧ s.Fed t ∧ t.kind = EngKind.stream ∧ (s.thr t).ctx = some c ∧ (s.thr t).packet = none ∧ (∀ e
        ∈ s.clasps, e.2.owner ≠ ownerOf t) ∧ s.claspFull = [] ∧ s.Stands t w ∧ opOf w = 54 ∧ bare w = true ∧
        s.fenceHolds t 1 = true ∧ s.reports (s.ctx c).cluster < 32) ∧
    (let s : State := serving (waits up t0 .doneFence) 7 0
     let t : ThreadRef := t0
     let c : ℕ := 7
     s.Canonical ∧ s.Fed t ∧ t.kind = EngKind.stream ∧ (s.thr t).ctx = some c ∧ (s.thr t).packet = none ∧ (∀ e
        ∈ s.clasps, e.2.owner ≠ ownerOf t) ∧ s.claspFull = [] ∧ s.Waits t Wait.doneFence ∧ s.fenceHolds t 1 =
        true ∧ s.reports (s.ctx c).cluster < 32) := by
  refine ⟨?_, ?_, ?_, ?_⟩ <;> decide +kernel

theorem test_Reports_applies :
    (let s : State := (sRep 0 1).setFlag (ctxBase 7 + 8) 30 true
     let c : ℕ := 7
     let o : ℕ := 1
     s.Canonical ∧ s.running = true ∧ (s.ctx c).outcome = some o ∧ o < 4 ∧ (s.ctx c).cause < 256 ∧ (s.ctx
        c).rep = 0 ∧ s.runFenced c = true ∧ s.reports (s.ctx c).cluster < 32 ∧ s.flag (ctxBase c + 8) 30 =
        true ∧ s.mayEnter (s.recordReq c) = true) ∧
    (let s : State := sRep 1 1
     let c : ℕ := 7
     let o : ℕ := 1
     s.Canonical ∧ s.running = true ∧ (s.ctx c).outcome = some o ∧ o < 4 ∧ (s.ctx c).cause < 256 ∧ (s.ctx
        c).rep = 1 ∧ (s.ctx c).pulses = [] ∧ s.recordAdmitted c = true ∧ s.flag (ctxBase c + 8) 29 = false ∧
        s.flag (ctxBase c + 8) 28 = false ∧ (o ≠ 1 ∨ s.tailGen c = s.seenGen c)) := by
  refine ⟨?_, ?_⟩ <;> decide +kernel

theorem test_LocketAndSeedMap_LocketCommands_applies :
    (let s : State := up
     let p : Port := .cfg
     let v : W32 := 0
     s.Canonical ∧ s.PortOpen p 28684 ∧ bitOf v 1 = false) ∧
    (let s : State := up
     let p : Port := .cfg
     let v : W32 := 0
     s.Canonical ∧ s.PortOpen p 28684 ∧ bitOf v 0 = false) ∧
    (let s : State := up
     s.running = true) := by
  refine ⟨?_, ?_, ?_⟩ <;> decide +kernel

theorem test_LocketAndSeedMap_SeedCommands_applies :
    (let s : State := { seeded with plots := [(5, true)] }
     let plot : BitVec 21 := 5
     s.Canonical ∧ s.PortOpen Port.cfg seedCmd ∧ s.plotRefused plot.toNat = false ∧ s.plotBit plot.toNat =
        true ∧ (Tab.wf (fun x => false) s.plots = true)) ∧
    (let s : State := { seeded with trimming := some 5, cfgBusy := .trim }
     let plot : ℕ := 5
     s.running = true ∧ s.trimming = some plot ∧ s.cfgBusy = PortBusy.trim ∧ s.cfgQueue = [] ∧ s.dbgQueue = []) ∧
    (let s : State := { seeded with plots := [(5, true)] }
     let p : Port := .cfg
     let plot : BitVec 21 := 6
     s.Canonical ∧ s.PortOpen p seedCmd ∧ s.plotRefused plot.toNat = false ∧ s.plotBit plot.toNat = false ∧
        s.freeSlots ≠ []) := by
  refine ⟨?_, ?_, ?_⟩ <;> decide +kernel

theorem test_LocketAndSeedMap_SeedFilling_applies :
    (let s : State := sprouting ⟨5, 0, 0, []⟩
     let i : ℕ := 2
     let p : Sprout := ⟨5, 0, 0, []⟩
     let q : Place := (s.place (plotLine 5 0)).getD place0
     s.running = true ∧ i < 4 ∧ s.fillTurn = i ∧ s.sprout i = some p ∧ p.next < 16384 ∧ p.fly.length < 16 ∧
        s.ewt = [] ∧ s.place (plotLine p.plot p.next) = some q ∧ s.scReady q.sc = true) ∧
    (let s : State := { sprouting ⟨5, 2, 3, []⟩ with ewt := [plotLine 5 2] }
     let i : ℕ := 2
     let p : Sprout := ⟨5, 2, 3, []⟩
     s.running = true ∧ s.sprout i = some p ∧ p.fp + 1 < 16384 ∧ p.fly.contains p.fp = false ∧ (s.ewt.contains
        (plotLine p.plot p.fp) = true ∨ s.place (plotLine p.plot p.fp) = none) ∧ s.trks = []) := by
  refine ⟨?_, ?_⟩ <;> decide +kernel

theorem test_BackgroundWalks_ScrubWalk_applies :
    (let s : State := scrubbing 5 8
     let n : ℕ := 5
     s.Canonical ∧ s.flag scrubCfg 0 = true ∧ s.running = true ∧ s.clustersStopped = false ∧ 0 < s.scrubLines
        ∧ s.scrubBusy = false ∧ s.scrubLine = some n ∧ 64 * (n + 1) < 2 ^ 46 ∧ n + 1 < s.scrubN) ∧
    (let s : State := scrubbing 7 8
     let n : ℕ := 7
     s.Canonical ∧ s.flag scrubCfg 0 = true ∧ s.running = true ∧ s.clustersStopped = false ∧ 0 < s.scrubLines
        ∧ s.scrubBusy = false ∧ s.scrubLine = some n ∧ 64 * (n + 1) < 2 ^ 46 ∧ s.scrubN ≤ n + 1) := by
  refine ⟨?_, ?_⟩ <;> decide +kernel

theorem test_BackgroundWalks_MigrationControl_applies :
    (let s : State := migrating.setFlag migStatus 0 false
     let p : Port := .cfg
     s.Canonical ∧ s.PortOpen p migCtrl ∧ s.mayMigrate = true) ∧
    (let s : State := up
     let p : Port := .cfg
     s.Canonical ∧ s.PortOpen p migCtrl ∧ s.mayMigrate = false) ∧
    (let s : State := migrating.setFlag migStatus 0 false
     let p : Port := .cfg
     let v : W32 := 0
     s.Canonical ∧ s.PortOpen p migCtrl ∧ bitOf v 0 = false) ∧
    (let s : State := migrating.setFlag migStatus 0 false
     let p : Port := .cfg
     let v : W32 := 0
     s.Canonical ∧ s.PortOpen p migCtrl ∧ bitOf v 0 = false) := by
  refine ⟨?_, ?_, ?_, ?_⟩ <;> decide +kernel

theorem test_BackgroundWalks_MigrationSteps_applies :
    (let s : State := migrating
     s.Canonical ∧ s.flag migStatus 0 = true ∧ s.migPaused = false ∧ s.running = true ∧ 64 * s.moverLine <
        s.migLimit ∧ s.moverSkip s.moverLine = none ∧ s.sprouting (plotOf s.moverLine) = false ∧ s.moverWaits
        s.moverLine = none ∧ s.moves.length ≤ s.fld migCtrl 11 8 ∧ s.mayEnter (Req.mk0 Src.block ReqKind.move
        s.moverLine) = true) ∧
    (let s : State := { migrating with moves := [⟨3, 4, 0, 0, false⟩] }
     let m : Move := ⟨3, 4, 0, 0, false⟩
     let rest : List Move := []
     s.Canonical ∧ s.running = true ∧ s.moves = m :: rest ∧ m.phase = 4 ∧ s.HomeClear ∧ 64 * (m.line + 1) <
        max (s.gen genCur).limit (s.gen genNext).limit ∧ 64 * (m.line + 1) < 2 ^ 46) := by
  refine ⟨?_, ?_⟩ <;> decide +kernel

theorem test_CharmEvents_applies :
    (let s : State := up
     let ch : ℕ := 0
     s.running = true ∧ ch < 64 ∧ BitVec.toNat s.tbase % (100 * s.chWindow ch) = 0) ∧
    (let s : State := up.setFlag 0x3008 2 true
     s.Canonical ∧ s.running = true ∧ s.flag 12296 2 = true) ∧
    (let s : State := up
     let ch : ℕ := 0
     s.Canonical ∧ s.running = true ∧ s.fld 12328 15 0 ≠ 0 ∧ ch < 64) := by
  refine ⟨?_, ?_, ?_⟩ <;> decide +kernel

theorem test_TrellisControl_applies :
    (let s : State := trellis false
     let p : Port := .cfg
     let v : W32 := 0
     let quiet := bitOf v 3 = false ∧ bitsOf v 4 4 = s.fld 12352 4 4
     let bank := s.fld 12352 4 4
     s.Canonical ∧ s.PortOpen p 12352 ∧ quiet ∧ bitOf v 1 = false ∧ s.trEn = false ∧ s.trLen bank ≠ 0) ∧
    (let s : State := trellis true
     let p : Port := .cfg
     let v : W32 := 0
     let quiet := bitOf v 3 = false ∧ bitsOf v 4 4 = s.fld 12352 4 4
     s.Canonical ∧ s.PortOpen p 12352 ∧ quiet ∧ bitOf v 1 = false ∧ s.trEn = true) ∧
    (let s : State := trellis true
     let p : Port := .cfg
     let v : W32 := 1
     let quiet := bitOf v 3 = false ∧ bitsOf v 4 4 = s.fld 12352 4 4
     let keep := quiet ∧ bitOf v 0 = s.trEn
     s.Canonical ∧ s.PortOpen p 12352 ∧ keep ∧ bitOf v 2 = false ∧ s.trEn = true ∧ s.trPending = false ∧
        s.trLen (1 - s.trActive) ≠ 0) ∧
    (let s : State := trellis false
     let p : Port := .cfg
     let v : W32 := 0
     let quiet := bitOf v 3 = false ∧ bitsOf v 4 4 = s.fld 12352 4 4
     let keep := quiet ∧ bitOf v 0 = s.trEn
     s.Canonical ∧ s.PortOpen p 12352 ∧ keep ∧ bitOf v 2 = false ∧ s.trEn = false) ∧
    (let s : State := (trellis true).setFlag 0x3040 9 true
     let p : Port := .cfg
     let v : W32 := 1
     let quiet := bitOf v 3 = false ∧ bitsOf v 4 4 = s.fld 12352 4 4
     let keep := quiet ∧ bitOf v 0 = s.trEn
     s.Canonical ∧ s.PortOpen p 12352 ∧ keep ∧ bitOf v 1 = false ∧ s.trPending = true) ∧
    (let s : State := trellis true
     let p : Port := .cfg
     s.Canonical ∧ s.PortOpen p 12352 ∧ s.trEn = true ∧ s.trPending = false ∧ s.trActive < 2) := by
  refine ⟨?_, ?_, ?_, ?_, ?_, ?_⟩ <;> decide +kernel

theorem test_PortTransfers_applies :
    (let s : State := ported
     let n : ℕ := 3
     let w : BitVec 128 := 0x00000000000000000000000500090001
     s.Canonical ∧ s.PortTakes n ∧ rqKind w = 1 ∧ rqBad w = false ∧ s.mayEnter (Req.mk0 (Src.port n)
        ReqKind.rd (rqLine w)) = true ∧ (s.sp n).held = [] ∧ 0 < (s.sp n).reqCr) ∧
    (let s : State := port3 { ported.sp 3 with beats := [⟨goodBeat 77, cfgW, true⟩] }
     let n : ℕ := 3
     let w : BitVec 128 := 0x00000000000000000000000500000002
     let b : Beat := goodBeat 77
     let x : HeldBeat := ⟨goodBeat 77, cfgW, true⟩
     let good := rqKind w = 2 ∧ rqBad w = false ∧ rqStash w = false ∧ bitsOf b.attr 7 2 = 0 ∧ (bitOf b.attr 0
        = true → b.hm = hallmark b.data)
     s.Canonical ∧ s.PortTakes n ∧ x.beat = b ∧ good ∧ s.mayEnter (Req.mk0 (Src.port n) ReqKind.wr (rqLine w))
        = true ∧ (s.sp n).held = [] ∧ (s.sp n).beats = [x] ∧ 0 < (s.sp n).reqCr) ∧
    (let s : State := port3 { ported.sp 3 with held := [⟨rq 2 0 5 0 0 0, cfgW, true, 1, stamp0⟩] }
     let n : ℕ := 3
     let w : BitVec 128 := 0x00000000000000000000000500000002
     let b : Beat := goodBeat 77
     let e : HeldReq := ⟨rq 2 0 5 0 0 0, cfgW, true, 1, stamp0⟩
     let good := rqKind w = 2 ∧ rqBad w = false ∧ rqStash w = false ∧ bitsOf b.attr 7 2 = 0 ∧ (bitOf b.attr 0
        = true → b.hm = hallmark b.data)
     s.Canonical ∧ s.PortTakes n ∧ e.word = w ∧ good ∧ s.mayEnter (Req.mk0 (Src.port n) ReqKind.wr (rqLine w))
        = true ∧ (s.sp n).held = [e] ∧ (s.sp n).beats = [] ∧ 0 < (s.sp n).wdCr) ∧
    (let s : State := ported
     let n : ℕ := 3
     let w : BitVec 128 := 0x00000000010000000000000500090001
     s.Canonical ∧ s.PortTakes n ∧ rqKind w = 1 ∧ rqBad w = true ∧ (s.sp n).held = [] ∧ 0 < (s.sp n).reqCr ∧
        (s.sp n).rsps = [] ∧ 0 < (s.sp n).rdCr) := by
  refine ⟨?_, ?_, ?_, ?_⟩ <;> decide +kernel

theorem test_PortControl_Flushes_applies :
    (let s : State := ported
     let n : ℕ := 3
     let w : BitVec 128 := 0x00000000000000000000000000090003
     s.Canonical ∧ s.PortTakes n ∧ rqKind w = 3 ∧ rqBad w = false ∧ (s.sp n).held = [] ∧ 0 < (s.sp n).reqCr ∧
        (s.sp n).flushes.length < 4) ∧
    (let s : State := port3 { ported.sp 3 with flushes := [⟨9, [4], false⟩] }
     let n : ℕ := 3
     let k : ℕ := 0
     let f : FlushWait := ⟨9, [4], false⟩
     s.Canonical ∧ s.PortTakes n ∧ (s.sp n).flushes[k]? = some f ∧ f.dead = false ∧ (∀ i ∈ s.openWrites n, i ∉
        f.ids) ∧ (s.sp n).held = [] ∧ (s.sp n).rsps = [] ∧ 0 < (s.sp n).rdCr) := by
  refine ⟨?_, ?_⟩ <;> decide +kernel

theorem test_PortCommands_applies :
    (let s : State := ported
     let n : ℕ := 3
     let w : BitVec 128 := 0x00000030070000000000000000090004
     let i : Instr := (Sys2Proof.Instr.kick (Sys2Proof.CmdSrc.port 3 0x00000030070000000000000000090004#128))
     let c := rqCtx w
     s.Canonical ∧ s.PortTakes n ∧ rqKind w = 4 ∧ rqBad w = false ∧ (s.sp n).held = [] ∧ 0 < (s.sp n).reqCr ∧
        (s.sp n).rsps = [] ∧ 0 < (s.sp n).rdCr ∧ rqCtx w < s.variant.contexts ∧ (i, rqCmd w) ∈ [(Instr.kick
        (CmdSrc.port n w), 3), (Instr.abort (CmdSrc.port n w), 4), (Instr.clear (CmdSrc.port n w), 5),
        (Instr.append (AppendSrc.port n w), 6), (Instr.setHead n w, 7)] ∧ (s.mayCommand n c = false ∨ bitOf
        (s.reg (spCfg n)) 2 = false)) ∧
    (let s : State := permitCtx 1
     let n : ℕ := 3
     let w : BitVec 128 := 0x00000070070000000000000500090004
     let i : Instr := (Sys2Proof.Instr.setHead 3 0x00000070070000000000000500090004#128)
     let c := rqCtx w
     s.Canonical ∧ s.PortTakes n ∧ rqKind w = 4 ∧ rqBad w = false ∧ (s.sp n).held = [] ∧ 0 < (s.sp n).reqCr ∧
        (s.sp n).rsps = [] ∧ 0 < (s.sp n).rdCr ∧ rqCtx w < s.variant.contexts ∧ (i, rqCmd w) ∈ [(Instr.kick
        (CmdSrc.port n w), 3), (Instr.abort (CmdSrc.port n w), 4), (Instr.clear (CmdSrc.port n w), 5),
        (Instr.append (AppendSrc.port n w), 6), (Instr.setHead n w, 7)] ∧ s.mayCommand n c = true ∧ bitOf
        (s.reg (spCfg n)) 2 = true ∧ i = Instr.setHead n w) ∧
    (let s : State := permitCtx 5
     let n : ℕ := 3
     let w : BitVec 128 := 0x00000050070000000000000000090004
     let i : Instr := (Sys2Proof.Instr.clear (Sys2Proof.CmdSrc.port 3 0x00000050070000000000000000090004#128))
     let c := rqCtx w
     s.Canonical ∧ s.PortTakes n ∧ rqKind w = 4 ∧ rqBad w = false ∧ (s.sp n).held = [] ∧ 0 < (s.sp n).reqCr ∧
        (s.sp n).rsps = [] ∧ 0 < (s.sp n).rdCr ∧ rqCtx w < s.variant.contexts ∧ (i, rqCmd w) ∈ [(Instr.kick
        (CmdSrc.port n w), 3), (Instr.abort (CmdSrc.port n w), 4), (Instr.clear (CmdSrc.port n w), 5),
        (Instr.append (AppendSrc.port n w), 6), (Instr.setHead n w, 7)] ∧ s.mayCommand n c = true ∧ bitOf
        (s.reg (spCfg n)) 2 = true ∧ i = Instr.clear (CmdSrc.port n w) ∧ s.ctxState c = 5) ∧
    (let s : State := permitCtx 2
     let n : ℕ := 3
     let w : BitVec 128 := 0x00000030070000000000000000090004
     let i : Instr := (Sys2Proof.Instr.kick (Sys2Proof.CmdSrc.port 3 0x00000030070000000000000000090004#128))
     let c := rqCtx w
     s.Canonical ∧ s.PortTakes n ∧ rqKind w = 4 ∧ rqBad w = false ∧ (s.sp n).held = [] ∧ 0 < (s.sp n).reqCr ∧
        (s.sp n).rsps = [] ∧ 0 < (s.sp n).rdCr ∧ rqCtx w < s.variant.contexts ∧ (i, rqCmd w) ∈ [(Instr.kick
        (CmdSrc.port n w), 3), (Instr.abort (CmdSrc.port n w), 4), (Instr.clear (CmdSrc.port n w), 5),
        (Instr.append (AppendSrc.port n w), 6), (Instr.setHead n w, 7)] ∧ s.mayCommand n c = true ∧ bitOf
        (s.reg (spCfg n)) 2 = true ∧ i = Instr.kick (CmdSrc.port n w) ∧ s.ctxState c ≠ 1) ∧
    (let s : State := permitCtx 2
     let n : ℕ := 3
     let w : BitVec 128 := 0x00000b60070000000000000500090004
     let i : Instr := (Sys2Proof.Instr.append (Sys2Proof.AppendSrc.port 3
        0x00000b60070000000000000500090004#128))
     let c := rqCtx w
     s.Canonical ∧ s.PortTakes n ∧ rqKind w = 4 ∧ rqBad w = false ∧ (s.sp n).held = [] ∧ 0 < (s.sp n).reqCr ∧
        (s.sp n).rsps = [] ∧ 0 < (s.sp n).rdCr ∧ rqCtx w < s.variant.contexts ∧ (i, rqCmd w) ∈ [(Instr.kick
        (CmdSrc.port n w), 3), (Instr.abort (CmdSrc.port n w), 4), (Instr.clear (CmdSrc.port n w), 5),
        (Instr.append (AppendSrc.port n w), 6), (Instr.setHead n w, 7)] ∧ s.mayCommand n c = true ∧ bitOf
        (s.reg (spCfg n)) 2 = true ∧ i = Instr.append (AppendSrc.port n w) ∧ s.ctxState c ≠ 1) := by
  refine ⟨?_, ?_, ?_, ?_, ?_⟩ <;> decide +kernel

theorem test_FastPackets_applies :
    (let s : State := (fastCtx 2 []).setSp 3 { ported.sp 3 with beats := [⟨pktBeat 7 4, cfgW, true⟩] }
     let n : ℕ := 3
     let w : BitVec 128 := 5
     let b : Beat := pktBeat 7 4
     let x : HeldBeat := ⟨pktBeat 7 4, cfgW, true⟩
     let d := BitVec.ofNat 256 (BitVec.toNat b.data)
     let c := bitsOf d 11 0
     s.Canonical ∧ s.PortTakes n ∧ rqKind w = 5 ∧ rqBad w = false ∧ (s.sp n).held = [] ∧ 0 < (s.sp n).reqCr ∧
        (s.sp n).beats = [x] ∧ x.beat = b ∧ x.may = true ∧ bitOf (s.reg (spCfg n)) 2 = true ∧ bitsOf b.attr 7
        2 = 0 ∧ BitVec.toNat b.data < 2 ^ 256 ∧ bitsOf d 63 32 = 0 ∧ bitsOf d 15 12 = 0 ∧ c <
        s.variant.contexts ∧ s.fastNow c = true ∧ (s.ctxState c = 2 ∨ s.ctxState c = 4) ∧ s.runEnded c = false
        ∧ (s.ctx c).queue.length < 4 ∧ s.servant c = none) ∧
    (let s : State := (fastCtx 3 []).setSp 3 { ported.sp 3 with beats := [⟨pktBeat 7 4, cfgW, true⟩] }
     let n : ℕ := 3
     let w : BitVec 128 := 5
     let b : Beat := pktBeat 7 4
     let x : HeldBeat := ⟨pktBeat 7 4, cfgW, true⟩
     let d := BitVec.ofNat 256 (BitVec.toNat b.data)
     let c := bitsOf d 11 0
     s.Canonical ∧ s.PortTakes n ∧ rqKind w = 5 ∧ rqBad w = false ∧ (s.sp n).held = [] ∧ 0 < (s.sp n).reqCr ∧
        (s.sp n).beats = [x] ∧ x.beat = b ∧ x.may = true ∧ bitOf (s.reg (spCfg n)) 2 = true ∧ bitsOf b.attr 7
        2 = 0 ∧ BitVec.toNat b.data < 2 ^ 256 ∧ bitsOf d 63 32 = 0 ∧ bitsOf d 15 12 = 0 ∧ c <
        s.variant.contexts ∧ s.fastNow c = true ∧ s.ctxState c ≠ 2 ∧ s.ctxState c ≠ 4 ∧ (s.sp n).rsps = [] ∧ 0
        < (s.sp n).rdCr) ∧
    (let s : State := ported.setCtx 7 { Ctx.init with ending := [(pkt, 0)] }
     let c : ℕ := 7
     let e : Packet × ℕ := (pkt, 0)
     s.Canonical ∧ (List.find? (fun e => !s.owesData e.1) (s.ctx c).ending = some e) ∧ e.1.dead = false ∧
        s.spUp e.1.sp = true ∧ (s.sp e.1.sp).rsps = [] ∧ 0 < (s.sp e.1.sp).rdCr) := by
  refine ⟨?_, ?_, ?_⟩ <;> decide +kernel

theorem test_PortControl_PortLink_applies :
    (let s : State := port3 { SPort.init with link := true }
     let n : ℕ := 0
     s.Canonical ∧ n < s.variant.ports) ∧
    (let s : State := port3 { SPort.init with link := true }
     let n : ℕ := 0
     s.Canonical ∧ n < s.variant.ports) ∧
    (let s : State := port3 { SPort.init with link := true }
     let n : ℕ := 3
     s.Canonical ∧ n < s.variant.ports ∧ (s.sp n).ready = false ∧ s.spUp n = true ∧ s.en (UnitRef.port n) =
        true ∧ s.portsStopped = false ∧ s.ghosts n = false ∧ (s.sp n).held = [] ∧ (s.sp n).beats = []) ∧
    (let s : State := port3 { SPort.init with link := true }
     let n : ℕ := 3
     s.Canonical ∧ n < s.variant.ports ∧ s.en (UnitRef.port n) = true ∧ (s.sp n).ready = false) ∧
    (let s : State := ported
     let n : ℕ := 3
     s.Canonical ∧ n < s.variant.ports ∧ s.spUp n = true ∧ (s.sp n).ready = true ∧ (s.sp n).rdCr < 255 ∧ (s.sp
        n).rsps = []) ∧
    (let s : State := port3 { ported.sp 3 with rdCr := 0, rsps := [⟨1, 9, 0, false, 0, 0, none⟩] }
     let n : ℕ := 3
     let r : SpRsp := ⟨1, 9, 0, false, 0, 0, none⟩
     s.Canonical ∧ n < s.variant.ports ∧ s.spUp n = true ∧ (s.sp n).ready = true ∧ (s.sp n).rdCr = 0 ∧ (s.sp
        n).rsps = [r] ∧ r.kind ≠ 0 ∧ r.stamp = none) := by
  refine ⟨?_, ?_, ?_, ?_, ?_, ?_⟩ <;> decide +kernel

theorem test_VideoOperations_applies :
    (let s : State := sVid 0x2B 0 4 true
     let t : ThreadRef := t0
     let w : W32 := 0xac022000
     let th := s.thr t
     let g := th.getG (mA w)
     let words := s.frameWords (unitRec g)
     let f := Fr.ofWords words
     let ch := unitPlane g == 1
     let unitOk := unitClean g = true ∧ unitPlane g < 2 ∧ unitRec g < s.variant.frames ∧ f.ok ch = true ∧
        unitRow g < f.rows ch ∧ unitCol g < f.cols ∧ mCnt w = f.slot ∧ mLb w + mCnt w ≤ 16
     s.Canonical ∧ s.Stands t w ∧ s.Fed t ∧ t.kind = EngKind.stream ∧ opOf w = 43 ∧ mMode w < 256 ∧ mMode w /
        2 % 8 = 0 ∧ unitOk ∧ f.comp = true ∧ (∀ k < mCnt w, (th.buf (mLb w + k)).touch false = Touch.ok) ∧ (∀
        k < mCnt w, (th.buf (mLb w + k)).hmValid = true → hallmark (th.buf (mLb w + k)).data = (th.buf (mLb w
        + k)).hm)) ∧
    (let s : State := sVid 0x2C 0 4 true
     let t : ThreadRef := t0
     let w : W32 := 0xb0022000
     let th := s.thr t
     let g := th.getG (mA w)
     let words := s.frameWords (unitRec g)
     let f := Fr.ofWords words
     let ch := unitPlane g == 1
     let unitOk := unitClean g = true ∧ unitPlane g < 2 ∧ unitRec g < s.variant.frames ∧ f.ok ch = true ∧
        unitRow g < f.rows ch ∧ unitCol g < f.cols ∧ mCnt w = f.slot ∧ mLb w + mCnt w ≤ 16
     s.Canonical ∧ s.Stands t w ∧ s.Fed t ∧ t.kind = EngKind.stream ∧ opOf w = 44 ∧ mMode w = 0 ∧ unitOk ∧ (∀
        k < mCnt w, (th.buf (mLb w + k)).touch true = Touch.ok)) ∧
    (let s : State := sVid 0x28 0 1 true
     let t : ThreadRef := t0
     let w : W32 := 0xa0020800
     let th := s.thr t
     let g := th.getG (mA w)
     let words := s.frameWords (unitRec g)
     let f := Fr.ofWords words
     let h := th.getG (mA w + 1)
     let x := signed 16 (bitsOf g 31 16)
     let y := signed 16 (bitsOf g 47 32)
     let width := bitsOf h 7 0 + 1
     let height := bitsOf h 15 8 + 1
     let layout := mMode w / 4 % 4
     let us := blkUnits f (unitPlane g) width height x y (if f.comp = true then 0 else 1)
     s.Canonical ∧ s.Stands t w ∧ s.Fed t ∧ t.kind = EngKind.stream ∧ opOf w = 40 ∧ mMode w < 16 ∧ layout < 2
        ∧ mA w ≠ 31 ∧ unitClean g = true ∧ unitPlane g ≠ 3 ∧ width ≤ 128 ∧ height ≤ 128 ∧ bitsOf h 63 16 = 0 ∧
        unitRec g < s.variant.frames ∧ f.ok (unitPlane g != 0) = true ∧ us ≠ [] ∧ mMode w % 4 = 0 ∧ width *
        height * container f layout ≤ mCnt w * 64 ∧ mLb w + mCnt w ≤ 16 ∧ (∀ k < mCnt w, (th.buf (mLb w +
        k)).touch true = Touch.ok)) ∧
    (let s : State := (sVid 0x28 1 0 true).setThr t0 { (sVid 0x28 1 0 true).thr t0 with packet := some pkt }
     let t : ThreadRef := t0
     let w : W32 := 0xa0020001
     let p : Packet := pkt
     let th := s.thr t
     let g := th.getG (mA w)
     let words := s.frameWords (unitRec g)
     let f := Fr.ofWords words
     let h := th.getG (mA w + 1)
     let x := signed 16 (bitsOf g 31 16)
     let y := signed 16 (bitsOf g 47 32)
     let width := bitsOf h 7 0 + 1
     let height := bitsOf h 15 8 + 1
     let layout := mMode w / 4 % 4
     let us := blkUnits f (unitPlane g) width height x y (if f.comp = true then 0 else 1)
     s.Canonical ∧ s.Stands t w ∧ s.Fed t ∧ t.kind = EngKind.stream ∧ opOf w = 40 ∧ mMode w < 16 ∧ layout < 2
        ∧ mA w ≠ 31 ∧ unitClean g = true ∧ unitPlane g ≠ 3 ∧ width ≤ 128 ∧ height ≤ 128 ∧ bitsOf h 63 16 = 0 ∧
        unitRec g < s.variant.frames ∧ f.ok (unitPlane g != 0) = true ∧ us ≠ [] ∧ mMode w % 4 = 1 ∧ mLb w = 0
        ∧ bitsOf w 16 11 = 0 ∧ th.packet = some p) := by
  refine ⟨?_, ?_, ?_, ?_⟩ <;> decide +kernel

theorem test_ReturnedLinesAndPipes_LineArrives_applies :
    (let s : State := { serving (standing up t0 0 []) 7 0 with arrivals := [arr (.buf t0 15) (.thread t0) 5] }
     let t : ThreadRef := t0
     let k : ℕ := 0
     let i : ℕ := 15
     let a : Arrival := arr (.buf t0 15) (.thread t0) 5
     s.Canonical ∧ s.running = true ∧ ((List.filter       (fun x =>         x.src == Src.thread t &&
        match x.dest with           | Dest.desc ctx => false           | x => true)       s.arrivals)[k]? =
        some a) ∧ a.dest = Dest.buf t i ∧ a.tmo = false ∧ (a.status = 0 → hallmark a.data = a.hm)) := by
  decide +kernel

theorem test_ReturnedLinesAndPipes_PipeJobs_applies :
    (let s : State := sPipe (.pack false (List.replicate 4 5) false) [unit2 2] true
     let cl : ℕ := 0
     let k : ℕ := 0
     let j : Job := job0 (.pack false (List.replicate 4 5) false) (framed (waits up t0 (.pipe 5)) true) [unit2
        2]
     let force : Bool := false
     let input : List Line := List.replicate 4 5
     let bad : Bool := false
     let u := j.units.headD (unitOf 0 false 3 0)
     let r := packUnit j.fr u.chroma force bad (linesNum input)
     let line := j.fr.slotLine u.chroma u.row u.col
     s.Canonical ∧ s.running = true ∧ (∀ x ∈ s.jobs, x.cl = cl → x.kind.afterPipe = false → x.want = []) ∧
        (s.pipeWork cl)[k]? = some (Work.pack j) ∧ j.kind = JobKind.pack force input bad ∧ s.outstanding j.t +
        r.2.length ≤ 32 ∧ s.pool.length + r.2.length ≤ 512 ∧ (∀ i < r.2.length, s.mayEnter (Req.mk0
        (Src.thread j.t) ReqKind.wr (line + i)) = true)) ∧
    (let s : State := sPipe (.packHeader 9) [unit2 2] true
     let cl : ℕ := 0
     let k : ℕ := 0
     let j : Job := job0 (.packHeader 9) (framed (waits up t0 (.pipe 5)) true) [unit2 2]
     let entry : W64 := 9
     let u := j.units.headD (unitOf 0 false 3 0)
     let idx := j.fr.hdrIdx u.row u.col
     s.Canonical ∧ s.running = true ∧ (∀ x ∈ s.jobs, x.cl = cl → x.kind.afterPipe = false → x.want = []) ∧
        (s.pipeWork cl)[k]? = some (Work.pack j) ∧ j.kind = JobKind.packHeader entry ∧ ((s.admitted fun r =>
        j.want.contains r.id) = true) ∧ s.opRoom j.t (Req.mk0 (Src.thread j.t) (ReqKind.merge (8 * idx) 8)
        (j.fr.hdrLine u.chroma u.row u.col)) = true) ∧
    (let s : State := sPipe .unpk [unit2 2] false
     let cl : ℕ := 0
     let k : ℕ := 0
     let j : Job := job0 .unpk (framed (waits up t0 (.pipe 5)) false) [unit2 2]
     let u : Machine.PUnit := unit2 2
     let str := linesNum (List.map j.lineOf (sectorsOf j.fr u))
     let r := if j.fr.comp = true then expand j.fr u.chroma u.entry str else (rawSamples j.fr.d (j.fr.samples
        u.chroma) str, false)
     s.Canonical ∧ s.running = true ∧ (∀ x ∈ s.jobs, x.cl = cl → x.kind.afterPipe = false → x.want = []) ∧
        (s.pipeWork cl)[k]? = some (Work.unit j 0) ∧ j.kind = JobKind.unpk ∧ j.units = [u] ∧ j.want = [] ∧
        j.got.length = j.sent ∧ j.err = 0 ∧ r.2 = false) := by
  refine ⟨?_, ?_, ?_⟩ <;> decide +kernel

theorem test_SequencerWaits_applies :
    (let s : State := seq 0x3A 0 1 0 0 [(1, 5)]
     let t : ThreadRef := q0
     let w : W32 := 0xe8010000
     let x := (s.thr t).getG (fA w)
     let ready := s.reportsReady t.unit
     s.Canonical ∧ s.Stands t w ∧ s.Fed t ∧ t.kind = EngKind.seq ∧ opOf w = 58 ∧ fD w = 0 ∧ fB w = 0 ∧ fFn w <
        8 ∧ fFn w % 4 < 2 ∧ bitsOf x 63 29 = 0 ∧ (fFn w < 4 ∨ ready = false)) ∧
    (let s : State := seq 0x3B 0 1 2 0 [(1, 255)]
     let t : ThreadRef := q0
     let w : W32 := 0xec011000
     s.Canonical ∧ s.Stands t w ∧ s.Fed t ∧ t.kind = EngKind.seq ∧ opOf w = 59 ∧ fD w = 0 ∧ fFn w < 128 ∧ fFn
        w % 4 < 2 ∧ (fFn w / 8 < 10 ∨ fFn w / 8 = 15)) ∧
    (let s : State := seq 0x3C 3 1 0 5 []
     let t : ThreadRef := q0
     let w : W32 := 0xf0610005
     s.Canonical ∧ s.Stands t w ∧ s.Fed t ∧ t.kind = EngKind.seq ∧ opOf w = 60 ∧ fB w = 0 ∧ fFn w < 8 ∧ fFn w
        % 4 < 2) ∧
    (let s : State := seq 0x3E 0 1 2 0 [(1, 0xF0)]
     let t : ThreadRef := q0
     let w : W32 := 0xf8011000
     let x := (s.thr t).getG (fA w)
     s.Canonical ∧ s.Stands t w ∧ s.Fed t ∧ t.kind = EngKind.seq ∧ opOf w = 62 ∧ fFn w = 0 ∧ fD w = 0 ∧ tgKnob
        x = 240 ∧ bitsOf x 63 17 = 0 ∧ (s.chan t.unit).blocked = false) ∧
    (let s : State := seq 0x3E 3 1 2 1 [(1, 9)]
     let t : ThreadRef := q0
     let w : W32 := 0xf8611001
     let x := (s.thr t).getG (fA w)
     let y := (s.thr t).getG (fB w)
     let ready := s.reportsReady t.unit
     s.Canonical ∧ s.Stands t w ∧ s.Fed t ∧ t.kind = EngKind.seq ∧ opOf w = 62 ∧ fFn w % 8 = 1 ∧ fFn w / 8 < 7
        ∧ s.targetBad t.unit x = false ∧ bitsOf y 63 30 = 0 ∧ bitsOf y 15 0 ≤ knobMax (tgKnob x) ∧ (ready =
        false ∨ 5 ≤ tgKnob x ∧ tgKnob x ≤ 9 ∧ (fFn w / 8 = 3 ∨ fFn w / 8 = 4))) ∧
    (let s : State := standing up q0 (wI 0x3D 0 0 0x8005) []
     let t : ThreadRef := q0
     let w : W32 := 0xf4008005
     s.Canonical ∧ s.Stands t w ∧ s.Fed t ∧ t.kind = EngKind.seq ∧ opOf w = 61 ∧ fD w = 0 ∧ fA w = 0 ∧ (2 ^ 15
        ≤ fImm w ∨ fImm w % 256 ≤ 26)) ∧
    (let s : State := waits up q0 (.twait 9)
     let t : ThreadRef := q0
     let ck : ℕ := 9
     s.Canonical ∧ s.Waits t (Wait.twait ck)) := by
  refine ⟨?_, ?_, ?_, ?_, ?_, ?_, ?_⟩ <;> decide +kernel

theorem test_Knobs_applies :
    (let s : State := seq 0x3E 0 1 2 4 [(1, 9), (2, 3)]
     let t : ThreadRef := q0
     let w : W32 := 0xf8011004
     let x := (s.thr t).getG (fA w)
     let y := (s.thr t).getG (fB w)
     let sc := t.unit
     s.Canonical ∧ s.Stands t w ∧ s.Fed t ∧ t.kind = EngKind.seq ∧ opOf w = 62 ∧ fFn w % 4 = 0 ∧ fFn w < 8 ∧
        fD w = 0 ∧ controlKnob (tgKnob x) = false ∧ s.targetBad sc x = false ∧ BitVec.toNat y ≤ knobMax
        (tgKnob x) ∧ (fFn w = 0 ∨ s.reportsReady sc = false)) ∧
    (let s : State := seq 0x3E 3 1 0 2 [(1, 0x0FF3)]
     let t : ThreadRef := q0
     let w : W32 := 0xf8610002
     s.Canonical ∧ s.Stands t w ∧ s.Fed t ∧ t.kind = EngKind.seq ∧ opOf w = 62 ∧ fFn w = 2 ∧ fB w = 0) ∧
    (let s : State := seq 0x3E 0 1 2 0 [(1, 0xF1)]
     let t : ThreadRef := q0
     let w : W32 := 0xf8011000
     let x := (s.thr t).getG (fA w)
     s.Canonical ∧ s.Stands t w ∧ s.Fed t ∧ t.kind = EngKind.seq ∧ opOf w = 62 ∧ (fFn w = 0 ∧ fD w = 0 ∧
        tgKnob x = 241 ∧ bitsOf x 63 17 = 0)) ∧
    (let s : State := seq 0x3E 0 1 2 0 [(1, 0xF2)]
     let t : ThreadRef := q0
     let w : W32 := 0xf8011000
     let x := (s.thr t).getG (fA w)
     let y := (s.thr t).getG (fB w)
     s.Canonical ∧ s.Stands t w ∧ s.Fed t ∧ t.kind = EngKind.seq ∧ opOf w = 62 ∧ (fFn w = 0 ∧ fD w = 0 ∧
        tgKnob x = 242 ∧ bitsOf x 63 17 = 0) ∧ y = 0) ∧
    (let s : State := seq 0x3E 0 1 2 0 [(1, 0xF2), (2, 0x3F)]
     let t : ThreadRef := q0
     let w : W32 := 0xf8011000
     let x := (s.thr t).getG (fA w)
     let y := (s.thr t).getG (fB w)
     let sc := t.unit
     s.Canonical ∧ s.Stands t w ∧ s.Fed t ∧ t.kind = EngKind.seq ∧ opOf w = 62 ∧ (fFn w = 0 ∧ fD w = 0 ∧
        tgKnob x = 242 ∧ bitsOf x 63 17 = 0) ∧ 0 < BitVec.toNat y ∧ BitVec.toNat y < 64 ∧ s.Mild
        (FaultRef.chan sc) 6 ∧ s.Mild (FaultRef.chan sc) 8) ∧
    (let s : State := (seq 0x3E 0 1 2 0 [(1, 0xF3), (2, 1)]).setFlag (unitCtrl (.chan 0)) 0 true
     let t : ThreadRef := q0
     let w : W32 := 0xf8011000
     let x := (s.thr t).getG (fA w)
     let y := (s.thr t).getG (fB w)
     let sc := t.unit
     let c := s.chan sc
     s.Canonical ∧ s.Stands t w ∧ s.Fed t ∧ t.kind = EngKind.seq ∧ opOf w = 62 ∧ (fFn w = 0 ∧ fD w = 0 ∧
        tgKnob x = 243 ∧ bitsOf x 63 17 = 0) ∧ y = 1 ∧ s.en (UnitRef.chan sc) = true ∧ c.ready = false ∧
        c.blocked = false ∧ c.clearing = false ∧ c.isolated = false) ∧
    (let s : State := seq 0x3E 0 1 2 0 [(1, 0xF3)]
     let t : ThreadRef := q0
     let w : W32 := 0xf8011000
     let x := (s.thr t).getG (fA w)
     let y := (s.thr t).getG (fB w)
     let sc := t.unit
     s.Canonical ∧ s.Stands t w ∧ s.Fed t ∧ t.kind = EngKind.seq ∧ opOf w = 62 ∧ (fFn w = 0 ∧ fD w = 0 ∧
        tgKnob x = 243 ∧ bitsOf x 63 17 = 0) ∧ y = 0 ∧ s.disabled (UnitRef.chan sc) = true) ∧
    (let s : State := (readySeq (seq 0x3E 0 1 2 0 [(1, 0xF4), (2, 1)])).setReg (scDecode 0) 1
     let t : ThreadRef := q0
     let w : W32 := 0xf8011000
     let x := (s.thr t).getG (fA w)
     let y := (s.thr t).getG (fB w)
     let sc := t.unit
     let c := s.chan sc
     s.Canonical ∧ s.Stands t w ∧ s.Fed t ∧ t.kind = EngKind.seq ∧ opOf w = 62 ∧ (fFn w = 0 ∧ fD w = 0 ∧
        tgKnob x = 244 ∧ bitsOf x 63 17 = 0) ∧ y = 1 ∧ s.reportsReady sc = true ∧ s.twoRanks sc = false ∧
        c.spare = 0) ∧
    (let s : State := ((seq 0x3E 0 1 2 0 [(1, 0xF5), (2, 1)]).setFlag (unitCtrl (.chan 0)) 0 true).setReg
        (scDecode 0) 1
     let t : ThreadRef := q0
     let w : W32 := 0xf8011000
     let x := (s.thr t).getG (fA w)
     let y := (s.thr t).getG (fB w)
     let sc := t.unit
     let c := s.chan sc
     s.Canonical ∧ s.Stands t w ∧ s.Fed t ∧ t.kind = EngKind.seq ∧ opOf w = 62 ∧ (fFn w = 0 ∧ fD w = 0 ∧
        tgKnob x = 245 ∧ bitsOf x 63 17 = 0) ∧ y = 1 ∧ s.en (UnitRef.chan sc) = true ∧ c.ready = false ∧
        s.populated sc = true) := by
  refine ⟨?_, ?_, ?_, ?_, ?_, ?_, ?_, ?_, ?_⟩ <;> decide +kernel

theorem test_MaintenanceGrants_applies :
    (let s : State := maintOf up (.dcmd 5 0 true) false
     let sc : ℕ := 0
     let t : ThreadRef := q0
     let bits : BitVec 29 := 5
     let cs : ℕ := 0
     let raw : Bool := true
     let rest : List Maint := []
     let c := s.chan sc
     s.Canonical ∧ s.MaintHas sc ∧ c.maint = Maint.mk t (MaintCmd.dcmd bits cs raw) false :: rest ∧ (c.rank
        cs).powerDown = false ∧ (raw = true ∨ c.caIllegal cs (caDecode bits) = false)) ∧
    (let s : State := maintOf up (.mrw 255 7 0 false 15) false
     let sc : ℕ := 0
     let t : ThreadRef := q0
     let a : ℕ := 255
     let v : ℕ := 7
     let cs : ℕ := 0
     let dev : ℕ := 15
     let rest : List Maint := []
     let c := s.chan sc
     s.Canonical ∧ s.MaintHas sc ∧ c.maint = Maint.mk t (MaintCmd.mrw a v cs false dev) false :: rest ∧
        (c.rank cs).powerDown = false) ∧
    (let s : State := maintOf up (.mrr 3 7 1 true) false
     let sc : ℕ := 0
     let t : ThreadRef := q0
     let d : ℕ := 3
     let a : ℕ := 7
     let cs : ℕ := 1
     let high : Bool := true
     let rest : List Maint := []
     let c := s.chan sc
     s.Canonical ∧ s.MaintHas sc ∧ c.maint = Maint.mk t (MaintCmd.mrr d a cs high) false :: rest ∧ (c.rank
        cs).powerDown = false) ∧
    (let s : State := maintOf up (.commit 1) false
     let sc : ℕ := 0
     let t : ThreadRef := q0
     let r : ℕ := 1
     let rest : List Maint := []
     let c := s.chan sc
     s.Canonical ∧ s.MaintHas sc ∧ c.maint = Maint.mk t (MaintCmd.commit r) false :: rest) ∧
    (let s : State := ((maintOf up (.commit 1) false).updChan 0 fun c => { c with maint := [], clearing :=
        true }).setReg (scDecode 0) 1
     let sc : ℕ := 0
     let c := s.chan sc
     s.Canonical ∧ s.MaintHas sc ∧ c.maint = [] ∧ c.clearing = true ∧ c.clearPtr < s.clearLines sc) ∧
    (let s : State := maintOf up (.sweep 3 0 0 0 0 0 1 64 63 0) true
     let sc : ℕ := 0
     let t : ThreadRef := q0
     let d : ℕ := 3
     let knob : ℕ := 0
     let lane : ℕ := 0
     let rank : ℕ := 0
     let pat : ℕ := 0
     let start : ℕ := 0
     let step : ℕ := 1
     let count : ℕ := 64
     let n : ℕ := 63
     let result : W64 := 0
     let rest : List Maint := []
     let c := s.chan sc
     s.Canonical ∧ s.MaintHas sc ∧ c.maint = Maint.mk t (MaintCmd.sweep d knob lane rank pat start step count
        n result) true :: rest ∧ (count ≤ n + 1 ∨ knobMax knob < start + (n + 1) * step)) ∧
    (let s : State := maintOf up (.sweep 3 0 255 0 0 0 1 64 0 0) true
     let sc : ℕ := 0
     let t : ThreadRef := q0
     let d : ℕ := 3
     let knob : ℕ := 0
     let lane : ℕ := 255
     let rank : ℕ := 0
     let pat : ℕ := 0
     let start : ℕ := 0
     let step : ℕ := 1
     let count : ℕ := 64
     let n : ℕ := 0
     let result : W64 := 0
     let rest : List Maint := []
     let c := s.chan sc
     s.Canonical ∧ s.MaintHas sc ∧ c.maint = Maint.mk t (MaintCmd.sweep d knob lane rank pat start step count
        n result) true :: rest ∧ n + 1 < count ∧ start + (n + 1) * step ≤ knobMax knob) := by
  refine ⟨?_, ?_, ?_, ?_, ?_, ?_, ?_⟩ <;> decide +kernel

theorem test_HomeTransactions_HomeOrder_applies :
    (let s : State := { mapped with pool := [rdReq 3 9], nextId := 1, moves := [⟨3, 1, 0, 0, false⟩] }
     let r : Req := rdReq 3 9
     s.Canonical ∧ s.homeReady = true ∧ s.choose = some r ∧ s.homeQ = [] ∧ s.NoneHeld ∧ s.blocked r.line =
        true) ∧
    (let s : State := { mapped with plots := [(0, true)], pool := [rdReq 3 9], nextId := 1 }
     let r : Req := rdReq 3 9
     let p : Place := (s.place 3).getD place0
     s.Canonical ∧ s.homeReady = true ∧ s.choose = some r ∧ s.homeQ = [] ∧ s.NoneHeld ∧ s.trks = [] ∧ s.moves
        = [] ∧ s.walks = [] ∧ s.tagHeld r = false ∧ s.trkRoom r = true ∧ setIndex r.line ∉ s.tagBad ∧ r.kind =
        ReqKind.rd ∧ s.isSealed r.line = false ∧ s.sf r.line = none ∧ s.lkFind r.line = none ∧ s.seedReads
        r.line = true ∧ s.place r.line = some p ∧ s.scOpen p.sc = true) := by
  refine ⟨⟨?_, ?_, ?_, ?_, ?_, ?_⟩, ⟨?_, ?_, ?_, ?_, ?_, ?_, ?_, ?_, ?_, ?_, ?_, ?_, ?_, ?_, ?_, ?_, ?_, ?_⟩⟩ <;>
    first
    | decide +kernel
    | exact ⟨fun _ => rfl, fun _ => rfl, rfl, rfl⟩

theorem test_HomeTransactions_TransactionEnds_applies :
    (let s : State := withTrk mapped (trk0 (rdReq 3 9) .ended)
     let ln : ℕ := 3
     let t : Trk := trk0 (rdReq 3 9) .ended
     s.Canonical ∧ s.running = true ∧ s.HomeClear ∧ s.trk ln = some t ∧ t.stage = Stage.ended ∧ t.snpTmo =
        false ∧ t.gone = false ∧ (t.filt = FiltUpd.keep → t.claimed = false) ∧ (t.forced = true → ∀ k ∈
        s.trks, k.victim ≠ some ln)) := by
  decide +kernel

theorem test_HomeTransactions_BringupHolds_applies :
    (let s : State := withTrk ported (trk0 (rdReq 3 9) (.notReady 7))
     let ln : ℕ := 3
     let us : ℕ := 7
     let n : ℕ := 3
     let t : Trk := trk0 (rdReq 3 9) (.notReady 7)
     let tid : ℕ := 9
     s.Canonical ∧ s.running = true ∧ s.trk ln = some t ∧ t.stage = Stage.notReady us ∧ t.gone = false ∧
        t.req.src = Src.port n ∧ t.wr = false ∧ t.req.kind = ReqKind.rd ∧ t.req.dest = Dest.port tid ∧ s.spUp
        n = true ∧ (s.sp n).rsps = [] ∧ 0 < (s.sp n).rdCr) ∧
    (let s : State := withTrk ported { trk0 { Req.mk0 (.port 3) .wr 3 with id := 1 } (.notReady 7) with wr :=
        true }
     let ln : ℕ := 3
     let us : ℕ := 7
     let n : ℕ := 3
     let t : Trk := { trk0 { Req.mk0 (.port 3) .wr 3 with id := 1 } (.notReady 7) with wr := true }
     s.Canonical ∧ s.running = true ∧ s.trk ln = some t ∧ t.stage = Stage.notReady us ∧ t.gone = false ∧
        t.req.src = Src.port n ∧ t.wr = true ∧ t.req.kind = ReqKind.wr ∧ t.req.dest = Dest.none ∧ t.wb = none
        ∧ t.grant = 0 ∧ s.Mild (FaultRef.port n) 4) := by
  refine ⟨?_, ?_⟩ <;> decide +kernel

theorem test_RingRequests_applies :
    (let s : State := rm
     let r : RingIn := flit rm 1 9 11 3 0 0 77
     s.Canonical ∧ s.Mild (FaultRef.stop r.stop) 1 ∧ s.Receives r 1) ∧
    (let s : State := rm
     let r : RingIn := flit rm 2 9 11 3 0 0 77
     s.Canonical ∧ s.Mild (FaultRef.stop r.stop) 1 ∧ s.Receives r 2) ∧
    (let s : State := rm
     let r : RingIn := flit rm 3 9 11 3 0 0 77
     s.Canonical ∧ s.Mild (FaultRef.stop r.stop) 1 ∧ s.Receives r 3) ∧
    (let s : State := rm
     let r : RingIn := flit rm 4 9 11 3 0 0 77
     s.Canonical ∧ s.Mild (FaultRef.stop r.stop) 1 ∧ s.Receives r 4) ∧
    (let s : State := rm
     let r : RingIn := flit rm 10 9 11 3 0 0 77
     s.Canonical ∧ s.Mild (FaultRef.stop r.stop) 1 ∧ s.Receives r 10) ∧
    (let s : State := rm
     let r : RingIn := flit rm 11 9 11 3 0 0 77
     s.Canonical ∧ s.Mild (FaultRef.stop r.stop) 1 ∧ s.Receives r 11) ∧
    (let s : State := rm
     let r : RingIn := flit rm 12 9 11 3 0 0 77
     s.Canonical ∧ s.Mild (FaultRef.stop r.stop) 1 ∧ s.Receives r 12) ∧
    (let s : State := rmMove
     let r : RingIn := flit rm 8 9 11 3 0 0 77
     let h := Hdr.ofWord r.flit.hdr
     s.Canonical ∧ s.Mild (FaultRef.stop r.stop) 1 ∧ s.Receives r 8 ∧ s.homeQ = [] ∧ s.blocked h.ladr = true) ∧
    (let s : State := rmMove
     let r : RingIn := flit rm 9 9 11 3 0 0 77
     let h := Hdr.ofWord r.flit.hdr
     s.Canonical ∧ s.Mild (FaultRef.stop r.stop) 1 ∧ s.Receives r 9 ∧ s.homeQ = [] ∧ s.blocked h.ladr = true) ∧
    (let s : State := rmEx
     let r : RingIn := flit rm 9 9 11 3 0 0 77
     let h := Hdr.ofWord r.flit.hdr
     s.Canonical ∧ s.Mild (FaultRef.stop r.stop) 1 ∧ s.Receives r 9 ∧ s.homeQ = [] ∧ s.homeWorks = true ∧
        s.trks = [] ∧ s.moves = [] ∧ s.walks = [] ∧ s.isSealed h.ladr = false ∧ s.sf h.ladr = some (SfEnt.mk
        h.ladr 2 h.src)) ∧
    (let s : State := rmEx
     let r : RingIn := flit rm 8 9 11 3 0 0 77
     let p : Place := (s.place 3).getD place0
     let h := Hdr.ofWord r.flit.hdr
     s.Canonical ∧ s.Mild (FaultRef.stop r.stop) 1 ∧ s.place h.ladr = some p ∧ s.scOpen p.sc = true ∧
        s.seedWrite h.ladr = (SeedWait.go, s) ∧ s.Receives r 8 ∧ s.homeQ = [] ∧ s.homeWorks = true ∧ s.trks =
        [] ∧ s.moves = [] ∧ s.walks = [] ∧ s.isSealed h.ladr = false ∧ s.sf h.ladr = some (SfEnt.mk h.ladr 2
        h.src)) := by
  refine ⟨?_, ?_, ?_, ?_, ?_, ?_, ?_, ?_, ?_, ?_, ?_⟩ <;> decide +kernel

theorem test_RingAnswers_applies :
    (let s : State := rmAck
     let r : RingIn := flit rm 0x13 9 11 3 0 0 0
     let t : Trk := trkAck
     let h := Hdr.ofWord r.flit.hdr
     s.Canonical ∧ s.trk h.ladr = some t ∧ s.Receives r 19 ∧ s.HomeClear ∧ reqAgent t.req = h.src ∧ t.req.dest
        = Dest.ring h.txn ∧ t.grant ≠ 0 ∧ t.answered = true ∧ t.gone = false ∧ t.forced = false ∧ t.stage =
        Stage.ack) ∧
    (let s : State := withTrk rm { trkAck with answered := false }
     let r : RingIn := flit rm 0x13 9 11 3 0 0 0
     let t : Trk := { trkAck with answered := false }
     let h := Hdr.ofWord r.flit.hdr
     s.Canonical ∧ s.trk h.ladr = some t ∧ s.Receives r 19 ∧ (reqAgent t.req ≠ h.src ∨ t.req.dest ≠ Dest.ring
        h.txn ∨ t.grant = 0 ∨ t.answered = false)) ∧
    (let s : State := rmSnoop
     let r : RingIn := flit rm 0x31 9 2 3 0 0 77
     let t : Trk := { trk0 agReq (.snoop 0x22) with grant := 4 }
     let k : ℕ := 34
     let h := Hdr.ofWord r.flit.hdr
     s.Canonical ∧ s.trk h.ladr = some t ∧ s.Receives r 49 ∧ s.Mild (FaultRef.stop r.stop) 1 ∧ t.stage =
        Stage.snoop k ∧ t.num = h.txn ∧ t.wb = none ∧ t.snpBack = false) ∧
    (let s : State := rmStash
     let r : RingIn := flit rm 0x32 9 2 3 1 0 0
     let t : Trk := trk0 { Req.mk0 (.agent 0 true 8) (.stash 9) 3 with dest := .ring 11 } .stash
     let h := Hdr.ofWord r.flit.hdr
     s.Canonical ∧ s.trk h.ladr = some t ∧ s.Receives r 50 ∧ t.stage = Stage.stash ∧ t.num = h.txn ∧
        t.req.kind = ReqKind.stash h.src ∧ h.op = 1) ∧
    (let s : State := rmSnoop
     let ln : ℕ := 3
     let k : ℕ := 34
     let t : Trk := { trk0 agReq (.snoop 0x22) with grant := 4 }
     let st : ℕ := 0
     let cw : Bool := true
     let x : ℕ := 9
     let txn : ℕ := 11
     let bits : BitVec 3 := 2
     s.Canonical ∧ s.running = true ∧ s.trk ln = some t ∧ t.stage = Stage.snoop k ∧ t.req.kind = ReqKind.rdU ∧
        t.req.src = Src.agent st cw x ∧ t.req.dest = Dest.ring txn ∧ t.gone = false ∧ t.grant ≠ 0 ∧ bitOf bits
        1 = true ∧ bitOf bits 2 = false) ∧
    (let s : State := gentle .home 0 spSnoop
     let ln : ℕ := 3
     let k : ℕ := 32
     let t : Trk := trk0 (rdReq 3 9) (.snoop 0x20)
     let n : ℕ := 3
     let tid : ℕ := 9
     s.Canonical ∧ s.running = true ∧ s.trk ln = some t ∧ t.stage = Stage.snoop k ∧ t.req.kind = ReqKind.rd ∧
        t.req.src = Src.port n ∧ t.req.dest = Dest.port tid ∧ t.gone = false ∧ s.Mild FaultRef.home 0 ∧ s.spUp
        n = true ∧ (s.sp n).rsps = [] ∧ 0 < (s.sp n).rdCr) ∧
    (let s : State := rmHold
     let ln : ℕ := 3
     let k : ℕ := 34
     let t : Trk := trk0 agReq (.hold 0x22)
     s.Canonical ∧ s.running = true ∧ s.trk ln = some t ∧ t.stage = Stage.hold k) ∧
    (let s : State := rm
     let r : RingIn := flit rm 0x30 9 11 3 0 0 77
     s.Canonical ∧ (s.rs r.stop).inReset = false ∧ s.attached r.stop = true ∧ (Hdr.ofWord r.flit.hdr).dst =
        s.nodeId r.stop ∧ (Hdr.ofWord r.flit.hdr).type = 48 ∧ s.pwr = PwrPhase.stable ∧ s.pstate = 0 ∧ s.Mild
        (FaultRef.stop r.stop) 0) := by
  refine ⟨?_, ?_, ?_, ?_, ?_, ?_, ?_, ?_⟩ <;> decide +kernel

theorem test_HomeCommands_applies :
    (let s : State := rm
     let r : RingIn := flit rm 0x10 9 11 0 255 0 0
     let h := Hdr.ofWord r.flit.hdr
     let c := s.clasp h.op
     s.Canonical ∧ s.Receives r 16 ∧ c.st ≠ ClaspSt.held) ∧
    (let s : State := rm.setClasp 255 ⟨.held, 9, true, 10, 0⟩
     let r : RingIn := flit rm 0x10 8 11 0 255 1 0
     let h := Hdr.ofWord r.flit.hdr
     let c := s.clasp h.op
     s.Canonical ∧ s.Receives r 16 ∧ c.st = ClaspSt.held ∧ h.state = 1) ∧
    (let s : State := rm.setClasp 255 ⟨.held, 9, true, 10, 0⟩
     let r : RingIn := flit rm 0x10 8 11 0 255 0 0
     let h := Hdr.ofWord r.flit.hdr
     let c := s.clasp h.op
     s.Canonical ∧ s.Receives r 16 ∧ c.st = ClaspSt.held ∧ h.state = 0 ∧ s.claspWaits.length < 128) ∧
    (let s : State := rm.setClasp 255 ⟨.held, 9, true, 10, 0⟩
     let r : RingIn := flit rm 0x11 9 11 0 255 0 0
     let h := Hdr.ofWord r.flit.hdr
     let c := s.clasp h.op
     s.Canonical ∧ s.Receives r 17 ∧ c.st = ClaspSt.held ∧ c.owner = h.src ∧ (∀ w ∈ s.claspWaits, w.clasp ≠
        h.op)) ∧
    (let s : State := rm
     let r : RingIn := flit rm 0x11 9 11 0 255 0 0
     let h := Hdr.ofWord r.flit.hdr
     let c := s.clasp h.op
     s.Canonical ∧ s.Receives r 17 ∧ (¬(c.st = ClaspSt.held ∧ c.owner = h.src))) ∧
    (let s : State := rm
     let r : RingIn := flit rm 0x12 9 11 0 0 0 0
     let h := Hdr.ofWord r.flit.hdr
     s.Canonical ∧ s.Receives r 18 ∧ s.walks = [] ∧ s.claspFull = [] ∧ (∀ t ∈ s.trks, reqAgent t.req ≠ h.src)) ∧
    (let s : State := { gentle .home 1 rm |>.setClasp 255 ⟨.held, 8, true, 10, 0⟩ with tbase := 5000, walks :=
        [(9, [])] }
     let x : ℕ := 9
     let ids : List ℕ := []
     s.Canonical ∧ s.running = true ∧ s.walks = [(x, ids)] ∧ s.HomeClear ∧ s.claspFull = [] ∧ (s.flag 24580 3
        = true → ∀ e ∈ s.filter, ∀ y ∈ e.2, y.agent ≠ x ∨ y.sum ≠ 2) ∧ (∀ e ∈ s.clasps, e.2.st = ClaspSt.held
        → e.2.owner ≠ x) ∧ s.Mild FaultRef.home 2) ∧
    (let s : State := { gentle .home 1 rm |>.setClasp 255 ⟨.held, 8, true, 10, 0⟩ with tbase := 5000, walks :=
        [(9, [])] }
     let n : ℕ := 255
     let c := s.clasp n
     s.Canonical ∧ (∀ w ∈ s.claspWaits, w.clasp ≠ n) ∧ s.running = true ∧ c.st = ClaspSt.held ∧ c.limit ≠ 0 ∧
        100 * c.limit ≤ BitVec.toNat (s.tbase - c.since) ∧ s.Mild FaultRef.home 1) ∧
    (let s : State := rm
     let n : ℕ := 0
     let p : Port := .cfg
     s.Canonical ∧ (∀ w ∈ s.claspWaits, w.clasp ≠ n) ∧ n < 256 ∧ s.PortOpen p (26624 + 4 * n)) ∧
    (let s : State := rm
     let p : Port := .cfg
     s.PortOpen p 24592) := by
  refine ⟨?_, ?_, ?_, ?_, ?_, ?_, ?_, ?_, ?_, ?_⟩ <;> decide +kernel

theorem test_Attachment_applies :
    (let s : State := rm
     let n : ℕ := 0
     s.Canonical ∧ (s.rs n).inReset = false ∧ s.attachHigh n = true) ∧
    (let s : State := rm
     let n : ℕ := 1
     s.Canonical ∧ (s.rs n).inReset = false ∧ s.attachHigh n = false) ∧
    (let s : State := rm
     s.Canonical) ∧
    (let s : State := rm
     s.Canonical) := by
  refine ⟨?_, ?_, ?_, ?_⟩ <;> decide +kernel

theorem test_QueueAndRuns_QueueEntries_applies :
    (let s : State := withTrk (mapped.updChan 0 fun c => { c with ready := false }) (trkQ false)
     let ln : ℕ := 3
     let t : Trk := trkQ false
     let p : Place := (s.place 3).getD place0
     s.Canonical ∧ s.running = true ∧ s.trk ln = some t ∧ t.stage = Stage.queue ∧ t.spot = some p ∧ s.scOpen
        p.sc = false) ∧
    (let s : State := withTrk (mapped.updChan 0 fun c => { c with ents := List.replicate 96 e0 }) (trkQ false)
     let ln : ℕ := 3
     let t : Trk := trkQ false
     let p : Place := (s.place 3).getD place0
     let c := s.chan p.sc
     s.Canonical ∧ s.running = true ∧ s.trk ln = some t ∧ t.stage = Stage.queue ∧ t.spot = some p ∧ s.scOpen
        p.sc = true ∧ t.wr = false ∧ c.writeOf ln = none ∧ s.readRoom p.sc = false) ∧
    (let s : State := withTrk mapped (trkQ false)
     let ln : ℕ := 3
     let t : Trk := trkQ false
     let p : Place := (s.place 3).getD place0
     let c := s.chan p.sc
     s.Canonical ∧ s.running = true ∧ s.trk ln = some t ∧ t.stage = Stage.queue ∧ t.spot = some p ∧ s.scOpen
        p.sc = true ∧ t.wr = false ∧ c.writeOf ln = none ∧ s.readRoom p.sc = true ∧ (c.rank (c.csNow p.rank
        p.ell)).powerDown = false) ∧
    (let s : State := withTrk mapped (trkQ true)
     let ln : ℕ := 3
     let t : Trk := trkQ true
     let p : Place := (s.place 3).getD place0
     let c := s.chan p.sc
     s.Canonical ∧ s.running = true ∧ s.trk ln = some t ∧ t.stage = Stage.queue ∧ t.spot = some p ∧ s.scOpen
        p.sc = true ∧ t.wr = true ∧ t.req.kind = ReqKind.wr ∧ t.req.dest = Dest.none ∧ t.wb = none ∧ t.grant =
        0 ∧ (∀ e ∈ c.ents, e.line = ln → e.wr = false) ∧ s.writeRoom p.sc = true ∧ setIndex ln ∉ s.tagBad ∧
        (c.rank (c.csNow p.rank p.ell)).powerDown = false) := by
  refine ⟨?_, ?_, ?_, ?_⟩ <;> decide +kernel

theorem test_QueueAndRuns_Runs_applies :
    (let s : State := queued (ent0 (.trk 3) false false) mapped
     let sc : ℕ := 0
     let rq : ℕ := 0
     let e : QEnt := e0
     let s1 := s.latchQ sc
     s.Canonical ∧ s.arbFree sc = true ∧ s1.grantChoice sc = some (rq, false) ∧ rq ≠ 2 ∧ rq ≠ 3 ∧ (s.chan
        sc).susp = [] ∧ s1.bestEnt sc (s1.workOf sc rq) = some e) ∧
    (let s : State := running []
     let sc : ℕ := 0
     let r : Run := runE
     let s1 := (s.updChan sc Chan.replayEnded).latchQ sc
     let takes := s1.runTakes sc r
     s.Canonical ∧ (s.chan sc).run = some r ∧ r.rq ≠ 3 ∧ s.mayIssue sc = true ∧ takes = []) ∧
    (let s : State := (running [e0]).updChan 0 fun c => c.setRank 0 urgentRank
     let sc : ℕ := 0
     let r : Run := runE
     let s1 := (s.updChan sc Chan.replayEnded).latchQ sc
     let takes := s1.runTakes sc r
     let yields := r.hogged = false ∧ s1.preempted sc r = true
     s.Canonical ∧ (s.chan sc).run = some r ∧ r.rq ≠ 3 ∧ s.mayIssue sc = true ∧ takes ≠ [] ∧ yields ∧
        s1.outranked sc r (List.filter (s1.takeable sc) (s.chan sc).ents) = false) ∧
    (let s : State := running [e0]
     let sc : ℕ := 0
     let k : ℕ := 0
     let r : Run := runE
     let e : QEnt := e0
     let s1 := (s.updChan sc Chan.replayEnded).latchQ sc
     let takes := s1.runTakes sc r
     let yields := r.hogged = false ∧ s1.preempted sc r = true
     s.Canonical ∧ (s.chan sc).run = some r ∧ r.rq ≠ 3 ∧ s.mayIssue sc = true ∧ (List.find? (fun x => x.2 ==
        k) takes = some (e, k)) ∧ ¬yields ∧ (e.wr = true → e.raw = none ∧ e.cipher = false ∧ s.isSealed e.line
        = false ∧ hallmark e.data = e.hm) ∧ ((s.chan sc).rank r.cs).powerDown = false ∧ ((s.chan sc).bank
        (bankKey r.cs e.bg e.bank)).row = some e.row) ∧
    (let s : State := running [e0]
     let sc : ℕ := 0
     let r : Run := runE
     s.Canonical ∧ (s.chan sc).run = some r ∧ r.hogged = false ∧ s.Mild (FaultRef.chan sc) 4 ∧ sc <
        s.variant.scs) := by
  refine ⟨?_, ?_, ?_, ?_, ?_⟩ <;> decide +kernel

theorem test_ReturnedData_applies :
    (let s : State := queued (ent0 (.trk 3) false true) (withTrk ported (trk0 (rdReq 3 9) .data))
     let sc : ℕ := 0
     let k : ℕ := 0
     let e : QEnt := ent0 (.trk 3) false true
     let burst : BitVec 640 :=
        0x3f0000000049000000006a00000000b5000000003f0000000049000000006a00000000b5000000003f0000000049000000006a00000000b500000000a4000000004200000000c6000000042a0000000d
     let line : ℕ := 3
     let n : ℕ := 3
     let tid : ℕ := 9
     let t : Trk := trk0 (rdReq 3 9) .data
     let o := decodeBurst (s.eccMode sc e.cs) burst e.line
     s.Canonical ∧ sc < s.variant.scs ∧ (s.chan sc).ents[k]? = some e ∧ e.wr = false ∧ e.issued = true ∧
        e.timedOut = false ∧ e.owner = QOwner.trk line ∧ o.ce = false ∧ o.ue = false ∧ o.poison = false ∧
        s.isSealed line = false ∧ s.trk line = some t ∧ t.req.kind = ReqKind.rd ∧ t.req.src = Src.port n ∧
        t.req.dest = Dest.port tid ∧ t.gone = false ∧ t.grant = 0 ∧ s.spUp n = true ∧ (s.sp n).rsps = [] ∧ 0 <
        (s.sp n).rdCr) ∧
    (let s : State := queued (ent0 (.move 3) false true) { mapped with moves := [⟨3, 2, 0, 0, false⟩] }
     let sc : ℕ := 0
     let k : ℕ := 0
     let e : QEnt := ent0 (.move 3) false true
     let burst : BitVec 640 :=
        0x3f0000000049000000006a00000000b5000000003f0000000049000000006a00000000b5000000003f0000000049000000006a00000000b500000000a4000000004200000000c6000000042a0000000d
     let line : ℕ := 3
     let o := decodeBurst (s.eccMode sc e.cs) burst e.line
     s.Canonical ∧ sc < s.variant.scs ∧ (s.chan sc).ents[k]? = some e ∧ e.wr = false ∧ e.issued = true ∧
        e.timedOut = false ∧ e.owner = QOwner.move line ∧ o.ce = false ∧ o.ue = false) ∧
    (let s : State := queued { ent0 (.trk 3) false true with timedOut := true } mapped
     let sc : ℕ := 0
     let k : ℕ := 0
     let e : QEnt := { ent0 (.trk 3) false true with timedOut := true }
     s.Canonical ∧ sc < s.variant.scs ∧ (s.chan sc).ents[k]? = some e ∧ e.wr = false ∧ e.issued = true ∧
        e.timedOut = true) ∧
    (let s : State := queued (ent0 (.trk 3) true true) mapped
     let sc : ℕ := 0
     let k : ℕ := 0
     let e : QEnt := ent0 (.trk 3) true true
     s.Canonical ∧ sc < s.variant.scs ∧ (s.chan sc).ents[k]? = some e ∧ e.wr = true ∧ e.issued = true) ∧
    (let s : State := gentle (.chan 0) 3 <| queued (ent0 (.trk 3) false false) (withTrk ported (trk0 (rdReq 3
        9) .data))
     let sc : ℕ := 0
     let k : ℕ := 0
     let e : QEnt := e0
     let line : ℕ := 3
     let n : ℕ := 3
     let tid : ℕ := 9
     let t : Trk := trk0 (rdReq 3 9) .data
     s.Canonical ∧ sc < s.variant.scs ∧ (s.chan sc).ents[k]? = some e ∧ s.running = true ∧ e.inRead = true ∧
        e.timedOut = false ∧ e.owner = QOwner.trk line ∧ s.trk line = some t ∧ t.req.kind = ReqKind.rd ∧
        t.req.src = Src.port n ∧ t.req.dest = Dest.port tid ∧ t.gone = false ∧ s.spUp n = true ∧ (s.sp n).rsps
        = [] ∧ 0 < (s.sp n).rdCr ∧ s.Mild (FaultRef.chan sc) 3) := by
  refine ⟨?_, ?_, ?_, ?_, ?_⟩ <;> decide +kernel

theorem test_ChannelUpkeep_applies :
    (let s : State := mapped.updChan 0 fun c => c.setBank 5 { Bank.init with row := some 9, last := [(7,
        true)] }
     let sc : ℕ := 0
     let k : ℕ := 5
     let row : ℕ := 7
     let h : Bool := true
     let rest : List (ℕ × Bool) := []
     let c := s.chan sc
     s.Canonical ∧ sc < s.variant.scs ∧ s.running = true ∧ (c.bank k).last = (row, h) :: rest) ∧
    (let s : State := mapped.updChan 0 fun c => c.setBank 5 { Bank.init with row := some 9 }
     let sc : ℕ := 0
     let k : ℕ := 5
     let row : ℕ := 9
     let c := s.chan sc
     s.Canonical ∧ sc < s.variant.scs ∧ s.mayIssue sc = true ∧ (c.bank k).last = [] ∧ c.drives (k / 32) = true
        ∧ c.runOn k = false ∧ (c.bank k).row = some row) ∧
    (let s : State := mapped.updChan 0 fun c => c.setBank 5 { Bank.init with row := some 9 }
     let sc : ℕ := 1
     let r : ℕ := 0
     s.Canonical ∧ sc < s.variant.scs ∧ s.mayPowerDown sc r = true) ∧
    (let s : State := mapped.updChan 0 fun c => c.setRank 0 armed
     let sc : ℕ := 0
     let r : ℕ := 0
     let c := s.chan sc
     s.Canonical ∧ sc < s.variant.scs ∧ (c.rank r).armed = true ∧ (c.rank r).selfRefresh = false) ∧
    (let s : State := (mapped.updChan 0 fun c => c.setRank 0 armed).setFlag (scReg 0 0x20) 0 false
     let sc : ℕ := 0
     let r : ℕ := 0
     let c := s.chan sc
     s.Canonical ∧ sc < s.variant.scs ∧ c.ents = [] ∧ s.arbFree sc = true ∧ (c.rank r).armed = true ∧
        -↑(s.pullinMax sc) < (c.rank r).owed ∧ (c.rank r).powerDown = false ∧ (∀ i < 32, (c.bank (32 * r +
        i)).row = none) ∧ s.flag (scReg sc 32) 0 = false) ∧
    (let s : State := mapped.updChan 0 fun c => { c with spare := 1 }
     let sc : ℕ := 0
     let c := s.chan sc
     s.Canonical ∧ sc < s.variant.scs ∧ s.running = true ∧ c.spare = 1 ∧ c.copies.length < 8 ∧ c.copyNext <
        s.rankLines sc ∧ s.readRoom sc = true ∧ s.writeRoom sc = true ∧ (c.rank 0).powerDown = false ∧
        s.twoRanks sc = false) ∧
    (let s : State := mapped.updChan 0 fun c => { c with clearing := true, clearPtr := mapped.clearLines 0 }
     let sc : ℕ := 0
     let c := s.chan sc
     s.Canonical ∧ sc < s.variant.scs ∧ c.clearing = true ∧ s.clearLines sc ≤ c.clearPtr) ∧
    (let s : State := mapped.updChan 0 fun c => c.setBank 5 { Bank.init with row := some 9 }
     let sc : ℕ := 0
     let c := s.chan sc
     s.Canonical ∧ sc < s.variant.scs ∧ s.flag 229380 8 = true ∧ s.running = true ∧ s.held sc = false ∧
        c.alert = 0 ∧ s.Mild FaultRef.phy 0) ∧
    (let s : State := mapped.setFlag (padReg 0) 2 true
     let sc : ℕ := 0
     s.Canonical ∧ sc < s.variant.scs ∧ s.held sc = true) ∧
    (let s : State := gentle .phy 1 mapped |>.updChan 0 fun c => { c with alert := 1, replays := 2 }
     let sc : ℕ := 0
     let c := s.chan sc
     s.Canonical ∧ sc < s.variant.scs ∧ c.alert = 1 ∧ s.pinsLive sc = true ∧ 2 ≤ c.replays ∧ s.Mild
        FaultRef.phy 1) ∧
    (let s : State := mapped.updChan 0 fun c => { c with alert := 1 }
     let sc : ℕ := 0
     let c := s.chan sc
     s.Canonical ∧ sc < s.variant.scs ∧ c.alert = 1 ∧ s.pinsLive sc = true ∧ c.replays < 2) := by
  refine ⟨?_, ?_, ?_, ?_, ?_, ?_, ?_, ?_, ?_, ?_, ?_⟩ <;> decide +kernel

theorem test_PhyAndSideband_applies :
    (let s : State := up.setFlag (unitCtrl .phy) 0 true
     let p : Port := .cfg
     let g : ℕ := 0
     let v : BitVec 32 := 0
     s.Canonical ∧ g < s.variant.scs ∧ s.PortOpen p (padReg g) ∧ bitOf v 3 = false ∧ s.disabled (UnitRef.chan
        g) = true ∧ s.flag (scDecode g) 0 = false) ∧
    (let s : State := up.setFlag (padReg 0) 2 true
     let p : Port := .cfg
     let g : ℕ := 0
     let v : BitVec 32 := 0
     s.Canonical ∧ g < s.variant.scs ∧ s.PortOpen p (padReg g) ∧ bitOf v 1 = false ∧ s.held g = true ∧
        s.rails.contains Rail.phy = true ∧ (∀ n < s.variant.slots, tget false s.drst n = s.flag (slotCtrl n)
        0)) ∧
    (let s : State := up.setFlag (padReg 0) 2 true
     let p : Port := .cfg
     let n : ℕ := 0
     let v : BitVec 32 := 1
     s.Canonical ∧ n < s.variant.slots ∧ s.PortOpen p (slotCtrl n) ∧ (s.held (2 * n) && s.held (2 * n + 1)) =
        false ∧ (∀ m < s.variant.slots, tget false s.drst m = s.flag (slotCtrl m) 0) ∧ bitOf v 0 ≠ s.flag
        (slotCtrl n) 0) ∧
    (let s : State := up.setFlag (unitCtrl .phy) 0 true
     let g : ℕ := 0
     s.Canonical ∧ s.running = true ∧ s.rails.contains Rail.phy = true ∧ g < s.variant.scs ∧ s.calDue g = true) ∧
    (let s : State := up.setFlag (unitCtrl .phy) 0 true
     let g : ℕ := 0
     s.Canonical ∧ s.running = true ∧ s.rails.contains Rail.phy = true ∧ g < s.variant.scs ∧ s.calDue g = true
        ∧ s.Mild FaultRef.phy 2) ∧
    (let s : State := { up.setFld 0x38004 7 0 0 with zqMs := [(0, 0)] }
     let g : ℕ := 0
     s.Canonical ∧ s.running = true ∧ s.rails.contains Rail.phy = true ∧ g < s.variant.scs ∧ s.calDue g =
        false) ∧
    (let s : State := up.setFlag (unitCtrl .phy) 0 true
     let p : Port := .cfg
     let n : ℕ := 0
     s.Canonical ∧ n < s.variant.slots ∧ s.PortOpen p (sbCmdReg n) ∧ s.en UnitRef.phy = true ∧ tfind s.sbCmd n
        = none) ∧
    (let s : State := { (up.setFlag (slotCtrl 3) 2 true) with sbCmd := [(1, 0xC0020000)] }
     let n : ℕ := 1
     let cmd : W32 := 0xC0020000
     s.Canonical ∧ n < s.variant.slots ∧ s.running = true ∧ tfind s.sbCmd n = some cmd) ∧
    (let s : State := { (up.setFlag (slotCtrl 3) 2 true) with sbCmd := [(1, 0xC0020000)] }
     let n : ℕ := 3
     s.Canonical ∧ n < s.variant.slots ∧ s.running = true ∧ s.flag (slotCtrl n) 2 = true ∧ tfind s.sbCmd n =
        none) ∧
    (let s : State := up.setFlag (unitCtrl .phy) 0 true
     let n : ℕ := 0
     s.Canonical ∧ n < s.variant.slots ∧ s.running = true) := by
  refine ⟨?_, ?_, ?_, ?_, ?_, ?_, ?_, ?_, ?_, ?_⟩ <;> decide +kernel

theorem test_KeyPort_applies :
    (let s : State := up
     let slot : BitVec 6 := 0
     let beat : BitVec 3 := 0
     let n := slot.toNat
     s.keyReady = true ∧ beat.toNat = s.keyBeats.length ∧ (beat = 0 ∨ s.keySlot = n) ∧ beat ≠ 7) ∧
    (let s : State := { up with keySlot := 63, keyBeats := [1,2,3,4,5,6,7] }
     let slot : BitVec 6 := 63
     let beat : BitVec 3 := 7
     let n := slot.toNat
     s.keyReady = true ∧ beat = 7 ∧ s.keyBeats.length = 7 ∧ s.keySlot = n ∧ s.loadRefused n = false) ∧
    (let s : State := up
     let slot : BitVec 6 := 0
     let beat : BitVec 3 := 1
     let n := slot.toNat
     s.keyReady = true ∧ (beat.toNat ≠ s.keyBeats.length ∨ beat ≠ 0 ∧ s.keySlot ≠ n)) ∧
    (let s : State := up
     s.keyReady = true ∧ s.keyBeats = []) := by
  refine ⟨?_, ?_, ?_, ?_⟩ <;> decide +kernel

theorem test_DebugLevel_applies :
    (let s : State := up
     let p : Port := .cfg
     let v : BitVec 32 := 0
     let lv := bitsOf v 5 4
     s.Canonical ∧ s.PortOpen p 8200 ∧ s.authBusy = false ∧ bitsOf v 5 4 < 3 ∧ (lv < s.dbgLevel ∨ s.dbgLevel <
        lv ∧ s.mayRaise lv = true)) ∧
    (let s : State := (up.setFld 0x2000 31 30 2).setFld 0x2000 29 28 0
     let p : Port := .cfg
     let v : BitVec 32 := 16
     let lv := bitsOf v 5 4
     s.Canonical ∧ s.PortOpen p 8200 ∧ s.authBusy = false ∧ bitsOf v 5 4 < 3 ∧ s.dbgLevel < lv ∧ s.mayRaise lv
        = false) ∧
    (let s : State := up
     let p : Port := .cfg
     let v : BitVec 32 := 0
     s.Canonical ∧ s.PortOpen p 8200 ∧ s.authBusy = false ∧ bitsOf v 5 4 < 3) ∧
    (let s : State := up.setFlag 0x2000 26 true
     let p : Port := .cfg
     let v : BitVec 32 := 0
     s.Canonical ∧ s.PortOpen p 8200 ∧ s.authBusy = false ∧ bitsOf v 5 4 < 3 ∧ s.chalValid = true ∧ s.grave
        FaultRef.security = false) ∧
    (let s : State := { up.setFlag 0x2000 27 true with authLevel := 2 }
     s.Canonical ∧ s.judged = true ∧ s.authLevel < 3) ∧
    (let s : State := { up.setFlag 0x2000 27 true with authLevel := 2 }
     let c : Instr := (Sys2Proof.Instr.authDeny)
     s.Canonical ∧ s.judged = true ∧ s.Mild FaultRef.security 3 ∧ c ∈ [Instr.authDeny, Instr.authTimeout]) ∧
    (let s : State := up
     let v : BitVec 32 := 0
     s.Canonical ∧ s.PortOpen Port.dbg dbgMctrl ∧ s.locked dbgMctrl = false ∧ s.dbgAcc = none ∧ bitOf v 30 =
        false ∧ (s.region s.dbgLine).isSome = false ∧ s.mayEnter (Req.mk0 Src.dbg ReqKind.wr s.dbgLine) = true
        ∧ s.pool.any ofDbg = false ∧ s.homeQ.any ofDbg = false ∧ ((s.trks.any fun k => ofDbg k.req) = false)) ∧
    (let s : State := { (up.setFlag dbgMctrl 29 true) with dbgAcc := some ⟨3, true, 1, 77, true⟩ }
     let d : DbgAcc := ⟨3, true, 1, 77, true⟩
     s.Canonical ∧ s.dbgAcc = some d ∧ d.finished = true ∧ s.running = true ∧ d.status < 8) := by
  refine ⟨?_, ?_, ?_, ?_, ?_, ?_, ?_, ?_⟩ <;> decide +kernel

theorem test_ClockRoot_applies :
    (let s : State := { State.resetOf .ovm0840 with inReset := true }
     s.Canonical ∧ s.mayLock = true ∧ s.flag clkStatus 2 = false ∧ s.pwr = PwrPhase.stable ∧ s.inReset = true
        ∧ s.cfgQueue = []) ∧
    (let s : State := { ((up.setFlag clkStatus 0 false).setFlag clkStatus 2 true) with relockTo := 3, cfgBusy
        := .relock }
     s.Canonical ∧ s.mayLock = true ∧ s.flag clkStatus 2 = true ∧ s.relockTo < 8 ∧ s.cfgBusy = PortBusy.relock
        ∧ s.cfgQueue = [] ∧ s.dbgQueue = [] ∧ s.pwr = PwrPhase.stable ∧ s.homeQ = [] ∧ (∀ n < s.variant.ports,
        (s.sp n).held = [])) ∧
    (let s : State := gentle .power 0 up
     s.Canonical ∧ (s.flag clkStatus 0 = true ∨ s.flag clkStatus 2 = true) ∧ s.Mild FaultRef.power 0) ∧
    (let s : State := { State.resetOf .ovm0840 with inReset := true }
     s.Canonical ∧ s.refclk = true ∧ s.vddAon = true ∧ s.Mild FaultRef.power 1) ∧
    (let s : State := { State.resetOf .ovm0840 with inReset := true }
     s.Canonical) ∧
    (let s : State := { (State.resetOf .ovm0840) with wantElapsed := true, pwr := .wake 3 2 }
     s.Canonical ∧ s.refclk = true ∧ s.vddAon = true ∧ s.awaitsElapsed = true ∧ s.flag clkStatus 0 = false) ∧
    (let s : State := { (State.resetOf .ovm0840) with wantElapsed := true, pwr := .wake 3 2 }
     s.Canonical ∧ s.refclk = true ∧ s.vddAon = true ∧ s.awaitsElapsed = true ∧ s.flag clkStatus 0 = false ∧
        s.Mild FaultRef.power 4) ∧
    (let s : State := { State.resetOf .ovm0840 with inReset := true }
     s.Canonical ∧ s.refclk = true ∧ s.vddAon = true ∧ s.awaitsElapsed = false) ∧
    (let s : State := up.setFlag (unitCtrl .home) 0 false
     let v : BitVec 32 := 1
     s.Canonical ∧ s.PortOpen Port.cfg clkCtrl ∧ bitsOf v 2 0 ≠ s.rate ∧ s.mayRelock (bitsOf v 2 0) = true) := by
  refine ⟨?_, ?_, ?_, ?_, ?_, ?_, ?_, ?_, ?_⟩ <;> decide +kernel

theorem test_Resets_applies :
    (let s : State := { up with inReset := true }
     s.Canonical) ∧
    (let s : State := { up with inReset := true }
     s.Canonical) ∧
    (let s : State := { up with inReset := true }
     s.Canonical ∧ s.inReset = true) ∧
    (let s : State := State.resetOf .ovm0840 |>.setFlag clkStatus 0 true
     let f : Func := (Sys2Proof.Func.cfg)
     s.Canonical ∧ s.mayInit f = true ∧ s.homeQ = [] ∧ (∀ n < s.variant.ports, (s.sp n).held = []) ∧
        s.cfgQueue = [] ∧ s.dbgQueue = []) := by
  refine ⟨?_, ?_, ?_, ?_⟩ <;> decide +kernel

theorem test_Interrupts_applies :
    (let s : State := { (((up.setFlag (irqEnable 0) 5 true).setFlag (irqPend 0) 5 true)) with assigned := [(5,
        1)] }
     let n : ℕ := 0
     s.Canonical ∧ s.running = true ∧ n < 8) ∧
    (let s : State := { (((up.setFlag (irqEnable 0) 5 true).setFlag (irqPend 0) 5 true)) with assigned := [(5,
        1)] }
     let n : ℕ := 0
     s.Canonical ∧ s.running = true ∧ n < 8 ∧ (∀ m < 64, s.modCount m = 0)) ∧
    (let s : State := { (((up.setFlag (irqEnable 0) 5 true).setFlag (irqPend 0) 5 true)) with assigned := [(5,
        1)] }
     s.Canonical ∧ s.intcReady = true ∧ s.pwr = PwrPhase.stable ∧ s.pstate = 0) ∧
    (let s : State := { (((up.setFlag (irqEnable 0) 5 true).setFlag (irqPend 0) 5 true)) with assigned := [(5,
        1)] }
     let n : ℕ := 0
     let src : ℕ := 5
     let rest : List ℕ := []
     let fast : Bool := false
     let c : Instr := (Sys2Proof.Instr.take (Sys2Proof.Port.cfg) 0)
     s.Canonical ∧ n < 8 ∧ (c, fast) ∈ [(Instr.take Port.cfg n, false), (Instr.ftake Port.cfg n, true)] ∧
        s.PortOpen Port.cfg ((if fast = true then 266240 else 262912) + 4 * n) ∧ s.assignedTo n fast = src ::
        rest ∧ src < 512) ∧
    (let s : State := { (((up.setReg (0x42000 + 0x10 * 7) 0x80000000 |>.setReg (modStat 7) 0xFFFFFFFF).setReg
        (0x40A00 + 4 * 7) 0xFFFFFFFF)) with modTimer := [(7, true)] }
     let m : ℕ := 7
     s.Canonical ∧ m < 64 ∧ s.running = true ∧ s.modEn m = true ∧ tget false s.modTimer m = true ∧ s.modCount
        m ≠ 0) := by
  refine ⟨?_, ?_, ?_, ?_, ?_⟩ <;> decide +kernel

theorem test_AliveOutput_applies :
    (let s : State := up
     s.Canonical ∧ s.compat = false ∧ s.refclk = true) ∧
    (let s : State := up
     let p : Port := .cfg
     s.Canonical ∧ s.PortOpen p 7688) ∧
    (let s : State := { up with wdArmed := true }
     s.Canonical ∧ s.wdRuns = true ∧ s.compat = false ∧ s.Mild FaultRef.power 2) ∧
    (let s : State := { up.setFlag 0x1E00 31 true with pulse := true }
     s.Canonical ∧ s.pulse = true ∧ s.compat = true ∧ s.refclk = true) ∧
    (let s : State := up
     let p : Port := .cfg
     let v : W32 := 0x80000001
     s.Canonical ∧ s.PortOpen p 7680 ∧ bitOf v 31 ≠ s.compat) ∧
    (let s : State := { up.setFlag 0x1E00 31 true with onsetSeen := true }
     let p : Port := .cfg
     let v : W32 := 0x80000000
     s.Canonical ∧ s.PortOpen p 7680 ∧ s.compat = true ∧ bitOf v 31 = true ∧ s.pulse = false) := by
  refine ⟨?_, ?_, ?_, ?_, ?_, ?_⟩ <;> decide +kernel

theorem test_SleepEntry_applies :
    (let s : State := up.setFld 0x1000 2 0 1
     let p : Port := .cfg
     let v : BitVec 32 := 1
     let begun := { s.setFld 0x1004 31 29 0 with byPc := false, wakeEv := none }
     s.Canonical ∧ s.PortOpen p 4096 ∧ s.takesSleep = true ∧ s.fld 4096 2 0 = bitsOf v 2 0 ∧ 1 ≤ bitsOf v 2 0
        ∧ bitsOf v 2 0 ≤ 4 ∧ begun.refusal (bitsOf v 2 0) false = none) ∧
    (let s : State := up.setFld 0x1000 2 0 1
     let r : BitVec 3 := 1
     let begun := { s.setFld 0x1004 31 29 0 with byPc := false, wakeEv := none }
     s.Canonical ∧ s.refclk = true ∧ s.vddAon = true ∧ 1 ≤ r.toNat ∧ r.toNat ≤ 4 ∧ s.takesSleep = true ∧
        begun.refusal r.toNat false = none) ∧
    (let s : State := up.setFld 0x1000 2 0 1
     let r : BitVec 3 := 5
     s.Canonical ∧ s.refclk = true ∧ s.vddAon = true ∧ 1 ≤ r.toNat ∧ (4 < r.toNat ∨ s.takesSleep = false)) ∧
    (let s : State := entering 2 1
     let t : ℕ := 2
     s.Canonical ∧ s.pwr = PwrPhase.entry t 1) ∧
    (let s : State := entering 2 2
     let t : ℕ := 2
     s.Canonical ∧ s.pwr = PwrPhase.entry t 2 ∧ 2 ≤ t ∧ s.step2Done = true ∧ s.wakeEv = none) ∧
    (let s : State := entering 2 3
     let t : ℕ := 2
     s.Canonical ∧ s.pwr = PwrPhase.entry t 3 ∧ s.homeQuiet = true ∧ (List.range s.variant.ports).all
        s.portQuiet = true ∧ (t < 3 ∨ s.filter = []) ∧ s.wakeEv = none) ∧
    (let s : State := entering 3 5
     s.Canonical ∧ s.pwr = PwrPhase.entry 3 5 ∧ s.wakeEv = none ∧ s.refusal 3 true = none ∧ (∀ m < 64,
        s.modCount m = 0) ∧ s.lifecycle ≠ 2) ∧
    (let s : State := entering 1 6
     s.Canonical ∧ s.pwr = PwrPhase.entry 1 6 ∧ s.wakeEv = none ∧ s.byPc = true) ∧
    (let s : State := standing (entering 1 2) t0 0 []
     let t : ℕ := 1
     let step : ℕ := 2
     let u : ℕ := 2
     let i : ℕ := 0
     s.Canonical ∧ s.pwr = PwrPhase.entry t step ∧ s.unfinished t step u i = true ∧ s.chans = [] ∧ s.evWaiters
        = [] ∧ (∀ n < s.variant.ports, (s.sp n).held = []) ∧ s.byPc = true ∧ s.Mild FaultRef.power 3 ∧ u < 16
        ∧ i < 32) := by
  refine ⟨?_, ?_, ?_, ?_, ?_, ?_, ?_, ?_, ?_⟩ <;> decide +kernel

theorem test_WakeSequence_applies :
    (let s : State := asleep 1
     s.Canonical ∧ s.vddAon = true ∧ s.pwr = PwrPhase.stable ∧ 1 ≤ s.pstate ∧ wakeFires 6 s.pstate = true ∧
        s.wakeEnabled 6 = true) ∧
    (let s : State := asleep 1
     s.Canonical ∧ s.refclk = true ∧ s.vddAon = true ∧ s.pwr = PwrPhase.stable ∧ 1 ≤ s.pstate ∧ wakeFires 6
        s.pstate = true ∧ s.wakeEnabled 6 = true) ∧
    (let s : State := asleep 1
     s.Canonical ∧ s.refclk = true ∧ s.vddAon = true ∧ s.pwr = PwrPhase.stable ∧ 1 ≤ s.pstate ∧ wakeFires 6
        s.pstate = true ∧ s.wakeEnabled 6 = true) ∧
    (let s : State := asleep 3 |>.setFlag 0x1010 4 true
     s.Canonical ∧ s.refclk = true ∧ s.reg2 4120 ≤ BitVec.toNat s.tbase ∧ s.vddAon = true ∧ s.pwr =
        PwrPhase.stable ∧ 1 ≤ s.pstate ∧ wakeFires 4 s.pstate = true ∧ s.wakeEnabled 4 = true) ∧
    (let s : State := entering 2 3
     let t : ℕ := 2
     let step : ℕ := 3
     s.Canonical ∧ s.vddAon = true ∧ s.pwr = PwrPhase.entry t step ∧ s.wakeEv = none) ∧
    (let s : State := { up with pwr := .wake 3 1, rails := [] }
     let left : ℕ := 3
     s.Canonical ∧ s.pwr = PwrPhase.wake left 1) ∧
    (let s : State := { up with pwr := .wake 3 3 }
     let left : ℕ := 3
     s.Canonical ∧ s.pwr = PwrPhase.wake left 3 ∧ left ≠ 4) ∧
    (let s : State := { up with pwr := .wake 4 3 }
     s.Canonical ∧ s.pwr = PwrPhase.wake 4 3) ∧
    (let s : State := { up with pwr := .wake 1 4 }
     s.Canonical ∧ s.pwr = PwrPhase.wake 1 4 ∧ s.trEn = false ∧ s.chans = [] ∧ s.homeQ = [] ∧ s.evWaiters = []
        ∧ s.cfgQueue = [] ∧ s.dbgQueue = [] ∧ (∀ n < s.variant.ports, (s.sp n).held = []) ∧ s.pstate = 0) ∧
    (let s : State := asleep 4
     s.Canonical ∧ s.pwr = PwrPhase.stable ∧ s.pstate = 4) := by
  refine ⟨?_, ?_, ?_, ?_, ?_, ?_, ?_, ?_, ?_, ?_⟩ <;> decide +kernel

/-! ### Well-formed commands: each check refuses an ill-formed one -/

/-- Commands of OVM-0840 that name a part it lacks, or an operand out of its range. -/
def illFormed : List Instr :=
  [.add ⟨.stream, 4, 0⟩, .add ⟨.stream, 0, 48⟩, .add ⟨.seq, 8, 0⟩, .add ⟨.seq, 0, 2⟩, .add ⟨.svc, 8, 0⟩, .add ⟨.svc, 0, 2⟩,
    .unitEnable .cfg (.port 4) 1, .unitEnable .cfg (.chan 8) 1, .quiesced (.cluster 4), .unitDisable .cfg (.seq 8) 0,
    .quiesced (.svc 8), .sweepStep 8 [], .sweepStep 0 [(60, 0)], .maintenanceGrant 8 0, .pipeJobDone 4 0, .clrFault .cfg 4,
    .instrStoreWrite .cfg 4 0 0 0, .instrStoreWrite .cfg 0 2 0 0, .instrStoreWrite .cfg 0 0 8192 0] ++
  [.engFclr .cfg (.cluster 4) 0, .progData .cfg (.seq 8) (some 0), .graftDone (.svc 8), .enable .cfg 1024, .kick (.word .cfg 1024),
    .kick (.port 4 0), .append (.word .cfg 1024 0), .append (.port 4 0), .setHead 4 0, .dispatch 4 ⟨.stream, 0, 0⟩,
    .dispatch 0 ⟨.stream, 4, 0⟩, .runReport 1024, .read 4 0, .channelTimeout 8 0, .transactionEnd (2 ^ 40),
    .pageIdle 0 64, .pageIdle 8 0, .powerDownEntry 0 2, .windowStart 64] ++
  [.attachReady 1, .ringRstN 1 true, .claspBreak .cfg 256 0, .holdTo 256, .fpAdvance 4, .spareCopyLine 8, .hostCalibration 8 none,
    .hostCalibration 0 (some 256), .sbGo .cfg 4 0, .presentSample 4 true, .evtOutPulse 64, .tprio 8 0, .tsleep 8 true,
    .initDone (.stop 1), .initDone (.cluster 4), .bringupHold (2 ^ 40), .fltAck .cfg (.chan 8) 0, .fltForce .cfg (.cluster 4) 0,
    .quietPeriod (.stop 1), .histClr .cfg (.port 4) 0, .pwrTmo 16 0, .take .cfg 8, .ftake .cfg 8, .moderatorTimeout 64]

theorem test_illFormed_refused : (illFormed.all fun i => !i.wf .ovm0840) = true := by decide +kernel

/-- A ring message or beat at a stop that OVM-0840 lacks is ill-formed. -/
theorem test_ringStop_refused (f : RingIn) : Instr.wf .ovm0840 (.rdS { f with stop := 1 }) = false := by
  simp [Instr.wf, Variant.stops, Variant.pick]

theorem test_wellFormed_accepted :
    ([Instr.add ⟨.stream, 3, 47⟩, .add ⟨.seq, 7, 1⟩, .unitEnable .cfg (.port 3) 1, .sweepStep 7 [(59, 0)], .enable .cfg 1023,
      .windowStart 63, .claspBreak .cfg 255 0, .pwrTmo 15 0].all fun i => i.wf .ovm0840) = true := by decide +kernel

/-! ### Worked examples of the spec -/

/-- R375: the CRC-32C of "123456789" is 0xE3069283. -/
theorem test_crc32c_check : crc32c [0x31, 0x32, 0x33, 0x34, 0x35, 0x36, 0x37, 0x38, 0x39] = 0xE3069283 := by decide +kernel

/-- R438: the CRC-8 of "123456789" is 0xF4. -/
theorem test_pec_check : pec [0x31, 0x32, 0x33, 0x34, 0x35, 0x36, 0x37, 0x38, 0x39] = 0xF4 := by decide +kernel

/-- The alias of bit 7 of the register at 0x1D040 (the example under R60). -/
theorem test_alias_example : (siteOf .ovm2440 0xBA081C).map (fun x => (x.off, x.bit)) = some (0x1D040, some 7) := by
  decide +kernel

/-- R352: thread 2 of engine 3 in cluster C5 has OWNER 0x54E. -/
theorem test_owner_example : ownerOf ⟨.stream, 5, 4 * 3 + 2⟩ = 0x54E := by decide

/-- The example under R230: 24 ways, granules of 2 KiB, address 0x00A000035A40. -/
theorem test_address_example :
    let g : Gen := { valid := true, evac := false, slot := 0, gran := 3, ways := 8, limit := 2 ^ 44, rsv := 0, tab := List.range 24 }
    g.translate 0xA000035A40 = some (19, 28633123392) ∧
      (State.resetOf .ovm2440).splitLocal 19 447392553 = ⟨19, 447392553, 0, 1, 2, 54613, 1616⟩ := by
  decide +kernel

/-- The example under R274: BASE 6 and TARGET 400. -/
theorem test_priority_example :
    let t : Stamp := { charm := 1, cls := 1, base := 6, target := 400, degraded := false, overBudget := false, entry := 0 }
    let p := fun (n : Nat) => { up with tbase := BitVec.ofNat 64 n : State }.effPrio t
    p 199 = 6 ∧ p 310 = 8 ∧ p 400 = 11 ∧ ({ up with tbase := 400 : State }.effPrio { t with overBudget := true } = 0) := by
  decide +kernel

/-- A charm with its class, base, budget and window. -/
def charmed (c base budget window : Nat) (s : State) : State :=
  let s := ((s.setFld (chCfg c) 31 30 1).setFld (chCfg c) 29 26 base).setFld (chCfg c) 21 12 window
  s.setFld (chBudget c) 23 0 budget

/-- The example under R278: four Guaranteed charms ask for 12,500 lines per µs of 11,616. -/
theorem test_guarantee_example :
    let s := charmed 3 12 400000 100 (charmed 5 12 5000000 1000 (charmed 8 9 2000 1 (charmed 20 9 150000 100 up)))
    let s := (s.setFld 0x3004 15 0 11616).recompute
    s.fld 0x300C 23 0 = 12500 ∧ s.flag 0x3008 0 = true ∧ s.reg 0x3010 = 0x00100000 ∧ s.reg 0x3014 = 0 := by
  decide +kernel

/-- The example under R364: byte 37 of a line is c_5 of codeword 2. -/
theorem test_burst_example :
    Machine.place false 2 5 0 = (10, 8) ∧ Machine.place false 2 5 4 = (11, 8) ∧ Machine.place true 2 5 0 = (9, 8) ∧
      Machine.place true 2 5 7 = (9, 15) := by
  decide

/-- The example under R359: the owner of Clasp 40 is lost while ring agent 7 waits. -/
theorem test_clasp_example :
    let s := (up.setFld (0x6800 + 4 * 40) 15 0 500).setClasp 40 { st := .held, owner := 0x54E, repair := false, limit := 500, since := 0 }
    let s := { s with claspWaits := [⟨40, 7, some (0, true, 3)⟩] }
    (s.claspLoss 40).claspWord 40 (s.reg (0x6800 + 4 * 40)) = 0x500701F4 := by
  decide +kernel

/-! ### Single steps -/

/-- The next state has a property. -/
def leads (o : Host.Outcome State Fault Refusal) (p : State → Bool) : Bool :=
  match o with
  | .next s => p s
  | .fault _ => false
  | .refused _ => false

/-- R86: all ones and 65 add to 64. -/
theorem test_add_wraps :
    leads (exec (.add v0) (standing up v0 0x00611000 [(1, 0xFFFFFFFFFFFFFFFF), (2, 65)]))
      (fun s => (s.thr v0).getG 3 == 64 && (s.thr v0).pc == 1) = true := by decide +kernel

/-- R86: a shift counts modulo 64, and SRA copies the sign. -/
theorem test_sra_sign :
    leads (exec (.sra v0) (standing up v0 0x20611000 [(1, 0x8000000000000000), (2, 65)]))
      (fun s => (s.thr v0).getG 3 == 0xC000000000000000) = true := by decide +kernel

/-- R69: a write of g0 is discarded. -/
theorem test_add_zero :
    leads (exec (.add v0) (standing up v0 0x00011000 [(1, 5), (2, 6)])) (fun s => (s.thr v0).getG 0 == 0) = true := by
  decide +kernel

/-- R33: an access of two bytes is answered with an error. -/
theorem test_short_access :
    leads (exec (.regWrite .cfg ⟨8, 2⟩ 1) up) (fun s => s.out == [.portRsp .cfg 0 true]) = true := by decide +kernel

/-- R502: a step on an empty queue is one cycle of REFCLK. -/
theorem test_tick : leads (step State.reset) (fun s => s.tbase == 1) = true := by decide +kernel

/-- R351: an acquire of a FREE Clasp takes it with result 0. -/
theorem test_acquire_free :
    leads (exec (.clspAcq v0) (sClasp up 0)) (fun s => (s.clasp 255).owner == ownerOf v0 && (s.thr v0).getG 3 == 0) = true := by
  decide +kernel

end Sys2Proof.Tests
end

section
/-! The canonical form of the tables is kept by every step (O4).

`State.Tidy` names the parts of `State.Canonical`. Each function of the model that returns a state has one lemma here, named
after the function, which says that it keeps `Tidy`; the lemmas stand in the order of the model's files, and a proof follows
the branches of the definition. A record update that touches no table is `{ h with }`; one that stores into a table is
`{ h with table := Tab.wf_tset .. }`. -/

namespace Sys2Proof.Machine

/-- The general registers of a thread are in canonical form. -/
def Thread.Tidy (th : Thread) : Prop := Tab.wf (fun _ => (0 : W64)) th.g = true

/-- The banks and ranks of a channel unit are in canonical form. -/
structure Chan.Tidy (c : Chan) : Prop where
  banks : Tab.wf (fun _ => Bank.init) c.banks = true
  ranks : Tab.wf (fun _ => Rank.init) c.ranks = true

/-- `State.Canonical` with a name for each of its parts. -/
structure State.Tidy (s : State) : Prop where
  regs : Tab.wf (resetWord s.variant) s.regs = true
  threads : Tab.wf (fun _ => Thread.init) s.threads = true
  ctxs : Tab.wf (fun _ => Ctx.init) s.ctxs = true
  chans : Tab.wf (fun _ => Chan.init) s.chans = true
  sports : Tab.wf (fun _ => SPort.init) s.sports = true
  clasps : Tab.wf (fun _ => Clasp.init) s.clasps = true
  evtPend : Tab.wf (fun _ => 0) s.evtPend = true
  readyQ : Tab.wf (fun _ => []) s.readyQ = true
  rdShadow : Tab.wf (fun k => resetWord s.variant (k / 2 + 4)) s.rdShadow = true
  wrShadow : Tab.wf (fun k => resetWord s.variant (k / 2)) s.wrShadow = true
  filter : Tab.wf (fun _ => []) s.filter = true
  plots : Tab.wf (fun _ => false) s.plots = true
  stops : Tab.wf (fun _ => Stop.init) s.stops = true
  live : Tab.wf keyReset s.live = true
  shadow : Tab.wf keyReset s.shadow = true
  assigned : Tab.wf (fun _ => 0) s.assigned = true
  padFloat : Tab.wf (fun _ => false) s.padFloat = true
  padQuiet : Tab.wf (fun _ => false) s.padQuiet = true
  drst : Tab.wf (fun _ => false) s.drst = true
  sbCmd : keysAbove 0 s.sbCmd = true
  eachThread : ∀ e ∈ s.threads, e.2.Tidy
  eachChan : ∀ e ∈ s.chans, e.2.Tidy
  savedKnobs : ∀ v ∈ s.saved, Tab.wf keyReset v.knobs = true

/-- The parts of `Tidy` are those of the model's own form. -/
theorem State.tidy_iff (s : State) : s.Tidy ↔ s.Canonical := by
  constructor
  · intro h
    refine ⟨h.regs, h.threads, h.ctxs, h.chans, h.sports, h.clasps, h.evtPend, h.readyQ, h.rdShadow, h.wrShadow, h.filter,
      h.plots, h.stops, h.live, h.shadow, h.assigned, h.padFloat, h.padQuiet, h.drst, h.sbCmd, ?_, ?_, ?_⟩
    · exact List.all_eq_true.mpr h.eachThread
    · refine List.all_eq_true.mpr fun e he => Bool.and_eq_true_iff.mpr ?_
      exact ⟨(h.eachChan e he).banks, (h.eachChan e he).ranks⟩
    · cases hs : s.saved with
      | none => rfl
      | some v => exact h.savedKnobs v hs
  · rintro ⟨regs, threads, ctxs, chans, sports, clasps, evtPend, readyQ, rdShadow, wrShadow, filter, plots, stops, live, shadow,
      assigned, padFloat, padQuiet, drst, sbCmd, hthr, hchan, hsaved⟩
    refine ⟨regs, threads, ctxs, chans, sports, clasps, evtPend, readyQ, rdShadow, wrShadow, filter, plots, stops, live,
      shadow, assigned, padFloat, padQuiet, drst, sbCmd, ?_, ?_, ?_⟩
    · exact List.all_eq_true.mp hthr
    · intro e he
      obtain ⟨hb, hr⟩ := Bool.and_eq_true_iff.mp (List.all_eq_true.mp hchan e he)
      exact ⟨hb, hr⟩
    · intro v hv
      rw [hv] at hsaved
      exact hsaved

/-! ### What a table holds after a change -/

theorem of_mem_tset {α : Type} [DecidableEq α] {p : α → Prop} {d : α} {t : Tab α} {k : Nat} {v : α}
    (ht : ∀ e ∈ t, p e.2) (hv : p v) : ∀ e ∈ tset d t k v, p e.2 := by
  intro e he
  unfold tset at he
  split at he
  · exact ht e (mem_terase he)
  · rcases mem_tput he with rfl | he
    · exact hv
    · exact ht e he

theorem of_mem_tmap {α β : Type} [DecidableEq β] {q : β → Prop} {d : β} {f : α → β} {t : Tab α}
    (ht : ∀ e ∈ t, q (f e.2)) : ∀ e ∈ tmap d f t, q e.2 := by
  intro e he
  obtain ⟨x, hx, rfl⟩ := List.mem_map.mp (List.mem_filter.mp he).1
  exact ht x hx

theorem of_tget {α : Type} {p : α → Prop} {d : α} {t : Tab α} (ht : ∀ e ∈ t, p e.2) (hd : p d) (k : Nat) :
    p (tget d t k) := by
  unfold tget
  induction t with
  | nil => exact hd
  | cons e t ih =>
    unfold tfind
    split
    · exact ht e List.mem_cons_self
    · exact ih fun e he => ht e (List.mem_cons_of_mem _ he)

theorem wf_foldl_knobPut {t : Tab Nat} (h : Tab.wf keyReset t = true) (keys : List Nat) (v : Nat → Nat) :
    Tab.wf keyReset (keys.foldl (fun t k => knobPut t k (v k)) t) = true :=
  List.foldlRecOn (motive := fun t => Tab.wf keyReset t = true) keys _ h fun _ h k _ => Tab.wf_tset h k _

/-! ### Answers of the model's functions

What `Tidy` means of an answer that holds a state: an optional one, an instruction's effect, a write's result, a command's
result, an outcome. -/

/-- A next state, if there is one, has tidy tables. -/
def OptTidy (o : Option State) : Prop := ∀ t ∈ o, t.Tidy

/-- A next state, if the outcome has one, has tidy tables. -/
def OutTidy (o : Host.Outcome State Fault Refusal) : Prop := ∀ t, o = .next t → t.Tidy

/-- The state that an instruction's effect leaves, if it leaves one, has tidy tables. -/
def Eff.Tidy : Eff → Prop
  | .done s => s.Tidy
  | .branch _ s => s.Tidy
  | .fault _ => True
  | .stall => True
  | .hold s => s.Tidy

/-- The state that a register write leaves has tidy tables. -/
def Wrote.Tidy (r : Wrote) : Prop := r.1.Tidy

/-- The state that a context command leaves has tidy tables. -/
def CmdRes.Tidy (r : CmdRes) : Prop := r.s.Tidy

section
variable {s : State} {n : Int} {b : Bool} {r : Wrote}

theorem State.Tidy.some (h : s.Tidy) : OptTidy (some s) := fun _ e => Option.some.inj e ▸ h
theorem OptTidy.none : OptTidy none := fun _ e => nomatch e
theorem State.Tidy.next (h : s.Tidy) : OutTidy (.next s) := fun _ e => Host.Outcome.next.inj e ▸ h
theorem State.Tidy.done (h : s.Tidy) : (Eff.done s).Tidy := h
theorem State.Tidy.hold (h : s.Tidy) : (Eff.hold s).Tidy := h
theorem State.Tidy.branch (h : s.Tidy) : (Eff.branch n s).Tidy := h
theorem Eff.Tidy.fault {code : Nat} : (Eff.fault code).Tidy := trivial
theorem Eff.Tidy.stall : Eff.stall.Tidy := trivial
theorem State.Tidy.pair (h : s.Tidy) : Wrote.Tidy (s, b) := h
theorem Wrote.Tidy.fst (h : r.Tidy) : r.1.Tidy := h
theorem State.Tidy.ok (h : s.Tidy) : (CmdRes.ok s).Tidy := h

end

theorem CmdRes.Tidy.s {q : CmdRes} (h : q.Tidy) : q.s.Tidy := h

/-! ### Choices and folds -/

section
variable {α : Type} {c : Prop} [Decidable c]

theorem State.Tidy.ite {s t : State} (hs : s.Tidy) (ht : t.Tidy) : (if c then s else t).Tidy :=
  iteInduction (motive := State.Tidy) (fun _ => hs) fun _ => ht

theorem State.Tidy.iteSnd {p q : α × State} (hp : p.2.Tidy) (hq : q.2.Tidy) : (if c then p else q).2.Tidy :=
  iteInduction (motive := fun p : α × State => p.2.Tidy) (fun _ => hp) fun _ => hq

theorem Thread.Tidy.ite {s t : Thread} (hs : s.Tidy) (ht : t.Tidy) : (if c then s else t).Tidy :=
  iteInduction (motive := Thread.Tidy) (fun _ => hs) fun _ => ht

theorem Chan.Tidy.ite {s t : Chan} (hs : s.Tidy) (ht : t.Tidy) : (if c then s else t).Tidy :=
  iteInduction (motive := Chan.Tidy) (fun _ => hs) fun _ => ht

theorem OptTidy.ite {s t : Option State} (hs : OptTidy s) (ht : OptTidy t) : OptTidy (if c then s else t) :=
  iteInduction (motive := OptTidy) (fun _ => hs) fun _ => ht

theorem OutTidy.ite {s t : Host.Outcome State Fault Refusal} (hs : OutTidy s) (ht : OutTidy t) :
    OutTidy (if c then s else t) :=
  iteInduction (motive := OutTidy) (fun _ => hs) fun _ => ht

theorem Eff.Tidy.ite {s t : Eff} (hs : s.Tidy) (ht : t.Tidy) : (if c then s else t).Tidy :=
  iteInduction (motive := Eff.Tidy) (fun _ => hs) fun _ => ht

theorem Wrote.Tidy.ite {s t : Wrote} (hs : s.Tidy) (ht : t.Tidy) : Wrote.Tidy (if c then s else t) :=
  iteInduction (motive := Wrote.Tidy) (fun _ => hs) fun _ => ht

theorem CmdRes.Tidy.ite {s t : CmdRes} (hs : s.Tidy) (ht : t.Tidy) : (if c then s else t).Tidy :=
  iteInduction (motive := CmdRes.Tidy) (fun _ => hs) fun _ => ht

theorem State.Tidy.foldl {f : State → α → State} {s : State} {l : List α} (h : s.Tidy)
    (hf : ∀ s x, s.Tidy → (f s x).Tidy) : (l.foldl f s).Tidy :=
  List.foldlRecOn l f h fun s hs x _ => hf s x hs

theorem Thread.Tidy.foldl {f : Thread → α → Thread} {s : Thread} {l : List α} (h : s.Tidy)
    (hf : ∀ s x, s.Tidy → (f s x).Tidy) : (l.foldl f s).Tidy :=
  List.foldlRecOn l f h fun s hs x _ => hf s x hs

theorem Chan.Tidy.foldl {f : Chan → α → Chan} {s : Chan} {l : List α} (h : s.Tidy)
    (hf : ∀ s x, s.Tidy → (f s x).Tidy) : (l.foldl f s).Tidy :=
  List.foldlRecOn l f h fun s hs x _ => hf s x hs

theorem Wrote.Tidy.foldl {f : Wrote → α → Wrote} {s : Wrote} {l : List α} (h : s.Tidy)
    (hf : ∀ s x, s.Tidy → Wrote.Tidy (f s x)) : Wrote.Tidy (l.foldl f s) :=
  List.foldlRecOn l f h fun s hs x _ => hf s x hs

theorem State.Tidy.elim {o : Option α} {f : α → State} {s : State} (h : s.Tidy) (hf : ∀ x, (f x).Tidy) :
    (o.elim s f).Tidy := by
  cases o with
  | none => exact h
  | some x => exact hf x

theorem OptTidy.elim {o : Option State} {f : State → State} {s : State} (ho : OptTidy o) (h : s.Tidy)
    (hf : ∀ t, t.Tidy → (f t).Tidy) : (o.elim s f).Tidy := by
  cases o with
  | none => exact h
  | some t => exact hf t (ho t rfl)

end

/-! ### Writes into the tables -/

section
variable {s : State} {th : Thread} {c : Chan} {n k : Nat}

theorem Thread.Tidy.init : Thread.init.Tidy := rfl
theorem Thread.Tidy.lost : th.lost.Tidy := rfl
theorem Chan.Tidy.init : Chan.init.Tidy := ⟨rfl, rfl⟩
theorem Chan.Tidy.dozing (h : c.Tidy) : c.dozing.Tidy := ⟨rfl, Tab.wf_tmap (Tab.wf_keys h.ranks) _ _⟩
theorem Chan.Tidy.setRank {r : Rank} (h : c.Tidy) : (c.setRank n r).Tidy := { h with ranks := Tab.wf_tset h.ranks .. }
theorem Chan.Tidy.setBank {b : Bank} (h : c.Tidy) : (c.setBank n b).Tidy := { h with banks := Tab.wf_tset h.banks .. }

theorem Thread.Tidy.setG {v : W64} (h : th.Tidy) : (th.setG n v).Tidy := by
  unfold Thread.setG
  split
  · exact h
  · exact Tab.wf_tset (d := fun _ => 0) h n v

theorem State.Tidy.thr {t : ThreadRef} (h : s.Tidy) : (s.thr t).Tidy := of_tget h.eachThread .init _
theorem State.Tidy.chan (h : s.Tidy) : (s.chan n).Tidy := of_tget h.eachChan .init _

theorem State.Tidy.setReg {v : W32} (h : s.Tidy) : (s.setReg n v).Tidy := { h with regs := Tab.wf_tset h.regs .. }
theorem State.Tidy.setCtx {x : Ctx} (h : s.Tidy) : (s.setCtx n x).Tidy := { h with ctxs := Tab.wf_tset h.ctxs .. }
theorem State.Tidy.setSp {p : SPort} (h : s.Tidy) : (s.setSp n p).Tidy := { h with sports := Tab.wf_tset h.sports .. }
theorem State.Tidy.evtQueue (h : s.Tidy) : (s.evtQueue n).Tidy := { h with evtPend := Tab.wf_tset h.evtPend .. }
theorem State.Tidy.setClasp {x : Clasp} (h : s.Tidy) : (s.setClasp n x).Tidy :=
  { h with clasps := Tab.wf_tset h.clasps .. }
theorem State.Tidy.setSfSet {x : List SfEnt} (h : s.Tidy) : (s.setSfSet n x).Tidy :=
  { h with filter := Tab.wf_tset h.filter .. }
theorem State.Tidy.setReady {x : List Nat} (h : s.Tidy) : (s.setReady n x).Tidy :=
  { h with readyQ := Tab.wf_tset h.readyQ .. }
theorem State.Tidy.setRs {x : Stop} (h : s.Tidy) : (s.setRs n x).Tidy := { h with stops := Tab.wf_tset h.stops .. }

theorem State.Tidy.setThr {t : ThreadRef} (h : s.Tidy) (ht : th.Tidy) : (s.setThr t th).Tidy :=
  { h with threads := Tab.wf_tset h.threads .., eachThread := of_mem_tset h.eachThread ht }

theorem State.Tidy.setChan (h : s.Tidy) (hc : c.Tidy) : (s.setChan n c).Tidy :=
  { h with chans := Tab.wf_tset h.chans .., eachChan := of_mem_tset h.eachChan hc }

theorem State.Tidy.updChan {f : Chan → Chan} (h : s.Tidy) (hf : ∀ c : Chan, c.Tidy → (f c).Tidy) :
    (s.updChan n f).Tidy := by
  have hc : (s.setChan n (f (s.chan n))).Tidy := h.setChan (hf _ h.chan)
  exact .ite hc hc.setReg

theorem State.Tidy.mapThreads {f : Thread → Thread} (h : s.Tidy) (hf : ∀ th : Thread, th.Tidy → (f th).Tidy) :
    ({ s with threads := tmap Thread.init f s.threads } : State).Tidy :=
  { h with
    threads := Tab.wf_tmap (Tab.wf_keys h.threads) ..
    eachThread := of_mem_tmap fun e he => hf _ (h.eachThread e he) }

theorem State.Tidy.portsDown (h : s.Tidy) : s.portsDown.Tidy :=
  { h with sports := Tab.wf_tmap (Tab.wf_keys h.sports) SPort.init fun p =>
      { p with ready := false, reqCr := 0, wdCr := 0, rdCr := 0 } }

theorem State.Tidy.portFall (h : s.Tidy) : (s.portFall n).Tidy := by
  unfold State.portFall
  extract_lets p s1
  have h1 : s1.Tidy := h.setSp
  have h2 := h1.mapThreads (f := fun th => { th with packet := th.packet.map (dropPkt n) }) fun _ ht => ht
  exact { h2 with ctxs := Tab.wf_tmap (Tab.wf_keys h1.ctxs) Ctx.init fun x =>
      { x with queue := x.queue.map (dropPkt n), ending := x.ending.map fun q => (dropPkt n q.1, q.2) } }

theorem State.Tidy.emit {o : Out} (h : s.Tidy) : (s.emit o).Tidy := { h with }

theorem State.Tidy.wakePads (h : s.Tidy) : ({ s with padQuiet := terase s.padQuiet n } : State).Tidy :=
  { h with padQuiet := Tab.wf_terase h.padQuiet n }

theorem State.Tidy.dramCmd {m : DramCmd} {raw : Bool} (h : s.Tidy) : (s.dramCmd n m raw).Tidy := by
  unfold State.dramCmd
  extract_lets s1
  have h1 : s1.Tidy := h.updChan fun _ hc => { hc with }
  exact h1.wakePads.emit

theorem State.Tidy.withToken {x : BitVec 256} (h : s.Tidy) : ({ s with token := x } : State).Tidy := { h with }

theorem State.Tidy.withAssigned {a : Tab Nat} (h : s.Tidy) (ha : Tab.wf (fun _ => 0) a = true) :
    ({ s with assigned := a } : State).Tidy :=
  { h with assigned := ha }

/-- A shadow's key is its offset twice, with the port in bit 0. -/
theorem shadowKey_div (p : Port) (off : Nat) : shadowKey p off / 2 = off := by
  cases p with
  | cfg => exact Nat.mul_div_cancel_left off Nat.two_pos
  | dbg => simp only [shadowKey]; omega

theorem State.Tidy.keepLow {p : Port} {off : Nat} {v : W32} (h : s.Tidy) :
    ({ s with wrShadow := tset (resetWord s.variant off) s.wrShadow (shadowKey p off) v } : State).Tidy :=
  have hw : Tab.wf (fun k => resetWord s.variant (k / 2))
      (tset (resetWord s.variant off) s.wrShadow (shadowKey p off) v) = true := by
    have hw := Tab.wf_tset h.wrShadow (shadowKey p off) v
    rwa [congrArg (resetWord s.variant) (shadowKey_div p off)] at hw
  { h with wrShadow := hw }

theorem State.Tidy.keepHigh {p : Port} {off : Nat} {v : W32} (h : s.Tidy) :
    ({ s with rdShadow := tset (resetWord s.variant (off + 4)) s.rdShadow (shadowKey p off) v } : State).Tidy :=
  have hw : Tab.wf (fun k => resetWord s.variant (k / 2 + 4))
      (tset (resetWord s.variant (off + 4)) s.rdShadow (shadowKey p off) v) = true := by
    have hw := Tab.wf_tset h.rdShadow (shadowKey p off) v
    rwa [congrArg (fun n => resetWord s.variant (n + 4)) (shadowKey_div p off)] at hw
  { h with rdShadow := hw }

theorem keysAbove_of_pairwise {α : Type} {t : Tab α} {lo : Nat} (hlo : ∀ e ∈ t, lo ≤ e.1)
    (ht : t.Pairwise fun a b => a.1 < b.1) : keysAbove lo t = true := by
  induction t generalizing lo with
  | nil => rfl
  | cons e t ih =>
    rw [List.pairwise_cons] at ht
    simp only [keysAbove, Bool.and_eq_true, decide_eq_true_eq]
    exact ⟨hlo e List.mem_cons_self, ih (fun x hx => ht.1 x hx) ht.2⟩

/-- The routed sources of one cycle are listed in order, each with its line and one. -/
theorem State.assignment_wf (s : State) : Tab.wf (fun _ => 0) s.assignment = true := by
  rw [Tab.wf_iff]
  refine ⟨keysAbove_of_pairwise (fun _ _ => Nat.zero_le _) ?_, fun e he => ?_⟩
  · refine List.Pairwise.filterMap _ ?_ (List.Pairwise.filter _ List.pairwise_lt_range)
    intro a b hab x hx y hy
    obtain ⟨_, _, rfl⟩ := Option.map_eq_some_iff.mp hx
    obtain ⟨_, _, rfl⟩ := Option.map_eq_some_iff.mp hy
    exact hab
  · obtain ⟨src, -, hsrc⟩ := List.mem_filterMap.mp he
    obtain ⟨n, -, rfl⟩ := Option.map_eq_some_iff.mp hsrc
    exact Nat.succ_ne_zero n

end

/-! ### Shared operations (Sys2Proof/Machine/Ops.lean) -/

section
variable {s : State} {a n : Nat} {r : SpRsp}

theorem State.Tidy.setFld {hi lo : Nat} (h : s.Tidy) : (s.setFld a hi lo n).Tidy := h.setReg
theorem State.Tidy.setFlag {i : Nat} {b : Bool} (h : s.Tidy) : (s.setFlag a i b).Tidy := h.setFld
theorem State.Tidy.setReg2 (h : s.Tidy) : (s.setReg2 a n).Tidy := h.setReg.setReg
theorem State.Tidy.count2 (h : s.Tidy) : (s.count2 a).Tidy := h.setReg2
theorem State.Tidy.draw (h : s.Tidy) : s.draw.Tidy := { h with }
theorem State.Tidy.setCtxState {st : Nat} (h : s.Tidy) : (s.setCtxState n st).Tidy := h.setFld
theorem State.Tidy.readDone {t : Stamp} (h : s.Tidy) : (s.readDone t).Tidy :=
  .ite (.setFlag (.ite h { h with })) (.ite h { h with })
theorem State.Tidy.spEmit (h : s.Tidy) : (s.spEmit n r).Tidy :=
  .emit (.ite (.elim (.ite h.count2 h) (fun _ => .readDone (.ite h.count2 h))) (.ite h.count2 h))

theorem State.Tidy.spDrain {k : Nat} (h : s.Tidy) : (Machine.spDrain k n s).Tidy := by
  induction k generalizing s with
  | zero => exact h
  | succ k ih =>
    unfold Machine.spDrain
    extract_lets p
    split
    · exact h
    · exact .ite h (ih h.setSp.spEmit)

theorem State.Tidy.spRespond (h : s.Tidy) : (s.spRespond n r).Tidy := .ite h h.setSp.spDrain

end

/-! ### Charms and the port arbiter's pool (Sys2Proof/Machine/Charm.lean) -/

section
variable {s : State} {c charm : Nat} {r : Req}

theorem State.Tidy.countLine (h : s.Tidy) : (s.countLine c).Tidy := .ite h h.setFld
theorem State.Tidy.recompute (h : s.Tidy) : s.recompute.Tidy :=
  .setReg (.setReg (.setFld (.setFlag (.setFlag (.ite h.setFlag h)))))
theorem State.Tidy.setCq {q : CharmQ} (h : s.Tidy) : (s.setCq c q).Tidy := { h with }

theorem State.Tidy.settle (h : s.Tidy) : (s.settle c).Tidy := by
  unfold State.settle
  extract_lets q start w
  split
  · exact h.setCq
  · exact h.setCq

theorem State.Tidy.poolAdd (h : s.Tidy) : (s.poolAdd r).Tidy := .settle { h with }

theorem State.Tidy.poolTake (h : s.Tidy) : (s.poolTake r).Tidy := by
  unfold State.poolTake
  extract_lets c q s1
  have h1 : s1.Tidy := by
    dsimp only [s1]
    split
    · have h2 := h.setCq (c := c) (q := { q with prev := ‹_› })
      exact { h2 with }
    · exact h.setCq
  exact .settle { h1 with }

theorem State.Tidy.settleAll (h : s.Tidy) : s.settleAll.Tidy := h.foldl fun _ _ h1 => h1.settle
theorem State.Tidy.admitReq (h : s.Tidy) : (s.admitReq charm r).2.Tidy :=
  have h1 := h.countLine (c := charm)
  { h1 with }
theorem State.Tidy.enter (h : s.Tidy) : (s.enter charm r).Tidy := h.admitReq.poolAdd
theorem State.Tidy.sampleOne (h : s.Tidy) : (s.sampleOne c).Tidy := h.setReg.setReg

theorem State.Tidy.sampleAll (h : s.Tidy) : s.sampleAll.Tidy := by
  unfold State.sampleAll
  extract_lets src
  have hsrc : src.Tidy := h.foldl fun _ _ h1 => h1.sampleOne
  clear_value src
  exact { hsrc with }

theorem State.Tidy.trEnter {b slot : Nat} (h : s.Tidy) : (s.trEnter b slot).Tidy := h.setFld.setFld.settleAll
theorem State.Tidy.trTakeover (h : s.Tidy) : s.trTakeover.Tidy := h.setFld.setFlag.trEnter
theorem State.Tidy.trBoundary (h : s.Tidy) : s.trBoundary.Tidy := .ite h.trTakeover h.trEnter
theorem State.Tidy.trRestart (h : s.Tidy) : s.trRestart.Tidy := .ite h (.ite h.trTakeover h.trEnter)
theorem State.Tidy.trStart (h : s.Tidy) : s.trStart.Tidy := h.setFlag.setFld.trEnter
theorem State.Tidy.trStop (h : s.Tidy) : s.trStop.Tidy := h.setFlag.setFlag.setReg.settleAll
theorem State.Tidy.usedClear (h : s.Tidy) : s.usedClear.Tidy := h.foldl fun _ _ h1 => h1.setFld

end

/-! ### Fault blocks and their reactions (Sys2Proof/Machine/Fault.lean) -/

section
variable {s : State} {grave : Bool} {c : Chan} {b : FaultRef} {info kind sc src : Nat}

theorem State.Tidy.addHist {e : HistEnt} (h : s.Tidy) : (s.addHist b e).Tidy := by
  unfold State.addHist
  extract_lets old s1 s2 s3
  have hs1 : s1.Tidy := .ite h.setFlag h
  have hs2 : s2.Tidy := hs1.setFld
  have hs3 : s3.Tidy := hs2.setFld
  clear_value s3
  exact { hs3 with }

theorem State.Tidy.onset (h : s.Tidy) : s.onset.Tidy := .ite { h with } h
theorem State.Tidy.enterGrave (h : s.Tidy) : (s.enterGrave b src).Tidy :=
  .ite h (.onset (.ite h.setFlag.setFld.setFlag h.setFlag.setFld))
theorem State.Tidy.record {forced : Bool} (h : s.Tidy) : (s.record b src kind info forced).Tidy :=
  .ite (.enterGrave (.addHist (.ite h.setFlag.setFlag h.setFlag))) (.addHist (.ite h.setFlag.setFlag h.setFlag))

theorem Chan.Tidy.cut (hc : c.Tidy) : (c.cut grave).Tidy := by
  unfold Chan.cut
  split
  · exact hc
  · exact .ite (.ite { hc with } hc) (.ite hc { hc with })

theorem Chan.Tidy.shut (hc : c.Tidy) : (c.shut grave).Tidy := { hc.cut with }
theorem State.Tidy.isolate (h : s.Tidy) : (s.isolate sc b src).Tidy := h.updChan fun _ h1 => { h1.shut with }
theorem State.Tidy.levelDrop (h : s.Tidy) : s.levelDrop.Tidy :=
  have h1 : ({ s.setFlag 0x2000 24 true with token := 0 } : State).Tidy := h.setFlag.withToken
  .ite h (.setFld (.setFlag (.ite h1 h)))

theorem State.Tidy.graveStop (h : s.Tidy) : (s.graveStop b src).Tidy := by
  unfold State.graveStop
  split
  · exact h.updChan fun _ h1 => h1.shut
  · exact { h with }
  · exact h.portsDown
  · exact h.portFall
  · exact h.foldl fun _ _ h1 => h1.isolate.updChan fun _ h2 => h2.cut
  · exact h.levelDrop
  · exact h

theorem State.Tidy.reactLow {eff : Nat} {was : Bool} (h : s.Tidy) : (s.reactLow b src info eff was).Tidy :=
  .ite (.graveStop (.ite h.isolate h)) (.ite h.isolate h)
theorem State.Tidy.raiseLow (h : s.Tidy) : (s.raiseLow b src kind info).Tidy := h.record.reactLow
theorem State.Tidy.endIsolation (h : s.Tidy) : (s.endIsolation sc).Tidy :=
  .ite (h.updChan (fun _ h1 => { h1 with })) h
theorem State.Tidy.endIsolations (h : s.Tidy) : s.endIsolations.Tidy := h.foldl fun _ _ h1 => h1.endIsolation

end

/-! ### Clasps (Sys2Proof/Machine/Clasp.lean) -/

section
variable {s : State} {repair : Bool} {w : ClaspWait} {n owner result : Nat}

theorem State.Tidy.ringSend {stop : Nat} {cw : Bool} {hd : Hdr} {payload : Line} (h : s.Tidy) :
    (s.ringSend stop cw hd payload).Tidy :=
  h.emit
theorem State.Tidy.claspRsp {r : Nat × Bool × Nat} (h : s.Tidy) : (s.claspRsp n owner r result).Tidy := h.ringSend

theorem State.Tidy.claspResult (h : s.Tidy) : (s.claspResult w result).Tidy := by
  unfold State.claspResult
  split
  · exact h.claspRsp
  · extract_lets t th
    split
    · exact h.setThr h.thr.setG
    · exact h.setThr h.thr.setG
    · exact h

theorem State.Tidy.claspHold (h : s.Tidy) : (s.claspHold n owner repair).Tidy := h.setClasp
theorem State.Tidy.claspTake (h : s.Tidy) : (s.claspTake w).Tidy := h.claspHold.claspResult

theorem State.Tidy.claspRefill {k : Nat} (h : s.Tidy) : (Machine.claspRefill k s).Tidy := by
  induction k generalizing s with
  | zero => exact h
  | succ k ih =>
    unfold Machine.claspRefill
    split
    · exact h
    · split
      · exact h
      · extract_lets s1 t th s2
        have h1 : s1.Tidy := { h with }
        have h2 : s2.Tidy := by
          dsimp only [s2]
          split
          · exact h1.setThr h1.thr
          · exact h1
        exact .ite (ih { h2 with }) (ih h2.claspTake)

theorem State.Tidy.claspHandOn (h : s.Tidy) : (s.claspHandOn n).Tidy := by
  unfold State.claspHandOn
  split
  · exact h
  · exact .claspRefill (.claspTake { h with })

theorem State.Tidy.claspFree (h : s.Tidy) : (s.claspFree n).Tidy := h.setClasp.claspHandOn
theorem State.Tidy.claspBreakNow (h : s.Tidy) : (s.claspBreakNow n).Tidy := h.setClasp.claspHandOn
theorem State.Tidy.claspLoss (h : s.Tidy) : (s.claspLoss n).Tidy := .ite h.raiseLow.claspBreakNow h
theorem State.Tidy.claspRelease (h : s.Tidy) : OptTidy (s.claspRelease n owner repair) :=
  .ite (State.Tidy.some (.ite h.claspFree h.claspBreakNow)) .none
theorem State.Tidy.claspWithdraw (h : s.Tidy) : (s.claspWithdraw owner).Tidy := .claspRefill { h with }
theorem State.Tidy.claspLossAll (h : s.Tidy) : (s.claspLossAll owner).Tidy :=
  h.claspWithdraw.foldl fun _ _ h1 => h1.claspLoss

end

/-! ### The Locket (Sys2Proof/Machine/Locket.lean) -/

section
variable {s : State} {hdr : Bool} {l : LkLine} {line : Nat}

theorem State.Tidy.setLkSet {i : Nat} {l : List LkLine} (h : s.Tidy) : (s.setLkSet i l).Tidy := { h with }

theorem State.Tidy.lkPlace (h : s.Tidy) : (s.lkPlace l).Tidy := by
  unfold State.lkPlace
  split
  · exact h
  · extract_lets i set
    split
    · exact h.setLkSet
    · split
      · exact h.setLkSet
      · split
        · exact h.setLkSet
        · exact h

theorem State.Tidy.lkUpdate (h : s.Tidy) : (s.lkUpdate l).Tidy := .ite h h.setLkSet

theorem State.Tidy.tagCheck (h : s.Tidy) : (s.tagCheck line).Tidy := by
  unfold State.tagCheck
  extract_lets i src
  have hsrc : src.Tidy := h.setLkSet
  clear_value src
  exact .ite (.raiseLow { hsrc with }) h

theorem State.Tidy.lkWrite {place : Bool} (h : s.Tidy) : (s.lkWrite place l).Tidy :=
  .ite h.tagCheck.lkPlace h.tagCheck.lkUpdate
theorem State.Tidy.lkDrop (h : s.Tidy) : (s.lkDrop line).Tidy := h.setLkSet
theorem State.Tidy.lkHit {x : LkLine} (h : s.Tidy) : (s.lkHit hdr x).2.Tidy := .iteSnd h.setLkSet h.setLkSet.raiseLow

theorem State.Tidy.lkLookup (h : s.Tidy) : (s.lkLookup hdr line).2.Tidy := by
  unfold State.lkLookup
  split
  · exact h
  · extract_lets s1
    have hs1 : s1.Tidy := h.tagCheck
    split
    · exact hs1.count2.lkHit
    · exact hs1.count2

theorem State.Tidy.lkTrim {plot : Nat} (h : s.Tidy) : (s.lkTrim plot).Tidy := { h with }
theorem State.Tidy.lkInval (h : s.Tidy) : s.lkInval.Tidy := { h with }

end

/-! ### The snoop filter (Sys2Proof/Machine/Filter.lean) -/

section
variable {s : State} {a : Ans} {cw : Bool} {grant line st txn x : Nat} {t : Trk}

theorem State.Tidy.setTrk (h : s.Tidy) : (s.setTrk t).Tidy := { h with }
theorem State.Tidy.sfClear (h : s.Tidy) : (s.sfClear line).Tidy := h.setSfSet
theorem State.Tidy.sfPut {sum agent : Nat} {granted : Bool} (h : s.Tidy) : (s.sfPut line sum agent granted).Tidy :=
  .ite h.setSfSet (.ite h.setSfSet h.setSfSet)

theorem State.Tidy.sfApply {a : FiltUpd} (h : s.Tidy) : (s.sfApply line a).Tidy := by
  unfold State.sfApply
  split
  · exact h
  · exact h.sfClear
  · exact h.sfPut
  · exact h.sfPut
  · exact h.sfPut

theorem State.Tidy.snoop {kind : Nat} (h : s.Tidy) : (s.snoop t kind).Tidy := .ite h.setTrk h.setTrk.emit
theorem State.Tidy.openAns {status : Nat} {poison tmo : Bool} (h : s.Tidy) : (s.openAns status poison tmo).2.Tidy :=
  h.draw
theorem State.Tidy.exitCheck {b : FaultRef} {src : Nat} (h : s.Tidy) : (s.exitCheck b src line a).2.Tidy :=
  .iteSnd h h.raiseLow
theorem State.Tidy.readOut {t : Stamp} (h : s.Tidy) : (s.readOut t a).Tidy := .ite h.readDone h
theorem State.Tidy.sendDat (h : s.Tidy) : (s.sendDat t st cw x txn grant a).Tidy := h.exitCheck.ringSend.readOut
theorem State.Tidy.sendCmp {dfwd : Bool} (h : s.Tidy) : (s.sendCmp t st cw x txn grant dfwd).Tidy := h.ringSend

theorem State.Tidy.sendWrAck {stale : Bool} (h : s.Tidy) : (s.sendWrAck t stale).Tidy := by
  unfold State.sendWrAck
  split
  · exact .ite h h.ringSend
  · exact h

theorem State.Tidy.lineDone {run : Option (Nat × Nat)} (h : s.Tidy) : (s.lineDone run).Tidy := by
  unfold State.lineDone
  split
  · exact .ite h.setFld h
  · exact h

theorem State.Tidy.deliver (h : s.Tidy) : (s.deliver t a grant).Tidy := by
  unfold State.deliver
  extract_lets s1 src
  have hs1 : s1.Tidy := .ite h.lineDone h
  have hsrc : src.Tidy := hs1.readOut
  clear_value s1 src
  split
  · exact hs1
  · split
    · exact hs1.exitCheck.spRespond
    · exact hs1.sendDat
    · split
      · exact { hsrc with }
      · exact hs1
    · exact hs1
    · exact { hs1 with }

end

/-! ### The queues of the sub-channels (Sys2Proof/Machine/Queue.lean) -/

section
variable {s : State} {cipher poison : Bool} {hm : Hm} {data : Line} {sc : Nat} {e : QEnt}

theorem State.Tidy.drainNow (h : s.Tidy) : (s.drainNow sc).Tidy := h.updChan fun _ h1 => { h1 with }
theorem State.Tidy.latchQ (h : s.Tidy) : (s.latchQ sc).Tidy := .drainNow (h.updChan (fun _ h1 => { h1 with }))
theorem State.Tidy.pdWake {r : Nat} (h : s.Tidy) : (s.pdWake sc r).Tidy :=
  .ite (.dramCmd (h.updChan (fun _ h1 => h1.setRank))) h
theorem State.Tidy.enqueue (h : s.Tidy) : (s.enqueue sc e).Tidy :=
  .drainNow (.ite (.pdWake (h.updChan (fun _ h1 => { h1 with }))) (h.updChan (fun _ h1 => { h1 with })))
theorem State.Tidy.replaceWrite (h : s.Tidy) : (s.replaceWrite sc e data hm poison cipher).Tidy :=
  h.updChan fun _ h1 => { h1 with }

theorem State.Tidy.queueWrite {owner : QOwner} {rq line : Nat} {p : Place} {stamp : Stamp} (h : s.Tidy) :
    OptTidy (s.queueWrite owner rq line p stamp data hm poison cipher) := by
  unfold State.queueWrite
  split
  · exact h.replaceWrite.some
  · exact .ite h.enqueue.some .none

theorem State.Tidy.forward (h : s.Tidy) : (s.forward sc e).2.Tidy := .iteSnd h h.raiseLow

end

/-! ### Completion records and events (Sys2Proof/Machine/Entry.lean) -/

section
variable {s : State}

theorem State.Tidy.sliceGo {k n : Nat} (h : s.Tidy) : (Machine.sliceGo k n s).Tidy := by
  induction k generalizing s with
  | zero => exact h
  | succ k ih =>
    unfold Machine.sliceGo
    extract_lets p
    split
    · exact h
    · exact .ite (ih (.poolAdd { h with stops := Tab.wf_tset h.stops .. })) h

theorem State.Tidy.slicesGo (h : s.Tidy) : s.slicesGo.Tidy := h.foldl fun _ _ h1 => h1.sliceGo

theorem State.Tidy.scrubGo (h : s.Tidy) : s.scrubGo.Tidy := by
  unfold State.scrubGo
  split
  · exact h
  · exact .ite (.enter { h with }) h

end

/-! ### Halts of threads and contexts (Sys2Proof/Machine/Halt.lean) -/

section
variable {s : State} {b : FaultRef} {cause cl ctx info kind src status : Nat} {p : Packet} {t : ThreadRef}

theorem State.Tidy.packetRsp (h : s.Tidy) : (s.packetRsp p status).Tidy := .ite h h.spRespond
theorem State.Tidy.endPacket (h : s.Tidy) : (s.endPacket ctx p status).Tidy := h.setCtx
theorem State.Tidy.dropDesc (h : s.Tidy) : (s.dropDesc ctx).Tidy := { h with }
theorem State.Tidy.endRun {outcome : Nat} (h : s.Tidy) : (s.endRun ctx outcome cause).Tidy :=
  .setCtx (.ite h.dropDesc.setReady (h.dropDesc.setReady.foldl (fun _ _ h1 => h1.packetRsp)))
theorem State.Tidy.slotWait {c : Nat} {st : ThrState} (h : s.Tidy) : (s.slotWait t c st).Tidy :=
  .ite h (h.setThr h.thr)
theorem State.Tidy.dropMaint (h : s.Tidy) : (s.dropMaint t).Tidy := .ite (h.updChan (fun _ h1 => { h1 with })) h

theorem State.Tidy.leave (h : s.Tidy) : (s.leave t status).Tidy := by
  unfold State.leave
  extract_lets th s1 s2 th2 s3
  have h1 : s1.Tidy := h.claspLossAll.dropMaint
  have h2 : s2.Tidy := by
    dsimp only [s2]
    split
    · exact h1.endPacket
    · exact h1
  clear_value s2
  have h3 : s3.Tidy := h2.setThr h2.thr
  clear_value s3
  exact { h3 with }

theorem State.Tidy.haltEvent (h : s.Tidy) : (s.haltEvent ctx cause).Tidy := .ite h.record h

theorem State.Tidy.offline (h : s.Tidy) : (s.offline t).Tidy := by
  unfold State.offline
  extract_lets th s1 src s2
  have hs1 : s1.Tidy := h.leave
  have hs2 : s2.Tidy := hs1.setThr hs1.thr
  split
  · exact hs2.endRun.haltEvent
  · exact hs2

theorem State.Tidy.clusterStop (h : s.Tidy) : (s.clusterStop cl).Tidy := h.foldl fun _ _ h1 => h1.offline
theorem State.Tidy.clusterCheck {was : Bool} (h : s.Tidy) : (s.clusterCheck cl was).Tidy := .ite h.clusterStop h
theorem State.Tidy.engineOffline (h : s.Tidy) : (s.engineOffline t).Tidy := .foldl { h with } fun _ _ h1 => h1.offline

theorem State.Tidy.raiseF {forced : Bool} (h : s.Tidy) : (s.raiseF b src kind info forced).Tidy := by
  unfold State.raiseF
  extract_lets eff was s1 s2
  have h1 : s1.Tidy := h.record
  have h2 : s2.Tidy := by
    dsimp only [s2]
    split
    · exact .ite h1.engineOffline h1
    · exact h1
  clear_value s2
  split
  · exact h2.clusterCheck
  · exact h2.reactLow

theorem State.Tidy.raise (h : s.Tidy) : (s.raise b src kind info).Tidy := h.raiseF
theorem State.Tidy.haltCtx (h : s.Tidy) : (s.haltCtx ctx cause).Tidy := h.endRun.haltEvent.clusterCheck

theorem State.Tidy.threadFault {code : Nat} (h : s.Tidy) : (s.threadFault t code cause).Tidy := by
  unfold State.threadFault
  extract_lets th s1 src s2 s3 s4
  have h1 : s1.Tidy := h.leave
  have h2 : s2.Tidy := h1.setThr h1.thr
  clear_value s2
  have h3 : s3.Tidy := by
    dsimp only [s3]
    split
    · exact h2.endRun.slotWait
    · exact h2
  clear_value s3
  split
  · split
    · exact h3.raise.haltEvent.clusterCheck
    · exact h3.raise
  · exact h2.raise
  · exact h2.raise

theorem State.Tidy.toIdle (h : s.Tidy) : (s.toIdle t).Tidy := h.leave.setThr h.leave.thr

end

/-! ### The Seed Map and sprouts (Sys2Proof/Machine/Seed.lean) -/

section
variable {s : State} {line : Nat}

theorem State.Tidy.setSprout {slot : Nat} {p : Sprout} (h : s.Tidy) : (s.setSprout slot p).Tidy := { h with }

theorem State.Tidy.startSprout {plot : Nat} (h : s.Tidy) : (s.startSprout plot).Tidy := by
  unfold State.startSprout
  split
  · exact h
  · extract_lets slot src
    have h1 : src.Tidy := h.draw.setSprout
    have hp := Tab.wf_tset h.plots plot true
    clear_value src
    exact { h1 with plots := hp }

theorem State.Tidy.seedEarly (h : s.Tidy) : (s.seedEarly line).2.Tidy :=
  .iteSnd h (.iteSnd (.iteSnd h h) (.iteSnd h { h with }))
theorem State.Tidy.seedWrite (h : s.Tidy) : (s.seedWrite line).2.Tidy :=
  .iteSnd h.seedEarly (.iteSnd (.iteSnd h h.startSprout.seedEarly) h)
theorem State.Tidy.sealedEvent (h : s.Tidy) : (s.sealedEvent line).Tidy := h.raiseLow

end

/-! ### The home's transactions (Sys2Proof/Machine/Home.lean) -/

section
variable {s : State} {a : Ans} {err line : Nat} {r : Req} {got : State → Trk → Ans → State}
  {rd wr : State → Trk → State} {t : Trk}

theorem State.Tidy.settleTrk (h : s.Tidy) : (s.settleTrk t).Tidy := h.setTrk

theorem State.Tidy.failEvent (h : s.Tidy) : (s.failEvent r err).Tidy := by
  unfold State.failEvent
  extract_lets s1
  have h1 : s1.Tidy := by
    dsimp only [s1]
    split
    · exact { h with }
    · exact h
  clear_value s1
  split
  · split
    · exact h1.raise
    · exact h1
  · split
    · exact h1.raise
    · exact h1.raise
    · exact h1

theorem State.Tidy.refuseRead {status : Nat} {poison tmo : Bool} (h : s.Tidy) :
    (s.refuseRead t status poison tmo).Tidy :=
  h.openAns.deliver.settleTrk

theorem State.Tidy.dbgWritten (h : s.Tidy) : (s.dbgWritten t).Tidy := by
  unfold State.dbgWritten
  split
  · exact { h with }
  · exact h

theorem State.Tidy.holdTrk (h : s.Tidy) : (s.holdTrk t).Tidy := h.setTrk
theorem State.Tidy.dirties (h : s.Tidy) : (s.dirties line).Tidy := { h with }
theorem State.Tidy.toQueue {p : Place} (h : s.Tidy) : (s.toQueue t p).Tidy := .ite h.setTrk h.holdTrk

theorem State.Tidy.memWriteWith {fail : State → Trk → State} (h : s.Tidy) (hfail : ∀ s1 a, s1.Tidy → (fail s1 a).Tidy)
    :
    (s.memWriteWith t fail).Tidy := by
  unfold State.memWriteWith
  extract_lets src t1 s1 r s2
  have hs1 : s1.Tidy := .ite h h.dirties
  have hs2 : s2.Tidy := hs1.seedWrite
  split
  · exact hs2.setTrk
  · exact hs2.setTrk
  · exact hs2.setTrk
  · exact (hfail _ _ hs2).elim fun _ => hs2.toQueue

theorem State.Tidy.fill (h : s.Tidy) : (s.fill t a).Tidy := .ite h.lkPlace h

theorem State.Tidy.wroteWith (h : s.Tidy) (hrd : ∀ s1 a, s1.Tidy → (rd s1 a).Tidy)
    (hgot : ∀ s1 a a1, s1.Tidy → (got s1 a a1).Tidy) :
    (s.wroteWith t rd got).Tidy := by
  unfold State.wroteWith
  split
  · extract_lets t1
    split
    · exact .ite h.settleTrk (hrd _ _ h)
    · exact hgot _ _ _ h
    · exact hgot _ _ _ h
    · exact h.settleTrk
  · split
    · exact .ite h.refuseRead h.deliver.settleTrk
    · exact h.dbgWritten.settleTrk

theorem State.Tidy.failWriteWith (h : s.Tidy) (hrd : ∀ s1 a, s1.Tidy → (rd s1 a).Tidy)
    (hgot : ∀ s1 a a1, s1.Tidy → (got s1 a a1).Tidy) :
    (s.failWriteWith t err rd got).Tidy := by
  unfold State.failWriteWith
  exact .ite (.wroteWith (.setTrk (.ite h.raise h)) (fun _ _ h1 => hrd _ _ h1) (fun _ _ _ h1 => hgot _ _ _ h1))
    (h.failEvent.setTrk.wroteWith (fun _ _ h1 => hrd _ _ h1) (fun _ _ _ h1 => hgot _ _ _ h1))

theorem State.Tidy.gotDataWith (h : s.Tidy) (hwr : ∀ s1 a1, s1.Tidy → (wr s1 a1).Tidy) :
    (s.gotDataWith t a wr).Tidy := by
  unfold State.gotDataWith
  split
  · exact .ite h.failEvent.settleTrk (hwr _ _ h.setTrk)
  · exact .ite h.deliver.settleTrk (.ite h.deliver.settleTrk (hwr _ _ h.setTrk))
  · exact h.deliver.settleTrk

theorem State.Tidy.memReadWith (h : s.Tidy) (hwr : ∀ s1 a, s1.Tidy → (wr s1 a).Tidy) : (s.memReadWith t wr).Tidy := by
  unfold State.memReadWith
  extract_lets r src t1 s1 o
  have hs1 : s1.Tidy := h.lkLookup
  split
  · exact hs1.gotDataWith fun _ _ h1 => hwr _ _ h1
  · split
    · exact hs1.gotDataWith fun _ _ h1 => hwr _ _ h1
    · split
      · exact hs1.openAns.gotDataWith fun _ _ h1 => hwr _ _ h1
      · exact hs1.toQueue

theorem State.Tidy.memWriteLast (h : s.Tidy) : (s.memWriteLast t).Tidy :=
  h.memWriteWith fun _ _ h1 => h1.failWriteWith (fun _ _ h2 => h2.settleTrk) fun _ _ _ h2 => h2.settleTrk

theorem State.Tidy.memWrite (h : s.Tidy) : (s.memWrite t).Tidy := by
  unfold State.memWrite
  exact h.memWriteWith fun _ _ h1 =>
    h1.failWriteWith (fun _ _ h2 => h2.memReadWith fun _ _ h3 => h3.memWriteLast) fun _ _ _ h2 =>
      h2.gotDataWith fun _ _ h3 => h3.memWriteLast

theorem State.Tidy.memRead (h : s.Tidy) : (s.memRead t).Tidy := h.memReadWith fun _ _ h1 => h1.memWrite
theorem State.Tidy.gotData (h : s.Tidy) : (s.gotData t a).Tidy := h.gotDataWith fun _ _ h1 => h1.memWrite
theorem State.Tidy.wrote (h : s.Tidy) : (s.wrote t).Tidy :=
  h.wroteWith (fun _ _ h1 => h1.memRead) fun _ _ _ h1 => h1.gotData
theorem State.Tidy.failWrite (h : s.Tidy) : (s.failWrite t err).Tidy :=
  h.failWriteWith (fun _ _ h1 => h1.memRead) fun _ _ _ h1 => h1.gotData
theorem State.Tidy.sendStash {target : Nat} (h : s.Tidy) : (s.sendStash t target).Tidy := h.exitCheck.setTrk.emit

theorem State.Tidy.afterWay (h : s.Tidy) : (s.afterWay t).Tidy := by
  unfold State.afterWay
  split
  · exact h.sendStash
  · exact h.memRead

theorem State.Tidy.forceOut {v : SfEnt} (h : s.Tidy) : (s.forceOut v).Tidy := by
  unfold State.forceOut
  extract_lets src r src1 t src2 s1
  have hsrc2 : src2.Tidy := h.draw
  have hs1 : s1.Tidy := { hsrc2 with }
  exact hs1.setReg.snoop

theorem State.Tidy.claim (h : s.Tidy) : (s.claim t).Tidy := by
  unfold State.claim
  extract_lets i t1 s1
  have hs1 : s1.Tidy := h.setSfSet
  split
  · exact hs1.setTrk.afterWay
  · split
    · exact h.setTrk
    · split
      · exact .ite h.setTrk.forceOut h.setTrk
      · exact h.setTrk

theorem State.Tidy.atomChoice (h : s.Tidy) : (s.atomChoice t).2.Tidy :=
  .ite (.setReg (.ite { h with } h)) (.setReg (.ite { h with } h))

theorem State.Tidy.takeOwned (h : s.Tidy) : (s.takeOwned t).Tidy := by
  unfold State.takeOwned
  extract_lets t1
  split
  · exact h.claim
  · exact h.snoop

theorem State.Tidy.takeRead (h : s.Tidy) : (s.takeRead t).Tidy := by
  unfold State.takeRead
  split
  · exact .ite h.snoop h.memRead
  · exact h.memRead

theorem State.Tidy.takeWrite (h : s.Tidy) : (s.takeWrite t).Tidy := by
  unfold State.takeWrite
  extract_lets t1
  split
  · exact h.snoop
  · exact h.memWrite

theorem State.Tidy.decideTake (h : s.Tidy) : (s.decideTake t).Tidy := by
  unfold State.decideTake
  extract_lets r t1 excl t2 src c
  split
  · exact h.takeRead
  · exact h.takeRead
  · exact h.takeRead
  · exact h.takeWrite
  · exact h.takeWrite
  · exact h.memWrite
  · exact .ite h.setTrk h.memWrite
  · split
    · exact h.snoop
    · exact h.memRead
  · split
    · exact h.refuseRead
    · split
      · exact h.claim
      · exact .ite h.memRead h.snoop
  · exact .ite h.refuseRead h.takeOwned
  · exact .ite h.refuseRead h.takeOwned
  · split
    · exact .ite h.memWrite h.setTrk
    · exact h.setTrk
  · split
    · exact .ite h.setTrk (.ite h.setTrk h.setTrk)
    · exact h.setTrk
  · split
    · exact h.takeWrite
    · extract_lets t3
      split
      · exact h.snoop
      · exact h.claim
  · split
    · exact h.refuseRead
    · split
      · split
        · exact h.atomChoice.snoop
        · exact h.atomChoice.memRead
      · exact h.atomChoice.takeOwned
  · exact h
  · exact h

theorem State.Tidy.moveTake (h : s.Tidy) : (s.moveTake line).Tidy := { h with }

theorem State.Tidy.takeTrk (h : s.Tidy) : (s.takeTrk r).Tidy := by
  unfold State.takeTrk
  extract_lets t src s1
  have hsrc : src.Tidy := h.draw
  have hs1 : s1.Tidy := { hsrc with }
  exact .ite hs1.sealedEvent.refuseRead (.ite hs1.sealedEvent.setTrk hs1.decideTake)

theorem State.Tidy.take (h : s.Tidy) : (s.take r).Tidy := .ite h.moveTake h.takeTrk

theorem State.Tidy.pumpFuel {k : Nat} (h : s.Tidy) : (Machine.pumpFuel k s).Tidy := by
  induction k generalizing s with
  | zero => exact h
  | succ k ih =>
    unfold Machine.pumpFuel
    split
    · exact h
    · exact ih (.take { h with })

theorem State.Tidy.pump (h : s.Tidy) : s.pump.Tidy := .ite h.pumpFuel h
theorem State.Tidy.requeue {was : List (Req × Bool)} (h : s.Tidy) : (s.requeue was).Tidy := { h with }

theorem State.Tidy.enterHome (h : s.Tidy) : (s.enterHome r).Tidy := by
  unfold State.enterHome
  extract_lets s1
  have hs1 : s1.Tidy := .ite h.dirties h
  clear_value s1
  exact .pump { hs1 with }

theorem State.Tidy.retryWays (h : s.Tidy) : s.retryWays.Tidy := by
  unfold State.retryWays
  refine .foldl h fun s1 x1 h1 => ?_
  split
  · exact .ite h1.claim h1
  · exact h1

theorem State.Tidy.freeVictim (h : s.Tidy) : (s.freeVictim line).Tidy := h.elim fun _ => h.claim
theorem State.Tidy.takeFilt (h : s.Tidy) : (s.takeFilt t).Tidy := .ite h.sfClear h.sfApply

theorem State.Tidy.endTrk (h : s.Tidy) : (s.endTrk t).Tidy := by
  unfold State.endTrk
  extract_lets was s1 s2 s3
  have h1 : s1.Tidy := .takeFilt { h with }
  have h2 : s2.Tidy := by
    dsimp only [s2]
    split
    · exact h1.sendWrAck
    · exact h1.sendWrAck
    · exact h1.sendWrAck
    · exact h1.sendWrAck
    · exact h1
  clear_value s2
  have h3 : s3.Tidy := .ite h2.freeVictim h2
  exact h3.retryWays.requeue.pump

theorem State.Tidy.holdLine (h : s.Tidy) : (s.holdLine line).Tidy := .ite h { h with }
theorem State.Tidy.ackTrk (h : s.Tidy) : (s.ackTrk t).Tidy := .ite h.holdLine.endTrk h.holdLine.takeFilt.setTrk

end

/-! ### The channel units (Sys2Proof/Machine/Channel.lean) -/

section
variable {s : State} {burst : BitVec 640} {auto reserved : Bool} {c : Chan} {o : LineOut}
  {cs k line ln n r row rq sc : Nat} {p : Place} {e : QEnt} {t : Trk}

theorem Chan.Tidy.closeRow (hc : c.Tidy) : (c.closeRow k).Tidy := .ite hc hc.setBank
theorem State.Tidy.closeBank (h : s.Tidy) : (s.closeBank sc k).Tidy :=
  .ite h (.dramCmd (h.updChan (fun _ h1 => h1.closeRow)))
theorem State.Tidy.closeBanks {bank : Option Nat} (h : s.Tidy) : (s.closeBanks sc cs bank).Tidy :=
  h.foldl fun _ _ h1 => h1.closeBank
theorem State.Tidy.openRow (h : s.Tidy) : (s.openRow sc k row).Tidy :=
  .ite (h.updChan (fun _ h1 => h1.setBank)) (.dramCmd (h.closeBank.updChan (fun _ h1 => h1.setBank)))
theorem State.Tidy.decideRow (h : s.Tidy) : (s.decideRow sc k auto).Tidy := h.updChan fun _ h1 => h1.setBank

theorem State.Tidy.refreshRank (h : s.Tidy) : (s.refreshRank sc r).Tidy := by
  unfold State.refreshRank
  exact .ite (h.pdWake.closeBanks.dramCmd.updChan (fun _ h1 => h1.setRank))
    (h.pdWake.closeBanks.dramCmd.dramCmd.updChan (fun _ h1 => h1.setRank))

theorem Chan.Tidy.arm (hc : c.Tidy) : (c.arm r).Tidy := .ite hc hc.setRank
theorem Chan.Tidy.disarm (hc : c.Tidy) : (c.disarm r).Tidy := hc.setRank
theorem State.Tidy.armRanks (h : s.Tidy) : (s.armRanks sc).Tidy :=
  .ite h (h.updChan (fun _ h1 => h1.foldl (fun _ _ h2 => .ite h2 h2.arm)))
theorem State.Tidy.pruneRuns (h : s.Tidy) : (s.pruneRuns sc).Tidy := h.updChan fun _ h1 => { h1 with }
theorem Chan.Tidy.replayEnded (hc : c.Tidy) : c.replayEnded.Tidy := .ite { hc with } hc

theorem State.Tidy.granted (h : s.Tidy) : (s.granted sc rq reserved).Tidy := by
  unfold State.granted
  exact h.count2.updChan fun _ h1 => { h1.replayEnded with }

theorem State.Tidy.startRun (h : s.Tidy) : (s.startRun sc rq reserved).Tidy := by
  unfold State.startRun
  extract_lets c
  split
  · exact h.updChan fun _ h1 => { h1 with }
  · split
    · exact h.updChan fun _ h1 => { h1 with }
    · exact h

theorem State.Tidy.arbiterGrant (h : s.Tidy) : (s.arbiterGrant sc).Tidy := by
  unfold State.arbiterGrant
  split
  · exact h
  · extract_lets s1
    have hs1 : s1.Tidy := h.latchQ
    split
    · exact hs1
    · exact .ite (hs1.granted.elim (fun _ => hs1.granted.refreshRank))
        (.ite (hs1.granted.updChan (fun _ h1 => { h1 with })) hs1.granted.startRun)

theorem State.Tidy.suspend {r : Run} (h : s.Tidy) : (s.suspend sc r).Tidy := h.updChan fun _ h1 => { h1 with }
theorem State.Tidy.dropRun (h : s.Tidy) : (s.dropRun sc).Tidy := h.updChan fun _ h1 => { h1 with }
theorem State.Tidy.boundary {r : Run} {isOver : Bool} (h : s.Tidy) : (s.boundary sc r e isOver).Tidy :=
  .ite h.dropRun (.ite h.suspend (h.updChan (fun _ h1 => { h1 with })))

theorem State.Tidy.writeBurst (h : s.Tidy) : (s.writeBurst sc e).2.Tidy := by
  unfold State.writeBurst
  split
  · exact h
  · exact .ite h.raise h

theorem State.Tidy.column (h : s.Tidy) : (s.column sc e auto).Tidy := .ite h.writeBurst.dramCmd h.dramCmd
theorem State.Tidy.markIssued (h : s.Tidy) : (s.markIssued sc k).Tidy := h.updChan fun _ h1 => { h1 with }
theorem State.Tidy.dropEnt (h : s.Tidy) : (s.dropEnt sc k).Tidy :=
  .pruneRuns (.drainNow (h.updChan (fun _ h1 => { h1 with })))
theorem State.Tidy.refuseWrite (h : s.Tidy) : (s.refuseWrite sc k e).Tidy := h.sealedEvent.lkDrop.dropEnt
theorem State.Tidy.issueLine {r : Run} (h : s.Tidy) : (s.issueLine sc k r e).Tidy :=
  .pruneRuns (.boundary (.ite h.pdWake.openRow.column.markIssued.decideRow h.pdWake.openRow.column.markIssued))

theorem State.Tidy.atBoundary {r : Run} (h : s.Tidy) : (s.atBoundary sc k r).Tidy := by
  unfold State.atBoundary
  extract_lets takes
  split
  · exact h.dropRun
  · split
    · exact .ite h.dropRun h.suspend
    · split
      · exact h
      · exact .ite h.refuseWrite h.issueLine

theorem State.Tidy.lineBoundary (h : s.Tidy) : (s.lineBoundary sc k).Tidy := by
  unfold State.lineBoundary
  split
  · exact h
  · exact .ite h (.atBoundary (.latchQ (h.updChan (fun _ h1 => h1.replayEnded))))

theorem State.Tidy.hog (h : s.Tidy) : (s.hog sc).Tidy := by
  unfold State.hog
  split
  · exact h
  · exact .ite h (.raise (.setFlag (h.updChan (fun _ h1 => { h1 with }))))

theorem State.Tidy.entryData (h : s.Tidy) : (s.entryData sc e).2.Tidy := by
  unfold State.entryData
  split
  · exact h
  · exact h.forward

theorem State.Tidy.forwardAns (h : s.Tidy) : (s.forwardAns sc e).2.Tidy :=
  .iteSnd (.iteSnd h.entryData.sealedEvent.openAns h.entryData) h.entryData
theorem State.Tidy.answerFrom (h : s.Tidy) : (s.answerFrom sc t e).Tidy := h.forwardAns.fill.gotData

theorem State.Tidy.queueRead (h : s.Tidy) : (s.queueRead t p).Tidy := by
  unfold State.queueRead
  split
  · exact h.answerFrom
  · exact .ite h.setTrk.enqueue h

theorem State.Tidy.lkWritten (h : s.Tidy) : (s.lkWritten t).Tidy := .ite h.lkWrite (.ite h h.lkWrite)
theorem State.Tidy.queueWriteOf (h : s.Tidy) : (s.queueWriteOf t p).Tidy :=
  h.queueWrite.elim h fun _ h => h.lkWritten.wrote
theorem State.Tidy.moveData {d : Line} {poison : Bool} (h : s.Tidy) : (s.moveData line d poison).Tidy := { h with }
theorem State.Tidy.movePhase (h : s.Tidy) : (s.movePhase line k).Tidy := { h with }
theorem State.Tidy.moveFrom (h : s.Tidy) : (s.moveFrom sc ln e).Tidy := h.entryData.moveData

theorem State.Tidy.queueMove (h : s.Tidy) : (s.queueMove ln p).Tidy := by
  unfold State.queueMove
  split
  · exact h
  · split
    · split
      · exact h
      · split
        · exact h.moveFrom
        · exact .ite h.movePhase.enqueue h
    · split
      · split
        · exact h.movePhase
        · split
          · exact h
          · split
            · rename_i he
              exact (h.queueWrite _ he).movePhase
            · exact h
      · exact h

theorem State.Tidy.queueTrk (h : s.Tidy) : (s.queueTrk t p).Tidy :=
  .ite h (.ite h.holdTrk (.ite h (.ite h.queueWriteOf h.queueRead)))

theorem State.Tidy.queueEntry (h : s.Tidy) : (s.queueEntry ln).Tidy := by
  unfold State.queueEntry
  split
  · exact h
  · split
    · exact h.elim fun _ => h.queueTrk
    · exact h.elim fun _ => h.queueMove

theorem State.Tidy.releaseHeld (h : s.Tidy) : (s.releaseHeld sc).Tidy := .ite h { h with }

theorem Chan.Tidy.copied {copies : List Nat} {last : Nat} (hc : c.Tidy) :
    (if n ≥ last ∧ copies = [] then { c with copies := copies, copyPtr := n, spare := 2 }.disarm 0
      else
      { c with copies := copies, copyPtr := n }).Tidy := by
  have h1 : ({ c with copies := copies, copyPtr := n } : Chan).Tidy := { hc with }
  exact .ite (.disarm { h1 with }) h1

theorem State.Tidy.copyAdvance (h : s.Tidy) : (s.copyAdvance sc n).Tidy := by
  unfold State.copyAdvance
  exact h.updChan fun _ hc => hc.copied

theorem State.Tidy.serveWaiter {w : QEnt} (h : s.Tidy) : (s.serveWaiter sc k w e).Tidy := by
  unfold State.serveWaiter
  split
  · exact h.replaceWrite.dropEnt
  · extract_lets s1
    have hs1 : s1.Tidy := h.dropEnt
    split
    · exact hs1.elim fun _ => hs1.answerFrom
    · exact hs1.moveFrom
    · exact hs1

theorem State.Tidy.serveWaiters (h : s.Tidy) : (Machine.serveWaiters k sc n s).Tidy := by
  induction k generalizing s with
  | zero => exact h
  | succ k ih =>
    unfold Machine.serveWaiters
    extract_lets ents isCopy
    split
    · exact ih h.serveWaiter
    · exact h

theorem State.Tidy.copyWrite (h : s.Tidy) : (s.copyWrite sc n e).Tidy := by
  unfold State.copyWrite
  exact h.enqueue.serveWaiters.copyAdvance

theorem State.Tidy.eccEvent {ell : Nat} (h : s.Tidy) : (s.eccEvent sc cs ell o).Tidy :=
  .ite h (.raise (.setReg (.setReg (.ite h.setFld h.setFld))))
theorem State.Tidy.copyBack (h : s.Tidy) : (s.copyBack sc e n burst).Tidy := .ite h.copyWrite h.eccEvent.copyWrite

theorem State.Tidy.timeoutOwner (h : s.Tidy) : (s.timeoutOwner sc e).Tidy := by
  unfold State.timeoutOwner
  split
  · exact h.elim fun _ => h.gotData
  · exact h.moveData
  · exact h.copyWrite
  · exact h

theorem State.Tidy.channelTimeout (h : s.Tidy) : (s.channelTimeout sc k).Tidy := by
  unfold State.channelTimeout
  split
  · exact .ite (.raise (.timeoutOwner (.ite (h.updChan (fun _ h1 => { h1 with })) h.dropEnt))) h
  · exact h

theorem State.Tidy.readAns (h : s.Tidy) : (s.readAns line o).2.Tidy := .iteSnd h.sealedEvent.openAns h
theorem State.Tidy.scrubBack (h : s.Tidy) : (s.scrubBack line o).Tidy := .ite (.scrubGo { h with }) h
theorem Chan.Tidy.arrived (hc : c.Tidy) : (c.arrived e).Tidy := { hc with }

theorem State.Tidy.readBack (h : s.Tidy) : (s.readBack sc e burst o).Tidy := by
  unfold State.readBack
  split
  · exact h.copyBack
  · exact h.eccEvent.elim fun _ => h.eccEvent.readAns.fill.gotData
  · exact h.eccEvent.moveData
  · exact h.eccEvent.scrubBack
  · exact h

theorem State.Tidy.dramReadData (h : s.Tidy) : (s.dramReadData sc k burst).Tidy := by
  unfold State.dramReadData
  split
  · exact .ite h (.ite h (.ite (.dropEnt (.ite h (h.updChan (fun _ h1 => h1.arrived))))
      (.readBack (.dropEnt (.ite h (h.updChan (fun _ h1 => h1.arrived)))))))
  · exact h

theorem State.Tidy.dramWriteComplete (h : s.Tidy) : (s.dramWriteComplete sc k).Tidy := by
  unfold State.dramWriteComplete
  split
  · exact .ite h.dropEnt h
  · exact h

theorem State.Tidy.pageIdle (h : s.Tidy) : (s.pageIdle sc k).Tidy := by
  unfold State.pageIdle
  split
  · exact h
  · split
    · exact h.updChan fun _ h1 => h1.setBank
    · exact .ite h.closeBank h

theorem State.Tidy.powerDownEntry (h : s.Tidy) : (s.powerDownEntry sc r).Tidy :=
  .ite (.dramCmd (h.updChan (fun _ h1 => h1.setRank))) h
theorem State.Tidy.refreshInterval (h : s.Tidy) : (s.refreshInterval sc r).Tidy :=
  .ite (h.updChan (fun _ h1 => h1.setRank)) h
theorem State.Tidy.idlePullIn (h : s.Tidy) : (s.idlePullIn sc r).Tidy := .ite h.granted.refreshRank h
theorem State.Tidy.spareCopyLine (h : s.Tidy) : (s.spareCopyLine sc).Tidy :=
  .ite (.enqueue (h.updChan (fun _ h1 => { h1 with }))) h
theorem State.Tidy.clearLine (h : s.Tidy) : (s.clearLine sc).Tidy :=
  .dramCmd (h.pdWake.openRow.updChan (fun _ h1 => { h1 with }))
theorem State.Tidy.clearDone (h : s.Tidy) : (s.clearDone sc).Tidy := .ite (h.updChan (fun _ h1 => { h1 with })) h
theorem State.Tidy.alertEdge (h : s.Tidy) : (s.alertEdge sc).Tidy :=
  .ite h (.raise (h.updChan (fun _ h1 => { h1 with })))

theorem State.Tidy.reissue {m : DramCmd} (h : s.Tidy) : (s.reissue sc m row).Tidy := by
  unfold State.reissue
  extract_lets col
  have hcol : ∀ (cs bg bank : Nat) (auto : Bool), (col cs bg bank auto).Tidy := fun cs bg bank auto =>
    .ite (h.openRow.emit.updChan fun _ hc => hc.setBank) h.openRow.emit
  split
  · exact hcol ..
  · exact hcol ..
  · exact h.openRow
  · exact h.closeBank
  · exact h.emit

theorem State.Tidy.prechargeAll (h : s.Tidy) : (s.prechargeAll sc).Tidy :=
  h.foldl fun _ _ h1 => .emit (h1.updChan (fun _ h2 => h2.foldl (fun _ _ h3 => h3.closeRow)))

theorem State.Tidy.alertReplay (h : s.Tidy) : (s.alertReplay sc).Tidy := by
  unfold State.alertReplay
  exact .ite h (.ite (.raise (h.updChan (fun _ h1 => { h1 with })))
    (.updChan (h.draw.prechargeAll.foldl (fun _ _ h1 => h1.reissue)) (fun _ h1 => { h1 with })))

end

/-! ### Operands (Sys2Proof/Machine/Operands.lean) -/

section
variable {s : State} {b : BankRef}

theorem State.Tidy.setBankSt {i st : Nat} (h : s.Tidy) : (s.setBankSt b i st).Tidy := h.setFld
theorem State.Tidy.setInstr {bank idx : Nat} {w : W32} (h : s.Tidy) : (s.setInstr b bank idx w).Tidy := { h with }

end

/-! ### Issue of an instruction (Sys2Proof/Machine/Issue.lean) -/

section
variable {s : State} {k : Nat} {t : ThreadRef}

theorem State.Tidy.lineOp {r : Req} (h : s.Tidy) : (s.lineOp t r).Tidy := h.enter

theorem State.Tidy.pumpJob {id : Nat} (h : s.Tidy) : (Machine.pumpJob k id s).Tidy := by
  induction k generalizing s with
  | zero => exact h
  | succ k ih =>
    unfold Machine.pumpJob
    split
    · exact h
    · split
      · exact h
      · exact .ite h (ih (.lineOp { h with }))

theorem State.Tidy.pumpJobs {p : Job → Bool} (h : s.Tidy) : (s.pumpJobs p).Tidy := h.foldl fun _ _ h1 => h1.pumpJob
theorem Thread.Tidy.setBuf {th : Thread} {b : LineBuf} (hth : th.Tidy) : (th.setBuf k b).Tidy := hth
theorem State.Tidy.goTo {pc : Nat} (h : s.Tidy) : (s.goTo t pc).Tidy := h.setThr h.thr
theorem State.Tidy.nextPc (h : s.Tidy) : (s.nextPc t).Tidy := h.goTo
theorem State.Tidy.wake (h : s.Tidy) : (s.wake t).Tidy := .nextPc (h.setThr h.thr)
theorem State.Tidy.sleep {w : Wait} (h : s.Tidy) : (s.sleep t w).Tidy := h.setThr h.thr
theorem State.Tidy.fault1 {code : Nat} (h : s.Tidy) : (s.fault1 t code).Tidy := h.threadFault

theorem State.Tidy.apply {a : Eff} (h : s.Tidy) (ha : a.Tidy) : (Eff.apply s t a).Tidy := by
  cases a with
  | done s' => exact State.Tidy.nextPc ha
  | branch a s' => exact .ite (State.Tidy.goTo ha) h.fault1
  | fault code => exact h.fault1
  | stall => exact h
  | hold s' => exact ha

theorem State.Tidy.issue {op : Nat} {kinds : List EngKind} {pick : W32 → Bool} {f : State → Thread → W32 → Eff}
    (h : s.Tidy) (hf : ∀ s1 th a, s1.Tidy → th.Tidy → (f s1 th a).Tidy) :
    (s.issue t op kinds pick f).Tidy := by
  unfold State.issue
  split
  · exact h
  · split
    · exact h.toIdle
    · split
      · exact h
      · exact .ite h (.ite h.threadFault (.ite h.fault1 (h.pumpJobs.apply (hf _ _ _ h.pumpJobs h.pumpJobs.thr))))

end

/-! ### Fences and Clasps of threads (Sys2Proof/Machine/Fence.lean) -/

section
variable {s : State} {repair : Bool} {n : Nat} {t : ThreadRef} {w : W32}

theorem State.Tidy.fenceEff {scope : Nat} (h : s.Tidy) : (fenceEff scope s t w).Tidy :=
  .ite .fault (.ite h.done h.sleep.hold)
theorem State.Tidy.execFenceL (h : s.Tidy) : OutTidy (execFenceL t s) :=
  State.Tidy.next (h.issue (fun _ _ _ h1 _ => .ite .fault h1.fenceEff))
theorem State.Tidy.execFenceP (h : s.Tidy) : OutTidy (execFenceP t s) :=
  State.Tidy.next (h.issue (fun _ _ _ h1 _ => h1.fenceEff))
theorem State.Tidy.execFenceG (h : s.Tidy) : OutTidy (execFenceG t s) :=
  State.Tidy.next (h.issue (fun _ _ _ h1 _ => h1.fenceEff))
theorem State.Tidy.releaseNow (h : s.Tidy) : OptTidy (s.releaseNow t n repair) := h.claspRelease

theorem State.Tidy.fenceRetire (h : s.Tidy) : (s.fenceRetire t).Tidy := by
  unfold State.fenceRetire
  split
  · exact h
  · extract_lets s1
    have hs1 : s1.Tidy := h.pumpJobs
    split
    · exact .ite hs1.wake hs1
    · split
      · split
        · rename_i he
          exact (hs1.releaseNow _ he).wake
        · exact hs1.fault1
      · exact hs1
    · exact hs1

theorem Thread.Tidy.clspEff {th : Thread} {dZero : Bool} {f : Nat → Eff} (hth : th.Tidy) (hf : ∀ a, (f a).Tidy) :
    (clspEff th w dZero f).Tidy :=
  .ite .fault (.ite .fault (hf _))

theorem State.Tidy.execClspAcq (h : s.Tidy) : OutTidy (execClspAcq t s) := by
  refine State.Tidy.next (h.issue fun s th w hs hth => hth.clspEff fun n => ?_)
  have h1 : ({ s.sleep t (.acquireFull n (fD w)) with claspFull := s.claspFull ++ [threadWait t n] } : State).Tidy :=
    { hs.sleep with }
  have h2 : ({ s.sleep t (.acquire n (fD w)) with claspWaits := s.claspWaits ++ [threadWait t n] } : State).Tidy :=
    { hs.sleep with }
  exact .ite hs.sleep.claspTake.hold (.ite h1.hold h2.hold)

theorem State.Tidy.execClspAcqTry (h : s.Tidy) : OutTidy (execClspAcqTry t s) :=
  State.Tidy.next (h.issue (fun _ _ _ h1 h2 => h2.clspEff
    (fun _ => .ite h1.sleep.claspTake.hold (h1.setThr h2.setG).done)))

theorem State.Tidy.clspRelEff (h : s.Tidy) : (clspRelEff repair s t n).Tidy := by
  unfold Machine.clspRelEff
  split
  · split
    · rename_i he
      exact (h.releaseNow _ he).done
    · exact .fault
  · exact h.sleep.hold

theorem State.Tidy.execClspRel (h : s.Tidy) : OutTidy (execClspRel t s) :=
  State.Tidy.next (h.issue (fun _ _ _ h1 h2 => h2.clspEff (fun _ => h1.clspRelEff)))
theorem State.Tidy.execClspRelR (h : s.Tidy) : OutTidy (execClspRelR t s) :=
  State.Tidy.next (h.issue (fun _ _ _ h1 h2 => h2.clspEff (fun _ => h1.clspRelEff)))

theorem State.Tidy.evTake (h : s.Tidy) : (s.evTake t).Tidy := by
  unfold State.evTake
  split
  · exact h
  · split
    · exact .ite h (.wake (.setThr { h with } (State.Tidy.thr { h with }).setG))
    · exact h

theorem State.Tidy.evDeliver (h : s.Tidy) : s.evDeliver.Tidy := h.foldl fun _ _ h1 => h1.evTake
theorem State.Tidy.evSet {flags : W64} (h : s.Tidy) : (s.evSet flags).Tidy := .evDeliver { h with }

theorem State.Tidy.execWaitev (h : s.Tidy) : OutTidy (execWaitev t s) := by
  refine State.Tidy.next (h.issue fun s th w hs hth => ?_)
  extract_lets mask hit
  have h1 : ({ s with evf := s.evf &&& ~~~hit } : State).Tidy := { hs with }
  have h2 : ({ s.sleep t (.events mask (fD w) (fImm w)) with evWaiters := s.evWaiters ++ [t] } : State).Tidy :=
    { hs.sleep with }
  exact .ite .fault (.ite (h1.setThr hth.setG).done h2.hold)

theorem State.Tidy.waitevTimeout (h : s.Tidy) : (s.waitevTimeout t).Tidy := by
  unfold State.waitevTimeout
  split
  · exact h
  · split
    · exact .ite h (.wake (.setThr { h with } (State.Tidy.thr { h with }).setG))
    · exact h

theorem State.Tidy.kick (h : s.Tidy) : s.kick.Tidy := by
  unfold State.kick
  extract_lets src
  have hsrc : src.Tidy := h.setFlag.setFlag
  clear_value src
  exact { hsrc with }

theorem State.Tidy.execEvt (h : s.Tidy) : OutTidy (execEvt t s) := by
  unfold Machine.execEvt
  exact State.Tidy.next (h.issue (fun _ _ _ h1 _ => .ite .fault
    (.ite (State.Tidy.done (.evtQueue (.ite h1.evSet.kick h1.evSet)))
    (State.Tidy.hold (.sleep (.ite h1.evSet.kick h1.evSet))))))

theorem State.Tidy.evtOut {line : Nat} (h : s.Tidy) : (s.evtOut line).Tidy := by
  unfold State.evtOut
  extract_lets n s1
  have h1 : s1.Tidy := .emit { h with evtPend := Tab.wf_tset h.evtPend .. }
  clear_value s1
  split
  · exact h
  · split
    · exact h1
    · exact h1.draw.evtQueue.wake

end

/-! ### Wake-ups (Sys2Proof/Machine/Wake.lean) -/

section
variable {s : State} {arg code : Nat}

theorem State.Tidy.recordWake {src : Nat} {abandon : Bool} (h : s.Tidy) : (s.recordWake src code arg abandon).Tidy :=
  h.setReg

theorem State.Tidy.startWake (h : s.Tidy) : (s.startWake code arg).Tidy := by
  unfold State.startWake
  extract_lets left s1 src
  have hs1 : s1.Tidy := h.recordWake
  have hsrc : src.Tidy := hs1.setFld
  clear_value src
  exact { hsrc with }

theorem State.Tidy.wakeEvent (h : s.Tidy) : (s.wakeEvent code arg).Tidy := by
  unfold State.wakeEvent
  split
  · exact h
  · split
    · exact .ite { h with } h
    · exact .ite h.startWake h
    · exact h

end

/-! ### Interrupts (Sys2Proof/Machine/Irq.lean) -/

section
variable {s : State} {m : Nat}

theorem State.Tidy.pend {src : Nat} (h : s.Tidy) : (s.pend src).Tidy := h.setFlag
theorem State.Tidy.pendAll {l : List Nat} (h : s.Tidy) : (l.foldl State.pend s).Tidy := .foldl h fun _ _ h => h.pend

theorem State.Tidy.route (h : s.Tidy) : s.route.Tidy := by
  unfold State.route
  extract_lets s1 s2
  have h2 : s2.Tidy := h.pendAll.withAssigned s1.assignment_wf
  clear_value s2
  split
  · exact h2.wakeEvent
  · exact h2

theorem State.Tidy.takeIrq {n : Nat} {fast : Bool} (h : s.Tidy) : (s.takeIrq n fast).Tidy := by
  unfold State.takeIrq
  split
  · exact h
  · extract_lets s1
    have h1 : s1.Tidy := h.setFlag.setFld
    exact { h1 with assigned := Tab.wf_terase h1.assigned _ }

theorem State.Tidy.modZero (h : s.Tidy) : (s.modZero m).Tidy := by
  unfold State.modZero
  extract_lets src
  have hsrc : src.Tidy := h.setFld
  clear_value src
  exact { hsrc with }

theorem State.Tidy.modFire (h : s.Tidy) : (s.modFire m).Tidy := h.modZero.pend
theorem State.Tidy.modFlush (h : s.Tidy) : (s.modFlush m).Tidy := .ite h.modFire h
theorem State.Tidy.modFlushAll (h : s.Tidy) : s.modFlushAll.Tidy := h.foldl fun _ _ h1 => h1.modFlush

theorem State.Tidy.modComplete (h : s.Tidy) : (s.modComplete m).Tidy := by
  unfold State.modComplete
  split
  · extract_lets n timed src s1
    have hsrc : src.Tidy := h.setFld
    have hs1 : s1.Tidy := { hsrc with }
    exact .ite hs1.modFire hs1.modFlush
  · exact h

theorem State.Tidy.modTimeout (h : s.Tidy) : (s.modTimeout m).Tidy := .ite h.modFire h

end

/-! ### Line operations (Sys2Proof/Machine/LineOps.lean) -/

section
variable {s : State} {ok : Eff} {k n : Nat} {th : Thread} {t : ThreadRef} {w : W32}

theorem State.Tidy.execLds (h : s.Tidy) : OutTidy (execLds t s) := by
  refine State.Tidy.next (h.issue fun s th w hs hth => .ite .fault ?_)
  split
  · exact (hs.setThr hth.setG).done
  · exact .stall
  · exact .fault

theorem State.Tidy.localWrite {a : Nat} {v : W64} (h : s.Tidy) (hth : th.Tidy) : (s.localWrite t th a v).Tidy := by
  unfold State.localWrite
  split
  · exact State.Tidy.done { h with }
  · exact h.setReg2.done
  · split
    · exact .stall
    · exact .fault
    · exact (h.setThr hth.setBuf).done
  · exact State.Tidy.done (h.setThr (hth))
  · exact .fault

theorem State.Tidy.execSts (h : s.Tidy) : OutTidy (execSts t s) :=
  State.Tidy.next (h.issue (fun _ _ _ h1 h2 => .ite .fault (h1.localWrite h2)))

theorem State.Tidy.lineLoop {op : State → Nat → Req × State} (h : s.Tidy) (hop : ∀ s k, s.Tidy → (op s k).2.Tidy) :
    (Machine.lineLoop n op s t).Tidy := by
  unfold Machine.lineLoop
  extract_lets s1
  have h1 : s1.Tidy := h.foldl fun s k h => .ite ((hop s k h).lineOp.setThr (hop s k h).lineOp.thr) h
  clear_value s1
  exact .ite h1.done h1.hold

theorem Eff.Tidy.lineAddr {g : W64} {cnt : Nat} (hok : ok.Tidy) : (lineAddr g cnt ok).Tidy :=
  .ite .fault (.ite .fault hok)

theorem Thread.Tidy.lineChecks {write : Bool} (hth : th.Tidy) (hok : ok.Tidy) :
    (lineChecks write t th w ok).Tidy := by
  unfold Machine.lineChecks
  split
  · exact .fault
  · split
    · exact .fault
    · refine .lineAddr ?_
      split
      · exact .stall
      · exact .fault
      · exact hok

theorem State.Tidy.ldlOp (h : s.Tidy) : (ldlOp t w s k).2.Tidy := h.setThr h.thr.setBuf

theorem State.Tidy.execLdl (h : s.Tidy) : OutTidy (execLdl t s) := by
  unfold Machine.execLdl
  exact State.Tidy.next (h.issue (fun _ _ _ h1 h2 => .ite (h2.lineChecks (h1.lineLoop (fun _ _ h3 => h3.ldlOp)))
    (h1.lineLoop (fun _ _ h3 => h3.ldlOp))))

theorem State.Tidy.bufOut {b : LineBuf} {line : Nat} (h : s.Tidy) : (s.bufOut t b line).2.Tidy := .ite h.raise h
theorem State.Tidy.stlOp (h : s.Tidy) : (stlOp t w s k).2.Tidy := h.bufOut

theorem State.Tidy.execStl (h : s.Tidy) : OutTidy (execStl t s) := by
  unfold Machine.execStl
  exact State.Tidy.next (h.issue (fun _ _ _ h1 h2 => .ite (h2.lineChecks (h1.lineLoop (fun _ _ h3 => h3.stlOp)))
    (h1.lineLoop (fun _ _ h3 => h3.stlOp))))

theorem State.Tidy.prefOp (h : s.Tidy) : (prefOp t w s k).2.Tidy := h
theorem State.Tidy.execPref (h : s.Tidy) : OutTidy (execPref t s) :=
  State.Tidy.next (h.issue (fun _ _ _ h1 _ => .ite .fault (.lineAddr (h1.lineLoop (fun _ _ h3 => h3.prefOp)))))

theorem State.Tidy.elements {f : List Nat → Eff} (h : s.Tidy) (hth : th.Tidy) (hf : ∀ a, (f a).Tidy) :
    (s.elements t th w f).Tidy := by
  unfold State.elements
  extract_lets base list idx
  split
  · exact .fault
  · split
    · exact .fault
    · split
      · exact .fault
      · split
        · exact .fault
        · exact .stall
        · exact hf _

theorem Thread.Tidy.pendBufs {lb : Nat} (hth : th.Tidy) : (th.pendBufs lb n).Tidy := hth.foldl fun _ _ h => h.setBuf
theorem State.Tidy.addJob {j : Job} (h : s.Tidy) : (s.addJob j).Tidy := .pumpJobs { h with }

theorem State.Tidy.execGather (h : s.Tidy) : OutTidy (execGather t s) := by
  refine State.Tidy.next (h.issue fun s th w hs hth => .ite .fault (hs.elements hth fun addrs => ?_))
  dsimp only
  split
  · exact .stall
  · exact .fault
  · exact (hs.setThr hth.pendBufs).addJob.done

theorem State.Tidy.scatOp {addrs : List Nat} (h : s.Tidy) : (scatOp t w addrs s k).2.Tidy := .ite h.bufOut h

theorem State.Tidy.execScat (h : s.Tidy) : OutTidy (execScat t s) := by
  refine State.Tidy.next (h.issue fun s th w hs hth => .ite .fault (hs.elements hth fun addrs => ?_))
  split
  · exact .stall
  · exact .fault
  · exact hs.lineLoop fun _ _ h => h.scatOp

theorem State.Tidy.execHmchk (h : s.Tidy) : OutTidy (execHmchk t s) := by
  refine State.Tidy.next (h.issue fun s th w hs hth => .ite .fault (.ite .fault ?_))
  split
  · exact .stall
  · exact .fault
  · dsimp only
    split
    · exact .fault
    · exact hs.done

theorem State.Tidy.trapIssue (h : s.Tidy) : (s.trapIssue t).Tidy := by
  unfold State.trapIssue
  split
  · exact .ite h (.ite h.toIdle h.fault1)
  · exact .ite (h.issue (fun _ _ _ h1 h2 => .ite .fault (State.Tidy.hold (.fault1 (h1.setThr (h2))))))
      (h.issue (fun _ _ _ _ _ => .stall))

theorem State.Tidy.execGraftpt (h : s.Tidy) : OutTidy (execGraftpt t s) := by
  refine State.Tidy.next (h.issue fun s th w hs hth => .ite .fault (.ite hs.done ?_))
  split
  · exact State.Tidy.hold (.goTo (hs.setThr hth))
  · exact hs.done

end

/-! ### Contexts (Sys2Proof/Machine/Context.lean) -/

section
variable {s : State} {a : Arrival} {bad : Bool} {addr c d : Nat} {t : ThreadRef}

theorem State.Tidy.setAtEnd {b : Bool} (h : s.Tidy) : (s.setAtEnd c b).Tidy := h.setFlag
theorem State.Tidy.cmdIgnored (h : s.Tidy) : (s.cmdIgnored c).Tidy := h.setFlag
theorem State.Tidy.readDescriptor {src : Src} (h : s.Tidy) : (s.readDescriptor src c).Tidy := h.setFld.enter
theorem State.Tidy.rearmRead (h : s.Tidy) : (s.rearmRead c).Tidy := .ite h.readDescriptor h
theorem State.Tidy.rearmCheck (h : s.Tidy) : (s.rearmCheck c).Tidy := .ite h.setCtx.rearmRead h
theorem State.Tidy.rearmDrop (h : s.Tidy) : (s.rearmDrop c).Tidy := .ite h.dropDesc.setCtx h
theorem State.Tidy.newRun {cur : Nat} (h : s.Tidy) : (s.newRun c cur).Tidy :=
  h.setReg2.setFlag.setFlag.setFlag.setFld.setReg.setReg.setFld.setFld.setCtx.setCtxState.setReady
theorem State.Tidy.noEffect (h : s.Tidy) : (s.noEffect c).Tidy := h.cmdIgnored
theorem State.Tidy.cmdEnable (h : s.Tidy) : (s.cmdEnable c).Tidy := .ite h.setCtxState.ok h.noEffect
theorem State.Tidy.forgetCur (h : s.Tidy) : (s.forgetCur c).Tidy := h.setFlag.setFlag
theorem State.Tidy.cmdDisable (h : s.Tidy) : (s.cmdDisable c).Tidy :=
  .ite h.rearmDrop.setCtxState.forgetCur.ok h.noEffect
theorem State.Tidy.cmdKick (h : s.Tidy) : (s.cmdKick c).Tidy :=
  .ite h.noEffect (.ite h.rearmDrop.setCtx.haltCtx.ok
    (.ite h.rearmDrop.setCtx.haltCtx.ok h.rearmDrop.setCtx.newRun.ok))
theorem State.Tidy.abortThread (h : s.Tidy) : (s.abortThread t c).Tidy :=
  .slotWait (.endRun (h.leave.setThr h.leave.thr))
theorem State.Tidy.cmdAbort (h : s.Tidy) : (s.cmdAbort c).Tidy :=
  .ite h.setFld.endRun.ok (.ite (State.Tidy.ok (h.endRun.elim (fun _ => h.abortThread)))
    (.ite h.setCtx.ok h.noEffect))
theorem State.Tidy.cmdClear (h : s.Tidy) : (s.cmdClear c).Tidy := .ite h.setCtxState.setFld.forgetCur.ok h.noEffect

theorem State.Tidy.ctxCmd {code : Nat} (h : s.Tidy) : (s.ctxCmd c code).Tidy := by
  unfold State.ctxCmd
  split
  · exact h.cmdEnable
  · exact h.cmdDisable
  · exact h.cmdKick
  · exact h.cmdAbort
  · exact h.cmdClear
  · exact h.noEffect

theorem State.Tidy.cmdAppend {gen : Nat} (h : s.Tidy) : (s.cmdAppend c addr gen).Tidy :=
  h.setReg2.setFld.rearmCheck.ok
theorem State.Tidy.cmdSetHead (h : s.Tidy) : (s.cmdSetHead c addr).Tidy := h.setReg2.ok
theorem State.Tidy.startCtx {bank : Nat} (h : s.Tidy) : (s.startCtx t c bank).Tidy :=
  .readDescriptor (.setCtxState (h.setThr (Tab.wf_tset (Tab.wf_nil _) 1 _)))

theorem State.Tidy.dispatch {cl : Nat} (h : s.Tidy) : (s.dispatch cl t).Tidy := by
  unfold State.dispatch
  split
  · exact h
  · split
    · exact h
    · extract_lets ver
      split
      · exact h
      · exact .ite h.setFld.setReady.haltCtx h.setFld.setReady.startCtx

theorem State.Tidy.hop {link : W64} (h : s.Tidy) : (s.hop t c link).Tidy :=
  h.setFld.setReg.setFld.setReg2.readDescriptor
theorem State.Tidy.awaitDesc {again : Bool} (h : s.Tidy) : (s.awaitDesc t d again).Tidy := h.setThr h.thr
theorem State.Tidy.nextdResult {v : W64} (h : s.Tidy) : (s.nextdResult t d v).Tidy := h.setThr h.thr.setG
theorem State.Tidy.givePacket {p : Packet} {rest : List Packet} (h : s.Tidy) : (s.givePacket t c d p rest).Tidy :=
  .wake (h.setCtx.setThr h.setCtx.thr.setG)

theorem State.Tidy.nextPacket (h : s.Tidy) : (s.nextPacket t c d).Tidy := by
  unfold State.nextPacket
  extract_lets th s1
  have h1 : s1.Tidy := by
    dsimp only [s1]
    split
    · exact h.endPacket.setThr h.thr
    · exact h
  clear_value s1
  split
  · exact h1.givePacket
  · exact h1.sleep

theorem State.Tidy.execNextd (h : s.Tidy) : OutTidy (execNextd t s) := by
  refine State.Tidy.next (h.issue fun s th w hs hth => .ite .fault ?_)
  split
  · exact .stall
  · refine .ite hs.nextPacket.hold ?_
    split
    · exact hs.threadFault.hold
    · exact .ite hs.hop.awaitDesc.hold .stall
    · exact hs.setAtEnd.nextdResult.done
    · exact .ite hs.readDescriptor.awaitDesc.hold .stall

theorem State.Tidy.nextdHalt {cause : Nat} (h : s.Tidy) : (s.nextdHalt t cause).Tidy := h.threadFault
theorem State.Tidy.fillDesc {d : Line} (h : s.Tidy) : (s.fillDesc t d).Tidy := h.setThr h.thr

theorem State.Tidy.reread {data : Line} (h : s.Tidy) : (s.reread t c d data).Tidy := by
  unfold State.reread
  extract_lets s1
  have hs1 : s1.Tidy := h.fillDesc
  split
  · exact hs1.threadFault
  · exact hs1.hop.awaitDesc
  · exact hs1.setAtEnd.nextdResult.wake
  · exact hs1.readDescriptor.awaitDesc

theorem State.Tidy.descForThread (h : s.Tidy) : (s.descForThread t c a bad).Tidy := by
  unfold State.descForThread
  extract_lets cause s1 src s2 src1
  have hs1 : s1.Tidy := h.leave
  have hs2 : s2.Tidy := h.fillDesc
  split
  · exact .ite (.haltCtx (hs1.setThr hs1.thr)) (hs2.setThr hs2.thr)
  · exact .ite h.nextdHalt (.ite h.fillDesc.setAtEnd.nextdResult.wake h.reread)
  · exact h

theorem State.Tidy.descForRearm (h : s.Tidy) : (s.descForRearm c a bad).Tidy :=
  .ite h.setCtx.haltCtx (.ite h.setCtx.rearmCheck h.setCtx.newRun)

theorem State.Tidy.descResponse (h : s.Tidy) : (s.descResponse c).Tidy := by
  unfold State.descResponse
  split
  · exact h
  · split
    · exact h.rearmRead
    · extract_lets s' bad s1 s2
      have hs' : s'.Tidy := { h with }
      have hs1 : s1.Tidy := .ite hs'.raise hs'
      have hs2 : s2.Tidy := .ite hs1.readDone hs1
      split
      · exact h
      · split
        · exact hs2.descForRearm
        · split
          · exact hs2.descForThread
          · exact hs2

theorem State.Tidy.yieldNow (h : s.Tidy) : (s.yieldNow t c).Tidy := h.toIdle.setFld.setCtx.setCtxState.setReady

theorem State.Tidy.execYieldCtx (h : s.Tidy) : OutTidy (execYieldCtx t s) := by
  refine State.Tidy.next (h.issue fun s th w hs hth => .ite .fault ?_)
  split
  · exact .stall
  · exact .ite hs.threadFault.hold (.ite hs.yieldNow.hold hs.sleep.hold)

theorem State.Tidy.yieldRetire (h : s.Tidy) : (s.yieldRetire t).Tidy := by
  unfold State.yieldRetire
  split
  · exact h
  · extract_lets s1
    have hs1 : s1.Tidy := h.pumpJobs
    split
    · exact .ite hs1.yieldNow hs1
    · exact hs1

theorem State.Tidy.doneNow (h : s.Tidy) : (s.doneNow t c).Tidy := h.toIdle.endRun.slotWait

theorem State.Tidy.execDoneRun (h : s.Tidy) : OutTidy (execDoneRun t s) := by
  refine State.Tidy.next (h.issue fun s th w hs hth => .ite .fault ?_)
  split
  · exact .stall
  · exact .ite hs.doneNow.hold hs.sleep.hold

theorem State.Tidy.doneRetire (h : s.Tidy) : (s.doneRetire t).Tidy := by
  unfold State.doneRetire
  split
  · exact h
  · extract_lets s1
    have hs1 : s1.Tidy := h.pumpJobs
    split
    · exact .ite hs1.doneNow hs1
    · exact hs1

theorem State.Tidy.writeRecord (h : s.Tidy) : (s.writeRecord c).Tidy := h.enter
theorem State.Tidy.reportPulse {line : Nat} (h : s.Tidy) : (s.reportPulse c line).Tidy := .ite h.evtQueue h.setCtx

theorem State.Tidy.reportEnd (h : s.Tidy) : (s.reportEnd c).Tidy := by
  unfold State.reportEnd
  extract_lets x o b s1 s2 s3 s4 s5
  have hs1 : s1.Tidy := h.setCtxState
  have hs2 : s2.Tidy := hs1.setFld.setFlag.setFld
  have hs3 : s3.Tidy := hs2.setCtx
  have hs4 : s4.Tidy := .ite hs3.modComplete hs3
  have hs5 : s5.Tidy := .ite hs4.reportPulse hs4
  exact hs5.rearmCheck

theorem State.Tidy.slotTaken (h : s.Tidy) : (s.slotTaken c).Tidy :=
  h.mapThreads fun _ ht => .ite ht ht
theorem State.Tidy.runReport (h : s.Tidy) : (s.runReport c).Tidy :=
  .ite h (.ite h.setCtx.slotTaken.writeRecord h.setCtx.slotTaken.reportEnd)

theorem State.Tidy.completionRecord (h : s.Tidy) : (s.completionRecord c).Tidy := by
  unfold State.completionRecord
  extract_lets x
  split
  · exact .ite h.setCtx.evtQueue h
  · exact .ite h.reportEnd h

theorem State.Tidy.queuePacket {n : Nat} {d : BitVec 256} (h : s.Tidy) : (s.queuePacket n d).Tidy := by
  unfold State.queuePacket
  extract_lets c p src s1
  have hs1 : s1.Tidy := h.setCtx
  split
  · exact hs1
  · split
    · exact .ite hs1.givePacket hs1
    · exact hs1

theorem State.Tidy.packetEnd (h : s.Tidy) : (s.packetEnd c).Tidy := by
  unfold State.packetEnd
  extract_lets x
  split
  · exact h
  · exact h.setCtx.packetRsp

end

/-! ### Grafts (Sys2Proof/Machine/Graft.lean) -/

section
variable {s : State} {b : BankRef} {bank : Nat} {t : ThreadRef}

theorem State.Tidy.startThread {entry : Nat} {g1 : W64} (h : s.Tidy) : (s.startThread t entry g1).Tidy := by
  unfold State.startThread
  split
  · exact .ite (h.setThr (Tab.wf_tset (Tab.wf_nil _) 1 _)) h
  · exact h

theorem State.Tidy.startThreads (h : s.Tidy) : (s.startThreads b).Tidy := h.foldl fun _ _ h1 => h1.startThread
theorem State.Tidy.clearFault (h : s.Tidy) : (s.clearFault t).Tidy := .ite (h.setThr h.thr) h
theorem State.Tidy.clearStream {cl : Nat} (h : s.Tidy) : (s.clearStream cl).Tidy := .ite h.clearFault h
theorem State.Tidy.clearEngine {bits : Nat} (h : s.Tidy) : (s.clearEngine b bits).Tidy :=
  .startThreads (h.foldl (fun _ _ h1 => .ite h1.clearFault h1))

theorem State.Tidy.storeWord {idx : Nat} {w : W32} (h : s.Tidy) : OptTidy (s.storeWord b bank idx w) := by
  unfold State.storeWord
  split
  · exact h.setInstr.some
  · exact h.setBankSt.setInstr.some
  · exact .none

theorem State.Tidy.progNext (h : s.Tidy) : (s.progNext b).Tidy := h.setFld
theorem State.Tidy.loadArm (h : s.Tidy) : OptTidy (s.loadArm b) := .ite .none h.setFlag.some
theorem State.Tidy.loadEnd (h : s.Tidy) : (s.loadEnd b).Tidy :=
  .ite h.draw.setFlag.setFlag (.ite h.draw.setFlag.setReg h.draw.setFlag.setBankSt.setFlag)
theorem State.Tidy.loadCheckEnd (h : s.Tidy) : (s.loadCheckEnd b).Tidy := .ite h.loadEnd h
theorem State.Tidy.setGraft {st : Nat} (h : s.Tidy) : (s.setGraft b st bank).Tidy := h.setFld.setFld

theorem State.Tidy.graftGo (h : s.Tidy) : OptTidy (s.graftGo b) := by
  unfold State.graftGo
  split
  · exact .none
  · extract_lets s1
    have h1 : s1.Tidy := by
      dsimp only [s1]
      split
      · exact h.setBankSt.setBankSt.setGraft
      · exact h.setBankSt.setGraft
    clear_value s1
    exact h1.startThreads.some

theorem State.Tidy.abandon (h : s.Tidy) : (s.abandon b).Tidy := by
  unfold State.abandon
  split
  · exact h.setBankSt
  · exact h

theorem State.Tidy.graftDone (h : s.Tidy) : (s.graftDone b).Tidy := by
  unfold State.graftDone
  split
  · split
    · exact h.setBankSt.setFld.setFlag
    · exact h
  · exact h

end

/-! ### The ring (Sys2Proof/Machine/Ring.lean) -/

section
variable {s : State} {hd : Hdr} {ln n x : Nat} {r : RingIn} {t : Trk}

theorem State.Tidy.bypass (h : s.Tidy) : (s.bypass r hd).Tidy := .ite h.ringSend.emit.wakeEvent h
theorem State.Tidy.flitIn {code : Nat} {f : Hdr → State → State} (h : s.Tidy) (hf : ∀ a s1, s1.Tidy → (f a s1).Tidy) :
    (s.flitIn r code f).Tidy :=
  .ite h (.ite (.ite h.bypass h.emit) (.ite h.emit (.ite h.wakeEvent.raise (.ite h (hf _ _ h.wakeEvent)))))
theorem State.Tidy.payloadCheck (h : s.Tidy) : (s.payloadCheck r hd).2.Tidy := .ite h.raise h
theorem State.Tidy.ringEnter {kind : Hdr → ReqKind} (h : s.Tidy) : (s.ringEnter r kind hd).Tidy :=
  .ite (.poolAdd (.admitReq (.iteSnd h.payloadCheck h))) (.setRs (.admitReq (.iteSnd h.payloadCheck h)))

theorem State.Tidy.ringDirect {kind : ReqKind} (h : s.Tidy) : (s.ringDirect r kind hd).Tidy := by
  unfold State.ringDirect
  extract_lets c src q src1
  have hsrc1 : src1.Tidy := .iteSnd h.payloadCheck h
  clear_value src1
  exact .enterHome { hsrc1 with }

theorem State.Tidy.execRdS (h : s.Tidy) : OutTidy (execRdS r s) :=
  State.Tidy.next (h.flitIn (fun _ _ h1 => h1.ringEnter))
theorem State.Tidy.execRdU (h : s.Tidy) : OutTidy (execRdU r s) :=
  State.Tidy.next (h.flitIn (fun _ _ h1 => h1.ringEnter))
theorem State.Tidy.execUpg (h : s.Tidy) : OutTidy (execUpg r s) :=
  State.Tidy.next (h.flitIn (fun _ _ h1 => h1.ringEnter))
theorem State.Tidy.execRdNc (h : s.Tidy) : OutTidy (execRdNc r s) :=
  State.Tidy.next (h.flitIn (fun _ _ h1 => h1.ringEnter))
theorem State.Tidy.execWrBack (h : s.Tidy) : OutTidy (execWrBack r s) :=
  State.Tidy.next (h.flitIn (fun _ _ h1 => h1.ringDirect))
theorem State.Tidy.execEvictClean (h : s.Tidy) : OutTidy (execEvictClean r s) :=
  State.Tidy.next (h.flitIn (fun _ _ h1 => h1.ringDirect))
theorem State.Tidy.execWrFull (h : s.Tidy) : OutTidy (execWrFull r s) :=
  State.Tidy.next (h.flitIn (fun _ _ h1 => h1.ringEnter))
theorem State.Tidy.execWrStash (h : s.Tidy) : OutTidy (execWrStash r s) :=
  State.Tidy.next (h.flitIn (fun _ _ h1 => h1.ringEnter))
theorem State.Tidy.execAtom (h : s.Tidy) : OutTidy (execAtom r s) :=
  State.Tidy.next (h.flitIn (fun _ _ h1 => h1.ringEnter))
theorem State.Tidy.execDatFwd (h : s.Tidy) : OutTidy (execDatFwd r s) := State.Tidy.next (h.flitIn (fun _ _ h1 => h1))
theorem State.Tidy.clspAcqRing (h : s.Tidy) : (s.clspAcqRing r hd).Tidy :=
  .ite h.claspTake (.ite h.claspRsp { h with })
theorem State.Tidy.execClspAcqMsg (h : s.Tidy) : OutTidy (execClspAcqMsg r s) :=
  State.Tidy.next (h.flitIn (fun _ _ h1 => h1.clspAcqRing))

theorem State.Tidy.clspRelRing (h : s.Tidy) : (s.clspRelRing r hd).Tidy := by
  unfold State.clspRelRing
  split
  · rename_i he
    exact (h.claspRelease _ he).claspRsp
  · exact h.claspRsp

theorem State.Tidy.execClspRelMsg (h : s.Tidy) : OutTidy (execClspRelMsg r s) :=
  State.Tidy.next (h.flitIn (fun _ _ h1 => h1.clspRelRing))

theorem State.Tidy.cmpAckIn (h : s.Tidy) : (s.cmpAckIn hd).Tidy := by
  unfold State.cmpAckIn
  split
  · exact .ite h.ackTrk h
  · exact h

theorem State.Tidy.execCmpAck (h : s.Tidy) : OutTidy (execCmpAck r s) :=
  State.Tidy.next (h.flitIn (fun _ _ h1 => h1.cmpAckIn))
theorem State.Tidy.writeBack {wb : Line × Bool} (h : s.Tidy) : (s.writeBack t wb).Tidy := h.setTrk.memWrite

theorem State.Tidy.grantCmp {dfwd : Bool} (h : s.Tidy) : (s.grantCmp t dfwd).Tidy := by
  unfold State.grantCmp
  split
  · exact .ite h h.sendCmp
  · exact h

theorem State.Tidy.snoopDone (h : s.Tidy) : (s.snoopDone t).Tidy := by
  unfold State.snoopDone
  extract_lets fwd s1 t1
  have hs1 : s1.Tidy := .ite h.grantCmp h
  split
  · split
    · exact hs1.writeBack
    · exact .ite hs1.settleTrk hs1.memRead
  · exact .ite h.grantCmp.settleTrk h.memRead
  · split
    · exact .ite h.grantCmp.settleTrk (.ite h.grantCmp.settleTrk h.memRead)
    · exact h.memRead
  · split
    · exact h.gotData
    · exact h.memRead
  · split
    · exact h.gotData
    · exact h.memRead
  · split
    · exact h.gotData
    · exact h.memRead
  · split
    · exact h.writeBack
    · exact h.settleTrk
    · exact h.memRead
  · split
    · exact h.writeBack
    · exact h.settleTrk
    · exact h.memRead
  · split
    · exact h.writeBack
    · exact h.settleTrk
    · exact h.memRead
  · exact h.sendStash
  · exact h.memWrite

theorem State.Tidy.snoopReturn {bits : BitVec 3} (h : s.Tidy) : (s.snoopReturn ln bits).Tidy := by
  unfold State.snoopReturn
  split
  · split
    · exact .ite h.setTrk h.setTrk.snoopDone
    · exact h
  · exact h

theorem State.Tidy.datWbIn (h : s.Tidy) : (s.datWbIn r hd).Tidy := by
  unfold State.datWbIn
  split
  · split
    · exact .ite (.ite h.payloadCheck.setTrk.snoopDone h.payloadCheck.setTrk) h
    · exact h
  · exact h

theorem State.Tidy.execDatWb (h : s.Tidy) : OutTidy (execDatWb r s) :=
  State.Tidy.next (h.flitIn (fun _ _ h1 => h1.datWbIn))

theorem State.Tidy.rspStashIn (h : s.Tidy) : (s.rspStashIn hd).Tidy := by
  unfold State.rspStashIn
  split
  · exact .ite (.ite h.holdLine.setTrk h.memWrite) h
  · exact h

theorem State.Tidy.execRspStash (h : s.Tidy) : OutTidy (execRspStash r s) :=
  State.Tidy.next (h.flitIn (fun _ _ h1 => h1.rspStashIn))

theorem State.Tidy.snoopTimeout (h : s.Tidy) : (s.snoopTimeout ln).Tidy := by
  unfold State.snoopTimeout
  split
  · split
    · extract_lets t s1 src
      have hs1 : s1.Tidy := h.raise.setTrk
      split
      · exact hs1.refuseRead
      · split
        · exact hs1.memRead
        · exact hs1.settleTrk
        · exact hs1.memWrite
        · exact hs1.memWrite
    · exact h
  · exact h

theorem State.Tidy.holdEnd (h : s.Tidy) : (s.holdEnd ln).Tidy := by
  unfold State.holdEnd
  split
  · exact h
  · extract_lets s1
    have hs1 : s1.Tidy := { h with }
    split
    · split
      · exact hs1.snoop
      · exact hs1
    · exact hs1

theorem State.Tidy.written {r : Req} (h : s.Tidy) : (s.written r).Tidy := by
  unfold State.written
  split
  · exact h.lineDone
  · exact h.lineDone
  · exact h.count2
  · exact h.count2
  · exact h

theorem State.Tidy.arbiterAdmit (h : s.Tidy) : s.arbiterAdmit.Tidy := by
  unfold State.arbiterAdmit
  split
  · exact h
  · split
    · exact h.poolTake.written.enterHome
    · exact h

theorem State.Tidy.transactionEnd (h : s.Tidy) : (s.transactionEnd ln).Tidy := by
  unfold State.transactionEnd
  split
  · exact .ite h.endTrk h
  · exact h

theorem State.Tidy.bringupHold (h : s.Tidy) : (s.bringupHold ln).Tidy := by
  unfold State.bringupHold
  split
  · split
    · exact .ite h.failWrite h.openAns.gotData
    · exact h
  · exact h

theorem State.Tidy.claspTimeout (h : s.Tidy) : (s.claspTimeout n).Tidy := .ite h.claspLoss h

theorem State.Tidy.resetTrk (h : s.Tidy) : (s.resetTrk ln).Tidy := by
  unfold State.resetTrk
  split
  · exact .ite h.setTrk.ackTrk h.setTrk
  · exact h

theorem State.Tidy.walkBegin {ids : List Nat} (h : s.Tidy) : (s.walkBegin x ids).Tidy := by
  unfold State.walkBegin
  extract_lets s1 mute s2 s3
  have h1 : s1.Tidy := h.setFlag.setFld
  clear_value s1
  have h2 : s2.Tidy := { h1 with }
  clear_value s2
  exact h2.claspWithdraw.foldl fun _ _ h => h.resetTrk

theorem State.Tidy.agentReset (h : s.Tidy) : (s.agentReset x).Tidy := .ite (.walkBegin { h with }) { h with }
theorem State.Tidy.execAgentReset (h : s.Tidy) : OutTidy (execAgentReset r s) :=
  State.Tidy.next (h.flitIn (fun _ _ h1 => h1.agentReset))

theorem State.Tidy.poisonLine {line : Nat} (h : s.Tidy) : (s.poisonLine line).Tidy := by
  unfold State.poisonLine
  extract_lets d src r src1
  have hsrc1 : src1.Tidy := h.draw
  clear_value src1
  exact .enterHome { hsrc1 with }

theorem State.Tidy.walkEnd (h : s.Tidy) : s.walkEnd.Tidy := by
  unfold State.walkEnd
  split
  · exact h
  · split
    · exact h
    · extract_lets lost s1 s2 s3 s4 src s5
      have h1 : s1.Tidy := .retryWays { h with filter := Tab.wf_tmap (Tab.wf_keys h.filter) .. }
      have h2 : s2.Tidy := .ite (h1.foldl fun _ _ h => h.poisonLine) h1
      have h3 : s3.Tidy := h2.claspLossAll.raise
      clear_value s3
      have h4 : s4.Tidy := { h3 with }
      have hsrc : src.Tidy := h4.setFlag
      clear_value src
      have h5 : s5.Tidy := { hsrc with }
      clear_value s5
      split
      · exact h5.walkBegin.pump
      · exact h5.pump

theorem State.Tidy.attachUpdate (h : s.Tidy) : (s.attachUpdate n).Tidy := .ite h (.ite h.setRs h.setRs)
theorem State.Tidy.ringReset {level : Bool} (h : s.Tidy) : (s.ringReset n level).Tidy := .ite h.setRs h.setRs

end

/-! ### The ports (Sys2Proof/Machine/Ports.lean) -/

section
variable {s : State} {w : BitVec 128} {x : HeldBeat} {e : HeldReq} {k n : Nat}

theorem State.Tidy.portRead (h : s.Tidy) : OptTidy (s.portRead n e) :=
  .ite h.openAns.spRespond.some (.ite h.poolAdd.some .none)
theorem State.Tidy.portWriteIn (h : s.Tidy) : OptTidy (s.portWriteIn n e x) :=
  .ite h.raise.some (.ite (State.Tidy.some (.ite h.poolAdd.raise h.poolAdd)) .none)
theorem State.Tidy.portFlush (h : s.Tidy) : OptTidy (s.portFlush n w) :=
  .ite h.spRespond.some (.ite .none h.setSp.some)
theorem State.Tidy.cmdResult {status : Nat} {ignored : Bool} (h : s.Tidy) : (s.cmdResult n w status ignored).Tidy :=
  h.spRespond

theorem State.Tidy.portCmd (h : s.Tidy) : (s.portCmd w).Tidy := by
  unfold State.portCmd
  split
  · exact h.cmdAppend
  · exact h.cmdSetHead
  · exact h.ctxCmd

theorem State.Tidy.portCtx (h : s.Tidy) : (s.portCtx n e).Tidy := .ite h.cmdResult h.portCmd.s.cmdResult

theorem State.Tidy.portPacket (h : s.Tidy) : OptTidy (s.portPacket n e x) := by
  unfold State.portPacket
  extract_lets d clean
  split
  · exact h.spRespond.some
  · exact .ite .none h.queuePacket.some

theorem State.Tidy.portReserved (h : s.Tidy) : (s.portReserved n w).Tidy := h.raise

theorem State.Tidy.portHandle {beat : Option HeldBeat} (h : s.Tidy) : OptTidy (s.portHandle n e beat) := by
  unfold State.portHandle
  split
  · exact h.portRead
  · exact h.portWriteIn
  · exact .none
  · exact h.portFlush
  · exact h.portCtx.some
  · exact h.portPacket
  · exact .none
  · exact h.portReserved.some

theorem State.Tidy.giveCredit {wd : Bool} (h : s.Tidy) : (s.giveCredit n wd).Tidy := .ite h h.setSp.emit
theorem State.Tidy.portPass {beat : Bool} (h : s.Tidy) : (s.portPass n beat).Tidy :=
  .ite h.setSp.giveCredit.giveCredit h.setSp.giveCredit

theorem State.Tidy.portServe (h : s.Tidy) : (Machine.portServe k n s).Tidy := by
  induction k generalizing s with
  | zero => exact h
  | succ k ih =>
    unfold Machine.portServe
    split
    · exact h
    · split
      · exact h
      · split
        · exact h
        · rename_i he
          exact ih (h.portHandle _ he).portPass

theorem State.Tidy.portGo (h : s.Tidy) : (s.portGo n).Tidy := h.portServe
theorem State.Tidy.portsGo (h : s.Tidy) : s.portsGo.Tidy := h.foldl fun _ _ h1 => h1.portGo
theorem State.Tidy.portWake {taken : Bool} (h : s.Tidy) : (s.portWake n taken).Tidy := .ite h.wakeEvent h
theorem State.Tidy.portTake (h : s.Tidy) : (s.portTake n w).Tidy := .setSp (.iteSnd h.admitReq h)
theorem State.Tidy.portRequest {mine : Bool} (h : s.Tidy) : (s.portRequest n w mine).Tidy :=
  .ite h (.ite h.portTake.portGo.portWake h.portWake)
theorem State.Tidy.beatIn {b : Beat} (h : s.Tidy) : (s.beatIn n b).Tidy :=
  .ite h (.ite h.setSp.portGo.portWake h.portWake)

theorem State.Tidy.flushComplete (h : s.Tidy) : (s.flushComplete n k).Tidy := by
  unfold State.flushComplete
  extract_lets p s1
  have hs1 : s1.Tidy := h.setSp
  split
  · exact h
  · exact .ite h (.ite hs1 hs1.spRespond.portGo)

theorem State.Tidy.dbgPump (h : s.Tidy) : s.dbgPump.Tidy := by
  unfold State.dbgPump
  split
  · exact h
  · exact .ite h h.enter

theorem State.Tidy.spReadyUp (h : s.Tidy) : (s.spReadyUp n).Tidy := .ite h h.setSp.emit.emit
theorem State.Tidy.rdCredit (h : s.Tidy) : (s.rdCredit n).Tidy := .ite h h.setSp.spDrain

end

/-! ### The alive output (Sys2Proof/Machine/Alive.lean) -/

section
variable {s : State} {b : FaultRef} {src : Nat} {v : W32}

theorem State.Tidy.aliveToggle (h : s.Tidy) : s.aliveToggle.Tidy := .ite h { h with }
theorem State.Tidy.pulseEnd (h : s.Tidy) : s.pulseEnd.Tidy := .ite { h with } h

theorem State.Tidy.wdExpire (h : s.Tidy) : s.wdExpire.Tidy := by
  unfold State.wdExpire
  split
  · refine .onset ?_
    refine .raise ?_
    extract_lets src
    have hsrc : src.Tidy := h.setFlag
    clear_value src
    exact { hsrc with }
  · exact h

theorem State.Tidy.onsetIf {b : Bool} (h : s.Tidy) : (s.onsetIf b).Tidy := .ite h.onset h
theorem State.Tidy.modeChanged (h : s.Tidy) : s.modeChanged.Tidy := .ite (.onsetIf { h with }) { h with }
theorem State.Tidy.holdChanged (h : s.Tidy) : s.holdChanged.Tidy := .ite { h with } h
theorem State.Tidy.aliveWritten {old : W32} (h : s.Tidy) : (s.aliveWritten old).Tidy :=
  .ite h.modeChanged (.ite h.holdChanged h)
theorem State.Tidy.updChans {f : Chan → Chan} (h : s.Tidy) (hf : ∀ c, c.Tidy → (f c).Tidy) : (s.updChans f).Tidy :=
  h.foldl fun _ _ h1 => h1.updChan fun _ h2 => hf _ h2
theorem State.Tidy.unIsolate (h : s.Tidy) : (s.unIsolate b src).Tidy := h.updChans fun _ h1 => { h1 with }

theorem State.Tidy.releaseEngines (h : s.Tidy) : (s.releaseEngines b src).Tidy := by
  unfold State.releaseEngines
  split
  · exact .ite { h with } h
  · exact .ite (.startThreads { h with }) (.ite (.startThreads { h with }) h)
  · exact h

theorem State.Tidy.alertAck (h : s.Tidy) : (s.alertAck b src).Tidy := .ite (h.updChans (fun _ h1 => { h1 with })) h
theorem State.Tidy.ackSource (h : s.Tidy) : (s.ackSource b src).Tidy :=
  h.setFlag.setFlag.unIsolate.releaseEngines.alertAck.endIsolations
theorem State.Tidy.ackWritten (h : s.Tidy) : (s.ackWritten b v).Tidy := h.foldl fun _ _ h1 => h1.ackSource
theorem State.Tidy.forceWritten (h : s.Tidy) : (s.forceWritten b v).Tidy := h.foldl fun _ _ h1 => h1.raiseF

theorem State.Tidy.histClear (h : s.Tidy) : (s.histClear b).Tidy := by
  unfold State.histClear
  extract_lets src
  have hsrc : src.Tidy := h.setFld
  clear_value src
  exact { hsrc with }

theorem State.Tidy.graveResume (h : s.Tidy) : (s.graveResume b).Tidy := by
  unfold State.graveResume
  extract_lets s1
  have hs1 : s1.Tidy := h.endIsolations
  split
  · exact hs1.pump.portsGo
  · exact hs1

theorem State.Tidy.quietEnd (h : s.Tidy) : (s.quietEnd b).Tidy := .ite (.ite h.setFlag h.setFlag.setFld.graveResume) h

end

/-! ### Arithmetic and branches (Sys2Proof/Machine/Alu.lean) -/

section
variable {s : State} {th : Thread} {t : ThreadRef} {w : W32}

theorem State.Tidy.aluReg {f : W64 → W64 → W64} (h : s.Tidy) (hth : th.Tidy) : (aluReg f s t th w).Tidy :=
  .ite .fault (h.setThr hth.setG).done
theorem State.Tidy.execAdd (h : s.Tidy) : OutTidy (execAdd t s) :=
  State.Tidy.next (h.issue (fun _ _ _ h1 h2 => h1.aluReg h2))
theorem State.Tidy.execSub (h : s.Tidy) : OutTidy (execSub t s) :=
  State.Tidy.next (h.issue (fun _ _ _ h1 h2 => h1.aluReg h2))
theorem State.Tidy.execMul (h : s.Tidy) : OutTidy (execMul t s) :=
  State.Tidy.next (h.issue (fun _ _ _ h1 h2 => h1.aluReg h2))
theorem State.Tidy.execAnd (h : s.Tidy) : OutTidy (execAnd t s) :=
  State.Tidy.next (h.issue (fun _ _ _ h1 h2 => h1.aluReg h2))
theorem State.Tidy.execOr (h : s.Tidy) : OutTidy (execOr t s) :=
  State.Tidy.next (h.issue (fun _ _ _ h1 h2 => h1.aluReg h2))
theorem State.Tidy.execXor (h : s.Tidy) : OutTidy (execXor t s) :=
  State.Tidy.next (h.issue (fun _ _ _ h1 h2 => h1.aluReg h2))
theorem State.Tidy.execShl (h : s.Tidy) : OutTidy (execShl t s) :=
  State.Tidy.next (h.issue (fun _ _ _ h1 h2 => h1.aluReg h2))
theorem State.Tidy.execShr (h : s.Tidy) : OutTidy (execShr t s) :=
  State.Tidy.next (h.issue (fun _ _ _ h1 h2 => h1.aluReg h2))
theorem State.Tidy.execSra (h : s.Tidy) : OutTidy (execSra t s) :=
  State.Tidy.next (h.issue (fun _ _ _ h1 h2 => h1.aluReg h2))

theorem State.Tidy.aluPick {signedF unsignedF : W64 → W64 → W64} (h : s.Tidy) (hth : th.Tidy) :
    (aluPick signedF unsignedF s t th w).Tidy := by
  unfold Machine.aluPick
  extract_lets x y
  split
  · exact (h.setThr hth.setG).done
  · exact (h.setThr hth.setG).done
  · exact .fault

theorem State.Tidy.execMin (h : s.Tidy) : OutTidy (execMin t s) :=
  State.Tidy.next (h.issue (fun _ _ _ h1 h2 => h1.aluPick h2))
theorem State.Tidy.execMax (h : s.Tidy) : OutTidy (execMax t s) :=
  State.Tidy.next (h.issue (fun _ _ _ h1 h2 => h1.aluPick h2))

theorem State.Tidy.execCmp (h : s.Tidy) : OutTidy (execCmp t s) := by
  refine State.Tidy.next (h.issue fun s th w hs hth => ?_)
  split
  · exact (hs.setThr hth.setG).done
  · exact .fault

theorem State.Tidy.execSel (h : s.Tidy) : OutTidy (execSel t s) :=
  State.Tidy.next (h.issue (fun _ _ _ h1 h2 => .ite .fault (h1.setThr h2.setG).done))
theorem State.Tidy.aluImm {ok : W32 → Bool} {f : W64 → W32 → W64} (h : s.Tidy) (hth : th.Tidy) :
    (aluImm ok f s t th w).Tidy :=
  .ite (h.setThr hth.setG).done .fault
theorem State.Tidy.execAddImm (h : s.Tidy) : OutTidy (execAddImm t s) :=
  State.Tidy.next (h.issue (fun _ _ _ h1 h2 => h1.aluImm h2))
theorem State.Tidy.execAndImm (h : s.Tidy) : OutTidy (execAndImm t s) :=
  State.Tidy.next (h.issue (fun _ _ _ h1 h2 => h1.aluImm h2))
theorem State.Tidy.execOrImm (h : s.Tidy) : OutTidy (execOrImm t s) :=
  State.Tidy.next (h.issue (fun _ _ _ h1 h2 => h1.aluImm h2))
theorem State.Tidy.execXorImm (h : s.Tidy) : OutTidy (execXorImm t s) :=
  State.Tidy.next (h.issue (fun _ _ _ h1 h2 => h1.aluImm h2))
theorem State.Tidy.execShlImm (h : s.Tidy) : OutTidy (execShlImm t s) :=
  State.Tidy.next (h.issue (fun _ _ _ h1 h2 => h1.aluImm h2))
theorem State.Tidy.execShrImm (h : s.Tidy) : OutTidy (execShrImm t s) :=
  State.Tidy.next (h.issue (fun _ _ _ h1 h2 => h1.aluImm h2))
theorem State.Tidy.execSraImm (h : s.Tidy) : OutTidy (execSraImm t s) :=
  State.Tidy.next (h.issue (fun _ _ _ h1 h2 => h1.aluImm h2))
theorem State.Tidy.execLi (h : s.Tidy) : OutTidy (execLi t s) :=
  State.Tidy.next (h.issue (fun _ _ _ h1 h2 => h1.aluImm h2))
theorem State.Tidy.execLui (h : s.Tidy) : OutTidy (execLui t s) :=
  State.Tidy.next (h.issue (fun _ _ _ h1 h2 => h1.aluImm h2))
theorem State.Tidy.execBr (h : s.Tidy) : OutTidy (execBr t s) :=
  State.Tidy.next (h.issue (fun _ _ _ h1 _ => .ite .fault h1.branch))

theorem State.Tidy.execBrc (h : s.Tidy) : OutTidy (execBrc t s) := by
  refine State.Tidy.next (h.issue fun s th w hs hth => ?_)
  split
  · exact .fault
  · exact hs.branch
  · exact hs.done

theorem State.Tidy.execCall (h : s.Tidy) : OutTidy (execCall t s) :=
  State.Tidy.next (h.issue (fun _ _ _ h1 h2 => .ite .fault (h1.setThr h2.setG).branch))
theorem State.Tidy.execRet (h : s.Tidy) : OutTidy (execRet t s) :=
  State.Tidy.next (h.issue (fun _ _ _ h1 _ => .ite .fault h1.branch))

end

/-! ### Commands of the charms (Sys2Proof/Machine/CharmCmd.lean) -/

section
variable {s : State}

theorem State.Tidy.windowStart {ch : Nat} (h : s.Tidy) : (s.windowStart ch).Tidy := .ite h.setFld h
theorem State.Tidy.recomputeEnd (h : s.Tidy) : s.recomputeEnd.Tidy := .ite h.recompute h
theorem State.Tidy.slotBoundary (h : s.Tidy) : s.slotBoundary.Tidy := .ite h.trBoundary h
theorem State.Tidy.sampleNow (h : s.Tidy) : s.sampleNow.Tidy := .ite h.sampleAll h
theorem State.Tidy.invalEnd (h : s.Tidy) : s.invalEnd.Tidy := .ite h.setFlag h

end

/-! ### The mover (Sys2Proof/Machine/Mover.lean) -/

section
variable {s : State} {n slot : Nat} {p : Sprout}

theorem State.Tidy.swap (h : s.Tidy) : s.swap.Tidy :=
  .setFlag (.setFlag (.setReg2 (.setFlag (h.foldl (fun _ _ h1 => h1.setReg)))))
theorem State.Tidy.setWm {a : Nat} (h : s.Tidy) : (s.setWm a).Tidy := .ite h.setReg2.swap h.setReg2
theorem State.Tidy.waitSprout {b : Bool} (h : s.Tidy) : (s.waitSprout b).Tidy := h.setFlag

theorem State.Tidy.moverAt (h : s.Tidy) : (s.moverAt n).Tidy := by
  unfold State.moverAt
  split
  · exact .ite h.waitSprout.setWm h
  · split
    · exact h.waitSprout
    · split
      · exact h.waitSprout
      · extract_lets r m src
        have hsrc : src.Tidy := h.waitSprout
        clear_value src
        exact .ite (.enter { hsrc with }) h

theorem State.Tidy.migrationStep (h : s.Tidy) : s.migrationStep.Tidy := .ite h.moverAt h

theorem State.Tidy.watermarkAdvance (h : s.Tidy) : s.watermarkAdvance.Tidy := by
  unfold State.watermarkAdvance
  split
  · exact .ite (.pump (.retryWays (.setWm { h with }))) h
  · exact h

theorem State.Tidy.fillSlot (h : s.Tidy) : (s.fillSlot slot p).Tidy :=
  .ite (.setSprout { h with }) (.ite (.setSprout { h with }) (.setSprout { h with }))

theorem State.Tidy.seedFillWrite (h : s.Tidy) : s.seedFillWrite.Tidy := by
  unfold State.seedFillWrite
  split
  · exact .ite (h.elim (fun _ => h.fillSlot)) h
  · exact h

theorem State.Tidy.seedWake (h : s.Tidy) : s.seedWake.Tidy := by
  unfold State.seedWake
  refine .foldl h fun s1 x1 h1 => ?_
  split
  · exact .ite h1.memWrite h1
  · exact h1

theorem State.Tidy.fpPass (h : s.Tidy) : (s.fpPass slot p).Tidy := by
  unfold State.fpPass
  extract_lets s1 p' s2
  have hs1 : s1.Tidy := { h with }
  have hs2 : s2.Tidy := .ite { hs1 with } hs1.setSprout
  exact hs2.seedWake

theorem State.Tidy.fillQueue {line : Nat} (h : s.Tidy) : OptTidy (s.fillQueue line) := by
  unfold State.fillQueue
  split
  · exact .ite h.queueWrite .none
  · exact h.some

theorem State.Tidy.fpAdvance (h : s.Tidy) : (s.fpAdvance slot).Tidy := by
  unfold State.fpAdvance
  split
  · exact h
  · exact .ite h (.ite (h.fillQueue.elim h fun _ h => h.fpPass) (.ite h.fpPass h))

theorem State.Tidy.scrubRead (h : s.Tidy) : (s.scrubRead n).Tidy := by
  unfold State.scrubRead
  split
  · exact h
  · split
    · exact .ite h.enqueue h
    · exact h

theorem State.Tidy.scrubStart (h : s.Tidy) : s.scrubStart.Tidy := by
  unfold State.scrubStart
  extract_lets src
  have hsrc : src.Tidy := h.setReg2
  clear_value src
  exact { hsrc with }

theorem State.Tidy.scrubNext (h : s.Tidy) : s.scrubNext.Tidy := by
  unfold State.scrubNext
  split
  · exact h.scrubStart
  · split
    · exact h.setReg.scrubStart
    · extract_lets src
      have hsrc : src.Tidy := h.setReg2
      clear_value src
      exact { hsrc with }

theorem State.Tidy.scrubSlot (h : s.Tidy) : s.scrubSlot.Tidy := by
  unfold State.scrubSlot
  split
  · extract_lets src s1
    have hsrc : src.Tidy := h.scrubNext
    have hs1 : s1.Tidy := { hsrc with }
    exact hs1.elim fun _ => hs1.scrubRead
  · exact h

end

/-! ### Pads and the sideband (Sys2Proof/Machine/Pads.lean) -/

section
variable {s : State} {g slot : Nat}

theorem State.Tidy.holdPads (h : s.Tidy) : (s.holdPads g).Tidy := by
  unfold State.holdPads
  extract_lets asleep src s1
  have hsrc : src.Tidy := h.setFlag
  have h1 : s1.Tidy := { hsrc with padFloat := Tab.wf_tset h.padFloat .. }
  clear_value s1
  exact .ite h (.ite h1.setFlag h1)

theorem State.Tidy.drstFollow (h : s.Tidy) : s.drstFollow.Tidy :=
  h.foldl fun _ _ h => .ite h (.emit { h with drst := Tab.wf_tset h.drst .. })
theorem State.Tidy.padHold (h : s.Tidy) : OptTidy (s.padHold g) := .ite h.holdPads.some .none

theorem State.Tidy.padRelease (h : s.Tidy) : OptTidy (s.padRelease g) := by
  unfold State.padRelease
  extract_lets s1
  have h1 : s1.Tidy := h.setFlag
  clear_value s1
  have hf := Tab.wf_terase h1.padFloat g
  have hq := Tab.wf_tset h1.padQuiet g true
  have h2 : ({ s1 with padFloat := terase s1.padFloat g, padQuiet := tset false s1.padQuiet g true } : State).Tidy :=
    { h1 with padFloat := hf, padQuiet := hq }
  exact .ite h2.drstFollow.some .none

theorem State.Tidy.hostCal {code : Option Nat} (h : s.Tidy) : (s.hostCal g code).Tidy := by
  unfold State.hostCal
  split
  · extract_lets s1
    have hs1 : s1.Tidy := { h with }
    clear_value s1
    split
    · exact { hs1 with }
    · exact hs1.raise
  · exact h

theorem State.Tidy.sbGo (h : s.Tidy) : OptTidy (s.sbGo slot) := by
  unfold State.sbGo
  extract_lets cmd s1
  have h1 : s1.Tidy := h.setFlag
  clear_value s1
  exact .ite .none (State.Tidy.some (.emit { h1 with sbCmd := keysAbove_tput h1.sbCmd (Nat.zero_le _) _ }))

theorem State.Tidy.sbDone {r : SbResult} (h : s.Tidy) : (s.sbDone slot r).Tidy := by
  unfold State.sbDone
  split
  · exact h
  · split
    · exact h
    · extract_lets src s1 s2 s3 s4
      have hsrc : src.Tidy := h.setFlag
      have hcmd : keysAbove 0 s.sbCmd = true := h.sbCmd
      clear_value src
      have h1 : s1.Tidy := { hsrc with sbCmd := keysAbove_terase hcmd _ }
      clear_value s1
      have h3 : s3.Tidy := .ite h1.setFlag.setFlag h1.setFlag
      have h4 : s4.Tidy := .ite h3.setFlag h3
      exact .ite h4.setReg h4

theorem State.Tidy.ibiIn {addr : BitVec 7} {mdb : BitVec 8} (h : s.Tidy) : (s.ibiIn slot addr mdb).Tidy :=
  .ite h.setFld.setFld.setFlag h
theorem State.Tidy.presentSample {level : Bool} (h : s.Tidy) : (s.presentSample slot level).Tidy :=
  .ite (.ite (.setFlag { h with }) { h with }) h

end

/-! ### Resets (Sys2Proof/Machine/Reset.lean) -/

section
variable {s : State}

theorem State.Tidy.copyRegs {p : Nat → Bool} {src : Tab W32} (h : s.Tidy) : (s.copyRegs p src).Tidy :=
  h.foldl fun _ _ h1 => h1.setReg

theorem State.Tidy.copyHeld {old : State} (h : s.Tidy) (hold : old.Tidy) : (s.copyHeld old).Tidy := by
  unfold State.copyHeld
  extract_lets s1
  have h1 : s1.Tidy := h.foldl fun _ _ h => .ite h.setFlag h
  clear_value s1
  exact { h1 with padFloat := hold.padFloat, padQuiet := hold.padQuiet, drst := hold.drst }

/-- Power loss leaves the tables at reset, but for the ports and stops, whose pads keep their levels. -/
theorem State.Tidy.cold (h : s.Tidy) : s.cold.Tidy where
  regs := rfl
  threads := rfl
  ctxs := rfl
  chans := rfl
  sports := Tab.wf_tmap (Tab.wf_keys h.sports) SPort.init SPort.cold
  clasps := rfl
  evtPend := rfl
  readyQ := rfl
  rdShadow := rfl
  wrShadow := rfl
  filter := rfl
  plots := rfl
  stops := Tab.wf_tmap (Tab.wf_keys h.stops) Stop.init Stop.bypassed
  live := rfl
  shadow := rfl
  assigned := rfl
  padFloat := rfl
  padQuiet := rfl
  drst := rfl
  sbCmd := rfl
  eachThread := fun _ he => nomatch he
  eachChan := fun _ he => nomatch he
  savedKnobs := fun _ he => nomatch he

theorem State.Tidy.blkReset (h : s.Tidy) : s.blkReset.Tidy := by
  unfold State.blkReset
  extract_lets src c c1 c2
  have hsrc : src.Tidy := h.cold
  have hc : c.Tidy := { hsrc with }
  have hc1 : c1.Tidy := hc.copyRegs.copyHeld h
  have hc2 : c2.Tidy := hc1.setFld.setFld
  exact hc2.setFld.drstFollow

theorem State.Tidy.aonReset (h : s.Tidy) : s.aonReset.Tidy := by
  unfold State.aonReset
  refine .drstFollow ?_
  refine .copyHeld ?_ h
  extract_lets src
  have hsrc : src.Tidy := h.cold
  clear_value src
  exact { hsrc with }

/-- What retention keeps over a power loss was canonical before it. -/
theorem State.Tidy.powerLost {m : W64} (h : s.Tidy) : (s.powerLost m).Tidy := by
  unfold State.powerLost
  extract_lets v kept src c1 c2
  have hsrc : src.Tidy := h.cold
  have hv : src.variant = s.variant := rfl
  clear_value src
  have h1 : c1.Tidy := { hsrc with
    savedKnobs := by
      intro w hw
      dsimp only [c1] at hw
      split at hw
      · exact h.savedKnobs w hw
      · cases hw
    chans := Tab.wf_tmap (Tab.wf_keys h.chans) Chan.init Chan.dozing
    eachChan := of_mem_tmap fun e he => (h.eachChan e he).dozing
    plots := by
      dsimp only [c1]
      split
      · exact h.plots
      · rfl
    ctxs := by
      dsimp only [c1]
      split
      · exact h.ctxs
      · rfl }
  clear_value c1
  exact (h1.copyRegs.copyHeld h).foldl fun _ _ h => .ite h.setFlag h

theorem State.Tidy.restoreWord {a : Nat} {w : W32} (h : s.Tidy) : (s.restoreWord a w).Tidy := h.setReg
theorem State.Tidy.restoreChan {sc : Nat} {x : Nat × Bool × Nat × Nat} (h : s.Tidy) : (s.restoreChan sc x).Tidy :=
  h.updChan fun _ h1 => { h1 with }

/-- The knobs that were saved come back as the live ones. -/
theorem State.Tidy.writeBackSaved (h : s.Tidy) : s.writeBackSaved.Tidy := by
  unfold State.writeBackSaved
  split
  · exact h
  · rename_i v hv
    extract_lets s1 s2 s3
    have h1 : s1.Tidy := h.foldl fun _ _ h => h.restoreWord
    have h2 : s2.Tidy := h1.foldl fun _ _ h => h.restoreChan
    have h3 : s3.Tidy := h2.foldl fun _ _ h => .ite h.setFlag h
    clear_value s3
    exact { h3 with live := h.savedKnobs v hv, savedKnobs := fun _ he => nomatch he }

end

/-! ### Power states (Sys2Proof/Machine/Power.lean) -/

section
variable {s : State} {r sc target : Nat}

theorem State.Tidy.wakeRank (h : s.Tidy) : (s.wakeRank sc r).Tidy :=
  .ite (.dramCmd (h.updChan (fun _ h1 => h1.setRank.arm))) (.ite h.pdWake h)
theorem State.Tidy.wakeRanks (h : s.Tidy) : s.wakeRanks.Tidy := h.foldl fun _ _ h1 => h1.wakeRank.wakeRank

theorem State.Tidy.resume (h : s.Tidy) : s.resume.Tidy := by
  unfold State.resume
  extract_lets src s1
  have hsrc : src.Tidy := h.wakeRanks
  have hs1 : s1.Tidy := { hsrc with }
  exact hs1.setFld.portsGo.evDeliver

theorem State.Tidy.pcEnd {result : Nat} (h : s.Tidy) : (s.pcEnd result).Tidy := .ite (.emit { h with }) h
theorem State.Tidy.refuse {x : Nat × Nat × Nat} (h : s.Tidy) : (s.refuse x).Tidy :=
  h.resume.setFld.setFld.setFld.setFlag.raise.pcEnd
theorem State.Tidy.abandonEntry {code arg : Nat} (h : s.Tidy) : (s.abandonEntry code arg).Tidy :=
  h.resume.setFlag.recordWake.pcEnd

theorem State.Tidy.abortPoint {refusal : Option (Nat × Nat × Nat)} {next : State → State} (h : s.Tidy)
    (hnext : ∀ s1, s1.Tidy → (next s1).Tidy) :
    (s.abortPoint refusal next).Tidy := by
  unfold State.abortPoint
  split
  · exact h.abandonEntry
  · split
    · exact h.refuse
    · exact hnext _ h

theorem State.Tidy.atStep {step : Nat} (h : s.Tidy) : (s.atStep target step).Tidy := { h with }

theorem State.Tidy.begin6 (h : s.Tidy) : (s.begin6 target).Tidy := by
  unfold State.begin6
  extract_lets s1 kept s2
  have hs1 : s1.Tidy := h.atStep
  have hs2 : s2.Tidy := hs1.levelDrop
  clear_value s2
  exact .ite (.ite hs2 { hs2 with }) hs1

theorem State.Tidy.pointA5 (h : s.Tidy) : (s.pointA5 target).Tidy := h.abortPoint fun _ h1 => h1.begin6
theorem State.Tidy.pointA4 (h : s.Tidy) : (s.pointA4 target).Tidy :=
  h.abortPoint fun _ h1 => .ite h1.atStep h1.pointA5
theorem State.Tidy.pointA3 (h : s.Tidy) : (s.pointA3 target).Tidy := h.abortPoint fun _ h1 => h1.atStep
theorem State.Tidy.pointA2 (h : s.Tidy) : (s.pointA2 target).Tidy :=
  h.abortPoint fun _ h1 => .ite h1.atStep h1.pointA3

theorem State.Tidy.begin2 (h : s.Tidy) : (s.begin2 target).Tidy := by
  unfold State.begin2
  extract_lets src
  have hsrc : src.Tidy := h.atStep
  clear_value src
  exact { hsrc with }

theorem State.Tidy.begin1 (h : s.Tidy) : (s.begin1 target).Tidy := by
  unfold State.begin1
  split
  · extract_lets src
    have hsrc : src.Tidy := h.atStep
    clear_value src
    exact { hsrc with }
  · exact h.begin2

theorem State.Tidy.beginEntry {byPc : Bool} (h : s.Tidy) : (s.beginEntry target byPc).Tidy := by
  unfold State.beginEntry
  extract_lets src s1
  have hsrc : src.Tidy := h.setFld
  have hs1 : s1.Tidy := { hsrc with }
  clear_value s1
  exact .abortPoint { hs1 with } fun _ h1 => h1.begin1

theorem State.Tidy.forceSet (h : s.Tidy) : s.forceSet.Tidy := by
  unfold State.forceSet
  split
  · exact h
  · exact h.foldl fun _ _ h1 => h1.forceOut

theorem State.Tidy.step3 (h : s.Tidy) : (s.step3 target).Tidy := .ite h (.ite h.forceSet (.pointA3 { h with }))

theorem State.Tidy.sleepRank (h : s.Tidy) : (s.sleepRank target sc r).Tidy := by
  unfold State.sleepRank
  exact .ite h (.ite h (.ite (.dramCmd (h.pdWake.closeBanks.updChan (fun _ h1 => h1.setRank)))
    (.ite (.dramCmd (h.pdWake.closeBanks.updChan (fun _ h1 => h1.setRank.disarm))) h.pdWake.closeBanks)))

theorem State.Tidy.sleepRanks (h : s.Tidy) : (s.sleepRanks target).Tidy :=
  h.foldl fun _ _ h1 => .ite (h1.foldl (fun _ _ h2 => h2.sleepRank)) h1

theorem State.Tidy.step5 (h : s.Tidy) : s.step5.Tidy := by
  unfold State.step5
  extract_lets s1
  have h1 : s1.Tidy := h.foldl fun _ _ h => .ite h.modFire h
  clear_value s1
  exact { h1 with savedKnobs := fun v hv => Option.some.inj hv ▸ h1.live }

theorem State.Tidy.enginesLost (h : s.Tidy) : s.enginesLost.Tidy := by
  unfold State.enginesLost
  extract_lets owners s1
  have h1 : s1.Tidy := h.foldl fun _ _ h => h.claspLossAll
  clear_value s1
  have h2 := h1.mapThreads (f := Thread.lost) fun _ _ => .lost
  exact { h2 with }

theorem State.Tidy.blockLost {m : W64} (h : s.Tidy) : (s.blockLost m).Tidy := by
  unfold State.blockLost
  extract_lets s1 src
  have hs1 : s1.Tidy := h.foldl fun _ _ h1 => h1.holdPads
  have hsrc : src.Tidy := hs1.powerLost
  clear_value src
  exact .setFlag { hsrc with }

theorem State.Tidy.reached (h : s.Tidy) : (s.reached target).Tidy := by
  unfold State.reached
  extract_lets ev s1 src s2
  have h1 : s1.Tidy := .ite h.enginesLost (.ite h.blockLost (.ite h.blockLost h))
  have hsrc : src.Tidy := h1.setFld
  clear_value src
  have h2 : s2.Tidy := .pcEnd { hsrc with }
  clear_value s2
  cases ev with
  | none => exact h2
  | some e => exact h2.startWake

theorem State.Tidy.entryStepEnd (h : s.Tidy) : s.entryStepEnd.Tidy := by
  unfold State.entryStepEnd
  split
  · exact h.begin2
  · exact .ite h.pointA2 h
  · exact h.step3
  · exact .ite h.sleepRanks.pointA4 h
  · exact h.step5.pointA5
  · exact h.reached
  · exact h

theorem State.Tidy.pwrTimeout {unit index : Nat} (h : s.Tidy) : (s.pwrTimeout unit index).Tidy := by
  unfold State.pwrTimeout
  split
  · exact .ite h.refuse h
  · exact h

theorem State.Tidy.pcRequest (h : s.Tidy) : (s.pcRequest r).Tidy :=
  .ite h (.ite h.emit.wakeEvent (.ite h.beginEntry h.emit))
theorem State.Tidy.addRail {r : Rail} (h : s.Tidy) : (s.addRail r).Tidy := { h with }

theorem State.Tidy.railUp {r : Rail} (h : s.Tidy) : (s.railUp r).Tidy := by
  unfold State.railUp
  split
  · extract_lets s1
    have hs1 : s1.Tidy := h.addRail
    clear_value s1
    exact .ite { hs1 with } hs1
  · exact .ite h.addRail h

theorem State.Tidy.wakePll (h : s.Tidy) : s.wakePll.Tidy := by
  unfold State.wakePll
  split
  · exact .ite { h with } h
  · exact h

end

/-! ### Flags (Sys2Proof/Machine/Flags.lean) -/

section
variable {s : State} {off : Nat}

theorem State.Tidy.cfgFlag {i : Nat} (h : s.Tidy) : (s.cfgFlag i off).Tidy := .ite h.setFlag.setReg h.setFlag.setFlag
theorem State.Tidy.ignored (h : s.Tidy) : (s.ignored off).Tidy := h.cfgFlag
theorem State.Tidy.unmapped (h : s.Tidy) : (s.unmapped off).Tidy := h.cfgFlag
theorem State.Tidy.badWidth (h : s.Tidy) : (s.badWidth off).Tidy := h.cfgFlag

end

/-! ### Picture jobs (Sys2Proof/Machine/Video.lean) -/

section
variable {s : State} {a : Arrival} {j : Job} {id k lb n size : Nat} {th : Thread} {t : ThreadRef}

theorem State.Tidy.unitChecks {w : W32} {comp : Bool} {f : List W32 → Bool → Eff} (h : s.Tidy) (hth : th.Tidy)
    (hf : ∀ a a1, (f a a1).Tidy) :
    (s.unitChecks th w comp f).Tidy :=
  .ite .fault (.ite .fault (.ite .fault (hf _ _)))

theorem State.Tidy.packInput {line : Nat} (h : s.Tidy) : (s.packInput t th lb n line).2.Tidy :=
  List.foldlRecOn (motive := fun acc : Bool × State => acc.2.Tidy) _ _ h fun _ h _ _ => h.bufOut
theorem Thread.Tidy.lockBufs {b : Bool} (hth : th.Tidy) : (th.lockBufs lb n b).Tidy := hth.foldl fun _ _ h => h.setBuf

theorem State.Tidy.execPack (h : s.Tidy) : OutTidy (execPack t s) := by
  refine State.Tidy.next (h.issue fun s th w hs hth => .ite .fault (hs.unitChecks hth fun ws chroma => ?_))
  split
  · exact .stall
  · exact .fault
  · exact (hs.packInput.setThr hs.packInput.thr.lockBufs).addJob.sleep.hold

theorem State.Tidy.execUnpk (h : s.Tidy) : OutTidy (execUnpk t s) := by
  refine State.Tidy.next (h.issue fun s th w hs hth => .ite .fault (hs.unitChecks hth fun ws chroma => ?_))
  split
  · exact .stall
  · exact .fault
  · exact (hs.setThr hth.pendBufs).sleep.addJob.hold

theorem Thread.Tidy.fillBufs {ls : List Line} {poison : Bool} {err : Nat} (h : th.Tidy) :
    (th.fillBufs lb ls poison err).Tidy :=
  List.foldlRecOn (motive := fun acc : Nat × Thread => acc.2.Tidy) _ _ h fun _ h _ _ => h.setBuf
theorem State.Tidy.dropJob (h : s.Tidy) : (s.dropJob id).Tidy := { h with }
theorem State.Tidy.setJob (h : s.Tidy) : (s.setJob j).Tidy := { h with }

theorem State.Tidy.finishJob (h : s.Tidy) : (s.finishJob j).Tidy := by
  unfold State.finishJob
  extract_lets f raw
  split
  · exact (h.dropJob.setThr h.thr.fillBufs).wake
  · extract_lets c bs
    split
    · exact h.dropJob.setThr h.thr.fillBufs
    · exact h.dropJob.foldl fun _ _ h1 => h1.spRespond
  · exact h

theorem State.Tidy.execBlk2d (h : s.Tidy) : OutTidy (execBlk2d t s) := by
  refine State.Tidy.next (h.issue fun s th w hs hth => .ite .fault (.ite .fault (.ite .fault (.ite .fault (.ite .fault ?_)))))
  dsimp only
  split
  · exact .stall
  · exact .fault
  · exact State.Tidy.done (.ite (hs.setThr hth.pendBufs).finishJob (hs.setThr hth.pendBufs).addJob)

theorem State.Tidy.stepJob (h : s.Tidy) : (s.stepJob j).Tidy := .ite h.finishJob h.setJob.pumpJobs
theorem State.Tidy.finishGather {addrs : List Nat} (h : s.Tidy) : (s.finishGather j size addrs).Tidy :=
  h.dropJob.setThr (List.foldlRecOn (motive :=
    fun acc : Nat × Thread => acc.2.Tidy) _ _ h.thr fun _ h _ _ => h.fillBufs)
theorem State.Tidy.failGather (h : s.Tidy) : (s.failGather j size).Tidy :=
  h.dropJob.setThr (h.thr.foldl (fun _ _ h1 => h1.setBuf))

theorem State.Tidy.jobArrival {idx : Nat} (h : s.Tidy) : (s.jobArrival t a id idx).Tidy := by
  unfold State.jobArrival
  split
  · exact h
  · extract_lets g j
    split
    · exact .ite h.fault1 (.ite (.ite h.failGather h.finishGather) h.setJob.pumpJobs)
    · exact h.stepJob

theorem State.Tidy.takeArrival (h : s.Tidy) : (s.takeArrival t a).Tidy := by
  unfold State.takeArrival
  split
  · exact h.setThr h.thr.setBuf
  · exact h.jobArrival
  · exact h

theorem State.Tidy.markTmo {tmo : Bool} (h : s.Tidy) : (s.markTmo t tmo).Tidy := .ite (h.setThr h.thr) h

theorem State.Tidy.lineArrival (h : s.Tidy) : (s.lineArrival t k).Tidy := by
  unfold State.lineArrival
  extract_lets mine
  split
  · exact h
  · exact .ite h (.takeArrival (.markTmo (.lineDone
      (.ite (.readDone (.ite (.raise { h with }) { h with })) (.ite (.raise { h with }) { h with })))))

theorem State.Tidy.packDone {force bad : Bool} {input : List Line} (h : s.Tidy) :
    (s.packDone j force input bad).Tidy := by
  unfold State.packDone
  exact .ite h (.wake (.setThr (.setJob (h.foldl (fun _ _ h1 => h1.lineOp)))
    (State.Tidy.thr (.setJob (h.foldl (fun _ _ h1 => h1.lineOp)))).lockBufs))

theorem State.Tidy.headerMerge {entry : W64} (h : s.Tidy) : (s.headerMerge j entry).Tidy := .ite h h.dropJob.enter
theorem State.Tidy.unitDone {i : Nat} {u : PUnit} (h : s.Tidy) : (s.unitDone j i u).Tidy :=
  .ite (.stepJob (.ite h.raise h)) (.ite h.raise h)

theorem State.Tidy.workDone {a : Work} (h : s.Tidy) : (s.workDone a).Tidy := by
  unfold State.workDone
  split
  · split
    · exact h.packDone
    · exact h.headerMerge
    · exact h
  · split
    · exact h.unitDone
    · exact h

theorem State.Tidy.pipeJobDone {cl : Nat} (h : s.Tidy) : (s.pipeJobDone cl k).Tidy := by
  unfold State.pipeJobDone
  split
  · exact h
  · extract_lets s1
    have hs1 : s1.Tidy := h.pumpJobs
    split
    · exact hs1.workDone
    · exact hs1

end

/-! ### Register reads (Sys2Proof/Machine/RegRead.lean) -/

section
variable {s : State} {o off : Nat} {p : Port} {w : Win}

theorem State.Tidy.withOpen {v : W32} (h : s.Tidy) : (s.withOpen w o off v).2.Tidy := .iteSnd h h.draw
theorem State.Tidy.readRc (h : s.Tidy) : (s.readRc p w o off).Tidy :=
  .ite (h.foldl (fun _ _ h1 => .ite h1.setFld h1)) h

theorem State.Tidy.histRead {b : FaultRef} {k : Nat} (h : s.Tidy) : (s.histRead p b k).2.Tidy := by
  unfold State.histRead
  extract_lets key sh
  split
  · exact { h with }
  · exact h
  · exact h
  · exact h

theorem State.Tidy.intcRead (h : s.Tidy) : (s.intcRead p o).Tidy := .ite h (.ite h.takeIrq (.ite h.takeIrq h))

theorem State.Tidy.readEffect (h : s.Tidy) : (s.readEffect p w o off).Tidy := by
  unfold State.readEffect
  split
  · exact h.intcRead
  · exact .ite h.progNext h
  · exact .ite h.progNext h
  · exact h.readRc

theorem State.Tidy.wordRead (h : s.Tidy) : (s.wordRead p w o off).2.Tidy := by
  unfold State.wordRead
  split
  · exact .iteSnd h.histRead h
  · exact .iteSnd h.keepHigh (.iteSnd h h.readEffect)

theorem State.Tidy.readWord (h : s.Tidy) : (s.readWord p w o off).2.Tidy := .iteSnd h h.wordRead.withOpen
theorem State.Tidy.readBit {bit : Nat} (h : s.Tidy) : (s.readBit p w o off bit).2.Tidy := .iteSnd h h.withOpen

end

/-! ### Clocks (Sys2Proof/Machine/Clock.lean) -/

section
variable {s : State}

theorem State.Tidy.tbStep {src : Nat} (h : s.Tidy) : (s.tbStep src).Tidy := h.setFlag.setFld.usedClear

theorem State.Tidy.relockStart {rate : Nat} (h : s.Tidy) : (s.relockStart rate).Tidy := by
  unfold State.relockStart
  extract_lets src
  have hsrc : src.Tidy := h.setFld.setFlag.setFlag
  clear_value src
  exact { hsrc with }

end

/-! ### Security (Sys2Proof/Machine/Security.lean) -/

section
variable {s : State} {k : BitVec 512} {beat level slot : Nat} {data : W64}

theorem State.Tidy.dropBeats (h : s.Tidy) : s.dropBeats.Tidy := { h with }
theorem State.Tidy.keyError (h : s.Tidy) : s.keyError.Tidy := h.dropBeats.emit
theorem State.Tidy.eraseKey (h : s.Tidy) : (s.eraseKey slot).Tidy := { h with }
theorem State.Tidy.storeKey (h : s.Tidy) : (s.storeKey slot k).Tidy := { h with }
theorem State.Tidy.endLoad (h : s.Tidy) : (s.endLoad slot k).Tidy := .ite h.keyError.raise h.dropBeats.storeKey
theorem State.Tidy.loadBeat (h : s.Tidy) : (s.loadBeat slot beat data).Tidy :=
  .ite h.keyError (.ite h.endLoad { h with })
theorem State.Tidy.eraseBeat (h : s.Tidy) : (s.eraseBeat slot).Tidy := .ite h.eraseKey h.keyError
theorem State.Tidy.keyBeat {kop : Nat} (h : s.Tidy) : (s.keyBeat kop slot beat data).Tidy :=
  .ite h (.ite h.loadBeat (.ite h.eraseBeat h.keyError))
theorem State.Tidy.denied (h : s.Tidy) : s.denied.Tidy := h.setFlag
theorem State.Tidy.levelSet (h : s.Tidy) : (s.levelSet level).Tidy := .ite h (.ite h.setFld h.denied)
theorem State.Tidy.newChal (h : s.Tidy) : s.newChal.Tidy := h.setReg.setReg.setReg.setFlag

theorem State.Tidy.submit (h : s.Tidy) : (s.submit level).Tidy := by
  unfold State.submit
  split
  · exact h
  · split
    · exact h.denied
    · extract_lets src
      have hsrc : src.Tidy := h.setFlag.setFlag
      clear_value src
      exact { hsrc with }

theorem State.Tidy.dbgCommand {v : W32} (h : s.Tidy) : OptTidy (s.dbgCommand v) := by
  unfold State.dbgCommand
  split
  · exact .none
  · split
    · exact h.some
    · split
      · exact h.levelSet.some
      · exact h.newChal.some
      · exact h.submit.some
      · exact h.some

theorem State.Tidy.authEnd (h : s.Tidy) : s.authEnd.Tidy := by
  unfold State.authEnd
  extract_lets src
  have hsrc : src.Tidy := h.setFlag
  clear_value src
  exact { hsrc with }

theorem State.Tidy.authRefuse (h : s.Tidy) : s.authRefuse.Tidy := h.denied.authEnd.raise
theorem State.Tidy.setDbgData {d : Line} (h : s.Tidy) : (s.setDbgData d).Tidy := h.foldl fun _ _ h1 => h1.setReg
theorem State.Tidy.setDbgStatus {n : Nat} (h : s.Tidy) : (s.setDbgStatus n).Tidy := h.setFld

theorem State.Tidy.dbgGo {rnw : Bool} (h : s.Tidy) : (s.dbgGo rnw).Tidy := by
  unfold State.dbgGo
  split
  · exact h.setDbgStatus
  · split
    · exact .ite h.setDbgData.setDbgStatus.raise h.setDbgStatus
    · refine .dbgPump ?_
      extract_lets src
      have hsrc : src.Tidy := h.setFlag
      clear_value src
      exact { hsrc with }

theorem State.Tidy.dbgDone (h : s.Tidy) : s.dbgDone.Tidy := by
  unfold State.dbgDone
  split
  · exact h
  · split
    · extract_lets s1 src
      have hs1 : s1.Tidy := .ite h.setDbgData h
      have hsrc : src.Tidy := hs1.setDbgStatus.setFlag
      clear_value src
      exact { hsrc with }
    · exact h

end

/-! ### Register writes (Sys2Proof/Machine/RegWrite.lean) -/

section
variable {s : State} {a : Ask} {b : BankRef} {locked one : Bool} {i k n o off plot : Nat} {p : Port} {u : UnitRef}
  {old v : W32} {w : Win} {r : Wrote}

theorem State.Tidy.fieldWrite {f : Fld} (h : s.Tidy) (hr : r.Tidy) : (s.fieldWrite p w o off a r f).Tidy := by
  unfold State.fieldWrite
  extract_lets n old
  split
  · exact .ite hr.fst.setFld.pair hr.fst.pair
  · split
    · exact hr.fst.setFld.pair
    · exact hr.fst.pair
    · exact hr.fst.pair
  · exact hr.fst.setFld.pair
  · exact .ite hr.fst.setFld.pair hr
  · exact hr.fst.setFld.pair
  · exact hr.fst.pair
  · exact hr
  · exact hr

theorem State.Tidy.fieldsWrite (h : s.Tidy) : (s.fieldsWrite p w o off a).Tidy :=
  h.pair.foldl fun _ _ h1 => h.fieldWrite h1

theorem Wrote.Tidy.orIgnored {x : Option State} (h : r.Tidy) (hx : OptTidy x) : (Machine.orIgnored r x).Tidy := by
  unfold Machine.orIgnored
  split
  · exact hx _ rfl
  · exact h

theorem State.Tidy.setChanEn {b : Bool} (h : s.Tidy) : (s.setChanEn n b).Tidy := h.setFlag.setReg

theorem State.Tidy.unitUp (h : s.Tidy) : (s.unitUp u).Tidy := by
  unfold State.unitUp
  split
  · exact h.pump.portsGo
  · exact h.lkInval
  · exact h.setChanEn.releaseHeld
  · exact h.startThreads
  · exact h.startThreads
  · exact h
  · exact h
  · exact h

theorem State.Tidy.stopThread {t : ThreadRef} (h : s.Tidy) : (s.stopThread t).Tidy := .ite h.toIdle h

theorem State.Tidy.unitDown (h : s.Tidy) : (s.unitDown u).Tidy := by
  unfold State.unitDown
  split
  · exact h.portsDown
  · exact h.setSp
  · exact h.setChanEn
  · exact h.foldl fun _ _ h1 => h1.stopThread
  · exact h.foldl fun _ _ h1 => h1.stopThread
  · exact h
  · exact h
  · exact h

theorem State.Tidy.enWrite {b : Bool} (h : s.Tidy) : (s.enWrite u b).Tidy :=
  .ite h.pair (.ite (.ite h.setFlag.pair h.setFlag.setFlag.unitUp.pair) h.setFlag.unitDown.pair)
theorem Wrote.Tidy.pwrCtrlWrite (hr : r.Tidy) : (State.pwrCtrlWrite r a).Tidy :=
  .ite hr (.ite hr.fst.beginEntry.pair hr.fst.pair)
theorem Wrote.Tidy.powerWrite (hr : r.Tidy) : (State.powerWrite r o old a).Tidy :=
  .ite hr.pwrCtrlWrite (.ite hr.fst.aliveWritten.pair (.ite (.ite hr.fst.kick.pair hr) hr))
theorem State.Tidy.tokenWord (h : s.Tidy) : (s.tokenWord k v).Tidy := { h with }
theorem Wrote.Tidy.mctrlWrite (hr : r.Tidy) : (State.mctrlWrite r p locked a).Tidy := .ite hr.fst.dbgGo.pair hr
theorem Wrote.Tidy.secWrite (hr : r.Tidy) : (State.secWrite r p o locked a).Tidy :=
  .ite (hr.orIgnored hr.fst.dbgCommand) (.ite hr.fst.tokenWord.pair (.ite hr.mctrlWrite hr))
theorem State.Tidy.sumStart (h : s.Tidy) : s.sumStart.Tidy := h.setFlag
theorem State.Tidy.chCfgWrite {c : Nat} (h : s.Tidy) : (s.chCfgWrite c old).Tidy :=
  .settle (.ite (.setFld (.ite h.sumStart h)) (.ite h.sumStart h))

theorem Wrote.Tidy.charmWrite (h : r.Tidy) : (State.charmWrite r o old).Tidy := by
  have h1 : ({ r.1 with charmAcc := [] } : State).Tidy := { h.fst with }
  exact .ite h1.pair (.ite (.ite h h.fst.sumStart.pair)
    (.ite (.ite h.fst.chCfgWrite.pair (.ite h.fst.sumStart.pair h)) h))

theorem State.Tidy.trArm (h : s.Tidy) : s.trArm.Tidy := by
  unfold State.trArm
  split
  · exact h.setFlag
  · extract_lets src
    have hsrc : src.Tidy := h.setFlag
    clear_value src
    exact { hsrc with }

theorem Wrote.Tidy.trEnWrite {en : Bool} (hr : r.Tidy) : (State.trEnWrite r en).Tidy :=
  .ite hr (.ite (.ite hr.fst.pair hr.fst.trStart.pair) hr.fst.trStop.pair)

theorem State.Tidy.trWrite (h : s.Tidy) : (s.trWrite a).Tidy := by
  unfold State.trWrite
  extract_lets bank r1 r2 r3 r4
  have h1 : Wrote.Tidy r1 := .ite h.pair (.ite h.pair h.setFld.pair)
  have h2 : Wrote.Tidy r2 := .ite h1.fst.setFlag.pair h1
  have h3 : Wrote.Tidy r3 := .ite h2.fst.setFlag.pair h2
  have h4 : Wrote.Tidy r4 := .ite (State.Tidy.pair (.ite h3.fst.setFlag h3.fst.trArm)) h3
  exact .ite h4.trEnWrite h4

theorem Wrote.Tidy.homeWrite (h : r.Tidy) : (State.homeWrite r o a).Tidy := by
  have h1 : ({ r.1 with atomPred := [] } : State).Tidy := { h.fst with }
  exact .ite (.ite h1.pair h) (.ite (.ite h.fst.setFlag.pair h) (.ite h.fst.claspBreakNow.pair h))

theorem State.Tidy.lkCtrlWrite (h : s.Tidy) : (s.lkCtrlWrite a).Tidy :=
  .ite (.setReg2 (.setReg2 (.ite h.lkInval.setFlag h))) (.ite h.lkInval.setFlag h)
theorem Wrote.Tidy.chanWrite (hr : r.Tidy) : (State.chanWrite r n o a).Tidy :=
  .ite (State.Tidy.pair (hr.fst.updChan (fun _ h => h.disarm.disarm))) hr

theorem Wrote.Tidy.loadWrite (hr : r.Tidy) : (State.loadWrite r b o a).Tidy := by
  unfold State.loadWrite
  exact .ite (.ite (hr.orIgnored hr.fst.loadArm) hr)
    (.ite (.ite (Wrote.Tidy.fst (.ite (hr.orIgnored hr.fst.graftGo) hr)).abandon.pair
    (.ite (hr.orIgnored hr.fst.graftGo) hr)) hr)

theorem State.Tidy.engDisable {cl : Nat} (h : s.Tidy) : (s.engDisable cl).Tidy := h.foldl fun _ _ h1 => h1.offline

theorem Wrote.Tidy.clusterWrite (hr : r.Tidy) : (State.clusterWrite r n o a).Tidy := by
  unfold State.clusterWrite
  split
  · exact hr.fst.engDisable.pair
  · split
    · exact .ite hr.fst.clearStream.pair hr
    · split
      · extract_lets m src
        have hsrc : src.Tidy := hr.fst
        clear_value src
        exact State.Tidy.pair { hsrc with }
      · exact .ite hr.fst.evSet.pair hr.loadWrite

theorem Wrote.Tidy.engWrite (hr : r.Tidy) : (State.engWrite r b o a).Tidy := .ite hr.fst.clearEngine.pair hr.loadWrite
theorem State.Tidy.progWrite (h : s.Tidy) : (s.progWrite b a).Tidy :=
  .ite (h.pair.orIgnored h.storeWord) (h.pair.orIgnored h.storeWord).fst.progNext.pair

theorem State.Tidy.rateWrite (h : s.Tidy) : (s.rateWrite p n).Tidy := by
  unfold State.rateWrite
  split
  · exact h.pair
  · split
    · extract_lets s1
      have hs1 : s1.Tidy := h.relockStart
      clear_value s1
      exact State.Tidy.pair (.ite { hs1 with } hs1)
    · exact h.pair

theorem Wrote.Tidy.padWrite {g : Nat} (hr : r.Tidy) : (State.padWrite r g a).Tidy := by
  unfold State.padWrite
  extract_lets was r1
  split
  · exact .ite (.orIgnored (.ite (hr.orIgnored hr.fst.padHold) hr)
      (Wrote.Tidy.fst (.ite (hr.orIgnored hr.fst.padHold) hr)).padRelease)
      (Wrote.Tidy.fst (.ite (hr.orIgnored hr.fst.padHold) hr)).pair
  · exact .ite (hr.orIgnored hr.fst.padHold) hr

theorem State.Tidy.seedBad (h : s.Tidy) : s.seedBad.Tidy := h.setFlag

theorem State.Tidy.trimPlot (h : s.Tidy) : (s.trimPlot p plot).Tidy := by
  unfold State.trimPlot
  extract_lets src s1
  have hsrc : src.Tidy := h.lkTrim
  have h1 : s1.Tidy := { hsrc with plots := Tab.wf_terase h.plots plot }
  clear_value s1
  exact .ite h.seedBad (.ite { h1 with } h1)

theorem State.Tidy.seedPlot (h : s.Tidy) : (s.seedPlot plot).Tidy := .ite h.seedBad h.startSprout

theorem State.Tidy.seedCmdWrite (h : s.Tidy) : (s.seedCmdWrite p a).Tidy := by
  unfold State.seedCmdWrite
  extract_lets plot
  split
  · exact h.trimPlot
  · exact h.seedPlot
  · exact h

theorem Wrote.Tidy.phyWrite (hr : r.Tidy) : (State.phyWrite r p o a).Tidy :=
  .ite hr.padWrite (.ite hr.fst.drstFollow.pair (.ite (hr.orIgnored hr.fst.sbGo) (.ite hr.fst.seedCmdWrite.pair hr)))
theorem State.Tidy.intcWrite (h : s.Tidy) : (s.intcWrite o).Tidy := .ite h.modFlushAll (.ite h.modZero h)
theorem State.Tidy.ctxWrite (h : s.Tidy) : (s.ctxWrite n o a).Tidy := .ite h.ctxCmd.s (.ite h.rearmCheck h)
theorem State.Tidy.faultWrite {b : FaultRef} (h : s.Tidy) : (s.faultWrite b k locked a).Tidy :=
  .ite h.ackWritten (.ite (.ite h h.forceWritten) (.ite h.histClear h))

theorem Wrote.Tidy.afterWrite (hr : r.Tidy) : (State.afterWrite r p w o old locked a).Tidy := by
  unfold State.afterWrite
  split
  · exact hr.powerWrite
  · exact hr.secWrite
  · exact hr.charmWrite
  · exact hr.homeWrite
  · exact .ite hr.fst.lkCtrlWrite.pair hr
  · exact hr.chanWrite
  · exact hr.clusterWrite
  · exact hr.engWrite
  · exact hr.engWrite
  · exact hr.phyWrite
  · exact hr.fst.intcWrite.pair
  · exact hr.fst.ctxWrite.pair
  · exact hr
  · exact hr
  · exact hr
  · exact hr
  · exact hr

theorem State.Tidy.plainWrite (h : s.Tidy) : (s.plainWrite p w o off a).Tidy := by
  unfold State.plainWrite
  extract_lets r
  split
  · exact h.fieldsWrite.fst.faultWrite.pair
  · exact h.fieldsWrite.afterWrite

theorem State.Tidy.askWrite (h : s.Tidy) : (s.askWrite p w o off a).Tidy := by
  unfold State.askWrite
  split
  · exact h.trWrite
  · exact h.pair.orIgnored h.storeWord
  · exact .ite h.setFlag.pair h.plainWrite
  · exact .ite h.pair h.plainWrite
  · exact h.progWrite
  · exact h.progWrite
  · exact h.rateWrite
  · split
    · exact .ite h.enWrite h.pair
    · exact h.plainWrite
  · exact h.plainWrite

theorem State.Tidy.tbaseWrite {v : W64} (h : s.Tidy) : (s.tbaseWrite v).Tidy := .tbStep { h with }
theorem State.Tidy.commit (h : s.Tidy) : (s.commit p w o off v).Tidy :=
  .ite h.tbaseWrite.pair h.fieldsWrite.fst.askWrite.fst.pair
theorem State.Tidy.writeWord (h : s.Tidy) : (s.writeWord p w o off v).Tidy :=
  .ite h.keepLow.pair (.ite h.commit h.askWrite)
theorem State.Tidy.tbaseBit (h : s.Tidy) : (s.tbaseBit i one).Tidy := .ite h h.tbaseWrite
theorem State.Tidy.writeBit (h : s.Tidy) : (s.writeBit p w o off i one).Tidy := .ite h.tbaseBit.pair h.askWrite

end

/-! ### Register accesses (Sys2Proof/Machine/Access.lean) -/

section
variable {s : State} {r : (W32 × Bool) × State} {f : Frame} {a : HeldAcc} {addr k : Nat} {p : Port} {v : W32}

/-- What an open reset leaves is drawn from the canonical states only. -/
theorem State.Tidy.wild (h : s.Tidy) : s.wild.Tidy := by
  unfold State.wild
  split
  · exact h.draw
  · extract_lets t
    split
    · exact (State.tidy_iff t).mpr ‹_›
    · exact h.draw

theorem State.Tidy.busRead (h : s.Tidy) : (s.busRead p addr).2.Tidy := by
  unfold State.busRead
  split
  · exact h.unmapped
  · extract_lets r
    dsimp only [r]
    split
    · exact h.readWord
    · exact h.readBit

theorem State.Tidy.siteWrite {x : Site} (h : s.Tidy) : (s.siteWrite p x addr v).Tidy := by
  unfold State.siteWrite
  extract_lets r
  split
  · refine .ignored ?_
    refine Wrote.Tidy.fst ?_
    dsimp only [r]
    split
    · exact h.writeWord
    · exact h.writeBit
  · refine Wrote.Tidy.fst ?_
    dsimp only [r]
    split
    · exact h.writeWord
    · exact h.writeBit

theorem State.Tidy.busWrite (h : s.Tidy) : (s.busWrite p addr v).2.Tidy := by
  unfold State.busWrite
  split
  · exact h.unmapped
  · exact .ite h.wild h.siteWrite

theorem State.Tidy.perform (h : s.Tidy) : (s.perform a).2.Tidy := by
  unfold State.perform
  split
  · exact h.busRead
  · exact h.busWrite
  · exact h.badWidth

theorem State.Tidy.wakeFor (h : s.Tidy) : (s.wakeFor a).Tidy := .ite h.wakeEvent h
theorem State.Tidy.cfgAnswer (h : r.2.Tidy) : (State.cfgAnswer r).Tidy := .ite h.emit h

theorem State.Tidy.serveCfg (h : s.Tidy) : (Machine.serveCfg k s).Tidy := by
  induction k generalizing s with
  | zero => exact h
  | succ k ih =>
    unfold Machine.serveCfg
    split
    · exact h
    · split
      · exact h
      · exact .ite h.wakeFor (ih (.cfgAnswer (.perform { h with })))

theorem State.Tidy.early (h : s.Tidy) : (s.early a).Tidy := by
  unfold State.early
  extract_lets n s1 s2
  have h1 : s1.Tidy := h.draw
  clear_value s1
  have h2 : s2.Tidy := by
    dsimp only [s2]
    split
    · exact .ite h1.wild (.ite h1.restoreWord h1)
    · exact h1
  clear_value s2
  exact .ite h2.emit h2

theorem State.Tidy.cfgAccess (h : s.Tidy) : (s.cfgAccess a).Tidy := .ite (.serveCfg { h with }) h.early

theorem State.Tidy.dbgAnswer (h : r.2.Tidy) : (State.dbgAnswer a r).Tidy := by
  unfold State.dbgAnswer
  extract_lets s1
  have h1 : s1.Tidy := h.emit
  clear_value s1
  split
  · exact .ite { h1 with } h1
  · exact h1

theorem State.Tidy.serveDbg (h : s.Tidy) : (Machine.serveDbg k s).Tidy := by
  induction k generalizing s with
  | zero => exact h
  | succ k ih =>
    unfold Machine.serveDbg
    split
    · exact h
    · exact .ite h (ih (.dbgAnswer (.perform { h with })))

theorem State.Tidy.dbgMake (h : s.Tidy) : (s.dbgMake a).2.Tidy := .iteSnd h.perform.emit { h with }
theorem State.Tidy.dbgAccess (h : s.Tidy) : (s.dbgAccess a).Tidy := .ite h.dbgMake h.emit
theorem State.Tidy.serve (h : s.Tidy) : s.serve.Tidy := h.serveCfg.serveDbg

theorem State.Tidy.access (h : s.Tidy) : OutTidy (s.access p a) := by
  unfold State.access
  refine State.Tidy.next ?_
  split
  · exact h.cfgAccess
  · exact .ite h.dbgAccess h

theorem State.Tidy.regAccess {present : Bool} (h : s.Tidy) : OutTidy (s.regAccess p present a) := .ite h.access h.next

theorem State.Tidy.forget (h : s.Tidy) : s.forget.Tidy := by
  unfold State.forget
  split
  · exact { h with }
  · exact { h with }

theorem State.Tidy.hscDeliver {r : W32 × Bool} (h : s.Tidy) : (s.hscDeliver f r).Tidy := h.emit
theorem State.Tidy.hscRefuse (h : s.Tidy) : s.hscRefuse.Tidy := h.emit
theorem State.Tidy.hscLater (h : s.Tidy) : s.hscLater.Tidy := h.emit

theorem State.Tidy.freshRead (h : s.Tidy) : (s.freshRead f).Tidy := by
  unfold State.freshRead
  extract_lets s1 a
  have h1 : s1.Tidy := h.forget
  have h2 := h1.dbgMake (a := a)
  split
  · split
    · rename_i he
      rw [he] at h2
      exact h2.hscDeliver
    · rename_i he
      rw [he] at h2
      exact .hscLater { h2 with }
  · exact h1.hscRefuse

theorem State.Tidy.readFrame (h : s.Tidy) : (s.readFrame f).Tidy := by
  unfold State.readFrame
  split
  · exact .ite (.hscDeliver { h with }) h.freshRead
  · exact .ite h.hscLater h.freshRead
  · exact h.freshRead

theorem State.Tidy.writeFrame (h : s.Tidy) : (s.writeFrame a).Tidy := by
  have h1 := h.dbgMake (a := a)
  unfold State.writeFrame
  split
  · rename_i he
    rw [he] at h1
    exact h1.emit
  · rename_i he
    rw [he] at h1
    exact h1.hscLater

end

/-! ### Commands of the root (Sys2Proof/Machine/RootCmd.lean) -/

section
variable {s : State} {lc : Nat} {v : W32}

theorem State.Tidy.goOn (h : s.Tidy) : s.goOn.Tidy := h.pump.portsGo.serve

theorem State.Tidy.relockEnd (h : s.Tidy) : s.relockEnd.Tidy := by
  unfold State.relockEnd
  split
  · extract_lets s1
    have hs1 : s1.Tidy := h.setFlag
    clear_value s1
    exact .ite (.emit { hs1 with }) hs1
  · exact h

theorem State.Tidy.lockPll (h : s.Tidy) : s.lockPll.Tidy := .ite h.setFlag.setFld.relockEnd.wakePll.goOn h
theorem State.Tidy.unlockPll (h : s.Tidy) : s.unlockPll.Tidy := .ite h.setFlag.setFlag.raise.portsDown h

theorem State.Tidy.loseRef (h : s.Tidy) : s.loseRef.Tidy := by
  unfold State.loseRef
  split
  · extract_lets src
    have hsrc : src.Tidy := h.setFlag.raise
    clear_value src
    exact { hsrc with }
  · exact h

theorem State.Tidy.addElapsed (h : s.Tidy) : (s.addElapsed v).Tidy :=
  .wakePll (.ite (.setFlag (.tbStep { h with })) (.tbStep { h with }))
theorem State.Tidy.elapsedIn (h : s.Tidy) : (s.elapsedIn v).Tidy := .ite h (.emit (.ite h.addElapsed h))

theorem State.Tidy.elapsedMissed (h : s.Tidy) : s.elapsedMissed.Tidy := by
  unfold State.elapsedMissed
  split
  · refine .wakePll ?_
    refine .raise ?_
    extract_lets src
    have hsrc : src.Tidy := h.setFlag
    clear_value src
    exact { hsrc with }
  · exact h

theorem State.Tidy.keysAt (h : s.Tidy) : (s.keysAt lc).Tidy := .ite { h with } h

theorem State.Tidy.releaseRst (h : s.Tidy) : (s.releaseRst lc).Tidy := by
  unfold State.releaseRst
  split
  · extract_lets n src
    have hsrc : src.Tidy := h.setFld.setFld
    clear_value src
    exact .keysAt { hsrc with }
  · exact h

theorem State.Tidy.initDone {f : Func} (h : s.Tidy) : (s.initDone f).Tidy := .ite (.goOn { h with }) h

end

/-! ### Commands of the power state (Sys2Proof/Machine/PowerCmd.lean) -/

section
variable {s : State}

theorem State.Tidy.wakeThreads {code : Nat} (h : s.Tidy) : (s.wakeThreads code).Tidy :=
  h.foldl fun _ _ h1 => h1.foldl fun _ _ h2 => h2.startThread
theorem State.Tidy.wakeEnd {kept : Bool} (h : s.Tidy) : (s.wakeEnd kept).Tidy := .goOn (.resume (.ite h.trRestart h))

theorem State.Tidy.dozeReturn (h : s.Tidy) : s.dozeReturn.Tidy := by
  unfold State.dozeReturn
  extract_lets kept src s1
  have hsrc : src.Tidy := h.writeBackSaved
  have hs1 : s1.Tidy := { hsrc with }
  exact hs1.wakeThreads.wakeEnd

theorem State.Tidy.wakeLast {left : Nat} (h : s.Tidy) : (s.wakeLast left).Tidy := by
  unfold State.wakeLast
  split
  · exact h.wakeEnd
  · exact h.wakeThreads.wakeEnd
  · exact h.dozeReturn
  · exact .ite h.wakeEnd h

theorem State.Tidy.wakeStep (h : s.Tidy) : s.wakeStep.Tidy := by
  unfold State.wakeStep
  split
  · exact .ite (.blkReset { h with }) { h with }
  · exact h.wakeLast
  · exact h

theorem State.Tidy.aonLost (h : s.Tidy) : s.aonLost.Tidy := by
  unfold State.aonLost
  split
  · refine .setFld ?_
    extract_lets src
    have hsrc : src.Tidy := h.aonReset
    clear_value src
    exact { hsrc with }
  · exact h

end

/-! ### Commands by register (Sys2Proof/Machine/RegCmd.lean) -/

section
variable {s : State} {f : Frame} {code : Nat} {u : UnitRef}

theorem State.Tidy.afterQuiesce (h : s.Tidy) : (s.afterQuiesce u).Tidy := .ite h.lkInval h
theorem State.Tidy.quiesce (h : s.Tidy) : (s.quiesce u).Tidy := .ite h.setFlag.afterQuiesce h
theorem State.Tidy.cmdWrite {p : Port} {ctx : Nat} (h : s.Tidy) : OutTidy (s.cmdWrite p ctx code) := h.regAccess
theorem State.Tidy.cmdRequest {n : Nat} {req : BitVec 128} (h : s.Tidy) : (s.cmdRequest n req code).Tidy :=
  h.portRequest

theorem State.Tidy.ctxSource {src : CmdSrc} (h : s.Tidy) : OutTidy (s.ctxSource src code) := by
  unfold State.ctxSource
  split
  · exact h.cmdWrite
  · exact h.cmdRequest.next

theorem State.Tidy.execAppend {src : AppendSrc} (h : s.Tidy) : OutTidy (execAppend src s) := by
  unfold Machine.execAppend
  split
  · exact h.regAccess
  · exact h.cmdRequest.next

theorem State.Tidy.trimDone (h : s.Tidy) : s.trimDone.Tidy := by
  unfold State.trimDone
  split
  · exact h
  · split
    · extract_lets asked src s1
      have hsrc : src.Tidy := h.lkTrim
      have hs1 : s1.Tidy := { hsrc with }
      exact .serve (.ite hs1.emit hs1)
    · exact h

theorem State.Tidy.execDbgMctrlGo {v : W32} (h : s.Tidy) : OutTidy (execDbgMctrlGo v s) := h.access
theorem State.Tidy.hscRead (h : s.Tidy) : (s.hscRead f).Tidy := .ite (.ite h.readFrame h.forget.hscRefuse) h
theorem State.Tidy.hscWrite (h : s.Tidy) : (s.hscWrite f).Tidy := .ite h (.ite h.forget.hscRefuse h.forget.writeFrame)
theorem State.Tidy.hscWake (h : s.Tidy) : (s.hscWake f).Tidy :=
  .ite h (.ite (.ite h.forget.emit.wakeEvent h.forget.hscRefuse) (.ite h.emit.wakeEvent h))

end

/-! ### Training (Sys2Proof/Machine/Train.lean) -/

section
variable {s : State} {two : Bool} {c : Chan} {cs rank sc step v : Nat} {t : ThreadRef}

theorem State.Tidy.knobCommit (h : s.Tidy) : (s.knobCommit sc rank).Tidy :=
  { h with live := wf_foldl_knobPut h.live _ _ }
theorem State.Tidy.knobRestore (h : s.Tidy) : (s.knobRestore sc rank).Tidy :=
  { h with shadow := wf_foldl_knobPut h.shadow _ _ }

theorem State.Tidy.knobSet {keys : List Nat} {live : Bool} (h : s.Tidy) : (s.knobSet keys v live).Tidy :=
  { h with
    shadow := wf_foldl_knobPut h.shadow keys fun _ => v
    live := by
      unfold State.knobSet
      dsimp only
      split
      · exact wf_foldl_knobPut h.live keys fun _ => v
      · exact h.live }

theorem Chan.Tidy.progOpen {k row : Nat} (hc : c.Tidy) : (c.progOpen k row).Tidy := hc.setBank
theorem Chan.Tidy.progExit (hc : c.Tidy) : (c.progExit two cs).Tidy := .ite hc.setRank.arm hc.setRank

theorem Chan.Tidy.caTrack {m : CaCmd} (hc : c.Tidy) : (c.caTrack two cs m).Tidy := by
  unfold Chan.caTrack
  extract_lets r
  split
  · exact hc.progOpen
  · exact .ite hc.closeRow hc
  · exact hc.foldl fun _ _ h => h.closeRow
  · exact hc.foldl fun _ _ h => h.closeRow
  · exact hc.closeRow
  · exact hc.setRank.disarm
  · exact hc.setRank
  · exact hc.progExit
  · exact hc

theorem State.Tidy.askMaint {m : MaintCmd} (h : s.Tidy) : (s.askMaint t m).Tidy :=
  .sleep (h.updChan (fun _ h1 => { h1 with }))
theorem State.Tidy.execDcmd (h : s.Tidy) : OutTidy (execDcmd t s) :=
  State.Tidy.next (h.issue (fun _ _ _ h1 _ => .ite .fault (.ite .fault (.ite .fault h1.askMaint.hold))))
theorem State.Tidy.execMrw (h : s.Tidy) : OutTidy (execMrw t s) :=
  State.Tidy.next (h.issue (fun _ _ _ h1 _ => .ite .fault (.ite .fault h1.askMaint.hold)))
theorem State.Tidy.execMrr (h : s.Tidy) : OutTidy (execMrr t s) :=
  State.Tidy.next (h.issue (fun _ _ _ h1 _ => .ite .fault (.ite .fault h1.askMaint.hold)))
theorem State.Tidy.execTwait (h : s.Tidy) : OutTidy (execTwait t s) :=
  State.Tidy.next (h.issue (fun _ _ _ h1 _ => .ite .fault (.ite h1.sleep.hold (.ite .fault h1.sleep.hold))))

theorem State.Tidy.twaitEnd (h : s.Tidy) : (s.twaitEnd t).Tidy := by
  unfold State.twaitEnd
  split
  · exact h
  · split
    · exact h.wake
    · exact h

theorem State.Tidy.execTrnSet (h : s.Tidy) : OutTidy (execTrnSet t s) :=
  State.Tidy.next (h.issue (fun _ _ _ h1 _ => .ite .fault (.ite .fault (.ite .fault h1.knobSet.done))))

theorem State.Tidy.control {sel : Nat → W64 → Bool} {values : Nat → Bool} {cond : State → Bool}
    {f : State → W64 → Nat → Eff} (h : s.Tidy) (hf : ∀ s1 a a1, s1.Tidy → (f s1 a a1).Tidy) :
    (s.control t sel values cond f).Tidy :=
  h.issue fun _ _ _ h1 _ => .ite .fault (.ite .fault (.ite .fault (hf _ _ _ h1)))

theorem State.Tidy.execCommit (h : s.Tidy) : OutTidy (execCommit t s) :=
  State.Tidy.next (h.control (fun _ _ _ h1 => h1.askMaint.hold))
theorem State.Tidy.execRestore (h : s.Tidy) : OutTidy (execRestore t s) :=
  State.Tidy.next (h.control (fun _ _ _ h1 => h1.knobRestore.done))

theorem State.Tidy.reportKnob {g : W64} (h : s.Tidy) : (s.reportKnob sc g v).Tidy := by
  unfold State.reportKnob
  extract_lets old now s1 s2
  have hs1 : s1.Tidy := h.updChan fun _ h1 => { h1 with }
  have hs2 : s2.Tidy := hs1.knobRestore.raise
  exact .ite (h.updChan (fun _ h1 => { h1 with }))
    (.ite (.raise (h.updChan (fun _ h1 => { h1 with }))) (.ite hs2.raise hs2))

theorem State.Tidy.execReport (h : s.Tidy) : OutTidy (execReport t s) :=
  State.Tidy.next (h.control (fun _ _ _ h1 => h1.reportKnob.done))
theorem State.Tidy.scUp (h : s.Tidy) : (s.scUp sc).Tidy :=
  .releaseHeld (.armRanks (h.updChan (fun _ h1 => { h1 with })))
theorem State.Tidy.execReady (h : s.Tidy) : OutTidy (execReady t s) :=
  State.Tidy.next (h.control (fun _ _ _ h1 => h1.scUp.done))

theorem State.Tidy.scDown (h : s.Tidy) : (s.scDown sc).Tidy := by
  refine h.updChan fun c hc => ?_
  extract_lets c1 src
  have hc1 : c1.Tidy := { hc with }
  have hsrc : src.Tidy := hc1.disarm
  exact .ite hc1 { hsrc with }

theorem State.Tidy.execReadyWithdraw (h : s.Tidy) : OutTidy (execReadyWithdraw t s) :=
  State.Tidy.next (h.control (fun _ _ _ h1 => h1.scDown.done))

theorem State.Tidy.spareStart (h : s.Tidy) : (s.spareStart sc).Tidy := by
  refine h.updChan fun c hc => ?_
  extract_lets c1
  have hc1 : c1.Tidy := .ite hc hc.disarm.arm
  exact { hc1 with }

theorem State.Tidy.execSpare (h : s.Tidy) : OutTidy (execSpare t s) :=
  State.Tidy.next (h.control (fun _ _ _ h1 => h1.spareStart.done))
theorem State.Tidy.clearStart (h : s.Tidy) : (s.clearStart sc).Tidy := .armRanks (h.updChan (fun _ h1 => { h1 with }))
theorem State.Tidy.execKnobClear (h : s.Tidy) : OutTidy (execKnobClear t s) :=
  State.Tidy.next (h.control (fun _ _ _ h1 => h1.clearStart.done))

theorem State.Tidy.execTrnSweep (h : s.Tidy) : OutTidy (execTrnSweep t s) := by
  unfold Machine.execTrnSweep
  exact State.Tidy.next (h.issue (fun _ _ _ h1 h2 => .ite .fault
    (.ite .fault (.ite .fault (.ite (h1.setThr h2.setG).done h1.askMaint.hold)))))

theorem State.Tidy.execTrnEye (h : s.Tidy) : OutTidy (execTrnEye t s) :=
  State.Tidy.next (h.issue (fun _ _ _ h1 h2 => .ite .fault (h1.draw.setThr h2.setG).done))
theorem State.Tidy.writeRead {lines : Nat} (h : s.Tidy) : (s.writeRead sc rank step lines).Tidy :=
  .foldl (List.foldlRecOn (motive := fun acc : Nat × State => acc.2.Tidy) _ _ h.openRow fun _ h _ _ => h.dramCmd)
    fun _ _ h => h.dramCmd

theorem State.Tidy.runPattern {pat : Nat} (h : s.Tidy) : (s.runPattern sc rank pat step).Tidy := by
  unfold State.runPattern
  extract_lets s1
  have hs1 : s1.Tidy := h.pdWake
  split
  · exact hs1.dramCmd
  · exact hs1.dramCmd
  · exact hs1.writeRead
  · exact hs1.writeRead
  · exact hs1.dramCmd

theorem State.Tidy.endMaint (h : s.Tidy) : (s.endMaint sc).Tidy := h.updChan fun _ h1 => { h1 with }
theorem State.Tidy.maintDone (h : s.Tidy) : (s.maintDone sc t).Tidy :=
  .wake (.endMaint (h.updChan (fun _ h1 => { h1 with })))

theorem State.Tidy.grantDcmd {bits : BitVec 29} {raw : Bool} (h : s.Tidy) : (s.grantDcmd sc t bits cs raw).Tidy := by
  unfold State.grantDcmd
  exact .ite (.fault1 (.endMaint (.updChan (.ite h h.pdWake) (fun _ h1 => { h1 with }))))
    (.maintDone (.dramCmd (.updChan (.ite h h.pdWake) (fun _ h1 => h1.caTrack))))

theorem State.Tidy.grantMrw {mr value dev : Nat} {both : Bool} (h : s.Tidy) :
    (s.grantMrw sc mr value cs both dev).Tidy :=
  h.foldl fun _ _ h1 => h1.pdWake.dramCmd

theorem State.Tidy.maintGrant {mr : BitVec 80} (h : s.Tidy) : (s.maintGrant sc mr).Tidy := by
  unfold State.maintGrant
  extract_lets c
  split
  · exact h
  · split
    · exact .endMaint (.ite h.clearLine h)
    · split
      · exact h.grantDcmd
      · exact h.grantMrw.maintDone
      · exact (h.pdWake.dramCmd.setThr h.pdWake.dramCmd.thr.setG).maintDone
      · exact h.knobCommit.maintDone
      · exact h.updChan fun _ h1 => { h1 with }

theorem State.Tidy.sweepEnd {d : Nat} {result : W64} (h : s.Tidy) : (s.sweepEnd sc t d result).Tidy :=
  (h.setThr h.thr.setG).maintDone

theorem State.Tidy.sweepStep {samples : List (Nat × Nat)} (h : s.Tidy) : (s.sweepStep sc samples).Tidy := by
  unfold State.sweepStep
  extract_lets c
  split
  · exact h
  · split
    · exact .ite h.knobSet.runPattern.sweepEnd (.endMaint (h.knobSet.runPattern.updChan (fun _ h1 => { h1 with })))
    · exact h

end

/-! ### The tick (Sys2Proof/Machine/Tick.lean) -/

theorem State.Tidy.tick {s : State} (h : s.Tidy) : s.tick.Tidy := .ite { h with } h

/-! ### A step -/

/-- Every command leaves the tables tidy: one arm per command, by what its meaning does. -/
theorem State.Tidy.exec {s : State} (h : s.Tidy) (i : Instr) : OutTidy (Machine.exec i s) := by
  cases i with
  | regWrite => exact h.access
  | readClear => exact h.access
  | lowWordRead => exact h.access
  | lowWordWrite => exact h.access
  | highWordWrite => exact h.access
  | aliasWrite => exact h.access
  | unitEnable => exact h.regAccess
  | unitDisable => exact h.regAccess
  | quiesced => exact h.quiesce.next
  | add => exact h.execAdd
  | sub => exact h.execSub
  | mul => exact h.execMul
  | and => exact h.execAnd
  | or => exact h.execOr
  | xor => exact h.execXor
  | shl => exact h.execShl
  | shr => exact h.execShr
  | sra => exact h.execSra
  | min => exact h.execMin
  | max => exact h.execMax
  | cmp => exact h.execCmp
  | sel => exact h.execSel
  | addImm => exact h.execAddImm
  | andImm => exact h.execAndImm
  | orImm => exact h.execOrImm
  | xorImm => exact h.execXorImm
  | shlImm => exact h.execShlImm
  | shrImm => exact h.execShrImm
  | sraImm => exact h.execSraImm
  | li => exact h.execLi
  | lui => exact h.execLui
  | lds => exact h.execLds
  | sts => exact h.execSts
  | br => exact h.execBr
  | brc => exact h.execBrc
  | call => exact h.execCall
  | ret => exact h.execRet
  | ldl => exact h.execLdl
  | stl => exact h.execStl
  | pref => exact h.execPref
  | blk2d => exact h.execBlk2d
  | gather => exact h.execGather
  | scat => exact h.execScat
  | pack => exact h.execPack
  | unpk => exact h.execUnpk
  | fenceL => exact h.execFenceL
  | fenceP => exact h.execFenceP
  | fenceG => exact h.execFenceG
  | fenceRetire => exact h.fenceRetire.next
  | clspAcq => exact h.execClspAcq
  | clspAcqTry => exact h.execClspAcqTry
  | clspRel => exact h.execClspRel
  | clspRelR => exact h.execClspRelR
  | waitev => exact h.execWaitev
  | waitevTimeout => exact h.waitevTimeout.next
  | evt => exact h.execEvt
  | nextd => exact h.execNextd
  | yieldCtx => exact h.execYieldCtx
  | yieldRetire => exact h.yieldRetire.next
  | doneRun => exact h.execDoneRun
  | doneRetire => exact h.doneRetire.next
  | trap => exact h.trapIssue.next
  | hmchk => exact h.execHmchk
  | graftpt => exact h.execGraftpt
  | dcmd => exact h.execDcmd
  | mrw => exact h.execMrw
  | mrr => exact h.execMrr
  | twait => exact h.execTwait
  | twaitEnd => exact h.twaitEnd.next
  | trnSet => exact h.execTrnSet
  | trnSweep => exact h.execTrnSweep
  | sweepStep => exact h.sweepStep.next
  | trnEye => exact h.execTrnEye
  | maintenanceGrant => exact h.maintGrant.next
  | lineDataArrival => exact h.lineArrival.next
  | pipeJobDone => exact h.pipeJobDone.next
  | clrFault => exact h.regAccess
  | engFclr => exact h.regAccess
  | instrStoreWrite => exact h.regAccess
  | progData => exact h.regAccess
  | loadArm => exact h.regAccess
  | loadCheckEnd => exact h.loadCheckEnd.next
  | graftGo => exact h.regAccess
  | abandon => exact h.regAccess
  | graftDone => exact h.graftDone.next
  | evfSet => exact h.regAccess
  | enable => exact h.cmdWrite
  | disable => exact h.cmdWrite
  | kick => exact h.ctxSource
  | abort => exact h.ctxSource
  | clear => exact h.ctxSource
  | append => exact h.execAppend
  | setHead => exact h.portRequest.next
  | dispatch => exact h.dispatch.next
  | descriptorReadResponse => exact h.descResponse.next
  | runReport => exact h.runReport.next
  | completionRecord => exact h.completionRecord.next
  | fastCommandPacket => exact h.portRequest.next
  | packetEnd => exact h.packetEnd.next
  | channelTimeout => exact h.channelTimeout.next
  | inval => exact h.access
  | invalEnd => exact h.invalEnd.next
  | cntClr => exact h.access
  | read => exact h.portRequest.next
  | write => exact h.portRequest.next
  | writeDataBeat => exact h.beatIn.next
  | flush => exact h.portRequest.next
  | flushComplete => exact h.flushComplete.next
  | portArbiterAdmit => exact h.arbiterAdmit.scrubGo.slicesGo.dbgPump.portsGo.next
  | transactionEnd => exact h.transactionEnd.next
  | queueEntry => exact h.queueEntry.next
  | arbiterGrant => exact h.arbiterGrant.next
  | lineBoundary => exact h.lineBoundary.next
  | hog => exact h.hog.next
  | dramReadData => exact h.dramReadData.next
  | pageIdle => exact h.pageIdle.next
  | powerDownEntry => exact h.powerDownEntry.next
  | refreshInterval => exact h.refreshInterval.next
  | idlePullIn => exact h.idlePullIn.next
  | migGo => exact h.access
  | pause => exact h.access
  | migResume => exact h.access
  | migrationStep => exact h.migrationStep.next
  | watermarkAdvance => exact h.watermarkAdvance.next
  | windowStart => exact h.windowStart.next
  | recomputeEnd => exact h.recomputeEnd.next
  | trEnable => exact h.access
  | trDisable => exact h.access
  | trArm => exact h.access
  | disarm => exact h.access
  | slotBoundary => exact h.slotBoundary.next
  | sample => exact h.sampleNow.next
  | rdS => exact h.execRdS
  | rdU => exact h.execRdU
  | upg => exact h.execUpg
  | rdNc => exact h.execRdNc
  | wrBack => exact h.execWrBack
  | evictClean => exact h.execEvictClean
  | wrFull => exact h.execWrFull
  | wrStash => exact h.execWrStash
  | atom => exact h.execAtom
  | clspAcqMsg => exact h.execClspAcqMsg
  | clspRelMsg => exact h.execClspRelMsg
  | agentReset => exact h.execAgentReset
  | agentResetWalkEnd => exact h.walkEnd.next
  | cmpAck => exact h.execCmpAck
  | datFwd => exact h.execDatFwd
  | datWb => exact h.execDatWb
  | rspStash => exact h.execRspStash
  | snoopReturn => exact h.snoopReturn.next
  | snoopTimeout => exact h.snoopTimeout.next
  | holdEnd => exact h.holdEnd.next
  | predClr => exact h.access
  | attachReady => exact h.attachUpdate.next
  | ringRstN => exact h.ringReset.next
  | claspBreak => exact h.regAccess
  | holdTo => exact h.claspTimeout.next
  | trim => exact h.access
  | seed => exact h.access
  | seedFillWrite => exact h.seedFillWrite.next
  | fpAdvance => exact h.fpAdvance.next
  | scrubSlot => exact h.scrubSlot.next
  | commit => exact h.execCommit
  | restore => exact h.execRestore
  | report => exact h.execReport
  | ready => exact h.execReady
  | readyWithdraw => exact h.execReadyWithdraw
  | spare => exact h.execSpare
  | spareCopyLine => exact h.spareCopyLine.next
  | knobClear => exact h.execKnobClear
  | cleared => exact h.clearDone.next
  | alert => exact h.alertEdge.next
  | alertReplay => exact h.alertReplay.next
  | hostCalibration => exact h.hostCal.next
  | sbGo => exact h.regAccess
  | sidebandDone => exact h.sbDone.next
  | ibi => exact h.ibiIn.next
  | hold => exact h.regAccess
  | release => exact h.regAccess
  | presentSample => exact h.presentSample.next
  | spRstNFall => exact State.Tidy.next (.ite h.portFall.setSp h)
  | spRstNRise => exact State.Tidy.next (.ite h.setSp h)
  | spReady => exact h.spReadyUp.next
  | hscRead => exact h.hscRead.next
  | hscWrite => exact h.hscWrite.next
  | hscWake => exact h.hscWake.next
  | evtOutPulse => exact h.evtOut.next
  | keyLoadBeat => exact h.keyBeat.next
  | keyErase => exact State.Tidy.next (.ite h.eraseBeat h)
  | elapsed => exact h.elapsedIn.next
  | elapsedTimeout => exact h.elapsedMissed.next
  | tprio => exact State.Tidy.next (.ite { h with } h)
  | tsleep => exact State.Tidy.next (.ite (.modFlushAll { h with }) h)
  | relock => exact h.access
  | pllLock => exact h.lockPll.next
  | unlock => exact h.unlockPll.next
  | refclkLost => exact h.loseRef.next
  | aonRstN => exact h.aonReset.next
  | blkRstN => exact h.blkReset.next
  | blkRstNRelease => exact h.releaseRst.next
  | initDone => exact h.initDone.next
  | bringupHold => exact h.bringupHold.next
  | fltAck => exact h.regAccess
  | fltForce => exact h.regAccess
  | histClr => exact h.regAccess
  | fltHistE0 => exact h.regAccess
  | quietPeriod => exact h.quietEnd.next
  | aliveToggle => exact h.aliveToggle.next
  | aliveKick => exact h.access
  | watchdogExpiry => exact h.wdExpire.next
  | pulseEnd => exact h.pulseEnd.next
  | aliveMode => exact h.access
  | pwrGo => exact h.access
  | pcReq => exact h.pcRequest.next
  | pcReqWake => exact State.Tidy.next (.ite h.emit.wakeEvent h)
  | pcWake => exact h.wakeEvent.next
  | entryStepEnd => exact h.entryStepEnd.next
  | pwrTmo => exact h.pwrTimeout.next
  | timerWake => exact State.Tidy.next (.ite h.wakeEvent h)
  | railOk => exact h.railUp.next
  | wakeStepEnd => exact h.wakeStep.next
  | dbgSet => exact h.access
  | chal => exact h.access
  | submit => exact h.access
  | authGrant => exact State.Tidy.next (.ite h.setFld.setFlag.authEnd h)
  | authDeny => exact State.Tidy.next (.ite h.authRefuse h)
  | authTimeout => exact State.Tidy.next (.ite h.authRefuse h)
  | dbgMctrlGo => exact h.execDbgMctrlGo
  | debugAccessDone => exact h.dbgDone.next
  | route => exact State.Tidy.next (.ite h.route h)
  | take => exact h.regAccess
  | ftake => exact h.regAccess
  | moderatorTimeout => exact h.modTimeout.next
  | dramWriteComplete => exact h.dramWriteComplete.next
  | rdCrd => exact h.rdCredit.next
  | refclkReturn => exact State.Tidy.next { h with }
  | vddAonRemoved => exact h.aonLost.next
  | trimWalkEnd => exact h.trimDone.next

theorem State.Tidy.step {s : State} (h : s.Tidy) : OutTidy (Machine.step s) := by
  unfold Machine.step
  split
  · exact h.tick.next
  · rename_i c rest _
    have hrest : ({ s with pending := rest } : State).Tidy := { h with }
    exact hrest.exec c

/-- Settles O4: each command updates the tables only through operations that keep them canonical, and a state that a
command leaves open is taken only in canonical form. -/
theorem stepKeepsCanonical : Obligations.StepKeepsCanonical := by
  intro s s' h hs
  exact (State.tidy_iff s').mp (((State.tidy_iff s).mpr h).step s' hs)

end Sys2Proof.Machine
end

section
/-! Data and completions of the DRAM (O48): a counterexample. No part of a state bounds the charm number of a stamp, and the
bit that counts a missed latency target is placed by that number. -/

namespace Sys2Proof.Machine

/-- A READ of line 0 by port 0 whose latency is a miss, with a charm number far beyond the 64 of R268: the bit that
counts its miss would stand in the word of the port's read count. -/
def strayRead : Req :=
  { Req.mk0 (.port 0) .rd 0 with
    dest := .port 0
    stamp := { charm := 163777, cls := 1, base := 0, target := 0, degraded := false, overBudget := false, entry := 0 } }

/-- The transaction of `strayRead`, which waits for its data. -/
def strayTrk : Trk :=
  { num := 0, req := strayRead, line := 0, stage := .data, wr := false, data := 0, hm := 0, poison := false,
    snpBack := false, snpFwd := false, snpWb := false, wb := none, grant := 0, far := false, filt := .keep,
    claimed := false, victim := none, fillOk := false, placing := none, spot := none, stamp := strayRead.stamp,
    gone := false, err := 0, snpTmo := false, answered := false, stop := 0 }

/-- The queue entry of `strayTrk`: its command has been issued. -/
def strayEnt : QEnt :=
  { owner := .trk 0, wr := false, rq := 0, line := 0, ell := 0, cs := 0, bg := 0, bank := 0, row := 0, col := 0,
    data := 0, hm := 0, poison := false, stamp := strayRead.stamp, tmoUs := 0, issued := true, timedOut := false,
    old := false, raw := none, cipher := false }

/-- The home works, port 0 is up with one response credit, and sub-channel 0 holds `strayEnt`. -/
def strayState : State :=
  let s := (State.resetOf .ovm0840).setFlag clkStatus 0 true
  let s := (s.setFlag (unitCtrl .home) 0 true).setSp 0 { SPort.init with link := true, rdCr := 1 }
  { s.setChan 0 { Chan.init with ents := [strayEnt] } with inited := [.home], trks := [strayTrk], tbase := 1 }

theorem strayState_canonical : strayState.Canonical := by decide +kernel

theorem strayState_clean :
    let o := decodeBurst (strayState.eccMode 0 strayEnt.cs) 0 strayEnt.line
    o.ce = false ∧ o.ue = false ∧ o.poison = false := by decide +kernel

/-- The answer counts one line read, and then the missed target sets bit 1 of the same word: 3 instead of 1. -/
theorem strayState_readCount : (strayState.dramReadData 0 0 0).reg2 ((Win.port 0).base + 0x10) = 3 := by decide +kernel

/-- Refutes O48: the stamp of a request may carry any charm number. With charm 163777, whose latency target is missed, the
port's read that a clean burst answers raises its read count from 0 to 3: the miss bits stand from 0x3018 on, one word for 32
charms, and the word of charm 163777 is the count's. -/
theorem not_returnedData : ¬ Obligations.ReturnedData := by
  intro h
  obtain ⟨hread, -⟩ := h strayState 0 0 strayEnt strayState_canonical (by decide +kernel) (by decide +kernel)
  obtain ⟨hce, hue, hpoison⟩ := strayState_clean
  obtain ⟨s', hexec, -, -, -, hcount⟩ := hread 0 0 0 0 strayTrk rfl rfl rfl rfl hce hue hpoison (by decide +kernel)
    (by decide +kernel) rfl rfl rfl rfl rfl (by decide +kernel) (by decide +kernel) (by decide +kernel)
  obtain rfl : strayState.dramReadData 0 0 0 = s' := Host.Outcome.next.inj hexec
  rw [strayState_readCount] at hcount
  exact absurd hcount (by decide +kernel)

end Sys2Proof.Machine
end

section
/-! Frames of the home's requests (O42, O43): an event that is only noted, and changes of state that none of the home's
decisions reads. -/

namespace Sys2Proof.Machine

/-! ### States that differ in a few registers -/

/-- `s'` is `s` but for the register words at addresses in `p` and the fault history. -/
structure OnlyRegs (p : Nat → Prop) (s s' : State) : Prop where
  rest : s' = { s with regs := s'.regs, hist := s'.hist }
  reg : ∀ a, ¬p a → s'.reg a = s.reg a
  wf : Tab.wf (resetWord s'.variant) s'.regs = true

section
variable {p q : Nat → Prop} {s s' t : State} {a hi lo n i : Nat} {v : W32} {b : Bool}

theorem OnlyRegs.refl (h : Tab.wf (resetWord s.variant) s.regs = true) : OnlyRegs p s s := ⟨rfl, fun _ _ => rfl, h⟩

theorem OnlyRegs.mono (h : OnlyRegs p s s') (hpq : ∀ a, p a → q a) : OnlyRegs q s s' :=
  ⟨h.rest, fun a ha => h.reg a (mt (hpq a) ha), h.wf⟩

theorem OnlyRegs.setReg (h : OnlyRegs p s s') (ha : p a) : OnlyRegs p s (s'.setReg a v) where
  rest := by rw [h.rest]; rfl
  reg c hc := by
    have hca : c ≠ a := by
      rintro rfl
      exact hc ha
    rw [State.reg_setReg h.wf, if_neg hca, h.reg c hc]
  wf := State.regs_wf_setReg h.wf a v

theorem OnlyRegs.setFld (h : OnlyRegs p s s') (ha : p a) : OnlyRegs p s (s'.setFld a hi lo n) := h.setReg ha
theorem OnlyRegs.setFlag (h : OnlyRegs p s s') (ha : p a) : OnlyRegs p s (s'.setFlag a i b) := h.setReg ha
theorem OnlyRegs.count2 (h : OnlyRegs p s s') (ha : p a) (ha4 : p (a + 4)) : OnlyRegs p s (s'.count2 a) :=
  (h.setReg ha).setReg ha4

theorem OnlyRegs.withHist {x : Tab (List HistEnt)} (h : OnlyRegs p s s') : OnlyRegs p s { s' with hist := x } :=
  ⟨by rw [h.rest], h.reg, h.wf⟩

theorem OnlyRegs.ite {c : Prop} [Decidable c] (hs : OnlyRegs p s s') (ht : OnlyRegs p s t) :
    OnlyRegs p s (if c then s' else t) :=
  iteInduction (motive := OnlyRegs p s) (fun _ => hs) fun _ => ht

theorem OnlyRegs.addHist {b : FaultRef} {e : HistEnt} (h : OnlyRegs p s s') (hb : p (faultBase b + 0x20)) :
    OnlyRegs p s (s'.addHist b e) := by
  unfold State.addHist
  extract_lets old s1 s2 s3
  have h1 : OnlyRegs p s s1 := (h.setFlag hb).ite h
  have h3 : OnlyRegs p s s3 := (h1.setFld hb).setFld hb
  exact h3.withHist

theorem State.flag_setFlag (h : Tab.wf (resetWord s.variant) s.regs = true) (hi : i < 32) :
    (s.setFlag a i b).flag a i = b := by
  have hbits : ∀ w : W32, bitOf w i = (bitsOf w i i == 1) := fun w => by simp [bitOf, bitsOf]
  unfold State.flag
  rw [State.reg_setFlag h, if_pos rfl, hbits, bitsOf_putBits _ le_rfl hi]
  cases b <;> simp [b2n]

end

/-! ### Events that are noted only -/

/-- The words of a fault block that an event changes. -/
def inBlock (b : FaultRef) (a : Nat) : Prop := faultBase b ≤ a ∧ a < faultBase b + 0x24

section
variable {s : State} {b : FaultRef} {src kind info : Nat} {forced : Bool}

/-- The record of an event that does not enter GRAVE: the bit of its source, PEND where its severity asks for it, and the
history. -/
theorem State.record_eq (hm : s.Mild b src) : ∃ e, s.record b src kind info forced =
    (if s.effSev b src ≥ 1 then (s.setFlag (faultBase b) src true).setFlag (faultBase b + 4) src true
      else s.setFlag (faultBase b) src true).addHist b e :=
  ⟨_, if_neg (fun e => by rw [State.Mild, e] at hm; omega)⟩

theorem OnlyRegs.pend {p : Nat → Prop} {t : State} {c : Prop} [Decidable c] {e : HistEnt} (h : OnlyRegs p s t)
    (h4 : p (faultBase b + 4)) (h20 : p (faultBase b + 0x20)) :
    OnlyRegs p s ((if c then t.setFlag (faultBase b + 4) src true else t).addHist b e) :=
  ((h.setFlag h4).ite h).addHist h20

/-- An event that does not enter GRAVE changes words of its block alone. -/
theorem State.record_only (h : Tab.wf (resetWord s.variant) s.regs = true) (hm : s.Mild b src) :
    OnlyRegs (inBlock b) s (s.record b src kind info forced) := by
  obtain ⟨e, he⟩ := s.record_eq (kind := kind) (info := info) (forced := forced) hm
  have hb : ∀ n < 0x24, inBlock b (faultBase b + n) := fun n hn => ⟨Nat.le_add_right .., Nat.add_lt_add_left hn _⟩
  rw [he]
  exact ((OnlyRegs.refl h).setFlag (hb 0 (by decide))).pend (hb 4 (by decide)) (hb 0x20 (by decide))

/-- It sets the bit of its source. -/
theorem State.record_flag (h : Tab.wf (resetWord s.variant) s.regs = true) (hm : s.Mild b src) (hsrc : src < 32) :
    (s.record b src kind info forced).flag (faultBase b) src = true := by
  obtain ⟨e, he⟩ := s.record_eq (kind := kind) (info := info) (forced := forced) hm
  have h1 : OnlyRegs (· ≠ faultBase b) (s.setFlag (faultBase b) src true) (s.setFlag (faultBase b) src true) :=
    .refl (State.regs_wf_setFld h ..)
  have hne : ∀ n > 0, faultBase b + n ≠ faultBase b := fun n hn => Nat.ne_of_gt (Nat.lt_add_of_pos_right hn)
  have h2 := h1.pend (b := b) (src := src) (c := s.effSev b src ≥ 1) (e := e) (hne 4 (by decide)) (hne 0x20 (by decide))
  rw [he]
  exact (congrArg (bitOf · src) (h2.reg _ (not_not.mpr rfl))).trans (State.flag_setFlag h hsrc)

theorem State.reactLow_mild {eff : Nat} {was : Bool} (he : eff < 2) : s.reactLow b src info eff was = s := by
  unfold State.reactLow
  rw [if_neg (by omega), if_neg (by omega)]

theorem State.raise_port_mild {n : Nat} (hm : s.Mild (.port n) src) :
    s.raise (.port n) src kind info = s.record (.port n) src kind info false :=
  State.reactLow_mild hm

theorem State.raise_stop_mild {n : Nat} (hm : s.Mild (.stop n) src) :
    s.raise (.stop n) src kind info = s.record (.stop n) src kind info false :=
  State.reactLow_mild hm

end

/-! ### Where the home reads the same -/

/-- Registers that no decision of the home reads: the lines that charms used, the fault blocks of ring stops, the Locket's
counts. -/
def asideReg (a : Nat) : Prop :=
  (0x3400 ≤ a ∧ a < 0x3800) ∨ (0x6D80 ≤ a ∧ a < 0x6F00) ∨ (0x7018 ≤ a ∧ a < 0x7028)

/-- Two states by which the home decides alike. -/
structure Alike (s s' : State) : Prop where
  reg : ∀ a, ¬asideReg a → s'.reg a = s.reg a
  variant : s'.variant = s.variant
  rails : s'.rails = s.rails
  inReset : s'.inReset = s.inReset
  pwr : s'.pwr = s.pwr
  inited : s'.inited = s.inited
  chans : s'.chans = s.chans
  filter : s'.filter = s.filter
  walks : s'.walks = s.walks
  moves : s'.moves = s.moves
  keys : s'.keys = s.keys
  plots : s'.plots = s.plots
  sprouts : s'.sprouts = s.sprouts
  ewt : s'.ewt = s.ewt

theorem OnlyRegs.alike {s s' : State} (h : OnlyRegs asideReg s s') : Alike s s' := by
  refine ⟨h.reg, ?_, ?_, ?_, ?_, ?_, ?_, ?_, ?_, ?_, ?_, ?_, ?_, ?_⟩ <;> rw [h.rest]

section
variable {s s' : State} (h : Alike s s')
include h

theorem Alike.fld {a hi lo : Nat} (ha : ¬asideReg a) : s'.fld a hi lo = s.fld a hi lo := by
  unfold State.fld
  rw [h.reg a ha]

theorem Alike.flag {a i : Nat} (ha : ¬asideReg a) : s'.flag a i = s.flag a i := by
  unfold State.flag
  rw [h.reg a ha]

theorem Alike.reg2 {a : Nat} (ha : ¬asideReg a) (ha4 : ¬asideReg (a + 4)) : s'.reg2 a = s.reg2 a := by
  unfold State.reg2
  rw [h.reg a ha, h.reg _ ha4]

theorem Alike.running : s'.running = s.running := by
  unfold State.running State.logicUp State.clocksRun
  rw [h.rails, h.inReset, h.pwr, h.flag (by simp [asideReg, clkStatus]), h.flag (by simp [asideReg, clkStatus])]

theorem Alike.homeWorks : s'.homeWorks = s.homeWorks := by
  unfold State.homeWorks
  rw [h.running, h.inited]

theorem Alike.chan (n : Nat) : s'.chan n = s.chan n := by
  unfold State.chan
  rw [h.chans]

theorem Alike.scOpen (n : Nat) : s'.scOpen n = s.scOpen n := by
  have ha : ¬asideReg (unitCtrl (.chan n)) := by simp only [asideReg, unitCtrl, unitWin, Win.base]; omega
  unfold State.scOpen State.reportsReady State.en
  rw [h.chan, h.flag ha]

theorem Alike.sf (line : Nat) : s'.sf line = s.sf line := by
  unfold State.sf State.sfSet
  rw [h.filter]

/-- The registers of a generation are not aside. -/
theorem Alike.gen {b : Nat} (hb : 0x6C00 ≤ b) (hb2 : b ≤ 0x6C40) : s'.gen b = s.gen b := by
  have ha : ∀ n < 0x100, ¬asideReg (b + n) := fun n hn => by simp only [asideReg]; omega
  have h0 : ¬asideReg b := ha 0 (by decide)
  have htab : (List.range 24).map (fun w => s'.fld (b + 0x20 + 4 * (w / 4)) (8 * (w % 4) + 4) (8 * (w % 4))) =
      (List.range 24).map fun w => s.fld (b + 0x20 + 4 * (w / 4)) (8 * (w % 4) + 4) (8 * (w % 4)) := by
    refine List.map_congr_left fun w hw => h.fld ?_
    have hw : w < 24 := List.mem_range.mp hw
    simp only [asideReg]
    omega
  unfold State.gen
  rw [htab]
  simp only [h.flag h0, h.fld h0, h.reg2 (ha 8 (by decide)) (ha 12 (by decide)),
    h.reg2 (ha 16 (by decide)) (ha 20 (by decide))]

theorem Alike.place (line : Nat) : s'.place line = s.place line := by
  have hg : s'.genOf line = s.genOf line := by
    unfold State.genOf
    rw [h.gen (b := genNext) (by decide) (by decide), h.gen (b := genCur) (by decide) (by decide),
      h.reg2 (by simp [asideReg, migWm]) (by simp [asideReg, migWm])]
  have hsc : ∀ sc, ¬asideReg (scDecode sc) := fun sc => by simp only [asideReg, scDecode]; omega
  have hx8 : ∀ sc, s'.isX8 sc = s.isX8 sc := fun sc => h.flag (hsc sc)
  have htwo : ∀ sc, s'.twoRanks sc = s.twoRanks sc := fun sc => h.flag (hsc sc)
  have hrow : ∀ sc, s'.rowCount sc = s.rowCount sc := fun sc => by
    unfold State.rowCount
    rw [h.fld (hsc sc)]
  have hcap : ∀ sc, s'.capMib sc = s.capMib sc := fun sc => by
    unfold State.capMib State.populated State.rankLines
    rw [h.flag (hsc sc), h.fld (hsc sc), hrow, hx8, htwo]
  have hsplit : ∀ sc ell, s'.splitLocal sc ell = s.splitLocal sc ell := fun sc ell => by
    unfold State.splitLocal
    rw [hx8, htwo, h.flag (hsc sc)]
  unfold State.place State.placeIn
  simp only [hg, hcap, hsplit, hrow]

theorem Alike.isSealed (line : Nat) : s'.isSealed line = s.isSealed line := by
  have hcover : ∀ r p, s'.regionCovers r p = s.regionCovers r p := fun r p => by
    unfold State.regionCovers
    rw [h.flag, h.fld, h.fld] <;> (simp only [asideReg]; omega)
  unfold State.isSealed State.region State.key
  simp only [hcover, h.keys]

theorem Alike.trkFree (htrks : s'.trks = s.trks) (stop : Option Nat) (more : Nat) :
    s'.trkFree stop more = s.trkFree stop more := by
  unfold State.trkFree State.sharedTrks State.stopTrks State.ringRsv
  rw [htrks, h.variant, h.fld (by simp [asideReg])]

theorem Alike.trkRoom (htrks : s'.trks = s.trks) (r : Req) : s'.trkRoom r = s.trkRoom r := by
  unfold State.trkRoom
  rw [h.trkFree htrks]

theorem Alike.mayEnter (htrks : s'.trks = s.trks) (hpool : s'.pool = s.pool) (r : Req) :
    s'.mayEnter r = s.mayEnter r := by
  unfold State.mayEnter State.poolRoom State.queueRoom State.readRoom State.writeRoom State.readLedger State.writeLedger
  simp only [h.place, h.chan, h.variant, h.trkRoom htrks, hpool]

theorem Alike.unwritten (plot : Nat) : s'.unwritten plot = s.unwritten plot := by
  unfold State.unwritten State.seedEn State.plotBit
  rw [h.flag (by simp [asideReg, seedCtrl]), h.variant, h.plots]

theorem Alike.sproutSlot (plot : Nat) : s'.sproutSlot plot = s.sproutSlot plot := by
  unfold State.sproutSlot
  rw [h.sprouts]

theorem Alike.belowFp (line : Nat) : s'.belowFp line = s.belowFp line := by
  unfold State.belowFp State.sprout
  rw [h.sproutSlot, h.sprouts]

theorem Alike.fillFlies (line : Nat) : s'.fillFlies line = s.fillFlies line := by
  unfold State.fillFlies State.sprout
  rw [h.sproutSlot, h.sprouts]

theorem Alike.seedReads (line : Nat) : s'.seedReads line = s.seedReads line := by
  unfold State.seedReads State.sprouting
  rw [h.sproutSlot, h.belowFp, h.ewt, h.unwritten]

end

end Sys2Proof.Machine
end

section
/-! The requests that enter home order, and the transactions that end (O42). -/

namespace Sys2Proof.Machine

/-! ### The pool of the port arbiter -/

theorem State.settle_eq (s : State) (c : Nat) : ∃ cq, s.settle c = { s with charmQ := cq } := by
  unfold State.settle
  extract_lets q start w
  split
  · exact ⟨_, rfl⟩
  · exact ⟨_, rfl⟩

theorem State.poolAdd_eq (s : State) (r : Req) :
    ∃ cq, s.poolAdd r = { s with charmQ := cq, pool := s.pool ++ [r] } := by
  obtain ⟨cq, h⟩ := ({ s with pool := s.pool ++ [r] } : State).settle_eq r.stamp.charm
  exact ⟨cq, h⟩

theorem State.poolTake_eq (s : State) (r : Req) : ∃ cq vt,
    s.poolTake r = { s with charmQ := cq, vtime := vt, pool := s.pool.filter fun x => x.id != r.id } := by
  unfold State.poolTake
  extract_lets c q s1
  obtain ⟨cq1, vt, h1⟩ : ∃ cq vt, s1 = { s with charmQ := cq, vtime := vt } := by
    dsimp only [s1]
    split
    · exact ⟨_, _, rfl⟩
    · exact ⟨_, _, rfl⟩
  obtain ⟨cq, h⟩ := ({ s1 with pool := s1.pool.filter fun x => x.id != r.id } : State).settle_eq c
  refine ⟨cq, vt, ?_⟩
  rw [h, h1]

/-! ### What waits outside home order -/

/-- Where nothing waits for credits, nothing passes on. -/
theorem State.NoneHeld.passOn {s : State} (h : s.NoneHeld) : s.scrubGo.slicesGo.dbgPump.portsGo = s := by
  obtain ⟨hports, hslices, hscrub, hdbg⟩ := h
  have h1 : s.scrubGo = s := by
    unfold State.scrubGo
    rw [hscrub]
  have h2 : s.slicesGo = s := by
    refine List.foldlRecOn (motive := fun t => t = s) _ _ rfl fun t ht n _ => ?_
    have hn : (tget Stop.init s.stops n).slice = [] := hslices n
    rw [ht, hn]
    rfl
  have h3 : s.dbgPump = s := by
    unfold State.dbgPump
    rw [hdbg]
  have h4 : s.portsGo = s := by
    refine List.foldlRecOn (motive := fun t => t = s) _ _ rfl fun t ht n _ => ?_
    rw [ht]
    unfold State.portGo
    rw [hports n]
    rfl
  rw [h1, h2, h3, h4]

/-! ### A request that comes to an empty home order -/

/-- A request as home order holds it. -/
def State.placed (s : State) (r : Req) : Req := { r with seq := s.nextId + 1 }

theorem State.nextTake_single {s : State} {q : Req} (hq : s.homeQ = [q]) : s.nextTake =
    if !s.tagHeld q && !s.blocked q.line && s.trkRoom q && !s.walkHeld q then some q else none := by
  unfold State.nextTake State.heldNow
  rw [hq]
  simp only [State.heldFrom, List.nil_append, List.any_nil, Bool.or_false, List.zipIdx_singleton, List.find?_singleton,
    List.take_zero, List.all_nil, Bool.and_true]
  split <;> rfl

theorem State.pump_blocked {t : State} {q : Req} (hq : t.homeQ = [q]) (hb : t.blocked q.line = true) : t.pump = t := by
  have hnext : t.nextTake = none := by
    rw [State.nextTake_single hq, hb]
    simp
  unfold State.pump
  rw [hq]
  split
  · simp only [List.length_singleton, pumpFuel, hnext]
  · rfl

theorem State.pump_free {t : State} {q : Req} (hq : t.homeQ = [q]) (hw : t.homeWorks = true) (htag : t.tagHeld q = false)
    (hb : t.blocked q.line = false) (hroom : t.trkRoom q = true) (hwalk : t.walkHeld q = false) :
    t.pump = ({ t with homeQ := [] } : State).take q := by
  have hnext : t.nextTake = some q := by
    rw [State.nextTake_single hq, hb, htag, hroom, hwalk]
    rfl
  have hrest : t.homeQ.filter (fun x => x.id != q.id) = [] := by
    rw [hq]
    simp
  unfold State.pump
  rw [if_pos hw, hq]
  simp only [List.length_singleton, pumpFuel, hnext, hrest]

/-- A request that enters an empty home order stands in it alone when the waiters are looked at. -/
theorem State.enterHome_eq {s : State} (r : Req) (hq : s.homeQ = []) : ∃ d,
    s.enterHome r = ({ s with scrubDirty := d, homeQ := [s.placed r], nextId := s.nextId + 1 } : State).pump := by
  unfold State.enterHome
  split
  · refine ⟨s.scrubDirty || decide (s.scrubLine = some r.line), congrArg State.pump ?_⟩
    unfold State.dirties State.placed
    rw [hq]
    rfl
  · refine ⟨s.scrubDirty, congrArg State.pump ?_⟩
    unfold State.placed
    rw [hq]
    rfl

/-- It waits while its line is blocked. -/
theorem State.enterHome_blocked {s : State} {r : Req} (hq : s.homeQ = []) (hb : s.blocked r.line = true) : ∃ d,
    s.enterHome r = { s with scrubDirty := d, homeQ := [s.placed r], nextId := s.nextId + 1 } := by
  obtain ⟨d, hd⟩ := s.enterHome_eq r hq
  exact ⟨d, hd.trans (State.pump_blocked (q := s.placed r) rfl hb)⟩

theorem State.tagHeld_placed {s t : State} {r : Req} (hq : s.homeQ = []) (hq' : t.homeQ = [s.placed r]) (hp : t.pool = s.pool)
    (hk : t.trks = s.trks) (h : s.tagHeld r = false) : t.tagHeld (s.placed r) = false := by
  unfold State.tagHeld at h ⊢
  rw [hq] at h
  rw [hq', hp, hk]
  simp only [Bool.or_eq_false_iff, List.any_append, List.any_nil, List.any_cons, Bool.or_false] at h ⊢
  refine ⟨h.1, h.2, ?_⟩
  simp

/-- It takes its line at once where the line is free and nothing holds the request back. -/
theorem State.enterHome_free {s : State} {r : Req} (hq : s.homeQ = []) (hw : s.homeWorks = true)
    (htag : s.tagHeld r = false) (hb : s.blocked r.line = false) (hroom : s.trkRoom r = true) (hwalk : s.walkHeld r = false) :
    ∃ d, s.enterHome r =
      ({ s with scrubDirty := d, homeQ := [], nextId := s.nextId + 1 } : State).take (s.placed r) := by
  obtain ⟨d, hd⟩ := s.enterHome_eq r hq
  exact ⟨d, hd.trans (State.pump_free (q := s.placed r) rfl hw (State.tagHeld_placed hq rfl rfl rfl htag) hb hroom hwalk)⟩

/-! ### A read that takes its line -/

theorem State.written_eq (s : State) (r : Req) : ∃ rg, s.written r = { s with regs := rg } := by
  have hline : ∀ run, ∃ rg, s.lineDone run = { s with regs := rg } := by
    intro run
    unfold State.lineDone
    split
    · split
      · exact ⟨_, rfl⟩
      · exact ⟨s.regs, rfl⟩
    · exact ⟨s.regs, rfl⟩
  unfold State.written
  split
  · exact hline _
  · exact hline _
  · exact ⟨_, rfl⟩
  · exact ⟨_, rfl⟩
  · exact ⟨s.regs, rfl⟩

theorem State.written_rd (s : State) {r : Req} (hk : r.kind = .rd) : s.written r = s := by
  unfold State.written
  rw [hk]
  cases r.src <;> rfl

/-- A lookup that finds no copy, in a set without a parity error, only counts. -/
theorem State.lkLookup_miss {s : State} {line : Nat} (h : Tab.wf (resetWord s.variant) s.regs = true)
    (hset : setIndex line ∉ s.tagBad) (hmiss : s.lkFind line = none) (hdr : Bool) :
    (s.lkLookup hdr line).1 = none ∧ OnlyRegs asideReg s (s.lkLookup hdr line).2 := by
  have htag : s.tagCheck line = s := by
    unfold State.tagCheck
    simp [hset]
  unfold State.lkLookup
  split
  · exact ⟨rfl, .refl h⟩
  · simp only [htag, hmiss, true_and]
    exact ((OnlyRegs.refl h).count2 (by simp [asideReg]) (by simp [asideReg]))

/-- A read that waits for its queue entry at its place. -/
def Trk.queued (t : Trk) (p : Place) : Trk := { t with fillOk := true, spot := some p, stage := .queue }

/-- A read of the line finds no copy of it, and goes to an open sub-channel at place `p`. -/
structure State.ReadGoes (s : State) (line : Nat) (p : Place) : Prop where
  regs : Tab.wf (resetWord s.variant) s.regs = true
  set : setIndex line ∉ s.tagBad
  miss : s.lkFind line = none
  seed : s.seedReads line = true
  place : s.place line = some p
  isOpen : s.scOpen p.sc = true

theorem State.memRead_queue {s : State} {t : Trk} {p : Place} (h : s.ReadGoes t.line p) (hspot : t.spot = none) :
    ∃ s', OnlyRegs asideReg s s' ∧ s.memRead t = s'.setTrk ((s.reach3 t).queued p) := by
  obtain ⟨hnone, hregs⟩ := State.lkLookup_miss h.regs h.set h.miss t.req.hdr
  refine ⟨_, hregs, ?_⟩
  have hseed : (s.lkLookup t.req.hdr t.line).2.seedReads t.line = true := by rw [hregs.alike.seedReads, h.seed]
  have hspot' : (s.lkLookup t.req.hdr t.line).2.spotOf { s.reach3 t with fillOk := true } = some p := by
    unfold State.spotOf State.reach3
    rw [hspot, hregs.alike.place, h.place]
    rfl
  unfold State.memRead State.memReadWith
  simp only [hnone, hspot']
  rw [if_neg (by rw [show (s.reach3 t).line = t.line from rfl, hseed]; decide)]
  unfold State.toQueue
  rw [if_pos (by rw [hregs.alike.scOpen, h.isOpen])]
  rfl

/-- The state in which a request has the tracker that it drew. -/
def State.taking (s : State) (r : Req) : State := { s.draw with trks := s.trks ++ [Trk.ofReq s.freeTrkNum r] }

/-- A request for a line that is not Sealed draws a tracker and takes its line. -/
theorem State.take_unsealed {s : State} {r : Req} (hk : r.kind ≠ .move) (hs : s.isSealed r.line = false) :
    s.take r = (s.taking r).decideTake (Trk.ofReq s.freeTrkNum r) := by
  have hs' : (s.taking r).isSealed r.line = false := hs
  unfold State.taking at hs' ⊢
  unfold State.take State.takeTrk
  rw [if_neg hk]
  simp only [hs', Bool.false_and, Bool.false_eq_true, if_false]

theorem State.setTrk_single {s : State} {t u : Trk} (h : s.trks = [u]) (hl : u.line = t.line) :
    s.setTrk t = { s with trks := [t] } := by
  unfold State.setTrk
  rw [h]
  simp [hl]

theorem State.decideTake_rd {s : State} {t : Trk} (hk : t.req.kind = .rd) (hsf : s.sf t.line = none) :
    s.decideTake t = s.memRead t := by
  unfold State.decideTake State.takeRead
  simp only [hk, hsf]

/-- A READ has its line to itself in an empty home, no cache holds the line, and the read goes to place `p`. -/
structure State.ReadTakes (s : State) (r : Req) (p : Place) : Prop extends s.ReadGoes r.line p where
  kind : r.kind = .rd
  trks : s.trks = []
  moves : s.moves = []
  walks : s.walks = []
  notSealed : s.isSealed r.line = false
  noCopy : s.sf r.line = none

/-- Such a read takes a tracker and goes to the queue of its sub-channel, with the place of its line. -/
theorem State.ReadTakes.take {s : State} {r : Req} {p : Place} (h : s.ReadTakes r p) :
    ∃ rg n hist k, s.take r = { s with regs := rg, hist := hist, free := n, trks := [k] } ∧
      k.line = r.line ∧ k.req = r ∧ k.stage = .queue ∧ k.spot = some p ∧ k.wr = false := by
  have hmove : r.kind ≠ .move := by
    rw [h.kind]
    exact ReqKind.noConfusion
  have hdecide := State.decideTake_rd (s := s.taking r) (t := Trk.ofReq s.freeTrkNum r) h.kind h.noCopy
  obtain ⟨s', hs', hread⟩ := State.memRead_queue (s := s.taking r) (t := Trk.ofReq s.freeTrkNum r) { h.toReadGoes with } rfl
  have htrks : s'.trks = [Trk.ofReq s.freeTrkNum r] := by
    rw [hs'.rest]
    exact congrArg (· ++ [_]) h.trks
  have hset := State.setTrk_single (t := ((s.taking r).reach3 (Trk.ofReq s.freeTrkNum r)).queued p) htrks rfl
  refine ⟨s'.regs, s.free + 1, s'.hist, ((s.taking r).reach3 (Trk.ofReq s.freeTrkNum r)).queued p, ?_, rfl, rfl, rfl, rfl, rfl⟩
  rw [State.take_unsealed hmove h.notSealed, hdecide, hread, hset, hs'.rest]
  rfl

/-- It does so when it enters an empty home order and nothing holds it back. -/
theorem State.ReadTakes.enterHome {s : State} {r : Req} {p : Place} (h : s.ReadTakes r p) (hworks : s.homeWorks = true)
    (hq : s.homeQ = []) (htag : s.tagHeld r = false) (hroom : s.trkRoom r = true) :
    ∃ d rg n hist k, s.enterHome r = { s with
        scrubDirty := d, homeQ := [], nextId := s.nextId + 1, regs := rg, hist := hist, free := n, trks := [k] } ∧
      k.line = r.line ∧ k.req = s.placed r ∧ k.stage = .queue ∧ k.spot = some p ∧ k.wr = false := by
  have hb : s.blocked r.line = false := by simp [State.blocked, h.trks, h.moves]
  have hwalk : s.walkHeld r = false := by simp [State.walkHeld, h.walks]
  obtain ⟨d, henter⟩ := State.enterHome_free hq hworks htag hb hroom hwalk
  obtain ⟨rg, n, hist, k, htake, hfacts⟩ := State.ReadTakes.take
    (s := { s with scrubDirty := d, homeQ := [], nextId := s.nextId + 1 }) (r := s.placed r) (p := p) { h with }
  exact ⟨d, rg, n, hist, k, henter.trans htake, hfacts⟩

/-- A request that no earlier one of its source holds is held by none in a smaller pool. -/
theorem State.tagHeld_of_pool {s t : State} {r : Req} (hp : ∀ x ∈ t.pool, x ∈ s.pool) (hq : t.homeQ = s.homeQ)
    (hk : t.trks = s.trks) (h : s.tagHeld r = false) : t.tagHeld r = false := by
  unfold State.tagHeld at h ⊢
  rw [hq, hk]
  simp only [Bool.or_eq_false_iff, List.any_append, List.any_eq_false] at h ⊢
  exact ⟨h.1, fun x hx => h.2.1 x (hp x hx), h.2.2⟩

/-! ### The arbiter's choice -/

section
variable {s : State} {r : Req}

theorem State.homeWorks_of_ready (h : s.homeReady = true) : s.homeWorks = true := by
  unfold State.homeReady at h
  unfold State.homeWorks
  simp only [Bool.and_eq_true] at h ⊢
  exact h.1.1

/-- The arbiter's choice leaves the pool and enters home order; where nothing waits outside, nothing else happens. -/
theorem execPortArbiterAdmit_eq (hready : s.homeReady = true) (hr : s.choose = some r)
    (hrest : (((s.poolTake r).written r).enterHome r).NoneHeld) :
    exec .portArbiterAdmit s = .next (((s.poolTake r).written r).enterHome r) := by
  have hadmit : s.arbiterAdmit = ((s.poolTake r).written r).enterHome r := by
    unfold State.arbiterAdmit
    rw [if_neg (by rw [hready]; decide), hr]
  change execPortArbiterAdmit s = _
  unfold execPortArbiterAdmit
  rw [hadmit, hrest.passOn]

/-- It waits there while its line is blocked. -/
theorem portArbiterAdmit_blocked (hready : s.homeReady = true) (hr : s.choose = some r) (hq : s.homeQ = [])
    (hheld : s.NoneHeld) (hb : s.blocked r.line = true) :
    Does .portArbiterAdmit s fun s' => s'.homeQ = [{ r with seq := s.nextId + 1 }] ∧
      s'.pool = (s.pool.filter fun x => x.id != r.id) ∧ s'.trks = s.trks ∧ s'.threads = s.threads ∧ s'.out = s.out := by
  obtain ⟨cq, vt, htake⟩ := s.poolTake_eq r
  obtain ⟨rg, hwritten⟩ := (s.poolTake r).written_eq r
  rw [htake] at hwritten
  obtain ⟨d, henter⟩ := State.enterHome_blocked (s := (s.poolTake r).written r) (r := r) (by rw [htake, hwritten]; exact hq)
    (by rw [htake, hwritten]; exact hb)
  rw [htake, hwritten] at henter
  refine ⟨_, execPortArbiterAdmit_eq hready hr ?_, ?_⟩
  · rw [htake, hwritten, henter]
    exact hheld
  · rw [htake, hwritten, henter]
    exact ⟨rfl, rfl, rfl, rfl, rfl⟩

/-- A read whose line is free and is found in no cache goes to the queue of its sub-channel. -/
theorem portArbiterAdmit_read {p : Place} (h : s.ReadTakes r p) (hready : s.homeReady = true) (hr : s.choose = some r)
    (hq : s.homeQ = []) (hheld : s.NoneHeld) (htag : s.tagHeld r = false) (hroom : s.trkRoom r = true) :
    Does .portArbiterAdmit s fun s' => s'.homeQ = [] ∧ s'.pool = (s.pool.filter fun x => x.id != r.id) ∧
      s'.threads = s.threads ∧ s'.out = s.out ∧ ∃ k, s'.trks = [k] ∧ k.line = r.line ∧
        k.req = { r with seq := s.nextId + 1 } ∧ k.stage = .queue ∧ k.spot = some p ∧ k.wr = false := by
  obtain ⟨cq, vt, htake⟩ := s.poolTake_eq r
  have hwritten := (s.poolTake r).written_rd h.kind
  have htag' : (s.poolTake r).tagHeld r = false := by
    rw [htake]
    exact State.tagHeld_of_pool (fun x hx => (List.mem_filter.mp hx).1) rfl rfl htag
  rw [htake] at hwritten htag'
  obtain ⟨d, rg, n, hist, k, henter, hfacts⟩ := State.ReadTakes.enterHome
    (s := { s with charmQ := cq, vtime := vt, pool := s.pool.filter fun x => x.id != r.id }) (r := r) (p := p) { h with }
    (State.homeWorks_of_ready hready) hq htag' hroom
  refine ⟨_, execPortArbiterAdmit_eq hready hr ?_, ?_⟩
  · rw [htake, hwritten, henter]
    exact hheld
  · rw [htake, hwritten, henter]
    exact ⟨rfl, rfl, rfl, rfl, k, rfl, hfacts⟩

end

/-! ### What a transaction leaves in the filter -/

/-- The entry of a line in a set of the filter. -/
def sfFind (set : List SfEnt) (line : Nat) : Option SfEnt := set.find? fun e => e.line == line && e.sum != 3

/-- The entry that a line has after an update. -/
def FiltUpd.leaves (ln : Nat) (old : Option SfEnt) : FiltUpd → Option SfEnt
  | .keep => old
  | .clear => none
  | .sh => some { line := ln, sum := 0, agent := 0 }
  | .fw x => some { line := ln, sum := 1, agent := x }
  | .ex x => some { line := ln, sum := 2, agent := x }

theorem sfFind_cons (x : SfEnt) (xs : List SfEnt) (l : Nat) :
    sfFind (x :: xs) l = if x.line = l ∧ x.sum ≠ 3 then some x else sfFind xs l := by
  unfold sfFind
  rw [List.find?_cons]
  by_cases h : x.line = l ∧ x.sum ≠ 3
  · have hx : (x.line == l && x.sum != 3) = true := by
      simpa using h
    rw [if_pos h, hx]
  · rw [if_neg h]
    have hx : (x.line == l && x.sum != 3) = false := by
      simpa using h
    rw [hx]

theorem sfFind_filter (set : List SfEnt) (ln l : Nat) :
    sfFind (set.filter fun e => e.line != ln) l = if l = ln then none else sfFind set l := by
  induction set with
  | nil => simp [sfFind]
  | cons x xs ih => grind [sfFind_cons]

theorem sfFind_append_single (set : List SfEnt) (e : SfEnt) (l : Nat) (he : e.sum ≠ 3) :
    sfFind (set ++ [e]) l = (sfFind set l).or (if l = e.line then some e else none) := by
  induction set with
  | nil =>
    rw [List.nil_append, sfFind_cons]
    simp [sfFind, he, eq_comm]
  | cons x xs ih =>
    rw [List.cons_append, sfFind_cons, sfFind_cons, ih]
    split <;> rfl

/-- Every entry of a line in a set replaced by one. -/
theorem sfFind_replace_other (set : List SfEnt) (e : SfEnt) {l : Nat} (hl : l ≠ e.line) :
    sfFind (set.map fun x => if x.line = e.line then e else x) l = sfFind set l := by
  induction set with
  | nil => rfl
  | cons x xs ih => grind [sfFind_cons]

theorem sfFind_replace_same (set : List SfEnt) (e : SfEnt) (he : e.sum ≠ 3)
    (hany : set.any (fun x => x.line == e.line) = true) :
    sfFind (set.map fun x => if x.line = e.line then e else x) e.line = some e := by
  induction set with
  | nil => simp at hany
  | cons x xs ih => grind [sfFind_cons]

theorem sfFind_eq_none {set : List SfEnt} {l : Nat} (h : set.any (fun x => x.line == l) = false) : sfFind set l = none := by
  induction set with
  | nil => rfl
  | cons x xs ih => grind [sfFind_cons]

theorem State.sf_setSfSet {s : State} (h : Tab.wf (fun _ => []) s.filter = true) (i : Nat) (set : List SfEnt) (l : Nat) :
    (s.setSfSet i set).sf l = if setIndex l = i then sfFind set l else s.sf l := by
  unfold State.sf State.setSfSet State.sfSet sfFind
  rw [tget_tset (Tab.wf_keys h)]
  split <;> rfl

/-- Storing the set of a line with another entry for it, and no other change. -/
theorem State.sf_setSfSet_line {s : State} (h : Tab.wf (fun _ => []) s.filter = true) {ln : Nat} {set : List SfEnt}
    {v : Option SfEnt} (hset : ∀ l, sfFind set l = if l = ln then v else sfFind (s.sfSet (setIndex ln)) l) (l : Nat) :
    (s.setSfSet (setIndex ln) set).sf l = if l = ln then v else s.sf l := by
  rw [State.sf_setSfSet h, hset]
  by_cases hl : l = ln
  · simp [hl]
  · rw [if_neg hl, if_neg hl]
    split
    · rename_i hi
      rw [← hi]
      rfl
    · rfl

theorem State.sfClear_sf {s : State} (h : Tab.wf (fun _ => []) s.filter = true) (ln l : Nat) :
    (s.sfClear ln).sf l = if l = ln then none else s.sf l :=
  State.sf_setSfSet_line h (sfFind_filter _ ln) l

theorem State.sfPut_sf {s : State} (h : Tab.wf (fun _ => []) s.filter = true) (ln sum x : Nat) (b : Bool) (hs : sum ≠ 3)
    (l : Nat) : (s.sfPut ln sum x b).sf l = if l = ln then some { line := ln, sum := sum, agent := x } else s.sf l := by
  unfold State.sfPut
  extract_lets i e set
  split
  · refine State.sf_setSfSet_line h (fun l => ?_) l
    rw [sfFind_append_single _ _ _ hs, sfFind_filter]
    split
    · rfl
    · exact Option.or_none
  · split
    · rename_i hany
      refine State.sf_setSfSet_line h (set := set.map fun x => if x.line = ln then e else x) (fun l => ?_) l
      split
      · rename_i hl
        subst hl
        exact sfFind_replace_same _ { line := l, sum := sum, agent := x } hs hany
      · rename_i hl
        exact sfFind_replace_other _ { line := ln, sum := sum, agent := x } hl
    · rename_i hany
      refine State.sf_setSfSet_line h (fun l => ?_) l
      rw [sfFind_append_single _ _ _ hs]
      split
      · rename_i hl
        subst hl
        rw [sfFind_eq_none (Bool.eq_false_iff.mpr hany)]
        rfl
      · exact Option.or_none

theorem State.sfApply_sf {s : State} (h : Tab.wf (fun _ => []) s.filter = true) (ln l : Nat) (u : FiltUpd) :
    (s.sfApply ln u).sf l = if l = ln then u.leaves ln (s.sf ln) else s.sf l := by
  cases u with
  | keep =>
    split
    · rename_i hl
      exact congrArg s.sf hl
    · rfl
  | clear => exact State.sfClear_sf h ln l
  | sh => exact State.sfPut_sf h ln 0 0 false (by decide) l
  | fw x => exact State.sfPut_sf h ln 1 x true (by decide) l
  | ex x => exact State.sfPut_sf h ln 2 x true (by decide) l

/-- An update of the filter changes nothing else. -/
theorem State.sfApply_eq (s : State) (ln : Nat) (u : FiltUpd) : ∃ f, s.sfApply ln u = { s with filter := f } := by
  have hput : ∀ sum x b, ∃ f, s.sfPut ln sum x b = { s with filter := f } := by
    intro sum x b
    unfold State.sfPut
    extract_lets i e set
    split
    · exact ⟨_, rfl⟩
    · split
      · exact ⟨_, rfl⟩
      · exact ⟨_, rfl⟩
  cases u with
  | keep => exact ⟨s.filter, rfl⟩
  | clear => exact ⟨_, rfl⟩
  | sh => exact hput 0 0 false
  | fw x => exact hput 1 x true
  | ex x => exact hput 2 x true

/-! ### A transaction ends -/

/-- The end of a transaction that a write of an agent asked for answers it. -/
def State.ackEnded (s : State) (t : Trk) : State :=
  match t.req.kind with
  | .wrFull | .wrBack | .evict | .stash _ =>
    s.sendWrAck t (t.far && (t.req.kind == ReqKind.wrBack || t.req.kind == ReqKind.evict))
  | _ => s

theorem State.ackEnded_eq (s : State) (t : Trk) : ∃ o, s.ackEnded t = { s with out := o } := by
  have hsend : ∀ b, ∃ o, s.sendWrAck t b = { s with out := o } := by
    intro b
    unfold State.sendWrAck
    split
    · split
      · exact ⟨s.out, rfl⟩
      · exact ⟨_, rfl⟩
    · exact ⟨s.out, rfl⟩
  unfold State.ackEnded
  split
  · exact hsend _
  · exact hsend _
  · exact hsend _
  · exact hsend _
  · exact ⟨s.out, rfl⟩

/-- A whole-line write of an agent is answered by WR_ACK, not stale. -/
theorem State.ackEnded_wrFull {s : State} {t : Trk} {st x txn : Nat} {cw : Bool} (hk : t.req.kind = .wrFull)
    (hsrc : t.req.src = .agent st cw x) (hdest : t.req.dest = .ring txn) (hgone : t.gone = false) :
    (s.ackEnded t).out = .flit st (!cw)
      { hdr := ({ Hdr.plain 0x42 (s.nodeId st) x txn t.line with err := errCode t.err false }).word,
        payload := 0 } :: s.out := by
  have hstale : (t.far && (t.req.kind == ReqKind.wrBack || t.req.kind == ReqKind.evict)) = false := by
    rw [hk, Bool.and_eq_false_iff]
    exact .inr rfl
  unfold State.ackEnded
  simp only [hk]
  rw [hk] at hstale
  rw [hstale]
  unfold State.sendWrAck
  simp only [hsrc, hdest, hgone]
  rfl

/-- The filter takes what the transaction leaves, unless an agent or a snoop was lost. -/
theorem State.takeFilt_eq {s : State} {t : Trk} (htmo : t.snpTmo = false) (hgone : t.gone = false)
    (hkeep : t.filt = .keep → t.claimed = false) : s.takeFilt t = s.sfApply t.line t.filt := by
  have hend : s.endFilt t = t.filt := by
    unfold State.endFilt
    simp [htmo, hgone]
  unfold State.takeFilt
  simp only [hend]
  split
  · rename_i h
    obtain ⟨hclaimed, hfilt | hfilt⟩ := h
    · rw [hkeep hfilt] at hclaimed
      cases hclaimed
    · rw [hfilt]
      rfl
  · rfl

theorem State.retryWays_none {s : State} (h : ∀ k ∈ s.trks, k.stage ≠ .way) : s.retryWays = s := by
  have hnone : s.trks.filter (fun t => t.stage == .way) = [] :=
    List.filter_eq_nil_iff.mpr fun k hk => by simpa using h k hk
  unfold State.retryWays
  rw [hnone]
  rfl

theorem State.requeue_nil {s : State} (h : s.homeQ = []) (was : List (Req × Bool)) : s.requeue was = s := by
  have hnow : s.heldNow = [] := by
    unfold State.heldNow
    rw [h]
    rfl
  unfold State.requeue
  rw [hnow]
  change { s with homeQ := [] } = s
  rw [← h]

theorem State.pump_nil {s : State} (h : s.homeQ = []) : s.pump = s := by
  unfold State.pump
  rw [h]
  exact ite_self s

theorem State.freeVictim_none {s : State} {ln : Nat} (h : ∀ k ∈ s.trks, k.victim ≠ some ln) : s.freeVictim ln = s := by
  have hnone : (s.trks.find? fun t => t.victim == some ln) = none :=
    List.find?_eq_none.mpr fun k hk => by simpa using h k hk
  unfold State.freeVictim
  rw [hnone]
  rfl

/-- Where nothing waits, the end of a transaction frees its line, leaves its state in the filter and answers a write. -/
theorem State.endTrk_eq {s : State} {t : Trk} (hclear : s.HomeClear) (htmo : t.snpTmo = false) (hgone : t.gone = false)
    (hkeep : t.filt = .keep → t.claimed = false) (hforced : t.forced = true → ∀ k ∈ s.trks, k.victim ≠ some t.line) :
    s.endTrk t =
      (({ s with trks := s.trks.filter fun x => x.line != t.line } : State).sfApply t.line t.filt).ackEnded t := by
  obtain ⟨hq, hway⟩ := hclear
  obtain ⟨f, hf⟩ := ({ s with trks := s.trks.filter fun x => x.line != t.line } : State).sfApply_eq t.line t.filt
  obtain ⟨o, ho⟩ := (({ s with trks := s.trks.filter fun x => x.line != t.line } : State).sfApply t.line t.filt).ackEnded_eq t
  have hfilt := State.takeFilt_eq (s := { s with trks := s.trks.filter fun x => x.line != t.line }) htmo hgone hkeep
  generalize hu : (({ s with trks := s.trks.filter fun x => x.line != t.line } : State).sfApply t.line t.filt).ackEnded t = u
  rw [hu, hf] at ho
  have huq : u.homeQ = [] := by rw [ho]; exact hq
  have hsub : ∀ k ∈ u.trks, k ∈ s.trks := by
    rw [ho]
    exact fun k hk => (List.mem_filter.mp hk).1
  have hfree : (if t.forced then u.freeVictim t.line else u) = u := by
    split
    · rename_i h
      exact State.freeVictim_none fun k hk => hforced h k (hsub k hk)
    · rfl
  have hend : s.endTrk t = (((if t.forced then u.freeVictim t.line else u).retryWays).requeue s.heldNow).pump := by
    rw [← hu, ← hfilt]
    rfl
  rw [hend, hfree, State.retryWays_none fun k hk => hway k (hsub k hk), State.requeue_nil huq, State.pump_nil huq]

theorem transactionEnd_does {s : State} {ln : Nat} {t : Trk} (hcanon : s.Canonical) (hrun : s.running = true)
    (hclear : s.HomeClear) (ht : s.trk ln = some t) (hended : t.stage = .ended) (htmo : t.snpTmo = false)
    (hgone : t.gone = false) (hkeep : t.filt = .keep → t.claimed = false)
    (hforced : t.forced = true → ∀ k ∈ s.trks, k.victim ≠ some ln) :
    Does (.transactionEnd ln) s fun s' => s'.trk ln = none ∧ s'.homeQ = [] ∧ s'.threads = s.threads ∧ s'.regs = s.regs ∧
      s'.sf ln = t.filt.leaves ln (s.sf ln) ∧ (∀ l, l ≠ ln → s'.sf l = s.sf l) ∧
      (∀ st cw x txn, t.req.kind = .wrFull → t.req.src = .agent st cw x → t.req.dest = .ring txn → s'.out =
        .flit st (!cw) { hdr := ({ Hdr.plain 0x42 (s.nodeId st) x txn ln with err := errCode t.err false }).word,
                         payload := 0 } :: s.out) := by
  have hline : t.line = ln := by simpa using List.find?_some ht
  subst hline
  have hlive : s.liveTrk t.line = some t := by
    unfold State.liveTrk
    rw [if_pos hrun, ht]
  have hexec : exec (.transactionEnd t.line) s = .next (s.endTrk t) := by
    change Host.Outcome.next (s.transactionEnd t.line) = _
    unfold State.transactionEnd
    rw [hlive]
    exact congrArg _ (if_pos hended)
  have hend := State.endTrk_eq hclear htmo hgone hkeep hforced
  obtain ⟨hq, -⟩ := hclear
  have hwf := ((State.tidy_iff s).mpr hcanon).filter
  have hsf := fun l => State.sfApply_sf (s := { s with trks := s.trks.filter fun x => x.line != t.line }) hwf t.line l t.filt
  obtain ⟨f, hf⟩ := ({ s with trks := s.trks.filter fun x => x.line != t.line } : State).sfApply_eq t.line t.filt
  rw [hf] at hend hsf
  obtain ⟨o, ho⟩ := ({ s with trks := s.trks.filter fun x => x.line != t.line, filter := f } : State).ackEnded_eq t
  have hack := fun st cw x txn hk hsrc hdest => State.ackEnded_wrFull (st := st) (cw := cw) (x := x) (txn := txn)
    (s := { s with trks := s.trks.filter fun x => x.line != t.line, filter := f }) (t := t) hk hsrc hdest hgone
  rw [ho] at hend hack
  refine ⟨_, hexec, ?_⟩
  rw [hend]
  refine ⟨?_, hq, rfl, rfl, ?_, ?_, hack⟩
  · refine List.find?_eq_none.mpr fun k hk => ?_
    simpa using (List.mem_filter.mp hk).2
  · exact (hsf t.line).trans (if_pos rfl)
  · exact fun l hl => (hsf l).trans (if_neg hl)

/-! ### A request whose sub-channel takes none -/

/-- A stored tracker is found by its line, where one stood. -/
theorem State.trk_setTrk {s : State} {t u : Trk} (h : s.trk t.line = some u) : (s.setTrk t).trk t.line = some t := by
  unfold State.trk State.setTrk at *
  generalize s.trks = ks at h
  induction ks with
  | nil => cases h
  | cons k ks ih => grind

theorem spDrain_one {s : State} {n : Nat} {r : SpRsp} (hr : (s.sp n).rsps = [r]) (hcr : 0 < (s.sp n).rdCr)
    (hup : s.spUp n = true) :
    spDrain 1 n s = (s.setSp n { s.sp n with rdCr := (s.sp n).rdCr - 1, rsps := [] }).spEmit n r := by
  have hgo : ¬((s.sp n).rdCr = 0 ∨ s.spUp n = false) := by
    rw [hup]
    simp [Nat.ne_of_gt hcr]
  unfold spDrain
  simp only [hr]
  rw [if_neg hgo]
  rfl

/-- A beat whose status is not ok counts, and completes no read. -/
theorem State.spEmit_eq (s : State) {n : Nat} {r : SpRsp} (hst : r.status ≠ 0) : ∃ rg, s.spEmit n r =
    { s with regs := rg, out := .spRsp n r.kind r.tid r.status r.tmo r.hm r.data :: s.out } := by
  have hcount : ∃ rg, (if r.kind = 0 then s.count2 ((Win.port n).base + 0x10) else s) = { s with regs := rg } := by
    split
    · exact ⟨_, rfl⟩
    · exact ⟨s.regs, rfl⟩
  obtain ⟨rg, hrg⟩ := hcount
  refine ⟨rg, ?_⟩
  unfold State.spEmit
  simp only [hrg, if_neg hst]
  rfl

/-- A port that waits with one response. -/
def State.rspWaits (s : State) (n : Nat) (r : SpRsp) : State := s.setSp n { s.sp n with rsps := [r] }

/-- A response that finds a credit is sent at once. -/
theorem State.spRespond_now {s : State} {n : Nat} {r : SpRsp} (h : Tab.wf (fun _ => SPort.init) s.sports = true)
    (hup : s.spUp n = true) (hrsps : (s.sp n).rsps = []) (hcr : 0 < (s.sp n).rdCr) (hst : r.status ≠ 0) : ∃ rg sp,
    s.spRespond n r =
      { s with regs := rg, sports := sp, out := .spRsp n r.kind r.tid r.status r.tmo r.hm r.data :: s.out } := by
  have hlink : (s.sp n).link = true := by
    unfold State.spUp at hup
    simp only [Bool.and_eq_true] at hup
    exact hup.1.1
  have hwait : (s.rspWaits n r).sp n = { s.sp n with rsps := [r] } := by
    unfold State.rspWaits
    rw [State.sp_setSp h, if_pos rfl]
  have hup' : (s.rspWaits n r).spUp n = true := by
    unfold State.spUp at hup ⊢
    rw [hwait]
    exact hup
  have hdrain := spDrain_one (s := s.rspWaits n r) (r := r) (n := n) (by rw [hwait]) (by rw [hwait]; exact hcr) hup'
  obtain ⟨rg, hrg⟩ := ((s.rspWaits n r).setSp n { (s.rspWaits n r).sp n with
    rdCr := ((s.rspWaits n r).sp n).rdCr - 1, rsps := [] }).spEmit_eq (n := n) hst
  have hresp : s.spRespond n r = spDrain 1 n (s.rspWaits n r) := by
    unfold State.spRespond State.rspWaits
    simp only [hlink, hrsps, Bool.true_eq_false, if_false, List.nil_append, List.length_nil, Nat.zero_add]
  rw [hdrain, hrg] at hresp
  exact ⟨rg, _, hresp⟩

theorem bringupHold_eq {s : State} {ln us : Nat} {t : Trk} (hrun : s.running = true) (ht : s.trk ln = some t)
    (hstage : t.stage = .notReady us) : exec (.bringupHold ln) s =
      .next (if t.wr then s.failWrite t 3 else (s.openAns 3 false false).2.gotData t (s.openAns 3 false false).1) := by
  change Host.Outcome.next (s.bringupHold ln) = _
  unfold State.bringupHold State.liveTrk
  simp only [if_pos hrun, ht, hstage]

theorem State.deliver_port {s : State} {t : Trk} {a : Ans} {n tid grant : Nat} (hk : t.req.kind = .rd) (hgone : t.gone = false)
    (hsrc : t.req.src = .port n) (hdest : t.req.dest = .port tid) (ha : hallmark a.data = a.hm) :
    s.deliver t a grant = s.spRespond n ⟨0, tid, rdStatus a, a.tmo, a.hm, a.data, some t.req.stamp⟩ := by
  have hexit : s.exitCheck (.port n) 1 t.line a = (a, s) := if_pos ha
  unfold State.deliver
  simp only [hk, hgone, hsrc, hdest, hexit, reduceCtorEq, Bool.false_eq_true, if_false]

/-- A read that gets no data grants nothing and ends. -/
theorem State.gotData_rd (s : State) {t : Trk} {a : Ans} (hk : t.req.kind = .rd) (ha : a.status ≠ 0) : ∃ k,
    s.gotData t a = (s.deliver (s.noGrant t) a 0).setTrk k ∧ k.line = t.line ∧ k.stage = .ended ∧ k.req = t.req := by
  refine ⟨{ s.noGrant t with answered := true, stage := .ended }, ?_, rfl, rfl, rfl⟩
  unfold State.gotData State.gotDataWith
  simp only [hk, if_pos (Or.inl ha : a.status ≠ 0 ∨ a.tmo = true)]
  rfl

/-- Such a read is answered with not ready. -/
theorem bringupHold_read {s : State} {ln us n tid : Nat} {t : Trk} (hcanon : s.Canonical) (hrun : s.running = true)
    (ht : s.trk ln = some t) (hstage : t.stage = .notReady us) (hgone : t.gone = false) (hsrc : t.req.src = .port n)
    (hwr : t.wr = false) (hk : t.req.kind = .rd) (hdest : t.req.dest = .port tid) (hup : s.spUp n = true)
    (hrsps : (s.sp n).rsps = []) (hcr : 0 < (s.sp n).rdCr) :
    Does (.bringupHold ln) s fun s' => (∃ d, s'.out = .spRsp n 0 tid 3 false (hallmark d) d :: s.out) ∧
      (∃ k, s'.trk ln = some k ∧ k.stage = .ended ∧ k.req = t.req) ∧ s'.threads = s.threads ∧ s'.pool = s.pool := by
  have hline : t.line = ln := by simpa using List.find?_some ht
  subst hline
  have hports := ((State.tidy_iff s).mpr hcanon).sports
  obtain ⟨k, hgot, hkline, hended, hreq⟩ := s.draw.gotData_rd (a := (s.openAns 3 false false).1) hk three_ne_zero
  have hdeliver := State.deliver_port (s := s.draw) (t := s.draw.noGrant t) (a := (s.openAns 3 false false).1) (grant := 0) hk
    hgone hsrc hdest rfl
  obtain ⟨rg, sp, hrsp⟩ := State.spRespond_now (s := s.draw)
    (r := ⟨0, tid, 3, false, (s.openAns 3 false false).1.hm, (s.openAns 3 false false).1.data, some t.req.stamp⟩) hports hup
    hrsps hcr three_ne_zero
  rw [hdeliver.trans hrsp] at hgot
  have hread : exec (.bringupHold t.line) s = .next (s.draw.gotData t (s.openAns 3 false false).1) := by
    rw [bringupHold_eq hrun ht hstage, hwr]
    rfl
  rw [hgot] at hread
  refine ⟨_, hread, ⟨_, rfl⟩, ⟨k, ?_, hended, hreq⟩, rfl, rfl⟩
  rw [← hkline] at ht ⊢
  exact State.trk_setTrk (u := t) ht

/-- A write that was not made, and its transaction when that is over. -/
def Trk.unmade (t : Trk) : Trk := { t with err := 3 }
def Trk.over (t : Trk) : Trk := { t with stage := .ended }

theorem State.failEvent_port {s : State} {r : Req} {n : Nat} (hsrc : r.src = .port n) (hdest : r.dest = .none)
    (hm : s.Mild (.port n) 4) : s.failEvent r 3 = s.record (.port n) 4 1 (64 * r.line) false := by
  have hraise := State.raise_port_mild (kind := 1) (info := 64 * r.line) hm
  unfold State.failEvent
  cases hdbg : s.dbgAcc <;> simp only [hdest, hsrc, if_pos, State.notReadySrc, hraise]

theorem State.failWrite_port {s : State} {t : Trk} {n : Nat} (hk : t.req.kind = .wr) (hsrc : t.req.src = .port n)
    (hdest : t.req.dest = .none) (hwb : t.wb = none) (hgrant : t.grant = 0) (hm : s.Mild (.port n) 4) : s.failWrite t 3 =
      ((s.record (.port n) 4 1 (64 * t.req.line) false).setTrk t.unmade).setTrk t.unmade.over := by
  have hsettle : ∀ u : State, u.settleTrk t.unmade = u.setTrk t.unmade.over := by
    intro u
    unfold State.settleTrk
    rw [if_neg (fun h => h.1 hgrant)]
    rfl
  have hdbg : ∀ u : State, u.dbgWritten t.unmade = u := by
    intro u
    unfold State.dbgWritten
    rw [show t.unmade.req.dest = .none from hdest]
    cases u.dbgAcc <;> rfl
  have hwrote : ∀ u : State, u.wroteWith t.unmade State.memRead State.gotData = u.setTrk t.unmade.over := by
    intro u
    unfold State.wroteWith
    simp only [show t.unmade.wb = none from hwb, show t.unmade.req.kind = .wr from hk, hdbg, hsettle]
  have hfail : s.failWrite t 3 = ((s.failEvent t.req 3).setTrk t.unmade).wroteWith t.unmade State.memRead State.gotData := by
    unfold State.failWrite State.failWriteWith
    rw [if_neg (by rw [hwb]; decide)]
    rfl
  rw [hfail, hwrote, State.failEvent_port hsrc hdest hm]

/-- Such a write ends with the not-ready source of its port. -/
theorem bringupHold_write {s : State} {ln us n : Nat} {t : Trk} (hcanon : s.Canonical) (hrun : s.running = true)
    (ht : s.trk ln = some t) (hstage : t.stage = .notReady us) (hsrc : t.req.src = .port n) (hwr : t.wr = true)
    (hk : t.req.kind = .wr) (hdest : t.req.dest = .none) (hwb : t.wb = none) (hgrant : t.grant = 0) (hm : s.Mild (.port n) 4) :
    Does (.bringupHold ln) s fun s' => Noted s s' (.port n) 4 [] ∧ s'.trk ln = some { t with err := 3, stage := .ended } ∧
      s'.threads = s.threads ∧ s'.out = s.out := by
  have hline : t.line = ln := by simpa using List.find?_some ht
  subst hline
  have hregs := ((State.tidy_iff s).mpr hcanon).regs
  have hwrite := bringupHold_eq hrun ht hstage
  rw [hwr, if_pos rfl, State.failWrite_port hk hsrc hdest hwb hgrant hm] at hwrite
  have honly := State.record_only (kind := 1) (info := 64 * t.req.line) (forced := false) hregs hm
  have hflag := State.record_flag (kind := 1) (info := 64 * t.req.line) (forced := false) hregs hm (by decide)
  generalize s.record (.port n) 4 1 (64 * t.req.line) false = u at hwrite honly hflag
  have htrk : u.trk t.line = some t := by
    rw [honly.rest]
    exact ht
  have hunmade := State.trk_setTrk (t := t.unmade) htrk
  refine ⟨_, hwrite, ⟨hflag, fun a ha _ => ?_⟩, State.trk_setTrk (t := t.unmade.over) hunmade, ?_, ?_⟩
  · refine honly.reg a fun hin => ?_
    obtain ⟨hlo, hhi⟩ := hin
    omega
  · rw [honly.rest]
    rfl
  · rw [honly.rest]
    rfl

/-- Settles O42: a request that enters an empty home order is looked at alone (`State.enterHome_eq`), so that it waits or takes
its line; the end of a transaction leaves nothing to do but its filter update and its answer (`State.endTrk_eq`). -/
theorem homeTransactions : Obligations.HomeTransactions := by
  refine ⟨fun s r hcanon hready hr hq hheld => ?_, fun s ln t hcanon hrun hclear ht hended htmo hgone hkeep hforced => ?_,
    fun s ln us n t hcanon hrun ht hstage hgone hsrc => ?_⟩
  · refine ⟨portArbiterAdmit_blocked hready hr hq hheld,
      fun p htrks hmoves hwalks htag hroom hset hk hseal hsf hmiss hseed hplace hopen => ?_⟩
    have htakes : s.ReadTakes r p :=
      ⟨⟨((State.tidy_iff s).mpr hcanon).regs, hset, hmiss, hseed, hplace, hopen⟩, hk, htrks, hmoves, hwalks, hseal, hsf⟩
    exact portArbiterAdmit_read htakes hready hr hq hheld htag hroom
  · obtain ⟨s', hexec, hline, hhome, hthreads, hregs, hsf, hrest⟩ :=
      transactionEnd_does hcanon hrun hclear ht hended htmo hgone hkeep hforced
    refine ⟨s', hexec, hline, hhome, hthreads, hregs, hsf.trans ?_, hrest⟩
    cases t.filt <;> rfl
  · refine ⟨fun tid hwr hk hdest hup hrsps hcr => ?_, fun hwr hk hdest hwb hgrant hm => ?_⟩
    · exact bringupHold_read hcanon hrun ht hstage hgone hsrc hwr hk hdest hup hrsps hcr
    · exact bringupHold_write hcanon hrun ht hstage hsrc hwr hk hdest hwb hgrant hm

end Sys2Proof.Machine
end

section
/-! The requests of ring agents (O43). -/

namespace Sys2Proof.Machine

section
variable {s s' : State} {r : RingIn} {code : Nat}

/-! ### A flit that a stop receives -/

/-- A wake event in the active state starts no wake. -/
theorem State.wakeEvent_flit (hpwr : s.pwr = .stable) (hp : s.pstate = 0) (arg : Nat) : s.wakeEvent 1 arg = s := by
  unfold State.wakeEvent
  split
  · rfl
  · simp only [hpwr, hp]
    rfl

/-- A well-formed flit at its stop does what its type says. -/
theorem State.flitIn_received (h : s.Receives r code) (f : Hdr → State → State) :
    s.flitIn r code f = f (Hdr.ofWord r.flit.hdr) s := by
  obtain ⟨hreset, hatt, hdst, hgood, htype, hpwr, hp⟩ := h
  unfold State.flitIn
  simp only [hreset, hatt, hdst, hgood, htype, State.wakeEvent_flit hpwr hp, Bool.false_eq_true, Bool.true_eq_false, if_false,
    ne_eq, not_true_eq_false]

theorem State.stop_lt_of_attached {n : Nat} (h : s.attached n = true) : n < 2 := by
  unfold State.attached State.attachHigh State.stopReady at h
  simp only [Bool.and_eq_true, decide_eq_true_eq] at h
  have hlt : n < s.variant.stops := h.2.1.1.1.1.2
  have hstops : s.variant.stops ≤ 2 := by cases s.variant <;> decide
  omega

/-- The payload mismatches its Hallmark where the stop checks it (R304). -/
def State.payloadBad (s : State) (r : RingIn) (h : Hdr) : Bool :=
  typePv h.type && s.flag (0x6400 + 0x200 * r.stop) 8 && decide ((hallmark r.flit.payload).toNat ≠ h.hm)

/-- The poison mark that the payload of a flit gets, and the state after its check. -/
def State.payloadOf (s : State) (r : RingIn) (h : Hdr) : Bool × State :=
  if typePv h.type then s.payloadCheck r h else (false, s)

theorem poison_eq_false {h : Hdr} (hgood : h.malformed = false) (hpv : typePv h.type = false) : h.poison = false := by
  unfold Hdr.malformed at hgood
  simp only [hpv, Bool.or_eq_false_iff] at hgood
  grind

theorem State.payloadOf_fst {h : Hdr} (hgood : h.malformed = false) :
    (s.payloadOf r h).1 = (h.poison || s.payloadBad r h) := by
  unfold State.payloadOf State.payloadBad
  cases hpv : typePv h.type with
  | true => rfl
  | false => simp [poison_eq_false hgood hpv]

theorem faultBase_stop (n : Nat) : faultBase (.stop n) = 0x6D80 + 0x80 * n := rfl

/-- The check of a payload changes no register that the home's decisions read. -/
theorem State.payloadOf_only {h : Hdr} (hregs : Tab.wf (resetWord s.variant) s.regs = true) (hm : s.Mild (.stop r.stop) 1)
    (hstop : r.stop < 2) : OnlyRegs asideReg s (s.payloadOf r h).2 := by
  have hraise : OnlyRegs asideReg s (s.raise (.stop r.stop) 1 1 (64 * h.ladr)) := by
    rw [State.raise_stop_mild hm]
    refine (State.record_only hregs hm).mono fun a ⟨hlo, hhi⟩ => .inr (.inl ?_)
    rw [faultBase_stop] at hlo hhi
    omega
  unfold State.payloadOf
  split
  · exact hraise.ite (.refl hregs)
  · exact .refl hregs

/-! ### A request enters the pool, or waits in the slice -/

theorem State.ringCharm_lt (s : State) (stop x : Nat) : s.ringCharm stop x < 64 := by
  unfold State.ringCharm State.fld bitsOf
  rw [show 8 * (x % 4) + 5 + 1 - 8 * (x % 4) = 6 by omega]
  exact Nat.mod_lt _ (by decide)

theorem Alike.ringCharm (h : Alike s s') {stop : Nat} (hstop : stop < 2) (x : Nat) :
    s'.ringCharm stop x = s.ringCharm stop x := by
  unfold State.ringCharm
  refine h.fld ?_
  simp only [asideReg]
  omega

theorem OnlyRegs.countLine {c : Nat} (h : OnlyRegs asideReg s s') (hc : c < 64) : OnlyRegs asideReg s (s'.countLine c) := by
  unfold State.countLine
  split
  · exact h
  · refine h.setFld ?_
    simp only [asideReg, chUsed]
    omega

theorem OnlyRegs.withNext (h : OnlyRegs asideReg s s') (n : Nat) :
    ∃ rg hist, { s' with nextId := n } = { s with regs := rg, hist := hist, nextId := n } :=
  ⟨s'.regs, s'.hist, by rw [h.rest]⟩

/-- The request of a flit as the block holds it. -/
def State.ringAsked (s : State) (r : RingIn) (kind : ReqKind) (h : Hdr) : Src × ReqKind × Nat × Dest × Line × Bool :=
  (.agent r.stop r.cw h.src, kind, h.ladr, .ring h.txn, r.flit.payload, h.poison || s.payloadBad r h)

/-- The state in which a request of a flit has been counted against its charm and has its number. -/
def State.ringAdmits (s : State) (r : RingIn) (kind : ReqKind) (h : Hdr) : Req × State :=
  let c := s.payloadOf r h
  c.2.admitReq (c.2.ringCharm r.stop h.src) (c.2.ringReq r h kind c.1)

theorem State.ringAdmits_req {kind : ReqKind} {h : Hdr} (hgood : h.malformed = false) :
    (s.ringAdmits r kind h).1.asks = s.ringAsked r kind h := by
  unfold State.ringAsked
  rw [← State.payloadOf_fst hgood]
  rfl

theorem State.ringAdmits_charm {kind : ReqKind} {h : Hdr} (hregs : Tab.wf (resetWord s.variant) s.regs = true)
    (hm : s.Mild (.stop r.stop) 1) (hstop : r.stop < 2) :
    (s.ringAdmits r kind h).1.stamp.charm = s.ringCharm r.stop h.src :=
  (State.payloadOf_only hregs hm hstop).alike.ringCharm hstop h.src

/-- Counting and checking a request changes no register that the home's decisions read. -/
theorem State.ringAdmits_only {kind : ReqKind} {h : Hdr} (hregs : Tab.wf (resetWord s.variant) s.regs = true)
    (hm : s.Mild (.stop r.stop) 1) (hstop : r.stop < 2) :
    Alike s (s.ringAdmits r kind h).2 ∧
      ∃ rg hist, (s.ringAdmits r kind h).2 = { s with regs := rg, hist := hist, nextId := s.nextId + 1 } := by
  have hpay := State.payloadOf_only (h := h) hregs hm hstop
  have hcount := hpay.countLine ((s.payloadOf r h).2.ringCharm_lt r.stop h.src)
  have hnext : (s.payloadOf r h).2.nextId = s.nextId := by rw [hpay.rest]
  have hsnd : (s.ringAdmits r kind h).2 = { (s.payloadOf r h).2.countLine ((s.payloadOf r h).2.ringCharm r.stop h.src) with
      nextId := (s.payloadOf r h).2.nextId + 1 } := rfl
  rw [hsnd, hnext]
  exact ⟨{ hcount.alike with }, hcount.withNext _⟩

theorem State.ringEnter_eq (s : State) (r : RingIn) (kind : Hdr → ReqKind) (h : Hdr) :
    s.ringEnter r kind h =
      let e := s.ringAdmits r (kind h) h
      if (e.2.rs r.stop).slice.isEmpty && e.2.mayEnter e.1 then e.2.poolAdd e.1
      else e.2.setRs r.stop { e.2.rs r.stop with slice := (e.2.rs r.stop).slice ++ [e.1] } := rfl

theorem State.rs_setRs {s : State} (h : Tab.wf (fun _ => Stop.init) s.stops = true) (n : Nat) (p : Stop) (k : Nat) :
    (s.setRs n p).rs k = if k = n then p else s.rs k :=
  tget_tset (Tab.wf_keys h) ..

/-- A request flit enters the pool, or the attach slice where credits are stopped or others wait. -/
theorem ringEnter_does {c : Instr} {kind : Hdr → ReqKind} (hcanon : s.Canonical) (hm : s.Mild (.stop r.stop) 1)
    (hc : exec c s = .next (s.flitIn r code fun h s => s.ringEnter r kind h)) (h : s.Receives r code) :
    let hd := Hdr.ofWord r.flit.hdr
    let may := (s.rs r.stop).slice = [] ∧ s.mayEnter (Req.mk0 (.agent r.stop r.cw hd.src) (kind hd) hd.ladr) = true
    Does c s fun s' => s'.homeQ = s.homeQ ∧ s'.trks = s.trks ∧ s'.threads = s.threads ∧ s'.out = s.out ∧
      (may → s'.pool.map Req.asks = s.pool.map Req.asks ++ [s.ringAsked r (kind hd) hd] ∧ (s'.rs r.stop).slice = [] ∧
        ∀ q ∈ s'.pool.getLast?, q.stamp.charm = s.ringCharm r.stop hd.src) ∧
      (¬may → s'.pool = s.pool ∧
        (s'.rs r.stop).slice.map Req.asks = (s.rs r.stop).slice.map Req.asks ++ [s.ringAsked r (kind hd) hd]) := by
  rw [State.flitIn_received h] at hc
  obtain ⟨-, hatt, -, hgood, -⟩ := h
  intro hd may
  refine ⟨_, hc, ?_⟩
  generalize hs' : s.ringEnter r kind (Hdr.ofWord r.flit.hdr) = s'
  have hstop := State.stop_lt_of_attached hatt
  have htidy := (State.tidy_iff s).mpr hcanon
  have hasks := State.ringAdmits_req (s := s) (r := r) (kind := kind hd) hgood
  have hcharm := State.ringAdmits_charm (kind := kind hd) (h := hd) htidy.regs hm hstop
  obtain ⟨halike, rg, hist, hw⟩ := State.ringAdmits_only (kind := kind hd) (h := hd) htidy.regs hm hstop
  have henter := hs'.symm.trans (s.ringEnter_eq r kind hd)
  have hmay : (s.ringAdmits r (kind hd) hd).2.mayEnter (s.ringAdmits r (kind hd) hd).1 =
      s.mayEnter (Req.mk0 (.agent r.stop r.cw hd.src) (kind hd) hd.ladr) :=
    halike.mayEnter (by rw [hw]) (by rw [hw]) _
  generalize s.ringAdmits r (kind hd) hd = e at hasks hcharm halike hw henter hmay
  obtain ⟨q, w⟩ := e
  dsimp only at hasks hcharm halike hw henter hmay
  have hrs : w.rs r.stop = s.rs r.stop := by
    rw [hw]
    rfl
  have hstops : Tab.wf (fun _ => Stop.init) w.stops = true := by
    rw [hw]
    exact htidy.stops
  rw [hmay, hrs] at henter
  by_cases hmay' : may
  · have hpool : s' = w.poolAdd q := by
      refine henter.trans (if_pos ?_)
      rw [hmay'.1, hmay'.2]
      rfl
    obtain ⟨cq, hadd⟩ := w.poolAdd_eq q
    rw [hpool, hadd, hw]
    refine ⟨rfl, rfl, rfl, rfl, fun _ => ⟨?_, hmay'.1, ?_⟩, fun h => absurd hmay' h⟩
    · rw [← hasks]
      exact List.map_append
    · intro x hx
      obtain rfl : q = x := by simpa using hx
      exact hcharm
  · have hslice : s' = w.setRs r.stop { s.rs r.stop with slice := (s.rs r.stop).slice ++ [q] } := by
      refine henter.trans (if_neg ?_)
      simpa [may] using hmay'
    have hrs' : s'.rs r.stop = { s.rs r.stop with slice := (s.rs r.stop).slice ++ [q] } := by
      rw [hslice, State.rs_setRs hstops, if_pos rfl]
    refine ⟨?_, ?_, ?_, ?_, fun h => absurd h hmay', fun _ => ⟨?_, ?_⟩⟩
    rotate_right
    · rw [hrs', ← hasks]
      exact List.map_append
    all_goals
      rw [hslice, hw]
      rfl

end

section
variable {s s' : State} {r : RingIn} {code : Nat}

/-! ### A write that goes to its queue -/

/-- A write need not wait for its plot: it is not sprouting and is written, or the line is behind the fill. -/
def State.seedGoes (s : State) (line : Nat) : Bool :=
  if s.sprouting (plotOf line) then s.belowFp line || (s.ewt.contains line && !s.fillFlies line)
  else !s.unwritten (plotOf line)

theorem Alike.seedGoes (h : Alike s s') (line : Nat) : s'.seedGoes line = s.seedGoes line := by
  unfold State.seedGoes State.sprouting
  rw [h.sproutSlot, h.belowFp, h.ewt, h.fillFlies, h.unwritten]

theorem State.seedEarly_free (s : State) (line : Nat) : (s.seedEarly line).2.free = s.free := by
  unfold State.seedEarly
  split
  · rfl
  · split
    · split <;> rfl
    · split <;> rfl

theorem State.startSprout_free {plot : Nat} (h : s.freeSlots ≠ []) : (s.startSprout plot).free = s.free + 1 := by
  unfold State.startSprout
  split
  · contradiction
  · rfl

/-- A write goes on and leaves the state as it is only where it need not wait. -/
theorem State.seedWrite_go {line : Nat} : s.seedWrite line = (.go, s) ↔ s.seedGoes line = true := by
  unfold State.seedWrite State.seedGoes
  by_cases hs : s.sprouting (plotOf line) = true
  · rw [if_pos hs, if_pos hs]
    unfold State.seedEarly
    by_cases hb : s.belowFp line = true
    · simp [hb]
    · rw [if_neg hb]
      by_cases hc : s.ewt.contains line = true
      · rw [if_pos hc, hc]
        cases hf : s.fillFlies line <;> simp [hb]
      · rw [if_neg hc, Bool.eq_false_iff.mpr hc]
        have hne : ∀ a, (a, { s with ewt := s.ewt ++ [line] }) ≠ (SeedWait.go, s) := by
          intro a h
          have hlen : (s.ewt ++ [line]).length = s.ewt.length := congrArg (fun x => x.2.ewt.length) h
          simp at hlen
        split
        · simp [hb]
        · simp [hb, hne]
  · rw [if_neg hs, if_neg hs]
    by_cases hu : s.unwritten (plotOf line) = true
    · rw [if_pos hu, hu]
      split
      · simp
      · rename_i hfree
        refine iff_of_false (fun h => ?_) (by decide)
        have := congrArg (fun x => x.2.free) h
        rw [State.seedEarly_free, State.startSprout_free hfree] at this
        exact absurd this (Nat.succ_ne_self _)
    · rw [if_neg hu]
      simp [hu]

/-- A tracker in the memory phase of a write. -/
def Trk.writing (t : Trk) : Trk := { t with wr := true }

/-- A write that waits for its queue entry at its place. -/
def Trk.queuedWr (t : Trk) (p : Place) : Trk := { t with wr := true, spot := some p, stage := .queue }

theorem State.memWrite_queue {t : Trk} {p : Place} (hk : t.req.kind ≠ .scrubWr) (hgo : s.seedGoes t.line = true)
    (hspot : t.spot = none) (hplace : s.place t.line = some p) (hopen : s.scOpen p.sc = true) :
    s.memWrite t = (s.dirties t.line).setTrk ((s.reach3 t).queuedWr p) := by
  have hgo' : (s.dirties t.line).seedWrite t.line = (.go, s.dirties t.line) := State.seedWrite_go.mpr hgo
  have hspot' : (s.dirties t.line).spotOf (s.reach3 t).writing = some p := by
    unfold State.spotOf State.reach3
    rw [hspot]
    exact hplace
  have hqueue : (s.dirties t.line).toQueue (s.reach3 t).writing p =
      (s.dirties t.line).setTrk ((s.reach3 t).queuedWr p) := if_pos hopen
  have hwrite : ∀ f, ((s.dirties t.line).spotOf (s.reach3 t).writing).elim f
      ((s.dirties t.line).toQueue (s.reach3 t).writing) = (s.dirties t.line).setTrk ((s.reach3 t).queuedWr p) := by
    intro f
    rw [hspot']
    exact hqueue
  unfold State.memWrite State.memWriteWith
  simp only [if_neg (show (s.reach3 t).req.kind ≠ .scrubWr from hk)]
  simp only [show (s.reach3 t).line = t.line from rfl, hgo']
  exact hwrite _

/-! ### A write-back or eviction notice -/

theorem State.trkRoom_of_empty (htrks : s.trks = []) {q : Req} {n : Nat} {cw : Bool} {x : Nat} (hsrc : q.src = .agent n cw x) :
    s.trkRoom q = true := by
  have hstop : ∀ n, s.stopTrks n = 0 := fun n => by
    unfold State.stopTrks
    rw [htrks]
    rfl
  have hshared : s.sharedTrks = 0 := by
    unfold State.sharedTrks
    simp [htrks, hstop]
  have hring : ringStop q = some n := by
    unfold ringStop
    rw [hsrc]
  unfold State.trkRoom State.trkFree
  rw [hring, hshared]
  simp only [Option.elim_some, hstop]
  by_cases h : s.ringRsv = 0
  · simp [h]
  · simp [Nat.pos_of_ne_zero h]

theorem State.tagHeld_of_untagged {q : Req} (h : q.otag = 0) : s.tagHeld q = false := by
  have hsame : ∀ a, sameTag a q = false := by
    intro a
    unfold sameTag
    rw [h]
    cases ha : a.otag <;> simp
  unfold State.tagHeld
  simp [hsame]

/-- The request of a write-back or eviction notice, and the state that it enters home order in. -/
def State.ringOwn (s : State) (r : RingIn) (kind : ReqKind) (h : Hdr) : Req × State :=
  let c := s.payloadOf r h
  ({ c.2.ringReq r h kind c.1 with id := c.2.nextId + 1, stamp := c.2.blockStamp }, { c.2 with nextId := c.2.nextId + 1 })

theorem State.ringDirect_eq (s : State) (r : RingIn) (kind : ReqKind) (h : Hdr) :
    s.ringDirect r kind h = (s.ringOwn r kind h).2.enterHome (s.ringOwn r kind h).1 := rfl

theorem State.ringOwn_only {kind : ReqKind} {h : Hdr} (hregs : Tab.wf (resetWord s.variant) s.regs = true)
    (hm : s.Mild (.stop r.stop) 1) (hstop : r.stop < 2) :
    Alike s (s.ringOwn r kind h).2 ∧
      ∃ rg hist, (s.ringOwn r kind h).2 = { s with regs := rg, hist := hist, nextId := s.nextId + 1 } := by
  have hpay := State.payloadOf_only (h := h) hregs hm hstop
  have hnext : (s.payloadOf r h).2.nextId = s.nextId := by rw [hpay.rest]
  have hsnd : (s.ringOwn r kind h).2 = { (s.payloadOf r h).2 with nextId := (s.payloadOf r h).2.nextId + 1 } := rfl
  rw [hsnd, hnext]
  exact ⟨{ hpay.alike with }, hpay.withNext _⟩

theorem State.ringOwn_req {kind : ReqKind} {h : Hdr} (hgood : h.malformed = false) :
    (s.ringOwn r kind h).1.asks = s.ringAsked r kind h := by
  unfold State.ringAsked
  rw [← State.payloadOf_fst hgood]
  rfl

/-- It waits in home order while its line is blocked. -/
theorem ringDirect_waits {c : Instr} {kind : ReqKind} (hcanon : s.Canonical) (hm : s.Mild (.stop r.stop) 1)
    (hc : exec c s = .next (s.flitIn r code fun h s => s.ringDirect r kind h)) (h : s.Receives r code)
    (hq : s.homeQ = []) (hb : s.blocked (Hdr.ofWord r.flit.hdr).ladr = true) :
    let hd := Hdr.ofWord r.flit.hdr
    Does c s fun s' => s'.homeQ.map Req.asks = [s.ringAsked r kind hd] ∧ s'.trks = s.trks ∧
      s'.pool = s.pool ∧ s'.threads = s.threads ∧ s'.out = s.out := by
  rw [State.flitIn_received h] at hc
  obtain ⟨-, hatt, -, hgood, -⟩ := h
  intro hd
  have hasks := State.ringOwn_req (s := s) (r := r) (kind := kind) hgood
  obtain ⟨-, rg, hist, hw⟩ := State.ringOwn_only (kind := kind) (h := hd) ((State.tidy_iff s).mpr hcanon).regs hm
    (State.stop_lt_of_attached hatt)
  obtain ⟨d, henter⟩ := State.enterHome_blocked (s := (s.ringOwn r kind hd).2) (r := (s.ringOwn r kind hd).1)
    (by rw [hw]; exact hq) (by rw [hw]; exact hb)
  rw [(s.ringDirect_eq r kind hd).trans henter, hw] at hc
  exact ⟨_, hc, congrArg (fun a => [a]) hasks, rfl, rfl, rfl, rfl⟩

/-- An idle home whose filter names the agent of a flit as the exclusive holder of the flit's line, which is not Sealed. -/
structure State.IdleFor (s : State) (h : Hdr) : Prop where
  homeQ : s.homeQ = []
  works : s.homeWorks = true
  trks : s.trks = []
  moves : s.moves = []
  walks : s.walks = []
  notSealed : s.isSealed h.ladr = false
  holds : s.sf h.ladr = some { line := h.ladr, sum := 2, agent := h.src }

/-- The request `q` of a flit has the only tracker, in a state `x` in which the home decides as in `s`; the filter names its
agent as the exclusive holder of its line. -/
structure State.OwnTaken (s : State) (r : RingIn) (kind : ReqKind) (x : State) (n : Nat) (q : Req) : Prop where
  asks : q.asks = s.ringAsked r kind (Hdr.ofWord r.flit.hdr)
  alike : Alike s x
  trks : x.trks = [Trk.ofReq n q]
  homeQ : x.homeQ = []
  pool : x.pool = s.pool
  threads : x.threads = s.threads
  kind : q.kind = kind
  line : q.line = (Hdr.ofWord r.flit.hdr).ladr
  holds : x.sf q.line = some { line := q.line, sum := 2, agent := reqAgent q }

/-- In an idle home it takes a tracker at once. -/
theorem ringDirect_takes {c : Instr} {kind : ReqKind} (hcanon : s.Canonical) (hm : s.Mild (.stop r.stop) 1)
    (hc : exec c s = .next (s.flitIn r code fun h s => s.ringDirect r kind h)) (h : s.Receives r code) (hkind : kind ≠ .move)
    (hidle : s.IdleFor (Hdr.ofWord r.flit.hdr)) :
    ∃ x n q, exec c s = .next (x.decideTake (Trk.ofReq n q)) ∧ s.OwnTaken r kind x n q := by
  rw [State.flitIn_received h] at hc
  obtain ⟨-, hatt, -, hgood, -⟩ := h
  have hasks := State.ringOwn_req (s := s) (r := r) (kind := kind) hgood
  obtain ⟨halike, rg, hist, hw⟩ := State.ringOwn_only (kind := kind) (h := Hdr.ofWord r.flit.hdr)
    ((State.tidy_iff s).mpr hcanon).regs hm (State.stop_lt_of_attached hatt)
  have hqtag : (s.ringOwn r kind (Hdr.ofWord r.flit.hdr)).1.otag = 0 := rfl
  rw [s.ringDirect_eq] at hc
  generalize s.ringOwn r kind (Hdr.ofWord r.flit.hdr) = e at hasks halike hw hqtag hc
  obtain ⟨q, w⟩ := e
  dsimp only at hasks halike hw hqtag hc
  have hqsrc : q.src = .agent r.stop r.cw (Hdr.ofWord r.flit.hdr).src := congrArg (fun a => a.1) hasks
  have hqkind : q.kind = kind := congrArg (fun a => a.2.1) hasks
  have hqline : q.line = (Hdr.ofWord r.flit.hdr).ladr := congrArg (fun a => a.2.2.1) hasks
  have hqagent : reqAgent q = (Hdr.ofWord r.flit.hdr).src := by
    unfold reqAgent
    rw [hqsrc]
  have hwtrks : w.trks = [] := by
    rw [hw]
    exact hidle.trks
  have hb : w.blocked q.line = false := by simp [State.blocked, hwtrks, halike.moves, hidle.moves]
  have hwalk : w.walkHeld q = false := by simp [State.walkHeld, halike.walks, hidle.walks]
  obtain ⟨d, henter⟩ := State.enterHome_free (s := w) (r := q) (by rw [hw]; exact hidle.homeQ)
    (by rw [halike.homeWorks, hidle.works]) (State.tagHeld_of_untagged hqtag) hb (State.trkRoom_of_empty hwtrks hqsrc) hwalk
  generalize hu : ({ w with scrubDirty := d, homeQ := [], nextId := w.nextId + 1 } : State) = u at henter
  have hua : Alike s u := by
    rw [← hu]
    exact { halike with }
  have hunsealed : u.isSealed (w.placed q).line = false := by
    rw [hua.isSealed, show (w.placed q).line = _ from hqline, hidle.notSealed]
  have hmove : (w.placed q).kind ≠ .move := by
    rw [show (w.placed q).kind = _ from hqkind]
    exact hkind
  refine ⟨_, _, _, hc.trans (congrArg _ (henter.trans (State.take_unsealed hmove hunsealed))), hasks, { hua with }, ?_,
    ?_, ?_, ?_, hqkind, hqline, ?_⟩
  · rw [← hu]
    exact congrArg (· ++ _) hwtrks
  · rw [← hu]
    rfl
  · rw [← hu, hw]
    rfl
  · rw [← hu, hw]
    rfl
  · refine (hua.sf q.line).trans ?_
    rw [hqline, hidle.holds]
    exact congrArg₂ (fun l a => some (SfEnt.mk l 2 a)) hqline.symm hqagent.symm

/-- The transaction of an agent that gives up its copy. -/
def Trk.cleared (t : Trk) : Trk := { t with filt := .clear }

theorem State.decideTake_evict {t : Trk} {l : Nat} (hk : t.req.kind = .evict)
    (hsf : s.sf t.line = some { line := l, sum := 2, agent := reqAgent t.req }) : s.decideTake t = s.setTrk t.cleared := by
  unfold State.decideTake
  simp only [hk, hsf, and_self, if_true]
  rfl

theorem State.decideTake_wrBack {t : Trk} {l : Nat} (hk : t.req.kind = .wrBack)
    (hsf : s.sf t.line = some { line := l, sum := 2, agent := reqAgent t.req }) : s.decideTake t = s.memWrite t.cleared := by
  unfold State.decideTake
  simp only [hk, hsf, and_self, if_true]
  rfl

/-- An eviction notice of the exclusive holder takes a tracker that has nothing more to do. -/
theorem evictClean_takes (hcanon : s.Canonical) (hm : s.Mild (.stop r.stop) 1) (h : s.Receives r 0x09)
    (hidle : s.IdleFor (Hdr.ofWord r.flit.hdr)) :
    Does (.evictClean r) s fun s' => s'.homeQ = [] ∧ s'.pool = s.pool ∧ s'.threads = s.threads ∧ ∃ k, s'.trks = [k] ∧
      k.req.asks = s.ringAsked r .evict (Hdr.ofWord r.flit.hdr) ∧ k.filt = .clear ∧ k.stage = .ended := by
  obtain ⟨x, n, q, hexec, hq⟩ :=
    ringDirect_takes (c := .evictClean r) (kind := .evict) hcanon hm rfl h ReqKind.noConfusion hidle
  rw [State.decideTake_evict (t := Trk.ofReq n q) hq.kind hq.holds,
    State.setTrk_single (t := (Trk.ofReq n q).cleared) hq.trks rfl] at hexec
  exact ⟨_, hexec, hq.homeQ, hq.pool, hq.threads, _, rfl, hq.asks, rfl, rfl⟩

/-- A write-back of the exclusive holder takes a tracker and goes to the queue of its sub-channel. -/
theorem wrBack_takes {p : Place} (hcanon : s.Canonical) (hm : s.Mild (.stop r.stop) 1) (h : s.Receives r 0x08)
    (hidle : s.IdleFor (Hdr.ofWord r.flit.hdr)) (hplace : s.place (Hdr.ofWord r.flit.hdr).ladr = some p)
    (hopen : s.scOpen p.sc = true) (hseed : s.seedWrite (Hdr.ofWord r.flit.hdr).ladr = (.go, s)) :
    Does (.wrBack r) s fun s' => s'.homeQ = [] ∧ s'.pool = s.pool ∧ s'.threads = s.threads ∧ ∃ k, s'.trks = [k] ∧
      k.req.asks = s.ringAsked r .wrBack (Hdr.ofWord r.flit.hdr) ∧ k.filt = .clear ∧ k.stage = .queue := by
  obtain ⟨x, n, q, hexec, hq⟩ :=
    ringDirect_takes (c := .wrBack r) (kind := .wrBack) hcanon hm rfl h ReqKind.noConfusion hidle
  rw [← hq.line] at hseed hplace
  have hkind : q.kind ≠ .scrubWr := fun hk => ReqKind.noConfusion (hq.kind.symm.trans hk)
  have hqueue := State.memWrite_queue (s := x) (t := (Trk.ofReq n q).cleared) hkind
    ((hq.alike.seedGoes _).trans (State.seedWrite_go.mp hseed)) rfl ((hq.alike.place _).trans hplace)
    ((hq.alike.scOpen _).trans hopen)
  have hset := State.setTrk_single (s := x.dirties q.line) (t := (x.reach3 (Trk.ofReq n q).cleared).queuedWr p) hq.trks rfl
  rw [State.decideTake_wrBack (t := Trk.ofReq n q) hq.kind hq.holds, hqueue] at hexec
  exact ⟨_, hexec.trans (congrArg _ hset), hq.homeQ, hq.pool, hq.threads, _, rfl, hq.asks, rfl, rfl⟩

end

/-- Settles O43: what a flit's check, its count and its number change, the home's decisions do not read (`Alike`). -/
theorem ringRequests : Obligations.RingRequests := by
  intro s r hcanon hm
  refine ⟨ringEnter_does (kind := fun _ => .rdS) hcanon hm rfl, ringEnter_does (kind := fun _ => .rdU) hcanon hm rfl,
    ringEnter_does (kind := fun _ => .upg) hcanon hm rfl, ringEnter_does (kind := fun _ => .rdNc) hcanon hm rfl,
    ringEnter_does (kind := fun _ => .wrFull) hcanon hm rfl,
    ringEnter_does (kind := fun h => .stash (h.op % 64)) hcanon hm rfl,
    ringEnter_does (kind := fun h => .atom h.op h.offset) hcanon hm rfl, ringDirect_waits (kind := .wrBack) hcanon hm rfl,
    ringDirect_waits (kind := .evict) hcanon hm rfl, ?_, ?_⟩
  · intro h hq hworks htrks hmoves hwalks hseal hsf
    exact evictClean_takes hcanon hm h ⟨hq, hworks, htrks, hmoves, hwalks, hseal, hsf⟩
  · intro p hplace hopen hseed h hq hworks htrks hmoves hwalks hseal hsf
    exact wrBack_takes hcanon hm h ⟨hq, hworks, htrks, hmoves, hwalks, hseal, hsf⟩ hplace hopen hseed

end Sys2Proof.Machine
end

section
/-! Accesses of the configuration window that a port can make at once (O17, O18). -/

namespace Sys2Proof.Machine

/-! ### Every command answers a next state -/

section
variable (s : State)

theorem State.regAccess_next (p : Port) (b : Bool) (a : HeldAcc) : ∃ t, s.regAccess p b a = .next t := by
  cases b
  · exact ⟨s, rfl⟩
  · exact ⟨_, rfl⟩

theorem State.ctxSource_next (src : CmdSrc) (code : Nat) : ∃ t, s.ctxSource src code = .next t := by
  cases src with
  | word p ctx => exact s.regAccess_next ..
  | port n req => exact ⟨_, rfl⟩

theorem execAppend_next (src : AppendSrc) : ∃ t, execAppend src s = .next t := by
  cases src with
  | word p ctx v => exact s.regAccess_next ..
  | port n req => exact ⟨_, rfl⟩

end

/-- Settles O18: a command that may name a part that the configuration lacks leaves the state as it is where it does;
every other command's meaning is a next state. -/
theorem commandsComplete : Obligations.CommandsComplete := by
  intro c s
  cases c with
  | kick | abort | clear => exact s.ctxSource_next ..
  | append => exact execAppend_next ..
  | unitEnable | unitDisable | clrFault | engFclr | instrStoreWrite | progData | loadArm | graftGo | abandon | evfSet
  | enable | disable | claspBreak | sbGo | hold | release | fltAck | fltForce | histClr | fltHistE0 | take | ftake =>
    exact s.regAccess_next ..
  | _ => exact ⟨_, rfl⟩

/-! ### An access that an open port makes at once -/

section
variable {s : State} {p : Port} {addr : Nat} {a : HeldAcc}

/-- A port that answers with what an access leaves: the configuration port keeps back the response to a write that has
started a relock or a TRIM (R387, R490). -/
def State.answered (p : Port) (r : (W32 × Bool) × State) : State :=
  if p = .cfg ∧ r.2.cfgBusy ≠ .none then r.2 else r.2.emit (.portRsp p r.1.1 r.1.2)

theorem State.answered_of_cfgBusy {r : (W32 × Bool) × State} (h : p = .cfg → r.2.cfgBusy = .none) :
    State.answered p r = r.2.emit (.portRsp p r.1.1 r.1.2) :=
  if_neg fun hc => hc.2 (h hc.1)

/-- What makes a write of a site wait makes no less a read of it wait. -/
theorem State.siteWaits_of_write {wr : Bool} {x : Site} (h : s.siteWaits true x = false) : s.siteWaits wr x = false := by
  cases wr with
  | true => exact h
  | false =>
    simp only [State.siteWaits, Bool.true_and, Bool.or_eq_false_iff] at h
    simp [State.siteWaits, h.1]

theorem State.PortOpen.waits (h : s.PortOpen p a.addr) : s.waits a = false := by
  obtain ⟨hrun, hinit, hsite, -, -⟩ := h
  have hfree : (siteOf s.variant a.addr).elim false (s.siteWaits a.isWrite) = false := by
    cases hx : siteOf s.variant a.addr with
    | none => rfl
    | some x =>
      rw [hx] at hsite
      exact State.siteWaits_of_write (Bool.not_eq_true' _ ▸ hsite)
  cases a <;> simp only [State.waits, hrun, hinit, hfree, Bool.not_true, Bool.or_false]

theorem State.PortOpen.logicUp (h : s.PortOpen p addr) : s.logicUp = true := (Bool.and_eq_true_iff.mp h.1).1

/-- An access at the head of the configuration port's queue that need not wait is made. -/
theorem serveCfg_one {rest : List HeldAcc} (hbusy : s.cfgBusy = .none) (hqueue : s.cfgQueue = a :: rest)
    (hw : s.waits a = false) : serveCfg 1 s = State.cfgAnswer ({ s with cfgQueue := rest }.perform a) := by
  rw [serveCfg, if_neg (not_not.mpr hbusy), hqueue]
  exact if_neg (Bool.eq_false_iff.mp hw)

/-- An open port makes the access and answers it (R35, R561). -/
theorem State.PortOpen.access (h : s.PortOpen p a.addr) : s.access p a = .next (State.answered p (s.perform a)) := by
  have hw := h.waits
  have hup := h.logicUp
  obtain ⟨-, hinit, -, hcfg, hdbg⟩ := h
  cases p with
  | cfg =>
    obtain ⟨hbusy, hqueue⟩ := hcfg rfl
    have hs : { s with cfgQueue := [] } = s := by rw [← hqueue]
    have hcfgUp : s.cfgUp = true := Bool.and_eq_true_iff.mpr ⟨hup, hinit⟩
    have hserve : s.cfgAccess a = State.cfgAnswer (s.perform a) := by
      rw [State.cfgAccess, if_pos hcfgUp, hqueue]
      exact (serveCfg_one (s := { s with cfgQueue := [a] }) hbusy rfl hw).trans
        (congrArg (fun t => State.cfgAnswer (State.perform t a)) hs)
    show Host.Outcome.next (s.cfgAccess a) = _
    rw [hserve]
    simp only [State.cfgAnswer, State.answered, true_and, ne_eq, ite_not]
  | dbg =>
    obtain ⟨hlevel, hqueue⟩ := hdbg rfl
    show Host.Outcome.next (if s.logicUp then s.dbgAccess a else s) = _
    simp [State.dbgAccess, State.permits, hlevel, State.dbgMake, hqueue, hw, hup, State.answered]

end

/-! ### Bits of a register word -/

section
variable {s : State} {a i j : Nat} {b : Bool}

theorem bitOf_eq_bitsOf {n : Nat} (w : BitVec n) (i : Nat) : bitOf w i = (bitsOf w i i == 1) := by simp [bitOf, bitsOf]

theorem State.regs_wf_setFlag (h : Tab.wf (resetWord s.variant) s.regs = true) (a i : Nat) (b : Bool) :
    Tab.wf (resetWord (s.setFlag a i b).variant) (s.setFlag a i b).regs = true :=
  State.regs_wf_setReg h ..

/-- Storing a bit leaves every other bit of its word. -/
theorem State.flag_setFlag_ne (h : Tab.wf (resetWord s.variant) s.regs = true) (hi : i < 32) (hj : j ≠ i) :
    (s.setFlag a i b).flag a j = s.flag a j := by
  have hbits : bitsOf (putBits (s.reg a) i i (b2n b)) j j = bitsOf (s.reg a) j j := by
    rcases Nat.lt_or_gt_of_ne hj with hlt | hgt
    · exact bitsOf_putBits_below _ le_rfl hi _ hlt
    · exact bitsOf_putBits_above _ le_rfl hi _ hgt
  unfold State.flag
  rw [State.reg_setFlag h, if_pos rfl, bitOf_eq_bitsOf, bitOf_eq_bitsOf, hbits]

end

/-! ### CFG_STATUS and CFG_IGN_ADDR (R65, R66) -/

section
variable {s : State} {i off : Nat}

theorem State.cfgFlag_rest : s.cfgFlag i off = { s with regs := (s.cfgFlag i off).regs } := by
  unfold State.cfgFlag
  split <;> rfl

variable (h : Tab.wf (resetWord s.variant) s.regs = true)
include h

theorem State.cfgFlag_reg {b : Nat} (hs : b ≠ cfgStatus) (ha : b ≠ cfgIgnAddr) : (s.cfgFlag i off).reg b = s.reg b := by
  have h1 := State.regs_wf_setFlag h cfgStatus i true
  unfold State.cfgFlag
  split
  · rw [State.reg_setReg h1, if_neg ha, State.reg_setFlag h, if_neg hs]
  · rw [State.reg_setFlag h1, if_neg hs, State.reg_setFlag h, if_neg hs]

theorem State.cfgFlag_flag (hi : i < 3) : (s.cfgFlag i off).flag cfgStatus i = true := by
  have h1 := State.regs_wf_setFlag h cfgStatus i true
  have hset : (s.setFlag cfgStatus i true).flag cfgStatus i = true := State.flag_setFlag h (by omega)
  unfold State.cfgFlag
  split
  · exact (congrArg (bitOf · i) (State.reg_setReg h1 ..)).trans hset
  · exact (State.flag_setFlag_ne h1 (by decide) (by omega)).trans hset

theorem State.cfgFlag_ignAddr (ho : off < 2 ^ 24) : (s.cfgFlag i off).reg cfgIgnAddr =
    if s.fld cfgStatus 2 0 = 0 then BitVec.ofNat 32 (i * 2 ^ 24 + off) else s.reg cfgIgnAddr := by
  have h1 := State.regs_wf_setFlag h cfgStatus i true
  unfold State.cfgFlag
  split
  · rw [State.reg_setReg h1, if_pos rfl, Nat.mod_eq_of_lt ho]
  · rw [State.reg_setFlag h1, if_neg (by decide), State.reg_setFlag h, if_neg (by decide)]

end

/-! ### Accesses that are refused (R33, R34) -/

section
variable {s : State} {p : Port} {a : HeldAcc} {i : Nat}

/-- An access that an open port refuses records the reason and changes nothing else. -/
theorem State.PortOpen.refused {c : Instr} (hcanon : s.Canonical) (h : s.PortOpen p a.addr) (haddr : a.addr < 2 ^ 24)
    (hi : i < 3) (hexec : exec c s = s.access p a) (hdoes : s.perform a = ((0, true), s.cfgFlag i a.addr)) :
    Does c s fun s' => s'.out = .portRsp p 0 true :: s.out ∧ s'.flag cfgStatus i = true ∧
      (∀ b, b ≠ cfgStatus → b ≠ cfgIgnAddr → s'.reg b = s.reg b) ∧
      s'.reg cfgIgnAddr = (if s.fld cfgStatus 2 0 = 0 then BitVec.ofNat 32 (i * 2 ^ 24 + a.addr) else s.reg cfgIgnAddr) ∧
      s' = { s with regs := s'.regs, out := s'.out } := by
  have hbusy : p = .cfg → (s.cfgFlag i a.addr).cfgBusy = .none := fun hp => by
    rw [State.cfgFlag_rest]
    exact (h.2.2.2.1 hp).1
  have hout : (s.cfgFlag i a.addr).out = s.out := by rw [State.cfgFlag_rest]
  refine ⟨(s.cfgFlag i a.addr).emit (.portRsp p 0 true), ?_, congrArg _ hout, State.cfgFlag_flag hcanon.1 hi,
    fun b hs ha => State.cfgFlag_reg hcanon.1 hs ha, State.cfgFlag_ignAddr hcanon.1 haddr, ?_⟩
  · rw [hexec, h.access, hdoes, State.answered_of_cfgBusy hbusy]
  · show State.emit (s.cfgFlag i a.addr) _ = _
    rw [State.cfgFlag_rest]
    rfl

end

/-- Settles O17: an access of a wrong form and one of an unmapped offset are refused alike, with BAD_WIDTH and UNMAPPED. -/
theorem busErrors : Obligations.BusErrors := by
  intro s p a v hcanon hopen
  have hlt : a.addr.toNat < 2 ^ 24 := a.addr.isLt
  refine ⟨fun hform => ?_, fun hbytes halign hsite => ?_⟩
  · have hplain : plainAccess a = false := by
      rcases hform with hb | hb <;> simp [plainAccess, hb]
    exact ⟨State.PortOpen.refused (a := .bad p a.addr.toNat true) hcanon hopen hlt (by decide)
        (by simp [exec, execRegWrite, hplain]) rfl,
      State.PortOpen.refused (a := .bad p a.addr.toNat false) hcanon hopen hlt (by decide)
        (by simp [exec, execReadClear, hplain]) rfl⟩
  · have hplain : plainAccess a = true := by simp [plainAccess, hbytes, halign]
    exact ⟨State.PortOpen.refused (a := .write p a.addr.toNat v) hcanon hopen hlt (by decide)
        (by simp [exec, execRegWrite, hplain]) (by simp [State.perform, State.busWrite, hsite, State.unmapped, HeldAcc.addr]),
      State.PortOpen.refused (a := .read p a.addr.toNat) hcanon hopen hlt (by decide)
        (by simp [exec, execReadClear, hplain]) (by simp [State.perform, State.busRead, hsite, State.unmapped, HeldAcc.addr])⟩

end Sys2Proof.Machine
end

section
/-! What leaves the configuration port's pending response alone (O19, O20): `cfgBusy` says whether the port keeps back the
response to a write that has started a relock or a TRIM (R387, R490). Enabling and disabling a unit and reading a register
reach a large part of the model, and none of it touches that. One lemma per function, in the order of the model's files. -/

namespace Sys2Proof.Machine

/-! ### Choices and folds -/

section
variable {α : Type} {c : Prop} [Decidable c] {s : State}

@[simp] theorem cfgBusy_ite {s t : State} : (if c then s else t).cfgBusy = if c then s.cfgBusy else t.cfgBusy :=
  apply_ite State.cfgBusy c s t

@[simp] theorem cfgBusy_snd_ite {x y : α × State} :
    (if c then x else y).2.cfgBusy = if c then x.2.cfgBusy else y.2.cfgBusy :=
  apply_ite (fun x : α × State => x.2.cfgBusy) c x y

@[simp] theorem cfgBusy_cmdRes_ite {x y : CmdRes} : (if c then x else y).s.cfgBusy = if c then x.s.cfgBusy else y.s.cfgBusy :=
  apply_ite (fun x : CmdRes => x.s.cfgBusy) c x y

@[simp] theorem cfgBusy_foldl {f : State → α → State} (h : ∀ s x, (f s x).cfgBusy = s.cfgBusy) {l : List α} :
    (l.foldl f s).cfgBusy = s.cfgBusy :=
  List.foldlRecOn (motive := fun t => t.cfgBusy = s.cfgBusy) l f rfl fun t ht x _ => (h t x).trans ht

/-- A next state, if there is one, has the response pending that `s` has. -/
def KeepsBusy (s : State) (o : Option State) : Prop := ∀ t ∈ o, t.cfgBusy = s.cfgBusy

theorem KeepsBusy.some {t : State} (h : t.cfgBusy = s.cfgBusy) : KeepsBusy s (some t) := fun _ e => Option.some.inj e ▸ h
theorem KeepsBusy.none : KeepsBusy s none := fun _ e => nomatch e

theorem KeepsBusy.ite {x y : Option State} (hx : KeepsBusy s x) (hy : KeepsBusy s y) : KeepsBusy s (if c then x else y) :=
  iteInduction (motive := KeepsBusy s) (fun _ => hx) fun _ => hy

end

/-! ### Registers, events of fault blocks, charms -/

section
variable {s : State} {a hi lo n i : Nat} {v : Bool} {b : FaultRef} {src kind info : Nat}

@[simp] theorem State.setFld_cfgBusy : (s.setFld a hi lo n).cfgBusy = s.cfgBusy := State.setReg_cfgBusy ..
@[simp] theorem State.setFlag_cfgBusy : (s.setFlag a i v).cfgBusy = s.cfgBusy := State.setReg_cfgBusy ..
@[simp] theorem State.setReg2_cfgBusy : (s.setReg2 a n).cfgBusy = s.cfgBusy :=
  (State.setReg_cfgBusy ..).trans (State.setReg_cfgBusy ..)
@[simp] theorem State.count2_cfgBusy : (s.count2 a).cfgBusy = s.cfgBusy := State.setReg2_cfgBusy
@[simp] theorem State.setCtxState_cfgBusy : (s.setCtxState a n).cfgBusy = s.cfgBusy := State.setFld_cfgBusy

@[simp] theorem State.readDone_cfgBusy {t : Stamp} : (s.readDone t).cfgBusy = s.cfgBusy := by simp [State.readDone]

@[simp] theorem State.spEmit_cfgBusy {r : SpRsp} : (s.spEmit n r).cfgBusy = s.cfgBusy := by
  unfold State.spEmit
  cases r.stamp <;> simp

@[simp] theorem spDrain_cfgBusy : (spDrain a n s).cfgBusy = s.cfgBusy := by
  induction a generalizing s with
  | zero => rfl
  | succ fuel ih =>
    unfold spDrain
    dsimp only
    split
    · rfl
    · simp [ih]

@[simp] theorem State.spRespond_cfgBusy {r : SpRsp} : (s.spRespond n r).cfgBusy = s.cfgBusy := by simp [State.spRespond]

@[simp] theorem State.countLine_cfgBusy : (s.countLine n).cfgBusy = s.cfgBusy := by simp [State.countLine]

@[simp] theorem State.settle_cfgBusy : (s.settle n).cfgBusy = s.cfgBusy := by
  unfold State.settle
  dsimp only
  split <;> rfl

@[simp] theorem State.poolAdd_cfgBusy {r : Req} : (s.poolAdd r).cfgBusy = s.cfgBusy := State.settle_cfgBusy
@[simp] theorem State.enter_cfgBusy {r : Req} : (s.enter n r).cfgBusy = s.cfgBusy := by simp [State.enter, State.admitReq]

@[simp] theorem State.updChan_cfgBusy {f : Chan → Chan} : (s.updChan n f).cfgBusy = s.cfgBusy := by
  unfold State.updChan
  extract_lets c c' en
  split
  · exact State.setChan_cfgBusy ..
  · exact (State.setReg_cfgBusy ..).trans (State.setChan_cfgBusy ..)

@[simp] theorem State.addHist_cfgBusy {e : HistEnt} : (s.addHist b e).cfgBusy = s.cfgBusy := by simp [State.addHist]
@[simp] theorem State.onset_cfgBusy : s.onset.cfgBusy = s.cfgBusy := by simp [State.onset]
@[simp] theorem State.enterGrave_cfgBusy : (s.enterGrave b src).cfgBusy = s.cfgBusy := by simp [State.enterGrave]
@[simp] theorem State.record_cfgBusy : (s.record b src kind info v).cfgBusy = s.cfgBusy := by simp [State.record]
@[simp] theorem State.isolate_cfgBusy : (s.isolate n b src).cfgBusy = s.cfgBusy := State.updChan_cfgBusy
@[simp] theorem State.portFall_cfgBusy : (s.portFall n).cfgBusy = s.cfgBusy := rfl
@[simp] theorem State.portsDown_cfgBusy : s.portsDown.cfgBusy = s.cfgBusy := rfl
@[simp] theorem State.levelDrop_cfgBusy : s.levelDrop.cfgBusy = s.cfgBusy := by simp [State.levelDrop]

/-- The stop of every channel on an event of the PHY (R520). -/
theorem foldl_isolate_cfgBusy {g : Chan → Chan} {l : List Nat} :
    (l.foldl (fun s n => (s.isolate n .phy src).updChan n g) s).cfgBusy = s.cfgBusy := by
  induction l generalizing s with
  | nil => rfl
  | cons n l ih => rw [List.foldl_cons, ih, State.updChan_cfgBusy, State.isolate_cfgBusy]

@[simp] theorem State.graveStop_cfgBusy : (s.graveStop b src).cfgBusy = s.cfgBusy := by
  cases b with
  | chan n => rw [State.graveStop, State.updChan_cfgBusy]
  | port n => rw [State.graveStop, State.portFall_cfgBusy]
  | phy => exact foldl_isolate_cfgBusy
  | security => rw [State.graveStop, State.levelDrop_cfgBusy]
  | _ => rfl

@[simp] theorem State.reactLow_cfgBusy {eff : Nat} : (s.reactLow b src info eff v).cfgBusy = s.cfgBusy := by
  simp [State.reactLow]

@[simp] theorem State.raiseLow_cfgBusy : (s.raiseLow b src kind info).cfgBusy = s.cfgBusy := by simp [State.raiseLow]

end

/-! ### Clasps and the Locket -/

section
variable {s : State} {n line owner : Nat} {w : ClaspWait} {x : LkLine} {hdr : Bool}

@[simp] theorem State.claspResult_cfgBusy : (s.claspResult w n).cfgBusy = s.cfgBusy := by
  unfold State.claspResult
  split
  · rfl
  · dsimp only
    split <;> rfl

@[simp] theorem State.claspTake_cfgBusy : (s.claspTake w).cfgBusy = s.cfgBusy := State.claspResult_cfgBusy

@[simp] theorem claspRefill_cfgBusy : (claspRefill n s).cfgBusy = s.cfgBusy := by
  induction n generalizing s with
  | zero => rfl
  | succ fuel ih =>
    unfold claspRefill
    split
    · rfl
    · dsimp only
      split
      · rfl
      · split <;> simp [ih]

@[simp] theorem State.claspHandOn_cfgBusy : (s.claspHandOn n).cfgBusy = s.cfgBusy := by
  unfold State.claspHandOn
  split <;> simp

@[simp] theorem State.claspBreakNow_cfgBusy : (s.claspBreakNow n).cfgBusy = s.cfgBusy := State.claspHandOn_cfgBusy
@[simp] theorem State.claspLoss_cfgBusy : (s.claspLoss n).cfgBusy = s.cfgBusy := by simp [State.claspLoss]
@[simp] theorem State.claspWithdraw_cfgBusy : (s.claspWithdraw owner).cfgBusy = s.cfgBusy := claspRefill_cfgBusy
@[simp] theorem State.claspLossAll_cfgBusy : (s.claspLossAll owner).cfgBusy = s.cfgBusy := by simp [State.claspLossAll]

@[simp] theorem State.tagCheck_cfgBusy : (s.tagCheck line).cfgBusy = s.cfgBusy := by simp [State.tagCheck, State.setLkSet]
@[simp] theorem State.lkHit_cfgBusy : (s.lkHit hdr x).2.cfgBusy = s.cfgBusy := by
  unfold State.lkHit
  dsimp only
  split
  · rfl
  · exact State.raiseLow_cfgBusy

@[simp] theorem State.lkLookup_cfgBusy : (s.lkLookup hdr line).2.cfgBusy = s.cfgBusy := by
  unfold State.lkLookup
  split
  · rfl
  · dsimp only
    split <;> simp

@[simp] theorem State.lkInval_cfgBusy : s.lkInval.cfgBusy = s.cfgBusy := rfl

end

/-! ### Answers of the home, and the Seed Map -/

section
variable {s : State} {t : Trk} {a : Ans} {b : FaultRef} {src line n kind txn grant : Nat} {cw : Bool} {p : Place}

@[simp] theorem State.setTrk_cfgBusy : (s.setTrk t).cfgBusy = s.cfgBusy := rfl
@[simp] theorem State.settleTrk_cfgBusy : (s.settleTrk t).cfgBusy = s.cfgBusy := rfl
@[simp] theorem State.holdTrk_cfgBusy : (s.holdTrk t).cfgBusy = s.cfgBusy := rfl
@[simp] theorem State.toQueue_cfgBusy : (s.toQueue t p).cfgBusy = s.cfgBusy := by simp [State.toQueue]
@[simp] theorem State.openAns_cfgBusy {poison tmo : Bool} : (s.openAns n poison tmo).2.cfgBusy = s.cfgBusy := rfl
@[simp] theorem State.snoop_cfgBusy : (s.snoop t kind).cfgBusy = s.cfgBusy := by
  rw [State.snoop, cfgBusy_ite]
  exact ite_self _

@[simp] theorem State.exitCheck_cfgBusy : (s.exitCheck b src line a).2.cfgBusy = s.cfgBusy := by
  unfold State.exitCheck
  split
  · rfl
  · exact State.raiseLow_cfgBusy

@[simp] theorem State.readOut_cfgBusy {x : Stamp} : (s.readOut x a).cfgBusy = s.cfgBusy := by simp [State.readOut]

@[simp] theorem State.sendDat_cfgBusy {st x : Nat} : (s.sendDat t st cw x txn grant a).cfgBusy = s.cfgBusy := by
  simp [State.sendDat, State.ringSend]

@[simp] theorem State.lineDone_cfgBusy {run : Option (Nat × Nat)} : (s.lineDone run).cfgBusy = s.cfgBusy := by
  unfold State.lineDone
  split <;> simp

@[simp] theorem State.deliver_cfgBusy : (s.deliver t a grant).cfgBusy = s.cfgBusy := by
  have hpref : (if t.req.kind = .pref then s.lineDone t.req.run else s).cfgBusy = s.cfgBusy := by simp
  unfold State.deliver
  extract_lets s1
  split
  · exact hpref
  · split
    · simp [s1]
    · simp [s1]
    · split
      · exact State.readOut_cfgBusy.trans hpref
      · exact hpref
    · exact hpref
    · exact hpref

@[simp] theorem State.refuseRead_cfgBusy {poison tmo : Bool} : (s.refuseRead t n poison tmo).cfgBusy = s.cfgBusy := by
  simp [State.refuseRead]

@[simp] theorem State.startSprout_cfgBusy : (s.startSprout n).cfgBusy = s.cfgBusy := by
  unfold State.startSprout
  split <;> rfl

@[simp] theorem State.seedEarly_cfgBusy : (s.seedEarly line).2.cfgBusy = s.cfgBusy := by simp [State.seedEarly]
@[simp] theorem State.seedWrite_cfgBusy : (s.seedWrite line).2.cfgBusy = s.cfgBusy := by simp [State.seedWrite]
@[simp] theorem State.sealedEvent_cfgBusy : (s.sealedEvent line).cfgBusy = s.cfgBusy := State.raiseLow_cfgBusy

end

/-! ### Ends of runs, threads and engines -/

section
variable {s : State} {t : ThreadRef} {c n status outcome cause : Nat} {p : Packet} {b : FaultRef} {src kind info : Nat}
  {v : Bool}

@[simp] theorem State.packetRsp_cfgBusy : (s.packetRsp p n).cfgBusy = s.cfgBusy := by
  rw [State.packetRsp, cfgBusy_ite, State.spRespond_cfgBusy, ite_self]

@[simp] theorem State.dropDesc_cfgBusy : (s.dropDesc c).cfgBusy = s.cfgBusy := rfl
@[simp] theorem State.dropMaint_cfgBusy : (s.dropMaint t).cfgBusy = s.cfgBusy := by simp [State.dropMaint]

@[simp] theorem State.endRun_cfgBusy : (s.endRun c outcome cause).cfgBusy = s.cfgBusy := by
  simp [State.endRun, State.setReady]

@[simp] theorem State.slotWait_cfgBusy {st : ThrState} : (s.slotWait t c st).cfgBusy = s.cfgBusy := by simp [State.slotWait]

@[simp] theorem State.leave_cfgBusy : (s.leave t status).cfgBusy = s.cfgBusy := by
  unfold State.leave
  dsimp only
  split <;> simp [State.endPacket]

@[simp] theorem State.haltEvent_cfgBusy : (s.haltEvent c cause).cfgBusy = s.cfgBusy := by simp [State.haltEvent]

@[simp] theorem State.offline_cfgBusy : (s.offline t).cfgBusy = s.cfgBusy := by
  unfold State.offline
  dsimp only
  split <;> simp

@[simp] theorem State.clusterCheck_cfgBusy : (s.clusterCheck n v).cfgBusy = s.cfgBusy := by
  simp [State.clusterCheck, State.clusterStop]

@[simp] theorem State.engineOffline_cfgBusy : (s.engineOffline t).cfgBusy = s.cfgBusy := by simp [State.engineOffline]

@[simp] theorem State.raiseF_cfgBusy : (s.raiseF b src kind info v).cfgBusy = s.cfgBusy := by
  unfold State.raiseF
  dsimp only
  split <;> split <;> simp

@[simp] theorem State.raise_cfgBusy : (s.raise b src kind info).cfgBusy = s.cfgBusy := State.raiseF_cfgBusy
@[simp] theorem State.haltCtx_cfgBusy : (s.haltCtx c cause).cfgBusy = s.cfgBusy := by simp [State.haltCtx]
@[simp] theorem State.toIdle_cfgBusy : (s.toIdle t).cfgBusy = s.cfgBusy := by simp [State.toIdle]

end

/-! ### The home's transactions -/

section
variable {s : State} {t : Trk} {a : Ans} {r : Req} {line n : Nat}

@[simp] theorem State.failEvent_cfgBusy : (s.failEvent r n).cfgBusy = s.cfgBusy := by
  unfold State.failEvent
  extract_lets s1
  have h1 : s1.cfgBusy = s.cfgBusy := by
    simp only [s1]
    split <;> rfl
  split
  · split <;> simp [h1]
  · split <;> simp [h1]

@[simp] theorem State.dbgWritten_cfgBusy : (s.dbgWritten t).cfgBusy = s.cfgBusy := by
  unfold State.dbgWritten
  split <;> rfl

@[simp] theorem State.dirties_cfgBusy : (s.dirties line).cfgBusy = s.cfgBusy := rfl

section
variable {wr : State → Trk → State} {got : State → Trk → Ans → State}

@[simp] theorem State.gotDataWith_cfgBusy (hwr : ∀ s t, (wr s t).cfgBusy = s.cfgBusy) :
    (s.gotDataWith t a wr).cfgBusy = s.cfgBusy := by
  unfold State.gotDataWith
  split <;> simp [hwr]

@[simp] theorem State.memReadWith_cfgBusy (hwr : ∀ s t, (wr s t).cfgBusy = s.cfgBusy) :
    (s.memReadWith t wr).cfgBusy = s.cfgBusy := by
  unfold State.memReadWith
  dsimp only
  split
  · simp [hwr]
  · split
    · simp [hwr]
    · split <;> simp [hwr]

@[simp] theorem State.memWriteWith_cfgBusy (hwr : ∀ s t, (wr s t).cfgBusy = s.cfgBusy) :
    (s.memWriteWith t wr).cfgBusy = s.cfgBusy := by
  unfold State.memWriteWith
  dsimp only
  split
  · simp
  · simp
  · simp
  · cases State.spotOf _ _ <;> simp [hwr]

@[simp] theorem State.wroteWith_cfgBusy (hwr : ∀ s t, (wr s t).cfgBusy = s.cfgBusy)
    (hgot : ∀ s t a, (got s t a).cfgBusy = s.cfgBusy) : (s.wroteWith t wr got).cfgBusy = s.cfgBusy := by
  unfold State.wroteWith
  split <;> dsimp only <;> split <;> simp [hwr, hgot]

@[simp] theorem State.failWriteWith_cfgBusy (hwr : ∀ s t, (wr s t).cfgBusy = s.cfgBusy)
    (hgot : ∀ s t a, (got s t a).cfgBusy = s.cfgBusy) : (s.failWriteWith t n wr got).cfgBusy = s.cfgBusy := by
  simp [State.failWriteWith, hwr, hgot]

end

@[simp] theorem State.memWriteLast_cfgBusy : (s.memWriteLast t).cfgBusy = s.cfgBusy :=
  State.memWriteWith_cfgBusy fun _ _ =>
    State.failWriteWith_cfgBusy (fun _ _ => State.settleTrk_cfgBusy) fun _ _ _ => State.settleTrk_cfgBusy

@[simp] theorem State.memWrite_cfgBusy : (s.memWrite t).cfgBusy = s.cfgBusy :=
  State.memWriteWith_cfgBusy fun _ _ =>
    State.failWriteWith_cfgBusy (fun _ _ => State.memReadWith_cfgBusy fun _ _ => State.memWriteLast_cfgBusy)
      fun _ _ _ => State.gotDataWith_cfgBusy fun _ _ => State.memWriteLast_cfgBusy

@[simp] theorem State.memRead_cfgBusy : (s.memRead t).cfgBusy = s.cfgBusy :=
  State.memReadWith_cfgBusy fun _ _ => State.memWrite_cfgBusy

@[simp] theorem State.sendStash_cfgBusy : (s.sendStash t n).cfgBusy = s.cfgBusy := by simp [State.sendStash]

@[simp] theorem State.afterWay_cfgBusy : (s.afterWay t).cfgBusy = s.cfgBusy := by
  unfold State.afterWay
  split <;> simp

@[simp] theorem State.forceOut_cfgBusy {v : SfEnt} : (s.forceOut v).cfgBusy = s.cfgBusy := by simp [State.forceOut]

@[simp] theorem State.claim_cfgBusy : (s.claim t).cfgBusy = s.cfgBusy := by
  unfold State.claim
  dsimp only
  split
  · simp [State.setSfSet]
  · split
    · simp
    · split <;> simp

@[simp] theorem State.atomChoice_cfgBusy : (s.atomChoice t).2.cfgBusy = s.cfgBusy := by simp [State.atomChoice]

@[simp] theorem State.takeOwned_cfgBusy : (s.takeOwned t).cfgBusy = s.cfgBusy := by
  unfold State.takeOwned
  dsimp only
  split <;> simp

@[simp] theorem State.takeRead_cfgBusy : (s.takeRead t).cfgBusy = s.cfgBusy := by
  unfold State.takeRead
  split <;> simp

@[simp] theorem State.takeWrite_cfgBusy : (s.takeWrite t).cfgBusy = s.cfgBusy := by
  unfold State.takeWrite
  dsimp only
  split <;> simp

end

end Sys2Proof.Machine
end

section
/-! What leaves the configuration port's pending response alone, continued: the home takes requests, the ports handle
theirs, units are enabled and disabled, registers are read. -/

namespace Sys2Proof.Machine

/-! ### The home takes requests -/

section
variable {s : State} {t : Trk} {r : Req} {fuel : Nat}

@[simp] theorem State.decideTake_cfgBusy : (s.decideTake t).cfgBusy = s.cfgBusy := by
  unfold State.decideTake
  dsimp only
  cases t.req.kind with
  | rd | rdNc | pref => exact State.takeRead_cfgBusy
  | wr | wrFull => exact State.takeWrite_cfgBusy
  | blockWr => exact State.memWrite_cfgBusy
  | scrubWr => simp
  | merge x y => cases s.sf t.line <;> simp
  | rdS => cases s.sf t.line <;> simp
  | rdU | upg => simp
  | wrBack | evict => cases s.sf t.line <;> simp
  | stash x => cases s.sf t.line <;> simp
  | atom op off => cases (s.atomChoice t).2.sf t.line <;> simp
  | forced | move => rfl

@[simp] theorem State.takeTrk_cfgBusy : (s.takeTrk r).cfgBusy = s.cfgBusy := by simp [State.takeTrk]
@[simp] theorem State.moveTake_cfgBusy {line : Nat} : (s.moveTake line).cfgBusy = s.cfgBusy := rfl
@[simp] theorem State.take_cfgBusy : (s.take r).cfgBusy = s.cfgBusy := by simp [State.take]

@[simp] theorem pumpFuel_cfgBusy : (pumpFuel fuel s).cfgBusy = s.cfgBusy := by
  induction fuel generalizing s with
  | zero => rfl
  | succ fuel ih =>
    unfold pumpFuel
    split
    · rfl
    · simp [ih]

@[simp] theorem State.pump_cfgBusy : s.pump.cfgBusy = s.cfgBusy := by simp [State.pump]

end

/-! ### Commands of a context -/

section
variable {s : State} {c n addr gen code : Nat} {w : BitVec 128} {t : ThreadRef} {src : Src}

@[simp] theorem State.readDescriptor_cfgBusy : (s.readDescriptor src c).cfgBusy = s.cfgBusy := by simp [State.readDescriptor]
@[simp] theorem State.rearmRead_cfgBusy : (s.rearmRead c).cfgBusy = s.cfgBusy := by simp [State.rearmRead]
@[simp] theorem State.rearmCheck_cfgBusy : (s.rearmCheck c).cfgBusy = s.cfgBusy := by simp [State.rearmCheck]
@[simp] theorem State.rearmDrop_cfgBusy : (s.rearmDrop c).cfgBusy = s.cfgBusy := by simp [State.rearmDrop]

@[simp] theorem State.newRun_cfgBusy : (s.newRun c addr).cfgBusy = s.cfgBusy := by
  unfold State.newRun
  extract_lets b s1 s2 s3 s4 x s5 cl
  have h1 : s1.cfgBusy = s.cfgBusy := State.setReg2_cfgBusy
  have h2 : s2.cfgBusy = s1.cfgBusy := by simp only [s2, State.setFld_cfgBusy, State.setFlag_cfgBusy]
  have h3 : s3.cfgBusy = s2.cfgBusy := (State.setReg_cfgBusy ..).trans (State.setReg_cfgBusy ..)
  have h4 : s4.cfgBusy = s3.cfgBusy := by simp only [s4, State.setFld_cfgBusy]
  have h5 : s5.cfgBusy = s4.cfgBusy := State.setCtx_cfgBusy ..
  simp only [State.setReady, State.setCtxState_cfgBusy, h1, h2, h3, h4, h5]

@[simp] theorem State.cmdIgnored_cfgBusy : (s.cmdIgnored c).cfgBusy = s.cfgBusy := State.setFlag_cfgBusy
@[simp] theorem State.noEffect_cfgBusy : (s.noEffect c).s.cfgBusy = s.cfgBusy := State.cmdIgnored_cfgBusy
@[simp] theorem State.forgetCur_cfgBusy : (s.forgetCur c).cfgBusy = s.cfgBusy :=
  State.setFlag_cfgBusy.trans State.setFlag_cfgBusy

@[simp] theorem State.abortThread_cfgBusy : (s.abortThread t c).cfgBusy = s.cfgBusy := by simp [State.abortThread]

@[simp] theorem State.cmdAppend_cfgBusy : (s.cmdAppend c addr gen).s.cfgBusy = s.cfgBusy := by
  simp [State.cmdAppend, CmdRes.ok]

@[simp] theorem State.cmdSetHead_cfgBusy : (s.cmdSetHead c addr).s.cfgBusy = s.cfgBusy := State.setReg2_cfgBusy

@[simp] theorem State.cmdEnable_cfgBusy : (s.cmdEnable c).s.cfgBusy = s.cfgBusy := by simp [State.cmdEnable, CmdRes.ok]
@[simp] theorem State.cmdDisable_cfgBusy : (s.cmdDisable c).s.cfgBusy = s.cfgBusy := by simp [State.cmdDisable, CmdRes.ok]
@[simp] theorem State.cmdKick_cfgBusy : (s.cmdKick c).s.cfgBusy = s.cfgBusy := by simp [State.cmdKick, CmdRes.ok]

@[simp] theorem State.cmdAbort_cfgBusy : (s.cmdAbort c).s.cfgBusy = s.cfgBusy := by
  cases h : s.servant c <;> simp [State.cmdAbort, CmdRes.ok, h]

@[simp] theorem State.cmdClear_cfgBusy : (s.cmdClear c).s.cfgBusy = s.cfgBusy := by simp [State.cmdClear, CmdRes.ok]

@[simp] theorem State.ctxCmd_cfgBusy : (s.ctxCmd c code).s.cfgBusy = s.cfgBusy := by
  unfold State.ctxCmd
  split <;> simp

@[simp] theorem State.portCmd_cfgBusy : (s.portCmd w).s.cfgBusy = s.cfgBusy := by
  unfold State.portCmd
  split <;> simp

end

/-! ### Requests of a port -/

section
variable {s : State} {n c d status fuel : Nat} {w : BitVec 128} {e : HeldReq} {b : HeldBeat} {t : ThreadRef} {p : Packet}
  {rest : List Packet} {wd ign : Bool}

@[simp] theorem State.cmdResult_cfgBusy : (s.cmdResult n w status ign).cfgBusy = s.cfgBusy := State.spRespond_cfgBusy
@[simp] theorem State.portCtx_cfgBusy : (s.portCtx n e).cfgBusy = s.cfgBusy := by simp [State.portCtx]
@[simp] theorem State.portReserved_cfgBusy : (s.portReserved n w).cfgBusy = s.cfgBusy := State.raise_cfgBusy

@[simp] theorem State.nextPc_cfgBusy : (s.nextPc t).cfgBusy = s.cfgBusy := State.setThr_cfgBusy ..
@[simp] theorem State.wake_cfgBusy : (s.wake t).cfgBusy = s.cfgBusy := by simp [State.wake]
@[simp] theorem State.givePacket_cfgBusy : (s.givePacket t c d p rest).cfgBusy = s.cfgBusy := by simp [State.givePacket]

@[simp] theorem State.queuePacket_cfgBusy {x : BitVec 256} : (s.queuePacket n x).cfgBusy = s.cfgBusy := by
  unfold State.queuePacket
  extract_lets c p x s1
  have h1 : s1.cfgBusy = s.cfgBusy := State.setCtx_cfgBusy ..
  split
  · exact h1
  · split <;> simp [h1]

theorem State.portRead_cfgBusy : KeepsBusy s (s.portRead n e) := by
  unfold State.portRead
  exact .ite (.some (by simp)) (.ite (.some (by simp)) .none)

theorem State.portWriteIn_cfgBusy : KeepsBusy s (s.portWriteIn n e b) := by
  unfold State.portWriteIn
  exact .ite (.some (by simp)) (.ite (.some (by simp)) .none)

theorem State.portFlush_cfgBusy : KeepsBusy s (s.portFlush n w) := by
  unfold State.portFlush
  exact .ite (.some (by simp)) (.ite .none (.some (by simp)))

theorem State.portPacket_cfgBusy : KeepsBusy s (s.portPacket n e b) := by
  unfold State.portPacket
  extract_lets x clean
  split
  · exact .some (by simp)
  · exact .ite .none (.some (by simp))

theorem State.portHandle_cfgBusy {o : Option HeldBeat} : KeepsBusy s (s.portHandle n e o) := by
  unfold State.portHandle
  split
  · exact State.portRead_cfgBusy
  · exact State.portWriteIn_cfgBusy
  · exact .none
  · exact State.portFlush_cfgBusy
  · exact .some State.portCtx_cfgBusy
  · exact State.portPacket_cfgBusy
  · exact .none
  · exact .some State.portReserved_cfgBusy

@[simp] theorem State.giveCredit_cfgBusy : (s.giveCredit n wd).cfgBusy = s.cfgBusy := by simp [State.giveCredit]
@[simp] theorem State.portPass_cfgBusy : (s.portPass n wd).cfgBusy = s.cfgBusy := by simp [State.portPass]

@[simp] theorem portServe_cfgBusy : (portServe fuel n s).cfgBusy = s.cfgBusy := by
  induction fuel generalizing s with
  | zero => rfl
  | succ fuel ih =>
    unfold portServe
    split
    · rfl
    · split
      · rfl
      · split
        · rfl
        · next e _ t ht =>
          rw [ih, State.portPass_cfgBusy]
          exact State.portHandle_cfgBusy t ht

@[simp] theorem State.portGo_cfgBusy : (s.portGo n).cfgBusy = s.cfgBusy := portServe_cfgBusy
@[simp] theorem State.portsGo_cfgBusy : s.portsGo.cfgBusy = s.cfgBusy := cfgBusy_foldl fun _ _ => State.portGo_cfgBusy

end

/-! ### Units come up and go down -/

section
variable {s : State} {t : ThreadRef} {b : BankRef} {u : UnitRef} {n : Nat} {v : Bool}

@[simp] theorem State.startThread_cfgBusy {x : W64} : (s.startThread t n x).cfgBusy = s.cfgBusy := by
  unfold State.startThread
  split <;> simp

@[simp] theorem State.startThreads_cfgBusy : (s.startThreads b).cfgBusy = s.cfgBusy :=
  cfgBusy_foldl fun _ _ => State.startThread_cfgBusy

@[simp] theorem State.setChanEn_cfgBusy : (s.setChanEn n v).cfgBusy = s.cfgBusy :=
  (State.setReg_cfgBusy ..).trans State.setFlag_cfgBusy

@[simp] theorem State.releaseHeld_cfgBusy : (s.releaseHeld n).cfgBusy = s.cfgBusy := by simp [State.releaseHeld]
@[simp] theorem State.stopThread_cfgBusy : (s.stopThread t).cfgBusy = s.cfgBusy := by simp [State.stopThread]

@[simp] theorem State.unitUp_cfgBusy : (s.unitUp u).cfgBusy = s.cfgBusy := by
  cases u with
  | home => exact State.portsGo_cfgBusy.trans State.pump_cfgBusy
  | locket => exact State.lkInval_cfgBusy
  | chan n => exact State.releaseHeld_cfgBusy.trans State.setChanEn_cfgBusy
  | seq n => exact State.startThreads_cfgBusy
  | svc n => exact State.startThreads_cfgBusy
  | cluster | port | phy => rfl

@[simp] theorem State.unitDown_cfgBusy : (s.unitDown u).cfgBusy = s.cfgBusy := by
  cases u with
  | home => exact State.portsDown_cfgBusy
  | port n => exact State.setSp_cfgBusy ..
  | chan n => exact State.setChanEn_cfgBusy
  | seq n => exact cfgBusy_foldl fun _ _ => State.stopThread_cfgBusy
  | svc n => exact cfgBusy_foldl fun _ _ => State.stopThread_cfgBusy
  | locket | cluster | phy => rfl

end

/-! ### Registers are read -/

section
variable {s : State} {p : Port} {w : Win} {o off n k bit : Nat} {v : Bool} {x : W32}

@[simp] theorem State.readRc_cfgBusy : (s.readRc p w o off).cfgBusy = s.cfgBusy := by
  unfold State.readRc
  split
  · exact cfgBusy_foldl fun _ _ => by simp
  · rfl

@[simp] theorem State.takeIrq_cfgBusy : (s.takeIrq n v).cfgBusy = s.cfgBusy := by
  unfold State.takeIrq
  split <;> rfl

@[simp] theorem State.intcRead_cfgBusy : (s.intcRead p o).cfgBusy = s.cfgBusy := by simp [State.intcRead]

@[simp] theorem State.readEffect_cfgBusy : (s.readEffect p w o off).cfgBusy = s.cfgBusy := by
  unfold State.readEffect
  split <;> simp [State.progNext]

@[simp] theorem State.histRead_cfgBusy {b : FaultRef} : (s.histRead p b k).2.cfgBusy = s.cfgBusy := by
  unfold State.histRead
  dsimp only
  split <;> rfl

@[simp] theorem State.wordRead_cfgBusy : (s.wordRead p w o off).2.cfgBusy = s.cfgBusy := by
  unfold State.wordRead
  split <;> simp

@[simp] theorem State.withOpen_cfgBusy : (s.withOpen w o off x).2.cfgBusy = s.cfgBusy := by simp [State.withOpen]
@[simp] theorem State.readWord_cfgBusy : (s.readWord p w o off).2.cfgBusy = s.cfgBusy := by simp [State.readWord]
@[simp] theorem State.readBit_cfgBusy : (s.readBit p w o off bit).2.cfgBusy = s.cfgBusy := by simp [State.readBit]

theorem State.busRead_cfgBusy {a : Nat} {x : Site} (h : siteOf s.variant a = some x) :
    (s.busRead p a).2.cfgBusy = s.cfgBusy := by
  rw [State.busRead, h]
  cases hb : x.bit <;> simp [hb]

theorem State.wild_cfgBusy : s.wild.cfgBusy = s.cfgBusy := by
  unfold State.wild
  split
  · rfl
  · simp

end

end Sys2Proof.Machine
end

section
/-! The windows of a configuration and the offsets in them (O19, O20). -/

namespace Sys2Proof.Machine

/-! ### A window and an offset in it -/

/-- The window is one of the configuration's, and the offset lies in it. -/
def Win.Fits (v : Variant) (w : Win) (o : Nat) : Prop :=
  match w with
  | .glob | .power | .sec | .charm | .home | .locket => o < 0x1000
  | .trellis n => n < 2 ∧ o < 0x1000
  | .port n => n < v.ports ∧ o < 0x400
  | .chan n => n < v.scs ∧ o < 0x1000
  | .cluster n => n < v.clusters ∧ o < 0x1000
  | .seq n => n < v.scs ∧ o < 0x100
  | .svc n => n < v.scs ∧ o < 0x100
  | .phy => o < 0x8000
  | .intc => o < 0x10000
  | .ctx n => n < v.contexts ∧ o < 0x40
  | .frame n => n < v.frames ∧ o < 0x40
  | .store n => n < v.clusters ∧ o < 0x10000

section
variable {v : Variant} {w : Win} {o off : Nat}

/-- The numbers of units of a configuration, against which the windows are laid out. -/
theorem counts_le (v : Variant) : v.scs ≤ 24 ∧ v.clusters ≤ 12 ∧ v.ports ≤ 12 ∧ v.stops ≤ 2 ∧ v.contexts ≤ 4096 ∧
    v.frames ≤ 1024 := by
  cases v <;> decide

theorem unitAt_eq_some {mk : Nat → Win} {base stride count : Nat} :
    unitAt mk base stride count off = some (w, o) ↔
      w = mk ((off - base) / stride) ∧ o = (off - base) % stride ∧ (off - base) / stride < count := by
  unfold unitAt
  split <;> simp_all [eq_comm]

/-- `locate` finds a place of the configuration, and that place lies at the offset. -/
theorem locate_eq_some (h : locate v off = some (w, o)) : off = w.base + o ∧ w.Fits v o := by
  cases w
  all_goals
    simp only [locate, ite_eq_iff, unitAt_eq_some, Option.some.injEq, Prod.mk.injEq, reduceCtorEq, Win.trellis.injEq,
      Win.port.injEq, Win.chan.injEq, Win.cluster.injEq, Win.seq.injEq, Win.svc.injEq, Win.ctx.injEq, Win.frame.injEq,
      Win.store.injEq, false_and, and_false, or_false, false_or, true_and, not_lt] at h
    simp only [Win.base, Win.Fits]
    omega

/-- A place of the configuration is found at its offset. -/
theorem locate_of_fits (h : w.Fits v o) : locate v (w.base + o) = some (w, o) := by
  have hcount := counts_le v
  cases w
  all_goals
    simp only [Win.Fits] at h
    simp only [Win.base]
    unfold locate
    simp (disch := omega) only [if_pos, if_neg, unitAt_eq_some, Option.some.injEq, Prod.mk.injEq,
      Win.trellis.injEq, Win.port.injEq, Win.chan.injEq, Win.cluster.injEq, Win.seq.injEq, Win.svc.injEq, Win.ctx.injEq,
      Win.frame.injEq, Win.store.injEq, true_and]
    omega

/-- No two places of a configuration lie at one offset. -/
theorem fits_unique {w' : Win} {o' : Nat} (h : w.Fits v o) (h' : w'.Fits v o') (he : w.base + o = w'.base + o') :
    w = w' ∧ o = o' := by
  have hl : some (w, o) = some (w', o') := (locate_of_fits h).symm.trans (he ▸ locate_of_fits h')
  simpa using hl

theorem Win.base_mod : w.base % 4 = 0 := by cases w <;> simp only [Win.base] <;> omega

theorem locate_lt (h : locate v off = some (w, o)) : off < 0x800000 := by
  have hcount := counts_le v
  obtain ⟨rfl, hfits⟩ := locate_eq_some h
  cases w <;> simp only [Win.Fits] at hfits <;> simp only [Win.base] <;> omega

theorem siteOf_word (h : locate v off = some (w, o)) : siteOf v off = some ⟨w, o, off, none⟩ := by
  rw [siteOf, if_pos (locate_lt h), h]
  rfl

theorem toNat_off (h : locate v off = some (w, o)) : (BitVec.ofNat 24 off).toNat = off :=
  Nat.mod_eq_of_lt (Nat.lt_trans (locate_lt h) (by decide))

theorem undefAt_word (h : locate v off = some (w, o)) (hne : regFlds v w o ≠ []) : undefAt v off = false := by
  simp [undefAt, siteOf_word h, hne]

end

end Sys2Proof.Machine
end

section
/-! Units are enabled, disabled and quiesced (O20). -/

namespace Sys2Proof.Machine

/-! ### The control word of a unit -/

section
variable {v : Variant} {u : UnitRef} {x : W32}

theorem unitWin_fits (h : u.present v = true) : (unitWin u).Fits v 0 := by
  cases u <;> simp_all [UnitRef.present, unitWin, Win.Fits]

theorem locate_unitCtrl (h : u.present v = true) : locate v (unitCtrl u) = some (unitWin u, 0) :=
  locate_of_fits (unitWin_fits h)

theorem regFlds_unitWin : regFlds v (unitWin u) 0 = [⟨1, 1, .ro, 1⟩, ⟨0, 0, .lv, 0⟩] := by cases u <;> rfl
theorem stUnit_unitWin : stUnit (unitWin u) = some u := by cases u <;> rfl
theorem isLow_unitWin : isLow (unitWin u) 0 = false := by cases u <;> rfl

theorem bitOf_withBit : bitOf (withBit x 0) 0 = true := by
  simp [bitOf, withBit, Nat.or_mod_two_eq_one]

theorem bitOf_withoutBit : bitOf (withoutBit x 0) 0 = false := by
  simp [bitOf, withoutBit]

end

/-! ### A write of EN (R43) -/

section
variable {s : State} {p : Port} {u : UnitRef} {x : W32}

/-- What a write of a unit's control word asks of EN. -/
theorem State.askWrite_unitCtrl :
    s.askWrite p (unitWin u) 0 (unitCtrl u) (s.wordAsk (unitWin u) 0 x) = s.enWrite u (bitOf x 0) := by
  have hof : ((s.wordAsk (unitWin u) 0 x).of 0 0 == 1) = bitOf x 0 := by
    simp [State.wordAsk, regFlds_unitWin, Ask.of, bitsOf, bitOf, fldMask]
  have hwr : (s.wordAsk (unitWin u) 0 x).writes 0 = true := by
    simp [State.wordAsk, regFlds_unitWin, Ask.writes]
  cases u <;> simp only [unitWin] at hof hwr <;> simp [unitWin, State.askWrite, hof, hwr, stUnit]

theorem State.perform_unitCtrl (h : u.present s.variant = true) {t : State} (hw : s.enWrite u (bitOf x 0) = (t, false)) :
    s.perform (.write p (unitCtrl u) x) = ((0, false), t) := by
  have hdef : undefAt s.variant (unitCtrl u) = false := undefAt_word (locate_unitCtrl h) (by simp [regFlds_unitWin])
  simp [State.perform, State.busWrite, siteOf_word (locate_unitCtrl h), hdef, State.siteWrite, State.writeWord, isLow_unitWin,
    State.askWrite_unitCtrl, hw]

/-- A write of a unit's control word that an open port makes. -/
theorem State.PortOpen.unitWrite (h : s.PortOpen p (unitCtrl u)) (hp : u.present s.variant = true) {t : State}
    (hw : s.enWrite u (bitOf x 0) = (t, false)) (ht : t.cfgBusy = s.cfgBusy) :
    s.regAccess p (u.present s.variant) (writeAt p (unitCtrl u) x) = .next (t.emit (.portRsp p 0 false)) := by
  have hbusy : p = .cfg → t.cfgBusy = .none := fun e => ht.trans (h.2.2.2.1 e).1
  have hdo := State.perform_unitCtrl (p := p) hp hw
  rw [hp, writeAt, if_pos (show unitCtrl u % 4 = 0 from Win.base_mod)]
  show s.access p _ = _
  rw [State.PortOpen.access h, hdo, State.answered_of_cfgBusy hbusy]

end

/-- Settles O20: a write of EN has enWrite's effect and the port answers it, since a unit that comes up or goes down
leaves the port's pending response alone. -/
theorem unitEnables : Obligations.UnitEnables := by
  refine ⟨fun s p u v hp hopen => ⟨fun hen hmap => ?_, fun hen => ?_⟩, fun _ _ => ⟨rfl, rfl, rfl, rfl, rfl, rfl⟩,
    fun s u hcanon hu hp hrun hen hidle => ?_⟩
  · refine hopen.unitWrite hp ?_ ?_
    · simp [bitOf_withBit, State.enWrite, hen, hmap]
    · simp
  · refine hopen.unitWrite hp ?_ ?_
    · simp [bitOf_withoutBit, State.enWrite, hen]
    · simp
  · have hq : s.quiesce u = s.setFlag (unitCtrl u) 1 true := by
      simp [State.quiesce, State.afterQuiesce, hp, hrun, hen, hidle, hu]
    refine ⟨s.setFlag (unitCtrl u) 1 true, congrArg _ hq, State.flag_setFlag hcanon.1 (by decide), fun a ha => ?_, rfl⟩
    rw [State.reg_setFlag hcanon.1, if_neg ha]

end Sys2Proof.Machine
end

section
/-! Every access of a register, or of a bit of one by its own address, is answered (O19). -/

namespace Sys2Proof.Machine

/-! ### The access that a command makes (R33) -/

section
variable {s : State} {p : Port} {a : BitVec 24} {v : W32} (h : a.toNat % 4 = 0)
include h

theorem plainAccess_four : plainAccess ⟨a, 4⟩ = true := by simp [plainAccess, h]

theorem exec_regWrite : exec (.regWrite p ⟨a, 4⟩ v) s = s.access p (.write p a.toNat v) :=
  congrArg (s.access p) (if_pos (plainAccess_four h))

theorem exec_readClear : exec (.readClear p ⟨a, 4⟩) s = s.access p (.read p a.toNat) :=
  congrArg (s.access p) (if_pos (plainAccess_four h))

theorem exec_lowWordRead : exec (.lowWordRead p a) s = s.access p (.read p a.toNat) := congrArg (s.access p) (if_pos h)
theorem exec_lowWordWrite : exec (.lowWordWrite p a v) s = s.access p (.write p a.toNat v) := congrArg (s.access p) (if_pos h)
theorem exec_highWordWrite : exec (.highWordWrite p a v) s = s.access p (.write p a.toNat v) := congrArg (s.access p) (if_pos h)
theorem exec_aliasWrite : exec (.aliasWrite p a v) s = s.access p (.write p a.toNat v) := congrArg (s.access p) (if_pos h)

end

/-! ### Answers to reads and writes of a site (R33, R38, R48) -/

section
variable {s : State} {p : Port} {a : Nat} {v : W32} {x : Site}

/-- An open port answers a write that has no defined effect (R48). -/
theorem State.PortOpen.write_undef (h : s.PortOpen p a) (hx : siteOf s.variant a = some x) (hu : undefAt s.variant a = true) :
    s.access p (.write p a v) = .next (s.wild.emit (.portRsp p 0 false)) := by
  have hbusy : p = .cfg → s.wild.cfgBusy = .none := fun e => State.wild_cfgBusy.trans (h.2.2.2.1 e).1
  have hdo : s.perform (.write p a v) = ((0, false), s.wild) := by simp [State.perform, State.busWrite, hx, hu]
  rw [State.PortOpen.access h, hdo, State.answered_of_cfgBusy hbusy]

/-- An open port makes a write of a site that is a register, or a bit of one. -/
theorem State.PortOpen.write_site (h : s.PortOpen p a) (hx : siteOf s.variant a = some x) (hu : undefAt s.variant a = false) :
    s.access p (.write p a v) = .next (State.answered p ((0, false), s.siteWrite p x a v)) := by
  have hdo : s.perform (.write p a v) = ((0, false), s.siteWrite p x a v) := by
    simp [State.perform, State.busWrite, hx, hu]
  rw [State.PortOpen.access h, hdo]

/-- An open port answers a read with the register's value. -/
theorem State.PortOpen.read_site (h : s.PortOpen p a) (hx : siteOf s.variant a = some x) :
    s.access p (.read p a) = .next ((s.busRead p a).2.emit (.portRsp p (s.busRead p a).1.1 false)) := by
  have hbusy : p = .cfg → (s.busRead p a).2.cfgBusy = .none := fun e => (State.busRead_cfgBusy hx).trans (h.2.2.2.1 e).1
  have herr : (s.busRead p a).1.2 = false := by rw [State.busRead, hx]
  rw [State.PortOpen.access h]
  exact congrArg _ ((State.answered_of_cfgBusy hbusy).trans (by rw [herr]))

end

/-- The first part of O19: what answers an access of a site. -/
theorem accesses_answered (s : State) (p : Port) (a : BitVec 24) (v : W32) (x : Site) (hx : siteOf s.variant a.toNat = some x)
    (ha : a.toNat % 4 = 0) (h : s.PortOpen p a.toNat) :
    (∀ c ∈ [Instr.regWrite p ⟨a, 4⟩ v, .lowWordWrite p a v, .highWordWrite p a v, .aliasWrite p a v],
      (undefAt s.variant a.toNat = true → WriteDoes c p s s.wild) ∧
      (undefAt s.variant a.toNat = false →
        let s1 := s.siteWrite p x a.toNat v
        exec c s = .next (if p = .cfg ∧ s1.cfgBusy ≠ .none then s1 else s1.emit (.portRsp p 0 false)))) ∧
    (∀ c ∈ [Instr.readClear p ⟨a, 4⟩, .lowWordRead p a],
      let r := s.busRead p a.toNat
      r.1.2 = false ∧ exec c s = .next (r.2.emit (.portRsp p r.1.1 false))) := by
  refine ⟨fun c hc => ?_, fun c hc => ?_⟩
  · have hexec : exec c s = s.access p (.write p a.toNat v) := by
      simp only [List.mem_cons, List.not_mem_nil, or_false] at hc
      rcases hc with rfl | rfl | rfl | rfl
      · exact exec_regWrite ha
      · exact exec_lowWordWrite ha
      · exact exec_highWordWrite ha
      · exact exec_aliasWrite ha
    exact ⟨fun hu => hexec.trans (h.write_undef hx hu), fun hu => hexec.trans (h.write_site hx hu)⟩
  · have hexec : exec c s = s.access p (.read p a.toNat) := by
      simp only [List.mem_cons, List.not_mem_nil, or_false] at hc
      rcases hc with rfl | rfl
      · exact exec_readClear ha
      · exact exec_lowWordRead ha
    exact ⟨by simp only [State.busRead, hx], hexec.trans (h.read_site hx)⟩

end Sys2Proof.Machine
end

section
/-! Where the registers of two-word values lie (O19). -/

namespace Sys2Proof.Machine

/-! ### Where the fault blocks lie (R507) -/

/-- The registers of a window end here, or its fault blocks begin. -/
def Win.plainEnd : Win → Nat
  | .home => 0xD00
  | .port _ => 0x380
  | .phy => 0x7F00
  | .ctx _ | .frame _ => 0x40
  | _ => 0xF00

/-- The window of a fault block, and where it starts in the window. -/
def blockPlace : FaultRef → Win × Nat
  | .chan n => (.chan n, 0xF00)
  | .cluster n => (.cluster n, 0xF00)
  | .locket => (.locket, 0xF00)
  | .home => (.home, 0xD00)
  | .stop n => (.home, 0xD80 + 0x80 * n)
  | .port n => (.port n, 0x380)
  | .phy => (.phy, 0x7F00)
  | .power => (.power, 0xF00)
  | .security => (.sec, 0xF00)

section
variable {v : Variant} {w : Win} {o k : Nat} {b : FaultRef}

theorem faultBase_eq_blockPlace : faultBase b = (blockPlace b).1.base + (blockPlace b).2 := by
  cases b with
  | stop n => exact Nat.add_assoc ..
  | _ => rfl

theorem blockPlace_fits (hb : b ∈ faultBlocks v) (hk : k < 0x80) : (blockPlace b).1.Fits v ((blockPlace b).2 + k) := by
  have hcount := counts_le v
  cases b <;> simp [faultBlocks] at hb <;> simp only [blockPlace, Win.Fits] <;> omega

theorem plainEnd_le_blockPlace : (blockPlace b).1.plainEnd ≤ (blockPlace b).2 := by
  cases b <;> simp only [blockPlace, Win.plainEnd] <;> omega

/-- Below the fault blocks of its window a register is in none. -/
theorem blockAt_eq_none (h : w.Fits v o) (ho : o < w.plainEnd) : blockAt v (w.base + o) = none := by
  rw [blockAt, Option.map_eq_none_iff, List.find?_eq_none]
  intro b hb hin
  obtain ⟨hlo, hhi⟩ := of_decide_eq_true hin
  obtain ⟨k, hk⟩ := Nat.exists_eq_add_of_le hlo
  have hfits := blockPlace_fits hb (k := k) (by omega)
  rw [faultBase_eq_blockPlace, Nat.add_assoc] at hk
  obtain ⟨rfl, rfl⟩ := fits_unique h hfits hk
  exact absurd (Nat.le_trans plainEnd_le_blockPlace (Nat.le_add_right ..)) (Nat.not_le.mpr ho)

end

/-! ### The two words of a value (R49) -/

section
variable {v : Variant} {w : Win} {o off : Nat} (hl : isLow w o = true)
include hl

theorem isLow_add_four : isLow w (o + 4) = false := by cases w <;> simp [isLow] at hl ⊢ <;> omega
theorem mod_of_isLow : o % 4 = 0 := by cases w <;> simp [isLow] at hl <;> omega
theorem lt_plainEnd_of_isLow : o + 4 < w.plainEnd := by cases w <;> simp [isLow] at hl <;> simp only [Win.plainEnd] <;> omega
theorem fits_high (h : w.Fits v o) : w.Fits v (o + 4) := by
  cases w <;> simp [isLow] at hl <;> simp only [Win.Fits] at h ⊢ <;> omega

/-- What the layout says of the two words of a value that lies at an offset. -/
theorem locate_isLow (h : locate v off = some (w, o)) : off % 4 = 0 ∧ locate v (off + 4) = some (w, o + 4) ∧
    blockAt v off = none ∧ blockAt v (off + 4) = none := by
  obtain ⟨rfl, hfits⟩ := locate_eq_some h
  have hend := lt_plainEnd_of_isLow hl
  have hbase := Win.base_mod (w := w)
  have hmod := mod_of_isLow hl
  exact ⟨by omega, locate_of_fits (fits_high hl hfits), blockAt_eq_none hfits (by omega),
    blockAt_eq_none (fits_high hl hfits) hend⟩

theorem regFlds_isLow : regFlds v w o ≠ [] ∧ regFlds v w (o + 4) ≠ [] := by
  cases w
  all_goals simp only [isLow, beq_iff_eq, Bool.or_eq_true, Bool.false_eq_true] at hl
  case' sec | locket | port => rcases hl with rfl | rfl
  case' ctx | frame => rcases hl with ((rfl | rfl) | rfl) | rfl
  case' home => rcases hl with ((((rfl | rfl) | rfl) | rfl) | rfl) | rfl
  case' glob | power | charm | chan | phy => subst hl
  all_goals cases v <;> exact ⟨List.cons_ne_nil _ _, List.cons_ne_nil _ _⟩

end

end Sys2Proof.Machine
end

section
/-! How the fields of a register share its word (O19). -/

namespace Sys2Proof.Machine

/-- The fields of a register share its word: each lies in the word and in the mask of the fields, only a read-only one may
be empty, and no two overlap. -/
abbrev Laid (fs : List Fld) : Prop :=
  (∀ f ∈ fs, f.hi < 32 ∧ (f.lo ≤ f.hi ∨ f.cls = .ro) ∧
    fldMask fs / 2 ^ f.lo % 2 ^ (f.hi + 1 - f.lo) = 2 ^ (f.hi + 1 - f.lo) - 1) ∧
  fs.Pairwise fun f g => f.hi < g.lo ∨ g.hi < f.lo

/-- What holds of no fields and of those of every description of a table holds of the fields found in it. -/
theorem of_findReg {P : List Fld → Prop} {ds : List RegDesc} {o : Nat} (hnil : P []) (h : ∀ d ∈ ds, P d.flds) :
    P (findReg ds o) := by
  induction ds with
  | nil => exact hnil
  | cons d ds ih =>
    unfold findReg
    split
    · exact h d List.mem_cons_self
    · exact ih fun d hd => h d (List.mem_cons_of_mem _ hd)

theorem laid_nil : Laid [] := by decide

theorem laid_glob (v : Variant) : ∀ d ∈ globRegs v, Laid d.flds := by cases v <;> decide
theorem laid_power (v : Variant) : ∀ d ∈ powerRegs v, Laid d.flds := by cases v <;> decide
theorem laid_sec : ∀ d ∈ secRegs, Laid d.flds := by decide
theorem laid_charm (v : Variant) : ∀ d ∈ charmRegs v, Laid d.flds := by cases v <;> decide
theorem laid_trellis : ∀ d ∈ trellisRegs, Laid d.flds := by decide
theorem laid_home (v : Variant) : ∀ d ∈ homeRegs v, Laid d.flds := by cases v <;> decide
theorem laid_map (v : Variant) : ∀ d ∈ mapRegs v, Laid d.flds := by cases v <;> decide
theorem laid_clasp : ∀ d ∈ claspRegs, Laid d.flds := by decide
theorem laid_locket (v : Variant) : ∀ d ∈ locketRegs v, Laid d.flds := by cases v <;> decide
theorem laid_port : ∀ d ∈ portRegs, Laid d.flds := by decide
theorem laid_chan : ∀ d ∈ chanRegs, Laid d.flds := by decide
theorem laid_timing : ∀ d ∈ timingRegs, Laid d.flds := by decide
theorem laid_phy (v : Variant) : ∀ d ∈ phyRegs v, Laid d.flds := by cases v <;> decide
theorem laid_integrity (v : Variant) : ∀ d ∈ integrityRegs v, Laid d.flds := by cases v <;> decide
theorem laid_cluster : ∀ d ∈ clusterRegs, Laid d.flds := by decide
theorem laid_eng : ∀ d ∈ engRegs, Laid d.flds := by decide
theorem laid_ctx : ∀ d ∈ ctxRegs, Laid d.flds := by decide
theorem laid_frame : ∀ d ∈ frameRegs, Laid d.flds := by decide

/-- The layout of a fault block's registers, which depends on neither its place nor its number. -/
theorem laid_fault_first : ∀ r ∈ [FaultRef.chan 0, .cluster 0, .locket, .home, .stop 0, .port 0, .phy, .power, .security],
    ∀ fs ∈ (faultRegs 0 (sevReset r)).map RegDesc.flds, Laid fs := by decide

theorem laid_fault (b : Nat) (r : FaultRef) : ∀ d ∈ faultRegs b (sevReset r), Laid d.flds := by
  intro d hd
  have hmem := List.mem_map_of_mem (f := RegDesc.flds) hd
  cases r with
  | chan n => exact laid_fault_first (.chan 0) (by simp) _ hmem
  | cluster n => exact laid_fault_first (.cluster 0) (by simp) _ hmem
  | locket => exact laid_fault_first .locket (by simp) _ hmem
  | home => exact laid_fault_first .home (by simp) _ hmem
  | stop n => exact laid_fault_first (.stop 0) (by simp) _ hmem
  | port n => exact laid_fault_first (.port 0) (by simp) _ hmem
  | phy => exact laid_fault_first .phy (by simp) _ hmem
  | power => exact laid_fault_first .power (by simp) _ hmem
  | security => exact laid_fault_first .security (by simp) _ hmem

theorem laid_stop (b n : Nat) : ∀ d ∈ stopRegs b n, Laid d.flds := by
  simp [stopRegs, Laid, fldMask]

theorem laid_homeFlds (v : Variant) (o : Nat) : Laid (homeFlds v o) := by
  unfold homeFlds
  split_ifs
  · exact of_findReg laid_nil (laid_home v)
  · exact of_findReg laid_nil (laid_stop _ _)
  · exact of_findReg laid_nil (laid_stop _ _)
  · exact laid_nil
  · exact of_findReg laid_nil laid_clasp
  · exact of_findReg laid_nil (laid_map v)
  · exact of_findReg laid_nil (laid_fault _ _)
  · exact of_findReg laid_nil (laid_fault _ _)
  · exact of_findReg laid_nil (laid_fault _ _)
  · exact laid_nil

/-- The fields of every register but the interrupt controller's share its word. -/
theorem laid_regFlds (v : Variant) {w : Win} (o : Nat) (hw : w ≠ .intc) : Laid (regFlds v w o) := by
  have hfault := fun b r => of_findReg (o := o) laid_nil (laid_fault b r)
  cases w with
  | glob => exact of_findReg laid_nil (laid_glob v)
  | power => exact iteInduction (fun _ => of_findReg laid_nil (laid_power v)) fun _ => hfault ..
  | sec => exact iteInduction (fun _ => of_findReg laid_nil laid_sec) fun _ => hfault ..
  | charm => exact of_findReg laid_nil (laid_charm v)
  | trellis n => exact of_findReg laid_nil laid_trellis
  | home => exact laid_homeFlds v o
  | locket => exact iteInduction (fun _ => of_findReg laid_nil (laid_locket v)) fun _ => hfault ..
  | port n => exact iteInduction (fun _ => of_findReg laid_nil laid_port) fun _ => hfault ..
  | chan n =>
    exact iteInduction (fun _ => of_findReg laid_nil laid_chan) fun _ =>
      iteInduction (fun _ => of_findReg laid_nil laid_timing) fun _ => hfault ..
  | cluster n => exact iteInduction (fun _ => of_findReg laid_nil laid_cluster) fun _ => hfault ..
  | seq n => exact of_findReg laid_nil laid_eng
  | svc n => exact of_findReg laid_nil laid_eng
  | phy =>
    exact iteInduction (fun _ => of_findReg laid_nil (laid_phy v)) fun _ =>
      iteInduction (fun _ => of_findReg laid_nil (laid_integrity v)) fun _ => hfault ..
  | intc => exact absurd rfl hw
  | ctx n => exact of_findReg laid_nil laid_ctx
  | frame n => exact of_findReg laid_nil laid_frame
  | store n => exact (by decide : Laid [⟨31, 0, .lv, 0⟩])

/-! ### The mask of the fields (R47) -/

/-- A word that is masked with the bits of a register's fields keeps each field. -/
theorem bitsOf_and_fldMask {fs : List Fld} {f : Fld} (h : Laid fs) (hf : f ∈ fs) (x : W32) :
    bitsOf (x &&& BitVec.ofNat 32 (fldMask fs)) f.hi f.lo = bitsOf x f.hi f.lo := by
  obtain ⟨hhi, -, hmask⟩ := h.1 f hf
  refine Nat.eq_of_testBit_eq fun i => ?_
  have hbit := congrArg (Nat.testBit · i) hmask
  simp only [Nat.testBit_mod_two_pow, Nat.testBit_div_two_pow, Nat.testBit_two_pow_sub_one] at hbit
  simp only [bitsOf, BitVec.toNat_and, BitVec.toNat_ofNat, Nat.testBit_mod_two_pow, Nat.testBit_div_two_pow, Nat.testBit_and]
  by_cases hi : i < f.hi + 1 - f.lo
  · have h32 : i + f.lo < 32 := by omega
    have hm : (fldMask fs).testBit (i + f.lo) = true := by simpa [hi] using hbit
    simp [hi, h32, hm]
  · simp [hi]

end Sys2Proof.Machine
end

section
/-! What a write makes of the fields of a register that only stores (O19). -/

namespace Sys2Proof.Machine

/-! ### Single fields and bits of a word -/

section
variable {s s' : State} {off hi lo i : Nat} {x : W32}

theorem bitOf_eq_testBit : bitOf x i = x.toNat.testBit i := by
  rw [bitOf, Nat.testBit_eq_decide_div_mod_eq]
  rfl

theorem testBit_bitsOf : (bitsOf x hi lo).testBit i = (decide (i < hi + 1 - lo) && bitOf x (lo + i)) := by
  rw [bitsOf, Nat.testBit_mod_two_pow, Nat.testBit_div_two_pow, bitOf_eq_testBit, Nat.add_comm i lo]

/-- A bit of a field's bits, read through the field. -/
theorem State.flag_eq_testBit_fld (h : lo ≤ i) (hi' : i ≤ hi) : s.flag off i = (s.fld off hi lo).testBit (i - lo) := by
  rw [State.fld, testBit_bitsOf, State.flag, Nat.add_sub_cancel' h]
  simp [show i - lo < hi + 1 - lo by omega]

theorem State.fld_lt : s.fld off hi lo < 2 ^ (hi + 1 - lo) := Nat.mod_lt _ (by positivity)

/-- Storing a field leaves every field that does not overlap it. -/
theorem State.fld_setFld_apart (h : Tab.wf (resetWord s.variant) s.regs = true) {n h' l : Nat} (hlo : lo ≤ hi) (hhi : hi < 32)
    (ha : h' < lo ∨ hi < l) : (s.setFld off hi lo n).fld off h' l = s.fld off h' l := by
  rw [State.fld, State.reg_setFld h, if_pos rfl]
  rcases ha with ha | ha
  · exact bitsOf_putBits_below _ hlo hhi _ ha
  · exact bitsOf_putBits_above _ hlo hhi _ ha

theorem State.fld_setFld_same (h : Tab.wf (resetWord s.variant) s.regs = true) {n : Nat} (hlo : lo ≤ hi) (hhi : hi < 32)
    (hn : n < 2 ^ (hi + 1 - lo)) : (s.setFld off hi lo n).fld off hi lo = n := by
  rw [State.fld, State.reg_setFld h, if_pos rfl, bitsOf_putBits _ hlo hhi, Nat.mod_eq_of_lt hn]

end

/-! ### One field (R38, R57) -/

/-- What a write makes of a field that holds `old` when `n` is asked of it, for a word write and for a write of one bit. -/
def classValue (c : Cls) (bit : Bool) (w : Win) (o old n : Nat) : Nat :=
  match c with
  | .lv => n
  | .st => stValue w o n
  | .w1c => old - Nat.land old n
  | .rc => if bit then old - Nat.land old n else old
  | .lk => Nat.lor old n
  | _ => old

/-- Nothing makes a field of the register ignore a write. -/
structure State.TakesField (s : State) (p : Port) (w : Win) (o off : Nat) (f : Fld) : Prop where
  hi : f.hi < 32
  lo : f.lo ≤ f.hi ∨ f.cls = .ro
  lv : f.cls = .lv → ∀ n, s.lvHold p w o off f.lo n = .open
  st : f.cls = .st → s.stOpen w = true
  stored : f.cls = .st → ∀ n < 2 ^ (f.hi + 1 - f.lo), stValue w o n < 2 ^ (f.hi + 1 - f.lo)
  pulse : f.cls = .pulse → ((p == .cfg && dbgOnly off) || s.locked off) = false

/-- What is asked of a field, by its class. -/
def Ask.value (a : Ask) (w : Win) (o : Nat) (f : Fld) (old : Nat) : Nat := classValue f.cls a.bit w o old (a.of f.hi f.lo)

/-- `s'` is `s` with the fields `fs` of the register at `off` changed: a field that held `old` holds `val f old`. -/
structure FieldsSet (val : Fld → Nat → Nat) (off : Nat) (fs : List Fld) (s s' : State) : Prop where
  rest : s' = { s with regs := s'.regs }
  wf : Tab.wf (resetWord s'.variant) s'.regs = true
  reg : ∀ b, b ≠ off → s'.reg b = s.reg b
  apart : ∀ hi lo, (∀ f ∈ fs, hi < f.lo ∨ f.hi < lo) → s'.fld off hi lo = s.fld off hi lo
  value : ∀ f ∈ fs, s'.fld off f.hi f.lo = val f (s.fld off f.hi f.lo)

section
variable {s t t' t'' : State} {p : Port} {w : Win} {o off : Nat} {a : Ask} {f : Fld} {fs : List Fld} {ig : Bool}
  {val : Fld → Nat → Nat}

theorem FieldsSet.nil (h : Tab.wf (resetWord t.variant) t.regs = true) : FieldsSet val off [] t t :=
  ⟨rfl, h, fun _ _ => rfl, fun _ _ _ => rfl, by simp⟩

/-- A field that keeps its value. -/
theorem FieldsSet.keep (h : Tab.wf (resetWord t.variant) t.regs = true)
    (hv : val f (t.fld off f.hi f.lo) = t.fld off f.hi f.lo) : FieldsSet val off [f] t t :=
  ⟨rfl, h, fun _ _ => rfl, fun _ _ _ => rfl, by simp [hv]⟩

/-- A field that takes a value. -/
theorem FieldsSet.store (h : Tab.wf (resetWord t.variant) t.regs = true) (hlo : f.lo ≤ f.hi) (hhi : f.hi < 32) {n : Nat}
    (hn : n < 2 ^ (f.hi + 1 - f.lo)) (hv : val f (t.fld off f.hi f.lo) = n) :
    FieldsSet val off [f] t (t.setFld off f.hi f.lo n) where
  rest := rfl
  wf := State.regs_wf_setFld h ..
  reg b hb := by rw [State.reg_setFld h, if_neg hb]
  apart hi lo ha := State.fld_setFld_apart h hlo hhi (by simpa using ha)
  value g hg := by
    obtain rfl := List.mem_singleton.mp hg
    rw [State.fld_setFld_same h hlo hhi hn, hv]

/-- A change of a field and one of fields that do not overlap it. -/
theorem FieldsSet.cons (h : FieldsSet val off [f] t t') (h' : FieldsSet val off fs t' t'')
    (ha : ∀ g ∈ fs, f.hi < g.lo ∨ g.hi < f.lo) : FieldsSet val off (f :: fs) t t'' where
  rest := by rw [h'.rest, h.rest]
  wf := h'.wf
  reg b hb := (h'.reg b hb).trans (h.reg b hb)
  apart hi lo hout := by
    rw [h'.apart hi lo fun g hg => hout g (List.mem_cons_of_mem _ hg),
      h.apart hi lo fun g hg => hout g (List.mem_singleton.mp hg ▸ List.mem_cons_self)]
  value g hg := by
    rcases List.mem_cons.mp hg with rfl | hg
    · rw [h'.apart _ _ ha, h.value g List.mem_cons_self]
    · rw [h'.value g hg, h.apart]
      intro f' hf'
      rw [List.mem_singleton.mp hf']
      exact (ha g hg).symm

/-- Changes of fields that do not overlap, one after the other. -/
theorem FieldsSet.foldl {g : State → Fld → State} (hp : fs.Pairwise fun f g => f.hi < g.lo ∨ g.hi < f.lo)
    (hg : ∀ f ∈ fs, ∀ t, Tab.wf (resetWord t.variant) t.regs = true → FieldsSet val off [f] t (g t f))
    (h : Tab.wf (resetWord t.variant) t.regs = true) : FieldsSet val off fs t (fs.foldl g t) := by
  induction fs generalizing t with
  | nil => exact .nil h
  | cons f fs ih =>
    obtain ⟨hhead, htail⟩ := List.pairwise_cons.mp hp
    have hf := hg f List.mem_cons_self t h
    exact hf.cons (ih htail (fun f' hf' => hg f' (List.mem_cons_of_mem _ hf')) hf.wf) hhead

/-- A field that takes a write has the value of its class, and the write is not ignored. -/
theorem State.fieldWrite_written (h : Tab.wf (resetWord t.variant) t.regs = true) (hf : s.TakesField p w o off f)
    (ha : a.of f.hi f.lo < 2 ^ (f.hi + 1 - f.lo)) :
    (s.fieldWrite p w o off a (t, ig) f).2 = ig ∧
      FieldsSet (a.value w o) off [f] t (s.fieldWrite p w o off a (t, ig) f).1 := by
  have hold : t.fld off f.hi f.lo < 2 ^ (f.hi + 1 - f.lo) := State.fld_lt
  have hlo : f.cls ≠ .ro → f.lo ≤ f.hi := fun hc => hf.lo.resolve_right hc
  unfold State.fieldWrite
  extract_lets n old
  have hsub : old - Nat.land old n < 2 ^ (f.hi + 1 - f.lo) := Nat.lt_of_le_of_lt (Nat.sub_le ..) hold
  cases hc : f.cls with
  | st =>
    rw [hc] at hlo
    simp only [hf.st hc, if_true]
    exact ⟨trivial, .store h (hlo (by decide)) hf.hi (hf.stored hc _ ha) (by simp [hc, Ask.value, classValue, n])⟩
  | lv =>
    rw [hc] at hlo
    simp only [hf.lv hc]
    exact ⟨trivial, .store h (hlo (by decide)) hf.hi ha (by simp [hc, Ask.value, classValue, n])⟩
  | w1c =>
    rw [hc] at hlo
    exact ⟨rfl, .store h (hlo (by decide)) hf.hi hsub (by simp [hc, Ask.value, classValue, n, old])⟩
  | rc =>
    rw [hc] at hlo
    cases hb : a.bit with
    | false => exact ⟨rfl, .keep h (by simp [hc, hb, Ask.value, classValue])⟩
    | true => exact ⟨rfl, .store h (hlo (by decide)) hf.hi hsub (by simp [hc, hb, Ask.value, classValue, n, old])⟩
  | lk =>
    rw [hc] at hlo
    exact ⟨rfl, .store h (hlo (by decide)) hf.hi (Nat.or_lt_two_pow hold ha) (by simp [hc, Ask.value, classValue, n, old])⟩
  | pulse =>
    simp only [hf.pulse hc, Bool.and_false, Bool.or_false]
    exact ⟨trivial, .keep h (by simp [hc, Ask.value, classValue])⟩
  | ro => exact ⟨rfl, .keep h (by simp [hc, Ask.value, classValue])⟩
  | zero => exact ⟨rfl, .keep h (by simp [hc, Ask.value, classValue])⟩

/-- Fields that all take a write have the values of their classes, and the write is not ignored. -/
theorem State.foldl_fieldWrite (hf : ∀ f ∈ fs, s.TakesField p w o off f ∧ a.of f.hi f.lo < 2 ^ (f.hi + 1 - f.lo))
    (hp : fs.Pairwise fun f g => f.hi < g.lo ∨ g.hi < f.lo) (h : Tab.wf (resetWord t.variant) t.regs = true) :
    (fs.foldl (s.fieldWrite p w o off a) (t, ig)).2 = ig ∧
      FieldsSet (a.value w o) off fs t (fs.foldl (s.fieldWrite p w o off a) (t, ig)).1 := by
  induction fs generalizing t ig with
  | nil => exact ⟨rfl, .nil h⟩
  | cons f fs ih =>
    obtain ⟨hhead, htail⟩ := List.pairwise_cons.mp hp
    obtain ⟨hig, hw⟩ := s.fieldWrite_written (ig := ig) h (hf f List.mem_cons_self).1 (hf f List.mem_cons_self).2
    obtain ⟨hig', hw'⟩ := ih (t := (s.fieldWrite p w o off a (t, ig) f).1) (ig := (s.fieldWrite p w o off a (t, ig) f).2)
      (fun g hg => hf g (List.mem_cons_of_mem _ hg)) htail hw.wf
    exact ⟨hig'.trans hig, hw.cons hw' hhead⟩

end

end Sys2Proof.Machine
end

section
/-! Writes of the registers that only store (O19). -/

namespace Sys2Proof.Machine

/-! ### The unit does nothing more -/

section
variable {s : State} {p : Port} {w : Win} {o off : Nat} {a : Ask} {r : Wrote} {old : W32} {locked : Bool}

theorem stUnit_storesOnly (h : storesOnly w 0 = true) : stUnit w = none := by
  cases w <;> simp [storesOnly] at h <;> rfl

theorem State.askWrite_storesOnly (h : storesOnly w o = true) : s.askWrite p w o off a = s.plainWrite p w o off a := by
  unfold State.askWrite
  split
  case h_8 => rw [stUnit_storesOnly h]
  all_goals simp [storesOnly] at h
  all_goals rfl

theorem State.afterWrite_storesOnly (h : storesOnly w o = true) : State.afterWrite r p w o old locked a = r := by
  cases w
  all_goals
    simp only [storesOnly, Bool.and_eq_true, bne_iff_ne, ne_eq, Bool.or_eq_true, beq_iff_eq, decide_eq_true_eq,
      Bool.false_eq_true] at h
  case power => simp [State.afterWrite, State.powerWrite, h]
  case sec => rcases h with (rfl | rfl) | rfl <;> rfl
  case charm => rcases h with rfl | rfl <;> rfl
  case home => simp (disch := omega) only [State.afterWrite, State.homeWrite, if_neg]
  case locket => exact if_neg h.2
  case chan => exact if_neg (by omega)
  case phy => simp (disch := omega) only [State.afterWrite, State.phyWrite, if_neg]
  case ctx => simp [State.afterWrite, State.ctxWrite, h]
  all_goals rfl

/-- A write of a register that only stores is a write of its fields. -/
theorem State.askWrite_fields (h : storesOnly w o = true) (hb : blockAt s.variant off = none) :
    s.askWrite p w o off a = s.fieldsWrite p w o off a := by
  rw [State.askWrite_storesOnly h, State.plainWrite, hb]
  exact State.afterWrite_storesOnly h

end

/-! ### Fields by the tables -/

/-- A field that is found in a table stands in one of its descriptions. -/
theorem mem_findReg {ds : List RegDesc} {o : Nat} {f : Fld} (hf : f ∈ findReg ds o) :
    ∃ d ∈ ds, d.off ≤ o ∧ (o - d.off) / d.stride < d.count ∧ f ∈ d.flds := by
  induction ds with
  | nil => exact absurd hf List.not_mem_nil
  | cons d ds ih =>
    unfold findReg at hf
    split at hf
    · next hd => exact ⟨d, List.mem_cons_self, hd.1, hd.2.2, hf⟩
    · obtain ⟨e, he, hrest⟩ := ih hf
      exact ⟨e, List.mem_cons_of_mem _ he, hrest⟩

/-- A field that is found between two offsets is of no class that the descriptions there lack. -/
theorem cls_ne_of_mem_findReg {ds : List RegDesc} {o lo hi : Nat} {f : Fld} {c : Cls} (hf : f ∈ findReg ds o)
    (hlo : lo ≤ o) (hhi : o < hi)
    (h : ∀ d ∈ ds, 0 < d.stride ∧ (d.off + d.stride * d.count ≤ lo ∨ hi ≤ d.off ∨ ∀ f ∈ d.flds, f.cls ≠ c)) : f.cls ≠ c := by
  obtain ⟨d, hd, hoff, hcount, hfd⟩ := mem_findReg hf
  obtain ⟨hpos, hlow | hhigh | hcls⟩ := h d hd
  · have hlt := (Nat.div_lt_iff_lt_mul hpos).mp hcount
    rw [Nat.mul_comm] at hlt
    omega
  · omega
  · exact hcls f hfd

section
variable {s : State} {p : Port} {v : Variant} {w : Win} {o off : Nat} {f : Fld}

/-- The timing parameters fill the low twelve bits of their words. -/
theorem timing_width (hf : f ∈ findReg timingRegs o) : f.hi = 11 ∧ f.lo = 0 := by
  have h : ∀ d ∈ timingRegs, ∀ f ∈ d.flds, f.hi = 11 ∧ f.lo = 0 := by decide
  obtain ⟨d, hd, -, -, hfd⟩ := mem_findReg hf
  exact h d hd f hfd

theorem clamp_timingRange {k n : Nat} (hn : n < 4096) : (timingRange[k]?).elim n (fun r => clamp r.1 r.2 n) < 4096 := by
  have h : ∀ r ∈ timingRange, r.2 < 4096 := by decide
  cases hr : timingRange[k]? with
  | none => exact hn
  | some r => exact Nat.lt_of_le_of_lt (Nat.min_le_left ..) (h r (List.mem_of_getElem? hr))

/-- What an ST field stores fits it (R264). -/
theorem stValue_lt (hf : f ∈ regFlds v w o) {n : Nat} (hn : n < 2 ^ (f.hi + 1 - f.lo)) :
    stValue w o n < 2 ^ (f.hi + 1 - f.lo) := by
  unfold stValue
  split
  · split
    · next n hrange =>
      have hfld : f ∈ findReg timingRegs o := by
        simp only [regFlds, if_neg (show ¬o < 0x100 by omega), if_pos hrange.2] at hf
        exact hf
      obtain ⟨hhi, hlo⟩ := timing_width hfld
      rw [hhi, hlo] at hn ⊢
      exact clamp_timingRange hn
    · exact hn
  · exact hn

/-- The keys' registers have no pulse. -/
theorem cls_ne_pulse_of_keys (hlo : 0x4400 ≤ o) (hhi : o < 0x4600) (hf : f ∈ regFlds v .phy o) : f.cls ≠ .pulse := by
  have hfld : f ∈ findReg (integrityRegs v) o := by
    simp only [regFlds, if_neg (show ¬o < 0x4000 by omega), if_pos (show o < 0x7F00 by omega)] at hf
    exact hf
  exact cls_ne_of_mem_findReg hfld hlo hhi (by cases v <;> decide)

/-- The registers of the security window that only store have no pulse. -/
theorem cls_ne_pulse_of_sec (hs : storesOnly .sec o = true) (hf : f ∈ regFlds v .sec o) : f.cls ≠ .pulse := by
  simp only [storesOnly, Bool.or_eq_true, beq_iff_eq] at hs
  rcases hs with (rfl | rfl) | rfl <;> simp [regFlds, findReg, secRegs] at hf
  · rcases hf with rfl | rfl <;> decide
  · rw [hf]
    decide
  · rw [hf]
    decide

theorem dbgOnly_eq_false :
    dbgOnly off = false ↔ off ≠ 0x2050 ∧ off ≠ 0x2058 ∧ off ≠ 0x205C ∧ ¬(0x2100 ≤ off ∧ off < 0x2140) := by
  simp [dbgOnly, and_assoc]

/-- No pulse of a register that only stores is locked, or kept from a port (R563, R569). -/
theorem State.pulse_open (hloc : locate s.variant off = some (w, o)) (hs : storesOnly w o = true)
    (hb : blockAt s.variant off = none) (hf : f ∈ regFlds s.variant w o) (hc : f.cls = .pulse) :
    ((p == .cfg && dbgOnly off) || s.locked off) = false := by
  have hcount := counts_le s.variant
  obtain ⟨rfl, hfits⟩ := locate_eq_some hloc
  suffices hout : dbgOnly (w.base + o) = false ∧ ¬(0x3C400 ≤ w.base + o ∧ w.base + o < 0x3C600) ∧ w.base + o ≠ 0x2004 ∧
      w.base + o ≠ 0x2050 by
    obtain ⟨hdbg, hkeys, hctrl, hmctrl⟩ := hout
    have hkeys' : (decide (0x3C400 ≤ w.base + o) && decide (w.base + o < 0x3C600)) = false := by simpa using hkeys
    simp [State.locked, hb, hdbg, hkeys', hctrl, hmctrl]
  rw [dbgOnly_eq_false]
  cases w
  case sec => exact absurd hc (cls_ne_pulse_of_sec hs hf)
  case phy =>
    have hkeys : ¬(0x4400 ≤ o ∧ o < 0x4600) := fun h => cls_ne_pulse_of_keys h.1 h.2 hf hc
    simp only [Win.base]
    omega
  all_goals
    simp only [Win.Fits] at hfits
    simp only [Win.base]
    omega

/-- A register that only stores and takes its LV and ST fields takes every field. -/
theorem State.TakesFields.field (ht : s.TakesFields p w o off) (hloc : locate s.variant off = some (w, o))
    (hs : storesOnly w o = true) (hb : blockAt s.variant off = none) (hf : f ∈ regFlds s.variant w o) :
    s.TakesField p w o off f := by
  have hw : w ≠ .intc := by
    rintro rfl
    exact absurd hs (by simp [storesOnly])
  obtain ⟨hhi, hlo, -⟩ := (laid_regFlds s.variant o hw).1 f hf
  exact ⟨hhi, hlo, (ht f hf).1, (ht f hf).2, fun _ _ => stValue_lt hf, State.pulse_open hloc hs hb hf⟩

end

end Sys2Proof.Machine
end

section
/-! Word accesses of registers and of two-word values (O19). -/

namespace Sys2Proof.Machine

/-! ### Where a word access lands -/

section
variable {s : State} {p : Port} {v : Variant} {w : Win} {o off addr : Nat} {x : W32} {st : Site} {c : Instr} {t : State}

/-- A register that is no high word, as a word access asks it. -/
theorem not_high (h : 4 ≤ o → isLow w (o - 4) = false) : (decide (o ≥ 4) && isLow w (o - 4)) = false := by
  by_cases h4 : 4 ≤ o
  · simp [h h4]
  · simp [h4]

/-- A write of a site that changes registers alone is answered, and that is all it does. -/
theorem State.PortOpen.writesOnly {offs : List Nat} {post : State → Prop} (h : s.PortOpen p addr)
    (hexec : exec c s = s.access p (.write p addr x)) (hx : siteOf s.variant addr = some st)
    (hu : undefAt s.variant addr = false) (hw : s.siteWrite p st addr x = t) (hrest : t = { s with regs := t.regs })
    (hreg : ∀ a, a ∉ offs → t.reg a = s.reg a) (hpost : post (t.emit (.portRsp p 0 false))) : WritesOnly c p s offs post := by
  have hbusy : p = .cfg → t.cfgBusy = .none := fun e => by
    rw [hrest]
    exact (h.2.2.2.1 e).1
  refine ⟨t.emit (.portRsp p 0 false), ?_, hpost, hreg, ?_⟩
  · rw [hexec, h.write_site hx hu, hw, State.answered_of_cfgBusy hbusy]
  · rw [hrest]
    rfl

end

/-! ### A word write of a register that only stores (R38) -/

section
variable {s s' : State} {p : Port} {w : Win} {o off : Nat} {x : W32} {f : Fld}

/-- A word write asks of each field what its bits in the word say. -/
theorem State.wordAsk_of (hw : w ≠ .intc) (hf : f ∈ regFlds s.variant w o) :
    (s.wordAsk w o x).of f.hi f.lo = bitsOf x f.hi f.lo :=
  bitsOf_and_fldMask (laid_regFlds _ o hw) hf x

theorem FieldsSet.stores (hw : w ≠ .intc) (h : FieldsSet ((s.wordAsk w o x).value w o) off (regFlds s.variant w o) s s')
    (hf : f ∈ regFlds s.variant w o) : Stores s s' w o off x f := by
  have hv := h.value f hf
  rw [Ask.value, State.wordAsk_of hw hf] at hv
  rw [Stores, hv]
  cases f.cls <;> rfl

theorem storesOnly_ne_intc (hs : storesOnly w o = true) : w ≠ .intc := by
  rintro rfl
  exact absurd hs (by simp [storesOnly])

/-- A word write of a register that only stores and takes its fields writes them all. -/
theorem State.fieldsWrite_word (hcanon : Tab.wf (resetWord s.variant) s.regs = true) (hloc : locate s.variant off = some (w, o))
    (hs : storesOnly w o = true) (hb : blockAt s.variant off = none) (ht : s.TakesFields p w o off) :
    (s.fieldsWrite p w o off (s.wordAsk w o x)).2 = false ∧
      FieldsSet ((s.wordAsk w o x).value w o) off (regFlds s.variant w o) s (s.fieldsWrite p w o off (s.wordAsk w o x)).1 :=
  State.foldl_fieldWrite (fun _ hf => ⟨ht.field hloc hs hb hf, Nat.mod_lt _ (by positivity)⟩)
    (laid_regFlds _ o (storesOnly_ne_intc hs)).2 hcanon

/-- The part of O19 on word writes. -/
theorem wordWrite_stores (hcanon : s.Canonical) (hloc : locate s.variant off = some (w, o))
    (hmod : off % 4 = 0) (hopen : s.PortOpen p off) (hne : regFlds s.variant w o ≠ []) (hb : blockAt s.variant off = none)
    (hlow : isLow w o = false) (hhigh : 4 ≤ o → isLow w (o - 4) = false) (hs : storesOnly w o = true)
    (ht : s.TakesFields p w o off) :
    WritesOnly (.regWrite p ⟨BitVec.ofNat 24 off, 4⟩ x) p s [off] fun s' =>
      ∀ f ∈ regFlds s.variant w o, Stores s s' w o off x f := by
  have haddr : (BitVec.ofNat 24 off).toNat = off := toNat_off hloc
  obtain ⟨hig, hwr⟩ := s.fieldsWrite_word (x := x) hcanon.1 hloc hs hb ht
  have hnot := not_high hhigh
  have hsite : s.siteWrite p ⟨w, o, off, none⟩ off x = (s.fieldsWrite p w o off (s.wordAsk w o x)).1 := by
    simp [State.siteWrite, State.writeWord, hlow, hnot, State.askWrite_fields hs hb, hig]
  refine hopen.writesOnly ?_ (siteOf_word hloc) (undefAt_word hloc hne) hsite hwr.rest (fun a ha => ?_) fun f hf => ?_
  · exact (exec_regWrite (by rw [haddr]; exact hmod)).trans (by rw [haddr])
  · exact hwr.reg a (by simpa using ha)
  · have hstores := hwr.stores (storesOnly_ne_intc hs) hf
    exact hstores

end

/-! ### A word read (R38, R47) -/

section
variable {s : State} {p : Port} {w : Win} {o off : Nat} {f : Fld}

theorem State.clearsRc_of_open (h : s.PortOpen p off) : s.clearsRc p = true := by
  cases p with
  | cfg => rfl
  | dbg => exact decide_eq_true (h.2.2.2.2 rfl).1

/-- What a word read makes of a field that holds `old`. -/
def readValue (f : Fld) (old : Nat) : Nat := if f.cls = .rc then 0 else old

/-- A word read leaves the read-clear fields 0. -/
theorem State.readRc_set (h : s.clearsRc p = true) (hcanon : Tab.wf (resetWord s.variant) s.regs = true) (hw : w ≠ .intc) :
    FieldsSet readValue off (regFlds s.variant w o) s (s.readRc p w o off) := by
  obtain ⟨hfit, hpair⟩ := laid_regFlds s.variant o hw
  rw [State.readRc, if_pos h]
  refine .foldl hpair (fun f hf t ht => ?_) hcanon
  obtain ⟨hhi, hlo, -⟩ := hfit f hf
  split
  · next hc => exact .store ht (hlo.resolve_right (by simp [hc])) hhi (by positivity) (by simp [readValue, hc])
  · next hc => exact .keep ht (by simp [readValue, hc])

/-- What a port reads beside the fields is free and moves the free-value counter alone (R47). -/
theorem State.withOpen_rest {x : W32} : (s.withOpen w o off x).2 = { s with free := (s.withOpen w o off x).2.free } := by
  unfold State.withOpen
  dsimp only
  split <;> rfl

/-- A port reads the fields of a register as they stand. -/
theorem State.bitsOf_withOpen {x : W32} (hw : w ≠ .intc) (hcl : ∀ n, w ≠ .cluster n) (hf : f ∈ regFlds s.variant w o) :
    bitsOf (s.withOpen w o off x).1 f.hi f.lo = bitsOf x f.hi f.lo := by
  have hmask : s.knownMask w o = fldMask (regFlds s.variant w o) := by
    cases w with
    | cluster n => exact absurd rfl (hcl n)
    | _ => rfl
  have hlaid := laid_regFlds s.variant o hw
  rw [State.withOpen, hmask]
  split
  · rfl
  · rw [← bitsOf_and_fldMask hlaid hf, ← bitsOf_and_fldMask hlaid hf x]
    congr 1
    ext i
    simp only [BitVec.getElem_and, BitVec.getElem_or, BitVec.getElem_not]
    cases (BitVec.ofNat 32 (fldMask (regFlds s.variant w o)))[i] <;> simp

end

section
variable {s : State} {p : Port} {w : Win} {o off : Nat}

theorem dbgOnly_open (h : p = .dbg ∨ dbgOnly off = false) : ¬(p = .cfg ∧ dbgOnly off = true) := by
  rintro ⟨rfl, hd⟩
  rcases h with h | h
  · exact Port.noConfusion h
  · rw [hd] at h
    exact Bool.noConfusion h

/-- The part of O19 on word reads. -/
theorem wordRead_fields (hcanon : s.Canonical) (hloc : locate s.variant off = some (w, o))
    (hmod : off % 4 = 0) (hopen : s.PortOpen p off) (hb : blockAt s.variant off = none) (hlow : isLow w o = false)
    (hhigh : 4 ≤ o → isLow w (o - 4) = false) (hintc : w ≠ .intc) (hunit : ∀ n, w ≠ .seq n ∧ w ≠ .svc n ∧ w ≠ .cluster n)
    (hd : p = .dbg ∨ dbgOnly off = false) :
    Does (.readClear p ⟨BitVec.ofNat 24 off, 4⟩) s fun s' => ∃ u, s'.out = .portRsp p u false :: s.out ∧
      (∀ f ∈ regFlds s.variant w o, bitsOf u f.hi f.lo = bitsOf (s.cur w o off) f.hi f.lo ∧
        s'.fld off f.hi f.lo = if f.cls = .rc then 0 else s.fld off f.hi f.lo) ∧
      (∀ b, b ≠ off → s'.reg b = s.reg b) ∧ s' = { s with regs := s'.regs, out := s'.out, free := s'.free } := by
  have haddr : (BitVec.ofNat 24 off).toNat = off := toNat_off hloc
  have hset := State.readRc_set (p := p) (o := o) (off := off) (State.clearsRc_of_open hopen) hcanon.1 hintc
  have hnot := not_high hhigh
  have heff : s.readEffect p w o off = s.readRc p w o off := by
    cases w with
    | intc => exact absurd rfl hintc
    | seq n => exact absurd rfl (hunit n).1
    | svc n => exact absurd rfl (hunit n).2.1
    | _ => rfl
  have hread : s.busRead p off = ((((s.readRc p w o off).withOpen w o off (s.cur w o off)).1, false),
      ((s.readRc p w o off).withOpen w o off (s.cur w o off)).2) := by
    simp [State.busRead, siteOf_word hloc, State.readWord, dbgOnly_open hd, State.wordRead, hb, hlow, hnot, heff]
  have hrest := (s.readRc p w o off).withOpen_rest (w := w) (o := o) (off := off) (x := s.cur w o off)
  have hvar : (s.readRc p w o off).variant = s.variant := by rw [hset.rest]
  have hregs : ∀ b, ((s.readRc p w o off).withOpen w o off (s.cur w o off)).2.reg b = (s.readRc p w o off).reg b := fun b => by
    rw [hrest]
    rfl
  generalize hr : (s.readRc p w o off).withOpen w o off (s.cur w o off) = r at hread hrest hregs
  refine ⟨r.2.emit (.portRsp p r.1 false), ?_, r.1, ?_, fun f hf => ⟨?_, ?_⟩, fun b hne => ?_, ?_⟩
  · rw [exec_readClear (by rw [haddr]; exact hmod), haddr, hopen.read_site (siteOf_word hloc), hread]
  · show _ :: r.2.out = _
    rw [hrest, hset.rest]
  · rw [← hr]
    exact State.bitsOf_withOpen hintc (fun n => (hunit n).2.2) (hvar ▸ hf)
  · show bitsOf (r.2.reg off) _ _ = _
    rw [hregs]
    exact hset.value f hf
  · exact (hregs b).trans (hset.reg b hne)
  · show State.emit r.2 _ = _
    rw [hrest, hset.rest]
    rfl

end

end Sys2Proof.Machine
end

section
/-! Two-word values (O19). -/

namespace Sys2Proof.Machine

/-- The high word of a two-word value goes into a port's read shadow, and the low word into its write shadow (R49, R50). -/
def State.copyHigh (s : State) (p : Port) (w : Win) (o off : Nat) : State :=
  { s with rdShadow := tset (resetWord s.variant (off + 4)) s.rdShadow (shadowKey p off) (s.cur w (o + 4) (off + 4)) }

def State.keepLow (s : State) (p : Port) (off : Nat) (v : W32) : State :=
  { s with wrShadow := tset (resetWord s.variant off) s.wrShadow (shadowKey p off) v }

section
variable {s : State} {p : Port} {w : Win} {o off : Nat} {v : W32} (hl : isLow w o = true)
  (hloc : locate s.variant off = some (w, o))
include hl hloc

/-- The part of O19 on a read of a low word (R49). -/
theorem lowWord_read (hcanon : s.Canonical) (hopen : s.PortOpen p off) (hd : p = .dbg ∨ dbgOnly off = false) :
    Does (.lowWordRead p (BitVec.ofNat 24 off)) s fun s' => ∃ u, s'.out = .portRsp p u false :: s.out ∧
      (∀ f ∈ regFlds s.variant w o, bitsOf u f.hi f.lo = bitsOf (s.cur w o off) f.hi f.lo) ∧
      tget (resetWord s.variant (off + 4)) s'.rdShadow (shadowKey p off) = s.cur w (o + 4) (off + 4) ∧
      s' = { s with rdShadow := s'.rdShadow, out := s'.out, free := s'.free } := by
  have haddr : (BitVec.ofNat 24 off).toNat = off := toNat_off hloc
  obtain ⟨hmod, -, hb, -⟩ := locate_isLow hl hloc
  have hintc : w ≠ .intc := by
    rintro rfl
    exact Bool.noConfusion hl
  have hcl : ∀ n, w ≠ .cluster n := by
    rintro n rfl
    exact Bool.noConfusion hl
  obtain ⟨-, -, -, -, -, -, -, -, hshadow, -⟩ := hcanon
  have hread : s.busRead p off = ((((s.copyHigh p w o off).withOpen w o off (s.cur w o off)).1, false),
      ((s.copyHigh p w o off).withOpen w o off (s.cur w o off)).2) := by
    simp [State.busRead, siteOf_word hloc, State.readWord, dbgOnly_open hd, State.wordRead, hb, hl, State.copyHigh]
  have hrest := (s.copyHigh p w o off).withOpen_rest (w := w) (o := o) (off := off) (x := s.cur w o off)
  generalize hr : (s.copyHigh p w o off).withOpen w o off (s.cur w o off) = r at hread hrest
  refine ⟨r.2.emit (.portRsp p r.1 false), ?_, r.1, ?_, fun f hf => ?_, ?_, ?_⟩
  · rw [exec_lowWordRead (by rw [haddr]; exact hmod), haddr, hopen.read_site (siteOf_word hloc), hread]
  · show _ :: r.2.out = _
    rw [hrest]
    rfl
  · rw [← hr]
    exact State.bitsOf_withOpen hintc hcl hf
  · show tget _ r.2.rdShadow _ = _
    rw [hrest]
    exact (tget_tset (Tab.wf_keys hshadow) ..).trans (if_pos rfl)
  · show State.emit r.2 _ = _
    rw [hrest]
    rfl

/-- The part of O19 on a write of a low word (R50). -/
theorem lowWord_write (hcanon : s.Canonical) (hopen : s.PortOpen p off) :
    Does (.lowWordWrite p (BitVec.ofNat 24 off) v) s fun s' => s'.shadowOf p off = v ∧
      s' = { s with wrShadow := s'.wrShadow, out := .portRsp p 0 false :: s.out } := by
  have haddr : (BitVec.ofNat 24 off).toNat = off := toNat_off hloc
  obtain ⟨hmod, -, hb, -⟩ := locate_isLow hl hloc
  obtain ⟨-, -, -, -, -, -, -, -, -, hshadow, -⟩ := hcanon
  have hsite : s.siteWrite p ⟨w, o, off, none⟩ off v = s.keepLow p off v := by
    simp [State.siteWrite, State.writeWord, hl, State.keepLow]
  have hbusy : p = .cfg → (s.keepLow p off v).cfgBusy = .none := fun e => (hopen.2.2.2.1 e).1
  refine ⟨(s.keepLow p off v).emit (.portRsp p 0 false), ?_, ?_, rfl⟩
  · rw [exec_lowWordWrite (by rw [haddr]; exact hmod), haddr,
      hopen.write_site (siteOf_word hloc) (undefAt_word hloc (regFlds_isLow hl).1), hsite, State.answered_of_cfgBusy hbusy]
  · exact (tget_tset (Tab.wf_keys hshadow) ..).trans (if_pos rfl)

end

/-! ### A write of a high word (R50) -/

theorem unitWin_of_stUnit {w : Win} {u : UnitRef} (hu : stUnit w = some u) : unitWin u = w := by
  cases w <;> simp only [stUnit, reduceCtorEq, Option.some.injEq] at hu <;> subst hu <;> rfl

/-- What a write makes of a field is about the register's word before it and after it alone. -/
theorem Stores.of_reg {s s' t t' : State} {w : Win} {o off : Nat} {x : W32} {f : Fld} (h : Stores s s' w o off x f)
    (hs : t.reg off = s.reg off) (hs' : t'.reg off = s'.reg off) : Stores t t' w o off x f := by
  simp only [Stores, State.fld, hs, hs'] at h ⊢
  exact h

section
variable {val : Fld → Nat → Nat} {fs : List Fld} {s t : State} {p : Port} {w : Win} {o off : Nat} {v : W32}
  (hl : isLow w o = true) (hloc : locate s.variant off = some (w, o))
include hl hloc

/-- The low word of a two-word value lies at no register of another kind. -/
theorem ne_of_isLow {b o' : Nat} {w' : Win} (hb : locate s.variant b = some (w', o')) (hw : isLow w' o' = false) : b ≠ off := by
  rintro rfl
  obtain ⟨rfl, rfl⟩ : w' = w ∧ o' = o := by simpa using hb.symm.trans hloc
  exact Bool.noConfusion (hw.symm.trans hl)

/-- A change of the low word of a two-word value changes no register that decides whether its window is open. -/
theorem FieldsSet.stOpen (h : FieldsSet val off fs s t) : t.stOpen w = s.stOpen w := by
  obtain ⟨hoff, -⟩ := locate_eq_some hloc
  unfold State.stOpen
  cases hu : stUnit w with
  | none => rw [Option.elim_none, Option.elim_none]
  | some u =>
    have hbase : unitCtrl u = w.base := by rw [unitCtrl, unitWin_of_stUnit hu]
    have hpos : o ≠ 0 := by
      rintro rfl
      cases w <;> simp [isLow] at hl
    have hreg : t.reg (unitCtrl u) = s.reg (unitCtrl u) := h.reg _ (by omega)
    simp only [Option.elim_some, State.disabled, State.en, State.flag, hreg]

theorem FieldsSet.lvHold (h : FieldsSet val off fs s t) {lo n : Nat} :
    t.lvHold p w (o + 4) (off + 4) lo n = s.lvHold p w (o + 4) (off + 4) lo n := by
  have hvar : t.variant = s.variant := by rw [h.rest]
  have hlock : t.reg 0x18 = s.reg 0x18 := h.reg _ (ne_of_isLow hl hloc (w' := .glob) (o' := 0x18) rfl rfl)
  have hmig : t.flag migStatus 0 = s.flag migStatus 0 :=
    congrArg (bitOf · 0) (h.reg _ (ne_of_isLow hl hloc (w' := .home) (o' := 0xC84) rfl rfl))
  have hlocked : t.locked (off + 4) = s.locked (off + 4) := by
    simp only [State.locked, State.lockBit, State.flag, hlock, hvar]
  unfold State.lvHold
  rw [hlocked]
  cases w with
  | trellis b => exact Bool.noConfusion hl
  | home => simp only [hmig]
  | phy =>
    obtain rfl : o = 0x4308 := by simpa [isLow] using hl
    simp [State.modeKept]
  | _ => rfl

/-- What the high word takes does not change with the low word. -/
theorem FieldsSet.takesHigh (h : FieldsSet val off fs s t) (ht : s.TakesFields p w (o + 4) (off + 4)) :
    t.TakesFields p w (o + 4) (off + 4) := by
  have hvar : t.variant = s.variant := by rw [h.rest]
  intro f hf
  obtain ⟨hlv, hst⟩ := ht f (hvar ▸ hf)
  exact ⟨fun hc n => (h.lvHold hl hloc).trans (hlv hc n), fun hc => (h.stOpen hl hloc).trans (hst hc)⟩

/-- The part of O19 on a write of a high word. -/
theorem highWord_write (hcanon : s.Canonical) (hopen : s.PortOpen p (off + 4))
    (hs : storesOnly w o = true) (hs4 : storesOnly w (o + 4) = true) (ht : s.TakesFields p w o off)
    (ht4 : s.TakesFields p w (o + 4) (off + 4)) :
    WritesOnly (.highWordWrite p (BitVec.ofNat 24 (off + 4)) v) p s [off, off + 4] fun s' =>
      (∀ f ∈ regFlds s.variant w o, Stores s s' w o off (s.shadowOf p off) f) ∧
      ∀ f ∈ regFlds s.variant w (o + 4), Stores s s' w (o + 4) (off + 4) v f := by
  obtain ⟨hmod, hloc4, hb, hb4⟩ := locate_isLow hl hloc
  have haddr : (BitVec.ofNat 24 (off + 4)).toNat = off + 4 := toNat_off hloc4
  have htb : off + 4 ≠ 0x24 := by
    intro h
    obtain rfl : off = 0x20 := by omega
    obtain ⟨rfl, rfl⟩ : Win.glob = w ∧ 0x20 = o := by simpa [locate] using hloc
    exact absurd hs (by decide)
  obtain ⟨hig, hlow⟩ := s.fieldsWrite_word (x := s.shadowOf p off) hcanon.1 hloc hs hb ht
  generalize hr : s.fieldsWrite p w o off (s.wordAsk w o (s.shadowOf p off)) = r at hig hlow
  have hvar : r.1.variant = s.variant := by rw [hlow.rest]
  obtain ⟨hig', hhigh⟩ := r.1.fieldsWrite_word (x := v) hlow.wf (hvar ▸ hloc4) hs4 (hvar ▸ hb4) (hlow.takesHigh hl hloc ht4)
  generalize hr' : r.1.fieldsWrite p w (o + 4) (off + 4) (r.1.wordAsk w (o + 4) v) = r' at hig' hhigh
  have hsite : s.siteWrite p ⟨w, o + 4, off + 4, none⟩ (off + 4) v = r'.1 := by
    have hask := State.askWrite_fields (s := r.1) (p := p) (a := r.1.wordAsk w (o + 4) v) hs4 (hvar ▸ hb4)
    simp [State.siteWrite, State.writeWord, isLow_add_four hl, hl, State.commit, htb, hr, hask, hr', hig, hig']
  refine hopen.writesOnly ?_ (siteOf_word hloc4) (undefAt_word hloc4 (regFlds_isLow hl).2) hsite ?_ (fun a ha => ?_)
    ⟨fun f hf => ?_, fun f hf => ?_⟩
  · exact (exec_highWordWrite (by rw [haddr]; omega)).trans (by rw [haddr])
  · rw [hhigh.rest, hlow.rest]
  · simp only [List.mem_cons, List.not_mem_nil, or_false, not_or] at ha
    rw [hhigh.reg a ha.2, hlow.reg a ha.1]
  · have hstores := hlow.stores (storesOnly_ne_intc hs) hf
    exact hstores.of_reg rfl (hhigh.reg off (by omega))
  · have hstores := hhigh.stores (storesOnly_ne_intc hs4) (hvar ▸ hf)
    exact hstores.of_reg (hlow.reg (off + 4) (by omega)).symm rfl

end

end Sys2Proof.Machine
end

section
/-! Bit aliases (O19). -/

namespace Sys2Proof.Machine

/-! ### One bit of a number -/

section
variable {n m j q r : Nat} {b : Bool}

/-- The bits of a number put together from a bit, what stands above it and what stands below it. -/
theorem testBit_parts (hr : r < 2 ^ m) :
    (2 ^ m * Nat.bit b q + r).testBit j = if j = m then b else if j < m then r.testBit j else q.testBit (j - m - 1) := by
  rw [Nat.testBit_two_pow_mul_add _ hr]
  rcases Nat.lt_trichotomy j m with h | rfl | h
  · simp [h, h.ne]
  · simp
  · obtain ⟨k, rfl⟩ := Nat.exists_eq_add_of_lt h
    simp [show m + k + 1 - m = k + 1 by omega, show ¬m + k + 1 < m by omega, show m + k + 1 ≠ m by omega, Nat.testBit_succ]

theorem eq_parts (n m : Nat) : n = 2 ^ m * Nat.bit (n.testBit m) (n / 2 ^ m / 2) + n % 2 ^ m := by
  have hq : Nat.bit (n.testBit m) (n / 2 ^ m / 2) = n / 2 ^ m := by
    have := Nat.bit_testBit_zero_shiftRight_one (n / 2 ^ m)
    rwa [Nat.testBit_div_two_pow, Nat.zero_add, Nat.shiftRight_one] at this
  rw [hq, Nat.div_add_mod]

/-- A number with one bit replaced. -/
theorem testBit_replace : (n - n / 2 ^ m % 2 * 2 ^ m + b2n b * 2 ^ m).testBit j = if j = m then b else n.testBit j := by
  have hr : n % 2 ^ m < 2 ^ m := Nat.mod_lt _ (by positivity)
  have hbit : n / 2 ^ m % 2 = b2n (n.testBit m) := by
    rw [Nat.testBit_eq_decide_div_mod_eq, b2n]
    split <;> simp_all
  have hn : n - n / 2 ^ m % 2 * 2 ^ m + b2n b * 2 ^ m = 2 ^ m * Nat.bit b (n / 2 ^ m / 2) + n % 2 ^ m := by
    have hval : ∀ c : Bool, 2 ^ m * Nat.bit c (n / 2 ^ m / 2) = 2 * (2 ^ m * (n / 2 ^ m / 2)) + b2n c * 2 ^ m := by
      rintro (_ | _) <;>
        simp only [Nat.bit_val, b2n, Bool.toNat_true, Bool.toNat_false, if_true, Bool.false_eq_true, if_false] <;> ring
    have hparts := eq_parts n m
    rw [hval] at hparts
    rw [hval, hbit]
    omega
  rw [hn, testBit_parts hr]
  conv_rhs => rw [eq_parts n m, testBit_parts hr]
  split <;> rfl

/-- A number without one of its bits. -/
theorem sub_land_bit : n - Nat.land n (b2n b * 2 ^ m) = if b then n - n / 2 ^ m % 2 * 2 ^ m + b2n false * 2 ^ m else n := by
  cases b with
  | false => simp [b2n]
  | true =>
    have hland : n &&& 2 ^ m = n / 2 ^ m % 2 * 2 ^ m := by
      rw [Nat.and_two_pow, Nat.toNat_testBit]
    simp [b2n, hland]

end

/-! ### One bit of a field (R57) -/

/-- What a write of one bit makes of a field of a class other than ST, bit by bit. -/
theorem testBit_classValue {c : Cls} {w : Win} {o old i j : Nat} {one : Bool} (hc : c ≠ .st) :
    (classValue c true w o old (bitValue c old i one)).testBit j =
      if j = i then aliasBit c (old.testBit i) one else old.testBit j := by
  have hclear : (old - Nat.land old (b2n (!one) * 2 ^ i)).testBit j = if j = i then old.testBit i && one else old.testBit j := by
    rw [sub_land_bit]
    cases one with
    | true =>
      split <;> simp_all
    | false => simp [testBit_replace]
  cases c with
  | st => exact absurd rfl hc
  | lv => exact testBit_replace
  | w1c => exact hclear
  | rc => exact hclear
  | lk =>
    show (old ||| b2n one * 2 ^ i).testBit j = _
    rcases eq_or_ne j i with rfl | h
    · cases one <;> simp [b2n, aliasBit]
    · cases one <;> simp [b2n, h, h.symm]
  | ro | pulse | zero => split <;> simp_all [classValue, aliasBit]

/-- What a write of one bit asks of a field fits it. -/
theorem bitValue_lt {c : Cls} {held i k : Nat} {one : Bool} (hh : held < 2 ^ k) (hi : i < k) : bitValue c held i one < 2 ^ k := by
  have hbit : ∀ b, b2n b * 2 ^ i < 2 ^ k := by
    have hpow : 2 ^ i < 2 ^ k := Nat.pow_lt_pow_right (by decide) hi
    rintro (_ | _)
    · simp [b2n]
    · simpa [b2n] using hpow
  have hset : held - held / 2 ^ i % 2 * 2 ^ i + b2n one * 2 ^ i < 2 ^ k := by
    refine Nat.lt_pow_two_of_testBit _ fun j hj => ?_
    rw [testBit_replace, if_neg (by omega)]
    exact Nat.testBit_lt_two_pow (hh.trans_le (Nat.pow_le_pow_right (by decide) hj))
  cases c with
  | st | lv => exact hset
  | w1c | rc | lk | pulse | ro | zero => exact hbit _

/-- A field's bits of the word that holds a value at the field's place. -/
theorem bitsOf_shifted {x hi lo : Nat} (hlo : lo ≤ hi) (hhi : hi < 32) (hx : x < 2 ^ (hi + 1 - lo)) :
    bitsOf (BitVec.ofNat 32 (x * 2 ^ lo)) hi lo = x := by
  have hpow : 2 ^ (hi + 1 - lo) * 2 ^ lo = 2 ^ (hi + 1) := by
    rw [← pow_add]
    congr 1
    omega
  have hlt : x * 2 ^ lo < 2 ^ 32 :=
    calc x * 2 ^ lo < 2 ^ (hi + 1 - lo) * 2 ^ lo := Nat.mul_lt_mul_of_pos_right hx (by positivity)
      _ = 2 ^ (hi + 1) := hpow
      _ ≤ 2 ^ 32 := Nat.pow_le_pow_right (by decide) (by omega)
  rw [bitsOf, BitVec.toNat_ofNat, Nat.mod_eq_of_lt hlt, Nat.mul_div_cancel _ (by positivity), Nat.mod_eq_of_lt hx]

/-! ### What a write of one bit asks of a register that only stores -/

section
variable {s : State} {w : Win} {o off i : Nat} {f : Fld} {one : Bool}

/-- A register's fields do not overlap: the one that holds a bit is found. -/
theorem find?_fld {fs : List Fld} (h : Laid fs) (hf : f ∈ fs) (hlo : f.lo ≤ i) (hhi : i ≤ f.hi) :
    (fs.find? fun f => decide (f.lo ≤ i ∧ i ≤ f.hi)) = some f := by
  cases hg : fs.find? fun f => decide (f.lo ≤ i ∧ i ≤ f.hi) with
  | none => exact absurd (List.find?_eq_none.mp hg f hf) (by simp [hlo, hhi])
  | some g =>
    have hin : g.lo ≤ i ∧ i ≤ g.hi := by simpa using List.find?_some hg
    by_contra hne
    have hsymm : Std.Symm fun f g : Fld => f.hi < g.lo ∨ g.hi < f.lo := ⟨fun _ _ => Or.symm⟩
    have hapart := h.2.forall (List.mem_of_find?_eq_some hg) hf fun e => hne (congrArg some e)
    omega

/-- An LV field of a register that only stores reads what is stored. -/
theorem State.cur_of_lv (hs : storesOnly w o = true) (hb : blockAt s.variant off = none) (hf : f ∈ regFlds s.variant w o)
    (hc : f.cls = .lv) : s.cur w o off = s.reg off := by
  rw [State.cur, hb]
  show s.winWord w o (s.reg off) = s.reg off
  cases w
  case glob =>
    have hready : o ≠ 0xC := by
      rintro rfl
      exact cls_ne_of_mem_findReg (lo := 0xC) (hi := 0x10) hf le_rfl (by decide) (by cases s.variant <;> decide) hc
    simp only [storesOnly, Bool.and_eq_true, bne_iff_ne] at hs
    simp only [State.winWord, if_neg hready, if_neg hs.1, if_neg hs.2]
  case power =>
    have hstatus : o ≠ 4 := by
      rintro rfl
      exact cls_ne_of_mem_findReg (lo := 4) (hi := 8) (ds := powerRegs s.variant) hf le_rfl (by decide)
        (by cases s.variant <;> decide) hc
    have halive : o ≠ 0xE0C := by
      rintro rfl
      exact cls_ne_of_mem_findReg (lo := 0xE0C) (hi := 0xE10) (ds := powerRegs s.variant) hf le_rfl (by decide)
        (by cases s.variant <;> decide) hc
    simp only [State.winWord, if_neg hstatus, if_neg halive]
  case locket =>
    have hlines : o ≠ 0x10 := by
      rintro rfl
      exact cls_ne_of_mem_findReg (lo := 0x10) (hi := 0x14) (ds := locketRegs s.variant) hf le_rfl (by decide)
        (by cases s.variant <;> decide) hc
    simp only [State.winWord, if_neg hlines]
  case port n =>
    have hstatus : o ≠ 8 := by
      rintro rfl
      exact cls_ne_of_mem_findReg (lo := 8) (hi := 0xC) (ds := portRegs) hf le_rfl (by decide) (by decide) hc
    simp only [State.winWord, if_neg hstatus]
  case phy =>
    have hseed : ¬(0x4208 ≤ o ∧ o < 0x4230) := by
      rintro ⟨hlo, hhi⟩
      have hfld : f ∈ findReg (integrityRegs s.variant) o := by
        simp only [regFlds, if_neg (show ¬o < 0x4000 by omega), if_pos (show o < 0x7F00 by omega)] at hf
        exact hf
      exact cls_ne_of_mem_findReg hfld hlo hhi (by cases s.variant <;> decide) hc
    simp only [storesOnly, Bool.and_eq_true, decide_eq_true_eq] at hs
    simp (disch := omega) only [State.winWord, State.phyWord, State.seedWord, if_neg]
  case sec =>
    simp only [storesOnly, Bool.or_eq_true, beq_iff_eq] at hs
    simp (disch := omega) only [State.winWord, State.secWord, if_neg]
  case charm =>
    simp only [storesOnly, Bool.or_eq_true, beq_iff_eq] at hs
    simp (disch := omega) only [State.winWord, if_neg]
  case home =>
    simp only [storesOnly, decide_eq_true_eq] at hs
    simp (disch := omega) only [State.winWord, State.homeWord, if_neg]
  case chan n =>
    simp only [storesOnly, decide_eq_true_eq] at hs
    simp (disch := omega) only [State.winWord, State.chanWord, if_neg]
  case cluster | seq | svc | intc | store => exact Bool.noConfusion hs
  all_goals rfl

/-- What a write of one bit asks does not depend on a field's value but for the classes that store it. -/
theorem bitValue_held {c : Cls} {held held' k : Nat} (hlv : c ≠ .lv) (hst : c ≠ .st) :
    bitValue c held k one = bitValue c held' k one := by
  cases c with
  | lv => exact absurd rfl hlv
  | st => exact absurd rfl hst
  | w1c | rc | lk | pulse | ro | zero => rfl

variable (hs : storesOnly w o = true) (hb : blockAt s.variant off = none) (hf : f ∈ regFlds s.variant w o) (hlo : f.lo ≤ i)
  (hhi : i ≤ f.hi) (hc : f.cls ≠ .st)
include hs hb hf hlo hhi hc

/-- A write of one bit asks one field for its stored value with the one bit changed (R57). -/
theorem State.bitAsk_eq : s.bitAsk w o off i one =
    ⟨[f], BitVec.ofNat 32 (bitValue f.cls (s.fld off f.hi f.lo) (i - f.lo) one * 2 ^ f.lo), true⟩ := by
  have htoken : ¬(w = .sec ∧ 0x20 ≤ o ∧ o < 0x40) := by
    rintro ⟨rfl, h1, h2⟩
    simp only [storesOnly, Bool.or_eq_true, beq_iff_eq] at hs
    omega
  have hval : bitValue f.cls (bitsOf (s.cur w o off) f.hi f.lo) (i - f.lo) one =
      bitValue f.cls (s.fld off f.hi f.lo) (i - f.lo) one := by
    by_cases hlv : f.cls = .lv
    · rw [State.cur_of_lv hs hb hf hlv, State.fld]
    · exact bitValue_held hlv hc
  simp only [State.bitAsk, find?_fld (laid_regFlds _ o (storesOnly_ne_intc hs)) hf hlo hhi, State.aliasOf, if_neg htoken, hval]

/-- A write of one bit of a register that only stores changes that bit by its class and no other. -/
theorem State.fieldsWrite_bit {p : Port} (hcanon : Tab.wf (resetWord s.variant) s.regs = true)
    (hloc : locate s.variant off = some (w, o)) (ht : s.TakesFields p w o off) :
    let r := s.fieldsWrite p w o off (s.bitAsk w o off i one)
    r.2 = false ∧ r.1 = { s with regs := r.1.regs } ∧ (∀ b, b ≠ off → r.1.reg b = s.reg b) ∧
      r.1.flag off i = aliasBit f.cls (s.flag off i) one ∧ ∀ j < 32, j ≠ i → r.1.flag off j = s.flag off j := by
  have hfield := ht.field hloc hs hb hf
  have hask := State.bitAsk_eq (one := one) hs hb hf hlo hhi hc
  have hflds : (s.bitAsk w o off i one).flds = [f] := by rw [hask]
  have hbit : (s.bitAsk w o off i one).bit = true := by rw [hask]
  have hof : (s.bitAsk w o off i one).of f.hi f.lo = bitValue f.cls (s.fld off f.hi f.lo) (i - f.lo) one := by
    rw [hask]
    exact bitsOf_shifted (hlo.trans hhi) hfield.hi (bitValue_lt State.fld_lt (by omega))
  obtain ⟨hig, hset⟩ := s.foldl_fieldWrite (ig := false) (a := s.bitAsk w o off i one) (fs := [f])
    (by simpa using ⟨hfield, Nat.mod_lt _ (by positivity)⟩) (List.pairwise_singleton ..) hcanon
  rw [← hflds] at hig hset
  have hbits : ∀ j, f.lo ≤ j → j ≤ f.hi → (s.fieldsWrite p w o off (s.bitAsk w o off i one)).1.flag off j =
      if j = i then aliasBit f.cls (s.flag off i) one else s.flag off j := fun j hjlo hjhi => by
    rw [State.flag_eq_testBit_fld hjlo hjhi, State.fieldsWrite, hset.value f (by simp [hflds]), Ask.value, hbit, hof,
      testBit_classValue hc, ← State.flag_eq_testBit_fld hlo hhi, ← State.flag_eq_testBit_fld hjlo hjhi]
    simp [show j - f.lo = i - f.lo ↔ j = i by omega]
  refine ⟨hig, hset.rest, hset.reg, (hbits i hlo hhi).trans (if_pos rfl), fun j _ hj => ?_⟩
  by_cases hin : f.lo ≤ j ∧ j ≤ f.hi
  · exact (hbits j hin.1 hin.2).trans (if_neg hj)
  · rw [State.flag_eq_testBit_fld (s := s) (le_refl j) (le_refl j), State.flag_eq_testBit_fld (le_refl j) (le_refl j)]
    exact congrArg (Nat.testBit · _) (hset.apart j j (by simp [hflds]; omega))

end

/-! ### Where bit aliases lie (R56) -/

section
variable {s : State} {p : Port} {w : Win} {o off i : Nat} {f : Fld} {v : W32}

theorem siteOf_alias {t : Variant} (hloc : locate t off = some (w, o)) (hmod : off % 4 = 0) (hi : i < 32) :
    siteOf t (0x800000 + 32 * off + 4 * i) = some ⟨w, o, off, some i⟩ := by
  have hoff : (0x800000 + 32 * off + 4 * i - 0x800000) / 128 * 4 = off := by omega
  have hbit : (0x800000 + 32 * off + 4 * i - 0x800000) / 4 % 32 = i := by omega
  simp [siteOf, show ¬0x800000 + 32 * off + 4 * i < 0x800000 by omega, hoff, hbit, hloc]

/-- The part of O19 on bit aliases. -/
theorem alias_write (hcanon : s.Canonical) (hloc : locate s.variant off = some (w, o)) (hmod : off % 4 = 0) (hi : i < 32)
    (hf : f ∈ regFlds s.variant w o) (hlo : f.lo ≤ i) (hhi : i ≤ f.hi) (hc : f.cls ≠ .st) (hs : storesOnly w o = true)
    (ht : s.TakesFields p w o off) (hb : blockAt s.variant off = none) (haddr : 0x800000 + 32 * off + 4 * i < 2 ^ 24)
    (hopen : s.PortOpen p (0x800000 + 32 * off + 4 * i)) :
    WritesOnly (.aliasWrite p (BitVec.ofNat 24 (0x800000 + 32 * off + 4 * i)) v) p s [off] fun s' =>
      s'.flag off i = aliasBit f.cls (s.flag off i) (bitOf v 0) ∧ ∀ j < 32, j ≠ i → s'.flag off j = s.flag off j := by
  have hnat : (BitVec.ofNat 24 (0x800000 + 32 * off + 4 * i)).toNat = 0x800000 + 32 * off + 4 * i :=
    Nat.mod_eq_of_lt haddr
  have htb : ¬(off = 0x20 ∨ off = 0x24) := by
    rintro (rfl | rfl) <;> obtain ⟨rfl, rfl⟩ : Win.glob = w ∧ _ = o := by simpa [locate] using hloc
    all_goals exact absurd hs (by decide)
  have hsite := siteOf_alias hloc hmod hi
  have hu : undefAt s.variant (0x800000 + 32 * off + 4 * i) = false := by
    simp only [undefAt, hsite, Option.elim_some, Bool.not_eq_false', List.any_eq_true]
    exact ⟨f, hf, by simp [hlo, hhi]⟩
  obtain ⟨hig, hrest, hreg, hbit, hbits⟩ := State.fieldsWrite_bit (one := bitOf v 0) hs hb hf hlo hhi hc hcanon.1 hloc ht
  refine hopen.writesOnly (x := v) ?_ hsite hu
    (t := (s.fieldsWrite p w o off (s.bitAsk w o off i (bitOf v 0))).1) ?_ hrest (fun a ha => hreg a (by simpa using ha))
    ⟨hbit, hbits⟩
  · exact (exec_aliasWrite (by rw [hnat]; omega)).trans (by rw [hnat])
  · simp [State.siteWrite, State.writeBit, htb, State.askWrite_fields hs hb, hig]

end

/-- Settles O19, part by part: an open port answers every access; a word write, a commit of two words and a write of one bit of a
register that only stores come down to writes of fields that do not overlap, and a word read to reads of them. -/
theorem registerAccesses : Obligations.RegisterAccesses := by
  refine ⟨accesses_answered, fun s p off w o v hcanon hloc _ hmod hopen hne hb hlow hhigh => ⟨fun hs ht => ?_,
    fun hintc hunit hd => ?_⟩, fun s p off w o v hcanon hloc _ hl hopen hopen4 => ⟨fun hd => ?_, ?_, fun hs hs4 ht ht4 => ?_⟩,
    fun s p off w o i f v hcanon hloc hmod hi hf hlo hhi hc hs ht hb haddr hopen => ?_⟩
  · exact wordWrite_stores hcanon hloc hmod hopen hne hb hlow hhigh hs ht
  · exact wordRead_fields hcanon hloc hmod hopen hb hlow hhigh hintc hunit hd
  · exact lowWord_read hl hloc hcanon hopen hd
  · exact lowWord_write hl hloc hcanon hopen
  · exact highWord_write hl hloc hcanon hopen4 hs hs4 ht ht4
  · exact alias_write hcanon hloc hmod hi hf hlo hhi hc hs ht hb haddr hopen

end Sys2Proof.Machine
end

section
/-! Tables, threads, and the issue of an instruction (R77 to R85), shared by the statements about engines. -/

namespace Sys2Proof.Machine

/-! ### Storing twice, storing what is there -/

section
variable {α : Type} [DecidableEq α] {d : Nat → α} {t : Tab α}

theorem tfind_tset {e : α} (h : keysAbove 0 t = true) (k j : Nat) (v : α) :
    tfind (tset e t k v) j = if j = k then (if v = e then none else some v) else tfind t j := by
  unfold tset
  split
  · exact tfind_terase h k j
  · exact tfind_tput t k v j

theorem keysAbove_tset {e : α} (h : keysAbove 0 t = true) (k : Nat) (v : α) : keysAbove 0 (tset e t k v) = true := by
  unfold tset
  split
  · exact keysAbove_terase h k
  · exact keysAbove_tput h (Nat.zero_le k) v

/-- Of two values stored at one key the second stays. -/
theorem tset_tset {e : α} (h : keysAbove 0 t = true) (k : Nat) (v w : α) : tset e (tset e t k v) k w = tset e t k w := by
  have h1 := keysAbove_tset (e := e) h k v
  refine Tab.ext_of_tfind (keysAbove_tset h1 k w) (keysAbove_tset h k w) fun j => ?_
  rw [tfind_tset h1, tfind_tset h, tfind_tset h]
  split <;> rfl

/-- Storing what a key reads as changes nothing. -/
theorem tset_tget (h : Tab.wf d t = true) (k : Nat) : tset (d k) t k (tget (d k) t k) = t := by
  obtain ⟨hkeys, hne⟩ := Tab.wf_iff.mp h
  have hmem : ∀ v, tfind t k = some v → (k, v) ∈ t := by
    clear h hkeys hne
    induction t with
    | nil => simp [tfind]
    | cons e t ih =>
      intro v hv
      unfold tfind at hv
      split at hv
      · next heq =>
        cases hv
        exact heq ▸ List.mem_cons_self
      · exact List.mem_cons_of_mem _ (ih v hv)
  refine Tab.ext_of_tfind (keysAbove_tset hkeys k _) hkeys fun j => ?_
  rw [tfind_tset hkeys]
  split
  · next hj =>
    subst hj
    unfold tget
    cases hf : tfind t j with
    | none => simp
    | some v => simpa using hne _ (hmem v hf)
  · rfl

end

/-! ### General registers (R69) -/

/-- Settles O5: g0 is never listed, and the others lie in a table in canonical form. -/
theorem generalRegisters : Obligations.GeneralRegisters := by
  intro th d a v hwf
  have hkeys := Tab.wf_keys hwf
  have hset : Tab.wf (fun _ => (0 : W64)) (th.setG d v).g = true := Thread.Tidy.setG (th := th) hwf
  refine ⟨rfl, rfl, fun hd => ?_, fun ha => ?_, hset⟩
  · simp [Thread.getG, Thread.setG, hd, tget_tset hkeys]
  · unfold Thread.getG Thread.setG
    by_cases hd : d = 0
    · rw [if_pos hd]
    · rw [if_neg hd, tget_tset hkeys, if_neg ha]

/-! ### What reset leaves -/

/-- A context's status word is 0 at reset. -/
theorem resetWord_ctxStatus {v : Variant} {n : Nat} (hn : n < v.contexts) : resetWord v (ctxBase n + 4) = 0 := by
  have hloc : locate v (ctxBase n + 4) = some (.ctx n, 4) := locate_of_fits (w := .ctx n) ⟨hn, by decide⟩
  have hflds : resetOfFlds (regFlds v (.ctx n) 4) = 0 := rfl
  rw [resetWord, if_neg (by unfold ctxBase; omega), hloc]
  exact congrArg (BitVec.ofNat 32) hflds

/-- Settles O3: every table of the state at reset but the one of register words is empty, and that one holds the debug level. -/
theorem resetState : Obligations.ResetState := by
  refine ⟨rfl, fun v => ?_⟩
  have hregs : Tab.wf (resetWord v) [(0x2000, 0x20000000#32)] = true := by cases v <;> decide +kernel
  have hreg : ∀ a, (State.resetOf v).reg a = if a = 0x2000 then 0x20000000#32 else resetWord v a := fun a => by
    unfold State.reg tget State.resetOf
    simp only [tfind, eq_comm (a := 0x2000)]
    split <;> rfl
  have hen : ∀ u ∈ allUnits v, (State.resetOf v).en u = false := by cases v <;> decide +kernel
  have hctx : ∀ n < v.contexts, (State.resetOf v).ctxState n = 0 := fun n hn => by
    unfold State.ctxState State.fld
    rw [hreg, if_neg (by unfold ctxBase; omega), resetWord_ctxStatus hn]
    rfl
  have hrun : (State.resetOf v).running = false := by cases v <;> decide +kernel
  have htidy : (State.resetOf v).Canonical :=
    ⟨hregs, rfl, rfl, rfl, rfl, rfl, rfl, rfl, rfl, rfl, rfl, rfl, rfl, rfl, rfl, rfl, rfl, rfl, rfl, rfl, rfl, rfl, rfl⟩
  exact ⟨htidy, rfl, rfl, hrun, rfl, rfl, hreg, hen, fun _ => rfl, rfl, hctx, fun _ => rfl, rfl,
    fun _ => ⟨rfl, rfl, rfl⟩, fun _ => ⟨rfl, rfl, rfl⟩, rfl, rfl, rfl, rfl, rfl⟩

end Sys2Proof.Machine
end

section
/-! The issue of an instruction (R77 to R85): what a thread that stands at an instruction does with it. -/

namespace Sys2Proof.Machine

/-! ### Threads in their table -/

section
variable {s : State} {t u : ThreadRef} {th x : Thread}

theorem State.thr_setThr_self (h : s.Canonical) : (s.setThr t th).thr t = th := by
  rw [State.thr_setThr h.2.1, if_pos rfl]

theorem State.thr_setThr_ne (h : s.Canonical) (hu : tkey u ≠ tkey t) : (s.setThr t th).thr u = s.thr u := by
  rw [State.thr_setThr h.2.1, if_neg hu]

theorem State.setThr_setThr (h : s.Canonical) : (s.setThr t th).setThr t x = s.setThr t x :=
  congrArg (fun ts => { s with threads := ts }) (tset_tset (Tab.wf_keys h.2.1) ..)

theorem State.setThr_thr (h : s.Canonical) : s.setThr t (s.thr t) = s :=
  congrArg (fun ts => { s with threads := ts }) (tset_tget h.2.1 (tkey t))

theorem otherThreads_setThr (h : s.Canonical) : OtherThreads t s (s.setThr t th) := fun _ hu => State.thr_setThr_ne h hu

theorem otherThreads_refl : OtherThreads t s s := fun _ _ => rfl

theorem OtherThreads.trans {a b c : State} (h : OtherThreads t a b) (h' : OtherThreads t b c) : OtherThreads t a c :=
  fun u hu => (h' u hu).trans (h u hu)

theorem otherThreads_of_threads {a b : State} (h : b.threads = a.threads) : OtherThreads t a b := fun u _ => by
  unfold State.thr
  rw [h]

theorem State.thr_congr {a b : State} (h : b.threads = a.threads) (t : ThreadRef) : b.thr t = a.thr t := by
  unfold State.thr
  rw [h]

end

/-! ### Requests that enter (R270, R271) -/

/-- `s'` is `s` after requests have entered: charms have counted them, the pool holds them at its end, and jobs have sent
some of their reads. -/
structure Enters (s s' : State) : Prop where
  rest : s' = { s with regs := s'.regs, nextId := s'.nextId, pool := s'.pool, charmQ := s'.charmQ, jobs := s'.jobs }
  reg : ∀ a, ¬asideReg a → s'.reg a = s.reg a
  wf : Tab.wf (resetWord s.variant) s.regs = true → Tab.wf (resetWord s'.variant) s'.regs = true

section
variable {s s' s'' : State} {t : ThreadRef} {r : Req} {c : Nat}

theorem Enters.refl : Enters s s := ⟨rfl, fun _ _ => rfl, id⟩

theorem Enters.trans (h : Enters s s') (h' : Enters s' s'') : Enters s s'' :=
  ⟨by rw [h'.rest, h.rest], fun a ha => (h'.reg a ha).trans (h.reg a ha), h'.wf ∘ h.wf⟩

theorem State.charmOf_lt (s : State) (t : ThreadRef) : s.charmOf t < 64 := by
  unfold State.charmOf
  split
  · exact Nat.mod_lt _ (by decide)
  · decide

/-- A request that enters is counted against its charm and stands at the end of the pool. -/
theorem State.enter_enters (h : Tab.wf (resetWord s.variant) s.regs = true) (hc : c < 64) : Enters s (s.enter c r) := by
  have h1 := (OnlyRegs.refl (p := asideReg) h).countLine hc
  obtain ⟨cq, hadd⟩ := (s.admitReq c r).2.poolAdd_eq (s.admitReq c r).1
  have he : s.enter c r = { s.countLine c with
      nextId := s.nextId + 1, charmQ := cq, pool := (s.countLine c).pool ++ [(s.admitReq c r).1] } := hadd
  have hhist : (s.countLine c).hist = s.hist := by
    unfold State.countLine
    split
    · rfl
    · exact State.setFld_hist ..
  rw [he]
  refine ⟨?_, h1.reg, fun _ => h1.wf⟩
  rw [h1.rest, hhist]

theorem State.enter_pool_asks : (s.enter c r).pool.map Req.asks = s.pool.map Req.asks ++ [r.asks] := by
  obtain ⟨cq, hadd⟩ := (s.admitReq c r).2.poolAdd_eq (s.admitReq c r).1
  have hpool : (s.countLine c).pool = s.pool := by
    unfold State.countLine
    split
    · rfl
    · exact State.setFld_pool ..
  have he : (s.enter c r).pool = (s.countLine c).pool ++ [(s.admitReq c r).1] := congrArg State.pool hadd
  rw [he, hpool, List.map_append]
  rfl

theorem State.countLine_jobs : (s.countLine c).jobs = s.jobs := by
  unfold State.countLine
  split
  · rfl
  · exact State.setFld_jobs ..

theorem State.enter_jobs : (s.enter c r).jobs = s.jobs := by
  obtain ⟨cq, hadd⟩ := (s.admitReq c r).2.poolAdd_eq (s.admitReq c r).1
  exact (congrArg State.jobs hadd).trans State.countLine_jobs

theorem State.enter_nextId : (s.enter c r).nextId = s.nextId + 1 := by
  obtain ⟨cq, hadd⟩ := (s.admitReq c r).2.poolAdd_eq (s.admitReq c r).1
  exact congrArg State.nextId hadd

theorem State.lineOp_enters (h : Tab.wf (resetWord s.variant) s.regs = true) : Enters s (s.lineOp t r) :=
  s.enter_enters h (s.charmOf_lt t)

theorem Enters.withJobs (s : State) (js : List Job) : Enters s { s with jobs := js } := ⟨rfl, fun _ _ => rfl, id⟩

theorem pumpJob_enters {fuel id : Nat} (h : Tab.wf (resetWord s.variant) s.regs = true) : Enters s (pumpJob fuel id s) := by
  induction fuel generalizing s with
  | zero => exact .refl
  | succ fuel ih =>
    unfold pumpJob
    split
    · exact .refl
    · next j _ =>
      split
      · exact .refl
      · extract_lets src r step s1
        split
        · exact .refl
        · have h1 : Enters s s1 := .withJobs s _
          have h2 : Enters s1 (s1.lineOp j.t r) := s1.lineOp_enters (h1.wf h)
          exact h1.trans (h2.trans (ih (h2.wf (h1.wf h))))

theorem State.pumpJobs_enters {p : Job → Bool} (h : Tab.wf (resetWord s.variant) s.regs = true) :
    Enters s (s.pumpJobs p) :=
  (List.foldlRecOn (motive := fun x => Enters s x) _ _ Enters.refl fun _ hx _ _ => hx.trans (pumpJob_enters (hx.wf h)))

theorem Enters.threads (h : Enters s s') : s'.threads = s.threads := by rw [h.rest]
theorem Enters.thr (h : Enters s s') (t : ThreadRef) : s'.thr t = s.thr t := State.thr_congr h.threads t
theorem Enters.ctxs (h : Enters s s') : s'.ctxs = s.ctxs := by rw [h.rest]
theorem Enters.scratch (h : Enters s s') : s'.scratch = s.scratch := by rw [h.rest]
theorem Enters.clasps (h : Enters s s') : s'.clasps = s.clasps := by rw [h.rest]
theorem Enters.evf (h : Enters s s') : s'.evf = s.evf := by rw [h.rest]

theorem Enters.alike (h : Enters s s') : Alike s s' := by
  refine ⟨h.reg, ?_, ?_, ?_, ?_, ?_, ?_, ?_, ?_, ?_, ?_, ?_, ?_, ?_⟩ <;> rw [h.rest]

theorem Enters.canonical (h : Enters s s') (hs : s.Canonical) : s'.Canonical := by
  have hr := h.wf hs.1
  obtain ⟨-, hrest⟩ := hs
  refine ⟨hr, ?_⟩
  rw [h.rest]
  exact hrest

theorem Enters.bankLen (h : Enters s s') (b : BankRef) (i : Nat) : s'.bankLen b i = s.bankLen b i := by
  refine h.alike.fld ?_
  cases b <;> simp only [asideReg, bankBase, Win.base] <;> omega

end

/-! ### The issue of an instruction -/

/-- The reads that a thread has left to issue go first (R79). -/
def State.pumped (s : State) (t : ThreadRef) : State := s.pumpJobs fun j => j.t == t

section
variable {s : State} {t : ThreadRef} {w : W32} {op : Nat} {kinds : List EngKind} {pick : W32 → Bool}
  {f : State → Thread → W32 → Eff}

theorem pumpJob_of_want {id fuel : Nat} (h : ∀ j ∈ s.jobs, j.id = id → j.want = []) : pumpJob fuel id s = s := by
  cases fuel with
  | zero => rfl
  | succ fuel =>
    unfold pumpJob
    split
    · rfl
    · next j hj =>
      have hid : j.id = id := by simpa using List.find?_some hj
      rw [h j (List.mem_of_find?_eq_some hj) hid]

/-- A thread without reads left to issue issues none. -/
theorem State.Fed.pumped (h : s.Fed t) : s.pumped t = s := by
  unfold State.pumped State.pumpJobs
  refine List.foldlRecOn (motive := fun x => x = s) _ _ rfl fun x hx j hj => ?_
  obtain ⟨hmem, hp⟩ := List.mem_filter.mp hj
  have ht : j.t = t := by simpa using (Bool.and_eq_true_iff.mp hp).1
  rw [hx, h j hmem ht]
  rfl

/-- The thread stands at the instruction: it is executed. -/
theorem State.Stands.issue (h : s.Stands t w) (hop : opOf w = op) (hpick : pick w = true)
    (hkind : kinds.contains t.kind = true) :
    s.issue t op kinds pick f = (f (s.pumped t) ((s.pumped t).thr t) w).apply (s.pumped t) t := by
  obtain ⟨hruns, hen, hfetch, htmo⟩ := h
  have hoff : ¬(t.kind ≠ .stream ∧ s.en (engUnit t) = false) := by
    rintro ⟨hk, he⟩
    rcases hen with hk' | he'
    · exact hk hk'
    · simp [he] at he'
  unfold State.issue
  rw [if_neg (by simp [hruns]), if_neg hoff, hfetch]
  dsimp only
  rw [if_neg (by simp [hop, hpick]), if_neg (by simp [htmo]), if_neg (by simp only [hkind]; decide)]
  rfl

/-- The thread stands at the instruction and has no reads left to issue: only the instruction acts. -/
theorem State.Stands.issue_fed (h : s.Stands t w) (hfed : s.Fed t) (hop : opOf w = op) (hpick : pick w = true)
    (hkind : kinds.contains t.kind = true) : s.issue t op kinds pick f = (f s (s.thr t) w).apply s t := by
  rw [h.issue hop hpick hkind, hfed.pumped]

theorem allKinds_contains (k : EngKind) : allKinds.contains k = true := by cases k <;> rfl

end

/-! ### Instructions that are done and change their thread alone -/

section
variable {s : State} {t : ThreadRef} {th : Thread} {pc : Nat} {w : W32} {op : Nat} {pick : W32 → Bool}
  {f : State → Thread → W32 → Eff} {c : Instr}

theorem State.setThr_goTo (h : s.Canonical) : (s.setThr t th).goTo t pc = s.setThr t { th with pc := pc, prog := 0 } := by
  unfold State.goTo
  rw [State.thr_setThr_self h, State.setThr_setThr h]

theorem State.setThr_nextPc (h : s.Canonical) : (s.setThr t th).nextPc t = s.setThr t th.next := by
  unfold State.nextPc
  rw [State.thr_setThr_self h, State.setThr_goTo h]
  rfl

theorem State.nextPc_eq (s : State) (t : ThreadRef) : s.nextPc t = s.setThr t (s.thr t).next := rfl

theorem State.pumped_enters (h : s.Canonical) (t : ThreadRef) : Enters s (s.pumped t) := s.pumpJobs_enters h.1

/-- A state with one thread stored differs from what it was in that thread alone. -/
theorem Enters.setThr_changes {s' : State} (h : Enters s s') (hcanon : s.Canonical) (hfed : s.Fed t → s' = s) :
    (s'.setThr t th).thr t = th ∧ OtherThreads t s (s'.setThr t th) ∧
      (s.Fed t → s'.setThr t th = { s with threads := (s'.setThr t th).threads }) := by
  have hc' := h.canonical hcanon
  refine ⟨State.thr_setThr_self hc', (otherThreads_of_threads h.threads).trans (otherThreads_setThr hc'), fun hf => ?_⟩
  rw [hfed hf]
  rfl

/-- An instruction that only stores into its thread is done. -/
theorem State.Stands.doneWith (h : s.Stands t w) (hcanon : s.Canonical) (hop : opOf w = op) (hpick : pick w = true)
    (hc : exec c s = .next (s.issue t op allKinds pick f))
    (hf : f (s.pumped t) (s.thr t) w = .done ((s.pumped t).setThr t th)) : DoneWith c s t th := by
  have he := s.pumped_enters hcanon t
  refine ⟨(s.pumped t).setThr t th.next, ?_, he.setThr_changes hcanon State.Fed.pumped⟩
  rw [hc, h.issue hop hpick (allKinds_contains _), he.thr, hf]
  exact congrArg _ (State.setThr_nextPc (he.canonical hcanon))

/-- An instruction that branches within the image goes to its target. -/
theorem State.Stands.goesTo {a : Int} (h : s.Stands t w) (hcanon : s.Canonical) (hop : opOf w = op) (hpick : pick w = true)
    (hc : exec c s = .next (s.issue t op allKinds pick f))
    (hf : f (s.pumped t) (s.thr t) w = .branch a ((s.pumped t).setThr t th)) (ha : 0 ≤ a) (hlen : a < (s.imageLen t : Int)) :
    ∃ s', exec c s = .next s' ∧ s'.thr t = { th with pc := a.toNat, prog := 0 } ∧ OtherThreads t s s' ∧
      (s.Fed t → s' = { s with threads := s'.threads }) := by
  have he := s.pumped_enters hcanon t
  have himage : (s.pumped t).imageLen t = s.imageLen t := by
    unfold State.imageLen
    rw [he.thr, he.bankLen]
  refine ⟨(s.pumped t).setThr t { th with pc := a.toNat, prog := 0 }, ?_, he.setThr_changes hcanon State.Fed.pumped⟩
  rw [hc, h.issue hop hpick (allKinds_contains _), he.thr, hf, Eff.apply, himage, if_pos ⟨ha, hlen⟩]
  exact congrArg _ (State.setThr_goTo (he.canonical hcanon))

/-- An instruction of a thread without reads left to issue that only stores into its thread is done. -/
theorem State.Stands.onlyThread {kinds : List EngKind} (h : s.Stands t w) (hcanon : s.Canonical) (hfed : s.Fed t)
    (hop : opOf w = op) (hpick : pick w = true) (hkind : kinds.contains t.kind = true)
    (hc : exec c s = .next (s.issue t op kinds pick f)) (hf : f s (s.thr t) w = .done (s.setThr t th)) :
    OnlyThread c s t th := by
  refine ⟨s.setThr t th.next, ?_, State.thr_setThr_self hcanon, otherThreads_setThr hcanon, rfl⟩
  rw [hc, h.issue_fed hfed hop hpick hkind, hf]
  exact congrArg _ (State.setThr_nextPc hcanon)

end

end Sys2Proof.Machine
end

section
/-! The register form, the immediate form and the branches of Daxry (R86 to R91). -/

namespace Sys2Proof.Machine

/-! ### Values -/

section
variable {x y : W64} {n : Nat}

theorem shiftLeft_eq_ofNat : x <<< n = BitVec.ofNat 64 (x.toNat * 2 ^ n) := by
  refine BitVec.eq_of_toNat_eq ?_
  rw [BitVec.toNat_shiftLeft, BitVec.toNat_ofNat, Nat.shiftLeft_eq]

theorem shiftRight_eq_ofNat : x >>> n = BitVec.ofNat 64 (x.toNat / 2 ^ n) := by
  refine BitVec.eq_of_toNat_eq ?_
  rw [BitVec.toNat_ushiftRight, BitVec.toNat_ofNat, Nat.shiftRight_eq_div_pow]
  exact (Nat.mod_eq_of_lt (Nat.lt_of_le_of_lt (Nat.div_le_self ..) x.isLt)).symm

theorem sshiftRight_eq_ofInt : x.sshiftRight n = BitVec.ofInt 64 (x.toInt / 2 ^ n) := by
  rw [BitVec.sshiftRight, Int.shiftRight_eq_div_pow]
  norm_cast

/-- The low six bits of a register, the count of a shift (R86). -/
theorem bitsOf_five : bitsOf y 5 0 = y.toNat % 64 := by simp [bitsOf]

theorem min_signed : (if x.sle y then x else y) = BitVec.ofInt 64 (min x.toInt y.toInt) := by
  by_cases h : x.toInt ≤ y.toInt
  · rw [BitVec.sle_iff_toInt_le.mpr h, min_eq_left h, BitVec.ofInt_toInt, if_pos rfl]
  · rw [if_neg (mt BitVec.sle_iff_toInt_le.mp h), min_eq_right (le_of_not_ge h), BitVec.ofInt_toInt]

theorem max_signed : (if x.sle y then y else x) = BitVec.ofInt 64 (max x.toInt y.toInt) := by
  by_cases h : x.toInt ≤ y.toInt
  · rw [BitVec.sle_iff_toInt_le.mpr h, max_eq_right h, BitVec.ofInt_toInt, if_pos rfl]
  · rw [if_neg (mt BitVec.sle_iff_toInt_le.mp h), max_eq_left (le_of_not_ge h), BitVec.ofInt_toInt]

theorem min_unsigned : (if x.ule y then x else y) = BitVec.ofNat 64 (min x.toNat y.toNat) := by
  by_cases h : x.toNat ≤ y.toNat
  · rw [if_pos (BitVec.ule_iff_toNat_le.mpr h), min_eq_left h, BitVec.ofNat_toNat, BitVec.setWidth_eq]
  · rw [if_neg (mt BitVec.ule_iff_toNat_le.mp h), min_eq_right (le_of_not_ge h), BitVec.ofNat_toNat, BitVec.setWidth_eq]

theorem max_unsigned : (if x.ule y then y else x) = BitVec.ofNat 64 (max x.toNat y.toNat) := by
  by_cases h : x.toNat ≤ y.toNat
  · rw [if_pos (BitVec.ule_iff_toNat_le.mpr h), max_eq_right h, BitVec.ofNat_toNat, BitVec.setWidth_eq]
  · rw [if_neg (mt BitVec.ule_iff_toNat_le.mp h), max_eq_left (le_of_not_ge h), BitVec.ofNat_toNat, BitVec.setWidth_eq]

/-- The immediate sign-extended (R88). -/
theorem immS_eq (w : W32) : immS w = BitVec.ofInt 64 (BitVec.ofNat 16 (fImm w)).toInt := by
  have hlt : fImm w < 2 ^ 16 := Nat.mod_lt _ (by decide)
  unfold immS signed
  rw [BitVec.toInt_eq_toNat_cond, BitVec.toNat_ofNat]
  congr 1
  split <;> split <;> omega

end

/-! ### Register and immediate form -/

section
variable {c : ThreadRef → Instr} {op : Nat} {ok : W32 → Prop} {value : Thread → W32 → W64}
  {f : State → ThreadRef → Thread → W32 → Eff} {g : W64 → W64 → W64} {i : W64 → W32 → W64}

/-- An instruction whose meaning stores a value into g[d] writes that register. -/
theorem writesReg_of (hc : ∀ t s, exec (c t) s = .next (s.issue t op allKinds anyWord fun s th w => f s t th w))
    (hf : ∀ s t th w, ok w → f s t th w = .done (s.setThr t (th.setG (fD w) (value th w)))) :
    WritesReg c op ok value :=
  fun s t _ hcanon hst hop hok => hst.doneWith hcanon hop rfl (hc t s) (hf _ _ _ _ hok)

theorem writesReg_aluReg (hc : ∀ t s, exec (c t) s = .next (s.issue t op allKinds anyWord fun s th w => aluReg g s t th w))
    (hv : ∀ th w, g (th.getG (fA w)) (th.getG (fB w)) = value th w) : WritesReg c op (fun w => fFn w = 0) value :=
  writesReg_of hc fun s t th w hw => by rw [aluReg, if_neg (not_not.mpr hw), hv]

theorem writesReg_aluImm {p : W32 → Bool}
    (hc : ∀ t s, exec (c t) s = .next (s.issue t op allKinds anyWord fun s th w => aluImm p i s t th w))
    (hp : ∀ w, ok w → p w = true) (hv : ∀ th w, i (th.getG (fA w)) w = value th w) : WritesReg c op ok value :=
  writesReg_of hc fun s t th w hw => by rw [aluImm, if_pos (hp w hw), hv]

theorem writesReg_signed {g' : W64 → W64 → W64}
    (hc : ∀ t s, exec (c t) s = .next (s.issue t op allKinds anyWord fun s th w => aluPick g g' s t th w))
    (hv : ∀ th w, g (th.getG (fA w)) (th.getG (fB w)) = value th w) : WritesReg c op (fun w => fFn w = 0) value :=
  writesReg_of hc fun s t th w hw => by
    rw [aluPick, hw, ← hv]
    rfl

theorem writesReg_unsigned {g' : W64 → W64 → W64}
    (hc : ∀ t s, exec (c t) s = .next (s.issue t op allKinds anyWord fun s th w => aluPick g' g s t th w))
    (hv : ∀ th w, g (th.getG (fA w)) (th.getG (fB w)) = value th w) : WritesReg c op (fun w => fFn w = 1) value :=
  writesReg_of hc fun s t th w hw => by
    rw [aluPick, hw, ← hv]
    rfl

theorem writesReg_cmp {k : Nat} {p : W64 → W64 → Bool} (hk : ∀ x y, cmpRel k x y = some (p x y)) :
    WritesReg .cmp 0x0B (fun w => fFn w = k) fun th w => if p (th.getG (fA w)) (th.getG (fB w)) then 1 else 0 :=
  writesReg_of (fun _ _ => rfl) fun s t th w hw => by rw [hw, hk]

theorem writesReg_sel : WritesReg .sel 0x0C (fun w => fFn w < 32)
    fun th w => if th.getG (fFn w) ≠ 0 then th.getG (fA w) else th.getG (fB w) :=
  writesReg_of (fun _ _ => rfl) fun _ _ _ _ hw => if_neg (Nat.not_le.mpr hw)

end

/-- Settles O6: each instruction stores the value of its function; the model's word operations are those of the integers. -/
theorem registerInstructions : Obligations.RegisterInstructions := by
  have hmul : ∀ x y : W64, x * y = BitVec.ofNat 64 (x.toNat * y.toNat) := fun x y => BitVec.eq_of_toNat_eq (by simp)
  have h0 : ∀ x y, cmpRel 0 x y = some (decide (x = y)) := fun x y => by simp [cmpRel, beq_eq_decide]
  have h1 : ∀ x y, cmpRel 1 x y = some (decide (x ≠ y)) := fun x y => by simp [cmpRel, bne, beq_eq_decide]
  have h2 : ∀ x y, cmpRel 2 x y = some (decide (x.toInt < y.toInt)) := fun x y => by simp [cmpRel, BitVec.slt]
  have h3 : ∀ x y, cmpRel 3 x y = some (decide (y.toInt ≤ x.toInt)) := fun x y => by
    simp [cmpRel, BitVec.slt, ← decide_not]
  have h4 : ∀ x y, cmpRel 4 x y = some (decide (x.toNat < y.toNat)) := fun x y => by simp [cmpRel, BitVec.ult]
  have h5 : ∀ x y, cmpRel 5 x y = some (decide (y.toNat ≤ x.toNat)) := fun x y => by
    simp [cmpRel, BitVec.ult, ← decide_not]
  refine ⟨⟨?_, ?_, ?_, ?_, ?_, ?_, ?_, ?_, ?_, ?_, ?_, ?_, ?_, writesReg_sel⟩, ?_, ?_, ?_, ?_, ?_, ?_⟩
  · exact writesReg_aluReg (fun _ _ => rfl) fun _ _ => rfl
  · exact writesReg_aluReg (fun _ _ => rfl) fun _ _ => rfl
  · exact writesReg_aluReg (fun _ _ => rfl) fun _ _ => hmul ..
  · exact writesReg_aluReg (fun _ _ => rfl) fun _ _ => rfl
  · exact writesReg_aluReg (fun _ _ => rfl) fun _ _ => rfl
  · exact writesReg_aluReg (fun _ _ => rfl) fun _ _ => rfl
  · exact writesReg_aluReg (fun _ _ => rfl) fun _ _ => by rw [shiftBy, bitsOf_five, shiftLeft_eq_ofNat]
  · exact writesReg_aluReg (fun _ _ => rfl) fun _ _ => by rw [shiftBy, bitsOf_five, shiftRight_eq_ofNat]
  · exact writesReg_aluReg (fun _ _ => rfl) fun _ _ => by rw [shiftBy, bitsOf_five, sshiftRight_eq_ofInt]
  · exact writesReg_signed (fun _ _ => rfl) fun _ _ => min_signed
  · exact writesReg_unsigned (fun _ _ => rfl) fun _ _ => min_unsigned
  · exact writesReg_signed (fun _ _ => rfl) fun _ _ => max_signed
  · exact writesReg_unsigned (fun _ _ => rfl) fun _ _ => max_unsigned
  · exact writesReg_cmp h0
  · exact writesReg_cmp h1
  · exact writesReg_cmp h2
  · exact writesReg_cmp h3
  · exact writesReg_cmp h4
  · exact writesReg_cmp h5

/-- Settles O7: each instruction stores the value of its function where its immediate is allowed. -/
theorem immediateInstructions : Obligations.ImmediateInstructions := by
  have hshift : ∀ w : W32, fImm w < 64 → shiftOk w = true := fun _ => decide_eq_true
  refine ⟨?_, ?_, ?_, ?_, ?_, ?_, ?_, ?_, ?_⟩
  · exact writesReg_aluImm (fun _ _ => rfl) (fun _ _ => rfl) fun _ w => congrArg _ (immS_eq w)
  · exact writesReg_aluImm (fun _ _ => rfl) (fun _ _ => rfl) fun _ _ => rfl
  · exact writesReg_aluImm (fun _ _ => rfl) (fun _ _ => rfl) fun _ _ => rfl
  · exact writesReg_aluImm (fun _ _ => rfl) (fun _ _ => rfl) fun _ _ => rfl
  · exact writesReg_aluImm (fun _ _ => rfl) hshift fun _ _ => shiftLeft_eq_ofNat
  · exact writesReg_aluImm (fun _ _ => rfl) hshift fun _ _ => shiftRight_eq_ofNat
  · exact writesReg_aluImm (fun _ _ => rfl) hshift fun _ _ => sshiftRight_eq_ofInt
  · exact writesReg_aluImm (fun _ _ => rfl) (fun _ => decide_eq_true) fun _ w => immS_eq w
  · exact writesReg_aluImm (fun _ _ => rfl) (fun _ _ => rfl) fun _ _ => rfl

/-! ### Branches -/

section
variable {c : ThreadRef → Instr} {op : Nat} {ok : Thread → W32 → Prop} {target : Thread → W32 → Int}
  {regs : Thread → Thread} {f : State → ThreadRef → Thread → W32 → Eff}

/-- An instruction whose meaning branches goes to its target. -/
theorem goesTo_of (hc : ∀ t s, exec (c t) s = .next (s.issue t op allKinds anyWord fun s th w => f s t th w))
    (hf : ∀ (s : State) t w, s.Canonical → ok (s.thr t) w →
      f s t (s.thr t) w = .branch (target (s.thr t) w) (s.setThr t (regs (s.thr t)))) : GoesTo c op ok target regs :=
  fun s t w hcanon hst hop hok h0 hlen => by
    have he := s.pumped_enters hcanon t
    have hthr := he.thr t
    refine hst.goesTo hcanon hop rfl (hc t s) ?_ h0 hlen
    rw [← hthr] at hok ⊢
    exact hf _ t w (he.canonical hcanon) hok

/-- BRC goes to its target where its condition holds (R90). -/
theorem goesTo_brc {k : Nat} {p : W64 → Bool} (hk : ∀ x, condHolds k x = some (p x)) :
    GoesTo .brc 0x21 (fun th w => bCond w = k ∧ p (th.getG (bA w)) = true) branchTo id :=
  goesTo_of (fun _ _ => rfl) fun s t w hcanon ⟨hcond, hp⟩ => by
    rw [hcond, hk, hp, id, State.setThr_thr hcanon]

/-- BRC goes on at the next instruction where its condition does not hold (R90). -/
theorem brc_next {k : Nat} {p : W64 → Bool} (hk : ∀ x, condHolds k x = some (p x)) (s : State) (t : ThreadRef) (w : W32)
    (hcanon : s.Canonical) (hst : s.Stands t w) (hop : opOf w = 0x21) (hcond : bCond w = k)
    (hp : p ((s.thr t).getG (bA w)) = false) : DoneWith (.brc t) s t (s.thr t) := by
  have he := s.pumped_enters hcanon t
  refine hst.doneWith hcanon hop rfl rfl ?_
  rw [hcond, hk, hp, ← he.thr t, State.setThr_thr (he.canonical hcanon)]

end

/-- Settles O8: each branch goes to its target where its condition holds. -/
theorem branches : Obligations.Branches := by
  have hslt : ∀ x y : W64, x.slt y = decide (x.toInt < y.toInt) := fun _ _ => rfl
  have h1 : ∀ x, condHolds 1 x = some (decide (x ≠ 0)) := fun x => by simp [condHolds, bne, beq_eq_decide]
  have h2 : ∀ x, condHolds 2 x = some (decide (x.toInt < 0)) := fun x => by simp [condHolds, hslt]
  have h3 : ∀ x, condHolds 3 x = some (decide (0 ≤ x.toInt)) := fun x => by simp [condHolds, hslt, ← decide_not]
  have h4 : ∀ x, condHolds 4 x = some (decide (0 < x.toInt)) := fun x => by simp [condHolds, hslt]
  have h5 : ∀ x, condHolds 5 x = some (decide (x.toInt ≤ 0)) := fun x => by simp [condHolds, hslt, ← decide_not]
  have h0 : ∀ x, condHolds 0 x = some (decide (x = 0)) := fun x => by simp [condHolds, beq_eq_decide]
  have h6 : ∀ x, condHolds 6 x = some (bitOf x 0) := fun _ => rfl
  have h7 : ∀ x, condHolds 7 x = some (!bitOf x 0) := fun _ => rfl
  refine ⟨?_, ?_, ?_, ⟨goesTo_brc h0, brc_next h0⟩, ⟨goesTo_brc h1, brc_next h1⟩,
    ⟨goesTo_brc h2, brc_next h2⟩, ⟨goesTo_brc h3, brc_next h3⟩, ⟨goesTo_brc h4, brc_next h4⟩, ⟨goesTo_brc h5, brc_next h5⟩,
    ⟨goesTo_brc h6, brc_next h6⟩,
    ⟨goesTo_brc h7, brc_next h7⟩⟩
  · exact goesTo_of (fun _ _ => rfl) fun s t w hcanon hw => by simp [hw, branchTo, State.setThr_thr hcanon]
  · exact goesTo_of (fun _ _ => rfl) fun s t w hcanon hw => by simp [hw, branchTo]
  · exact goesTo_of (fun _ _ => rfl) fun s t w hcanon hw => by simp [hw, State.setThr_thr hcanon]

end Sys2Proof.Machine
end

section
/-! Local accesses (R74, R75, R92, R93), HMCHK (R123) and GRAFTPT (R124, R142). -/

namespace Sys2Proof.Machine

/-! ### Two-word values (R49) -/

section
variable {s : State} {a b n : Nat}

theorem State.reg2_setReg2 (h : Tab.wf (resetWord s.variant) s.regs = true) (hn : n < 2 ^ 64) :
    (s.setReg2 a n).reg2 a = n := by
  unfold State.reg2
  rw [State.reg_setReg2 h, State.reg_setReg2 h, if_neg (by omega), if_pos rfl, if_pos rfl, BitVec.toNat_ofNat,
    BitVec.toNat_ofNat]
  omega

theorem State.reg_setReg2_ne (h : Tab.wf (resetWord s.variant) s.regs = true) (h0 : b ≠ a) (h4 : b ≠ a + 4) :
    (s.setReg2 a n).reg b = s.reg b := by
  rw [State.reg_setReg2 h, if_neg h4, if_neg h0]

end

/-! ### The thread goes on after another part of the state has changed -/

section
variable {s x : State} {t : ThreadRef} {w : W32} {op : Nat} {kinds : List EngKind} {pick : W32 → Bool}
  {f : State → Thread → W32 → Eff} {c : Instr}

/-- An instruction that changes no thread is done: what it leaves, and its thread at the next instruction. -/
theorem State.Stands.exec_done (h : s.Stands t w) (hfed : s.Fed t) (hop : opOf w = op) (hpick : pick w = true)
    (hkind : kinds.contains t.kind = true) (hc : exec c s = .next (s.issue t op kinds pick f))
    (hf : f s (s.thr t) w = .done x) : exec c s = .next (x.setThr t (x.thr t).next) := by
  rw [hc, h.issue_fed hfed hop hpick hkind, hf]
  rfl

/-- The threads of a state in which only other parts than threads differ from a canonical one. -/
theorem nextPc_threads (hcanon : s.Canonical) (hx : x.threads = s.threads) :
    (x.setThr t (s.thr t).next).thr t = (s.thr t).next ∧ OtherThreads t s (x.setThr t (s.thr t).next) := by
  have hwf : Tab.wf (fun _ => Thread.init) x.threads = true := hx ▸ hcanon.2.1
  refine ⟨?_, fun u hu => ?_⟩
  · rw [State.thr_setThr hwf, if_pos rfl]
  · rw [State.thr_setThr hwf, if_neg hu, State.thr_congr hx]

end

/-! ### LDS and STS -/

section
variable {s : State} {t : ThreadRef} {w : W32} (hst : s.Stands t w) (hfed : s.Fed t)
include hst hfed

/-- LDS of an address that reads a value writes it into g[d]. -/
theorem lds_onlyThread {v : W64} (hcanon : s.Canonical) (hop : opOf w = 0x1C) (hal : localAddr (s.thr t) w % 8 = 0)
    (hv : s.localRead t (s.thr t) (localAddr (s.thr t) w) = .ok v) :
    OnlyThread (.lds t) s t ((s.thr t).setG (fD w) v) := by
  refine hst.onlyThread hcanon hfed hop rfl (allKinds_contains _) rfl ?_
  unfold localAddr at hal hv
  dsimp only
  rw [if_neg (not_not.mpr hal), hv]

/-- What STS at an aligned address does is what the local write does. -/
theorem sts_done {x : State} (hop : opOf w = 0x1D) (hal : localAddr (s.thr t) w % 8 = 0)
    (hx : s.localWrite t (s.thr t) (localAddr (s.thr t) w) ((s.thr t).getG (fD w)) = .done x) :
    exec (.sts t) s = .next (x.setThr t (x.thr t).next) := by
  refine hst.exec_done hfed hop rfl (allKinds_contains _) rfl ?_
  unfold localAddr at hal hx
  dsimp only
  rw [if_neg (not_not.mpr hal), hx]

theorem sts_onlyThread {th : Thread} (hcanon : s.Canonical) (hop : opOf w = 0x1D) (hal : localAddr (s.thr t) w % 8 = 0)
    (hx : s.localWrite t (s.thr t) (localAddr (s.thr t) w) ((s.thr t).getG (fD w)) = .done (s.setThr t th)) :
    OnlyThread (.sts t) s t th := by
  refine hst.onlyThread hcanon hfed hop rfl (allKinds_contains _) rfl ?_
  unfold localAddr at hal hx
  dsimp only
  rw [if_neg (not_not.mpr hal), hx]

end

/-- Settles O9: the table of the local address space gives each access its place; the store of a scratch word or of a mailbox
changes that place alone. -/
theorem localSpace : Obligations.LocalSpace := by
  refine ⟨fun s t w hcanon hst hfed hop hal => ⟨fun i hl => ?_, fun k hl => ?_, fun k j hl hpend herr hpois => ?_, fun j hl => ?_⟩,
    fun s t w hcanon hst hfed hop hal => ⟨fun i hl => ?_, fun k hl => ?_, fun k j hl htouch => ?_, fun j hl => ?_⟩⟩
  · exact lds_onlyThread hst hfed hcanon hop hal (by rw [State.localRead, hl])
  · exact lds_onlyThread hst hfed hcanon hop hal (by rw [State.localRead, hl])
  · have htouch : ((s.thr t).buf k).touch false = .ok := by simp [LineBuf.touch, hpend, herr]
    refine lds_onlyThread hst hfed hcanon hop hal ?_
    simp only [State.localRead, hl, htouch, hpois, Bool.false_eq_true, if_false]
  · exact lds_onlyThread hst hfed hcanon hop hal (by rw [State.localRead, hl])
  · have hdone := sts_done hst hfed hop hal (by rw [State.localWrite, hl])
    refine ⟨_, hdone, ?_, fun k hk => (tfind_tput ..).trans (if_neg hk),
      (nextPc_threads hcanon rfl).1, (nextPc_threads hcanon rfl).2, rfl⟩
    unfold State.scratchAt
    exact congrArg (Option.getD · _) ((tfind_tput ..).trans (if_pos rfl))
  · have hdone := sts_done hst hfed hop hal (by rw [State.localWrite, hl])
    rw [State.thr_congr (State.setReg2_threads ..)] at hdone
    obtain ⟨hthr, hoth⟩ := nextPc_threads (t := t) hcanon
      (State.setReg2_threads s (mboxReg t k) ((s.thr t).getG (fD w)).toNat)
    exact ⟨_, hdone, State.reg2_setReg2 hcanon.1 ((s.thr t).getG (fD w)).isLt,
      fun a h0 h4 => State.reg_setReg2_ne hcanon.1 h0 h4, hthr, hoth, rfl⟩
  · exact sts_onlyThread hst hfed hcanon hop hal (by rw [State.localWrite, hl]; simp only [htouch])
  · exact sts_onlyThread hst hfed hcanon hop hal (by rw [State.localWrite, hl])

/-! ### Checks over line buffers -/

/-- Buffers of which each is free are free together. -/
theorem Thread.touchAll_ok {th : Thread} {write : Bool} {lb n : Nat}
    (h : ∀ k < n, (th.buf (lb + k)).touch write = .ok) : th.touchAll write lb n = .ok := by
  unfold Thread.touchAll
  refine List.foldlRecOn (motive := fun a => a = Touch.ok) _ _ rfl fun a ha b hb => ?_
  obtain ⟨i, hi, rfl⟩ := List.mem_map.mp hb
  rw [if_pos ha]
  exact h i (List.mem_range.mp hi)

/-- No buffer's check faults: none is found that does. -/
theorem hmCheck_find {th : Thread} {lb n : Nat} {given : Option Hm} (h : ∀ k < n, hmCheck (th.buf (lb + k)) given = 0) :
    ((List.range n).map fun i => hmCheck (th.buf (lb + i)) given).find? (· != 0) = none := by
  simpa using h

/-- Settles O12: no check of HMCHK faults, and GRAFTPT goes on or switches to the ACTIVE bank. -/
theorem hallmarkAndGraftPoints : Obligations.HallmarkAndGraftPoints := by
  refine ⟨fun s t w hcanon hst hfed hk hop => ?_, fun s t w hcanon hst hfed hop hd ha hb hfn => ⟨fun hstay => ?_, fun i hk h3 h2 => ?_⟩⟩
  · intro th hfit htouch
    have hkind : lineKinds.contains t.kind = true := by
      cases ht : t.kind with
      | seq => exact absurd ht hk
      | stream => rfl
      | svc => rfl
    have hfree := Thread.touchAll_ok htouch
    refine ⟨fun hmode ha hgood => ?_, fun hmode hcnt hpois hhm => ?_⟩
    · have hcheck := hmCheck_find (th := th) (lb := mLb w) (n := mCnt w) (given := none) fun k hk => by
        obtain ⟨hp, hv, hh⟩ := hgood k hk
        simp [hmCheck, hp, hv, hh]
      refine hst.onlyThread hcanon hfed hop rfl hkind rfl ?_
      rw [State.setThr_thr hcanon]
      simp [hmode, ha, Nat.not_lt.mpr hfit, th, hfree, hcheck]
    · have hnum : BitVec.ofNat 32 (th.getG (mA w)).toNat = hallmark (th.buf (mLb w)).data :=
        BitVec.eq_of_toNat_eq (by rw [BitVec.toNat_ofNat, hhm])
      have hcheck := hmCheck_find (th := th) (lb := mLb w) (n := mCnt w)
        (given := some (BitVec.ofNat 32 (th.getG (mA w)).toNat)) fun k hk => by
          obtain rfl : k = 0 := by omega
          simp [hmCheck, hpois, hnum]
      rw [hcnt] at hfit hfree hcheck
      refine hst.onlyThread hcanon hfed hop rfl hkind rfl ?_
      rw [State.setThr_thr hcanon]
      simp only [hmode, hcnt, th, hfree, hcheck, decide_true, if_true, Nat.not_lt.mpr hfit]
      simp
  · refine hst.onlyThread hcanon hfed hop rfl (allKinds_contains _) rfl ?_
    rw [State.setThr_thr hcanon, if_neg (by simp [hd, ha, hb, hfn]), if_pos (hstay.imp_right .inl)]
  · refine ⟨s.setThr t { s.thr t with bank := i, pc := 1, prog := 0 }, ?_, State.thr_setThr_self hcanon,
      otherThreads_setThr hcanon, rfl⟩
    show Host.Outcome.next (s.issue ..) = _
    rw [hst.issue_fed hfed hop rfl (allKinds_contains _), if_neg (by simp [hd, ha, hb, hfn]), if_neg (by simp [hk, h3]), h2]
    exact congrArg _ (State.setThr_goTo hcanon)

end Sys2Proof.Machine
end

section
/-! Clasps acquired and released by threads (R114, R351, R356). -/

namespace Sys2Proof.Machine

/-- A thread of the configuration is named by its OWNER value (R352). -/
theorem threadOfOwner_ownerOf {v : Variant} {t : ThreadRef} (h : threadPresent v t = true) : threadOfOwner (ownerOf t) = t := by
  obtain ⟨kind, unit, idx⟩ := t
  have hcount := counts_le v
  have hfield : ∀ u i, u = unit → i = idx → (⟨kind, u, i⟩ : ThreadRef) = ⟨kind, unit, idx⟩ := by
    rintro u i rfl rfl
    rfl
  cases kind <;> simp only [threadPresent, decide_eq_true_eq] at h <;> unfold threadOfOwner ownerOf <;> dsimp only
  · rw [if_pos (by omega)]
    exact hfield _ _ (by omega) (by omega)
  · rw [if_neg (by omega), if_pos (by omega)]
    exact hfield _ _ (by omega) (by omega)
  · rw [if_neg (by omega), if_neg (by omega)]
    exact hfield _ _ (by omega) (by omega)

section
variable {s : State} {t : ThreadRef} {n d : Nat}

/-- What a thread has of an acquire that ends: the result in g[d], and its next instruction. -/
def Thread.acquired (th : Thread) (d : Nat) (result : W64) : Thread :=
  { th.setG d result with st := .run, wait := .none, pc := th.pc + 1 }

theorem Thread.setG_waiting {th : Thread} {w : Wait} {v : W64} : (th.waiting w).setG d v = (th.setG d v).waiting w := by
  unfold Thread.setG
  split <;> rfl

theorem Thread.acquired_waiting {th : Thread} {w : Wait} {v : W64} : (th.waiting w).acquired d v = th.acquired d v := by
  unfold Thread.acquired
  rw [Thread.setG_waiting]
  rfl

/-- A Clasp as a thread's acquire leaves it (R351, R354). -/
def State.claspOf (s : State) (t : ThreadRef) (n : Nat) : Clasp :=
  { st := .held, owner := ownerOf t, repair := decide ((s.clasp n).st = .broken), limit := s.holdTo n, since := s.tbase }

/-- An acquire that waits for nothing takes its Clasp for the thread and goes on past its instruction. -/
theorem State.claspTake_sleep (hcanon : s.Canonical) (hpres : threadPresent s.variant t = true) :
    (s.sleep t (.acquire n d)).claspTake (threadWait t n) =
      (s.setClasp n (s.claspOf t n)).setThr t ((s.thr t).acquired d (BitVec.ofNat 64 (b2n (decide ((s.clasp n).st = .broken))))) := by
  have hthr : (s.sleep t (.acquire n d)).thr t = (s.thr t).waiting (.acquire n d) := State.thr_setThr_self hcanon
  have hset : ∀ c th, ((s.sleep t (.acquire n d)).setClasp n c).setThr t th = (s.setClasp n c).setThr t th := fun c th =>
    congrArg (fun x : State => x.setClasp n c) (State.setThr_setThr hcanon)
  unfold State.claspTake State.claspHold
  have hsleep : ∀ c, ((s.sleep t (.acquire n d)).setClasp n c).thr t = (s.thr t).waiting (.acquire n d) := fun _ => hthr
  show State.claspResult _ (threadWait t n) _ = _
  unfold State.claspResult threadWait
  dsimp only
  rw [threadOfOwner_ownerOf hpres, hsleep]
  show State.setThr _ t (((s.thr t).waiting (.acquire n d)).acquired d _) = _
  rw [Thread.acquired_waiting, hset]
  rfl

end

section
variable {s : State} {t : ThreadRef} {w : W32} {op : Nat} {pick : W32 → Bool} {f : State → Thread → W32 → Eff} {c : Instr}

/-- The Clasp number and the fields of a CLSP instruction pass their checks. -/
theorem clspEff_eq {th : Thread} {dZero : Bool} {g : Nat → Eff} (hfn : fFn w < 4) (hb : fB w = 0)
    (hd : dZero = true → fD w = 0) (hn : (th.getG (fA w)).toNat < 256) :
    clspEff th w dZero g = g (th.getG (fA w)).toNat := by
  unfold clspEff
  rw [if_neg (by simp only [not_or, not_and_or]; exact ⟨by omega, not_not.mpr hb, by
    by_cases h : dZero = true
    · exact .inr (not_not.mpr (hd h))
    · exact .inl h⟩), if_neg (by omega)]

/-- An instruction that leaves its thread as its state says. -/
theorem State.Stands.exec_hold {kinds : List EngKind} {x : State} (h : s.Stands t w) (hfed : s.Fed t) (hop : opOf w = op)
    (hpick : pick w = true) (hkind : kinds.contains t.kind = true) (hc : exec c s = .next (s.issue t op kinds pick f))
    (hf : f s (s.thr t) w = .hold x) : exec c s = .next x := by
  rw [hc, h.issue_fed hfed hop hpick hkind, hf]
  rfl

variable {n m : Nat} {k : Clasp}

theorem State.clasp_setClasp_self (h : s.Canonical) : (s.setClasp n k).clasp n = k := by
  rw [State.clasp_setClasp h.2.2.2.2.2.1, if_pos rfl]

theorem State.clasp_setClasp_ne (h : s.Canonical) (hm : m ≠ n) : (s.setClasp n k).clasp m = s.clasp m := by
  rw [State.clasp_setClasp h.2.2.2.2.2.1, if_neg hm]

/-- A Clasp for which no acquire waits goes to nobody. -/
theorem State.claspHandOn_none (h : ∀ q ∈ s.claspWaits, q.clasp ≠ n) : s.claspHandOn n = s := by
  have hfind : (s.claspWaits.find? fun q => q.clasp == n) = none := by simpa using h
  unfold State.claspHandOn
  rw [hfind]

/-- A release by the holder of a Clasp for which no acquire waits changes that Clasp alone (R351, R356). -/
theorem State.claspRelease_alone {repair : Bool} (hheld : (s.clasp n).st = .held)
    (hown : (s.clasp n).owner = ownerOf t) (hw : ∀ q ∈ s.claspWaits, q.clasp ≠ n) :
    ∃ k : Clasp, s.releaseNow t n repair = some (s.setClasp n k) ∧
      k.st = if repair = false ∧ (s.clasp n).repair = true then .broken else .free := by
  unfold State.releaseNow State.claspRelease
  dsimp only
  rw [if_pos ⟨hheld, hown⟩]
  by_cases hr : repair = true ∨ (s.clasp n).repair = false
  · rw [if_pos hr]
    refine ⟨_, congrArg some (State.claspHandOn_none hw), ?_⟩
    rw [if_neg (by rcases hr with h | h <;> simp [h])]
    rfl
  · rw [if_neg hr]
    refine ⟨_, congrArg some (State.claspHandOn_none hw), ?_⟩
    rw [if_pos (by simpa using hr)]

end

/-- Where a state differs from a canonical one in a Clasp, storing a thread changes that Clasp and that thread alone. -/
theorem setClasp_setThr_changes {s : State} {t : ThreadRef} {th : Thread} {n : Nat} {k : Clasp} (h : s.Canonical) :
    ((s.setClasp n k).setThr t th).clasp n = k ∧ (∀ m, m ≠ n → ((s.setClasp n k).setThr t th).clasp m = s.clasp m) ∧
      ((s.setClasp n k).setThr t th).thr t = th ∧ OtherThreads t s ((s.setClasp n k).setThr t th) ∧
      (s.setClasp n k).setThr t th = { s with
        threads := ((s.setClasp n k).setThr t th).threads, clasps := ((s.setClasp n k).setThr t th).clasps } :=
  ⟨State.clasp_setClasp_self h, fun _ hm => State.clasp_setClasp_ne h hm, State.thr_setThr_self (s := s) h,
    otherThreads_setThr (s := s) h, rfl⟩

/-- Settles O15: an acquire of a free Clasp goes through `claspTake`, and a release hands its Clasp on to nobody. -/
theorem claspInstructions : Obligations.ClaspInstructions := by
  refine ⟨?_, ?_⟩
  · intro s t w hcanon hst hfed hop hb hpres n broken takes hn
    have takes_of : ∀ c : Instr, exec c s = .next ((s.sleep t (.acquire n (fD w))).claspTake (threadWait t n)) → takes c := by
      intro c hc
      have hres : BitVec.ofNat 64 (b2n broken) = if broken then 1 else 0 := by cases broken <;> rfl
      rw [State.claspTake_sleep hcanon hpres, hres] at hc
      exact ⟨_, hc, setClasp_setThr_changes hcanon⟩
    refine ⟨fun hfn hfree => takes_of _ ?_, fun hfn hfree => takes_of _ ?_, fun hfn hheld => ?_⟩
    · refine hst.exec_hold hfed hop (by simp [hfn]) (allKinds_contains _) rfl ?_
      rw [clspEff_eq (by omega) hb Bool.noConfusion hn]
      exact if_pos hfree
    · refine hst.exec_hold hfed hop (by simp [hfn]) (allKinds_contains _) rfl ?_
      rw [clspEff_eq (by omega) hb Bool.noConfusion hn]
      exact if_pos hfree
    · refine hst.onlyThread hcanon hfed hop (by simp [hfn]) (allKinds_contains _) rfl ?_
      rw [clspEff_eq (by omega) hb Bool.noConfusion hn]
      exact if_neg (not_not.mpr hheld)
  · intro s t w hcanon hst hfed hop hb hd n hn hfence hheld hown hw leaves
    have rel : ∀ repair : Bool, fFn w < 4 → ∃ k : Clasp,
        clspEff (s.thr t) w true (fun n => clspRelEff repair s t n) = .done (s.setClasp n k) ∧
        k.st = if repair = false ∧ (s.clasp n).repair = true then .broken else .free := fun repair hfn => by
      obtain ⟨k, hk, hst⟩ := State.claspRelease_alone (repair := repair) hheld hown hw
      refine ⟨k, ?_, hst⟩
      rw [clspEff_eq hfn hb (fun _ => hd) hn, clspRelEff, if_pos hfence, hk]
    have leaves_of : ∀ (c : Instr) (k : Clasp), exec c s = .next ((s.setClasp n k).setThr t (s.thr t).next) → leaves c k.st := by
      intro c k hc
      obtain ⟨hk, hrest⟩ := setClasp_setThr_changes (t := t) (th := (s.thr t).next) (n := n) (k := k) hcanon
      exact ⟨_, hc, congrArg Clasp.st hk, hrest⟩
    refine ⟨fun hfn => ?_, fun hfn => ?_⟩
    · obtain ⟨k, hk, hkst⟩ := rel false (by omega)
      have h := leaves_of _ k (hst.exec_done (c := .clspRel t) hfed hop (by simp [hfn]) (allKinds_contains _) rfl hk)
      simpa [hkst] using h
    · obtain ⟨k, hk, hkst⟩ := rel true (by omega)
      have h := leaves_of _ k (hst.exec_done (c := .clspRelR t) hfed hop (by simp [hfn]) (allKinds_contains _) rfl hk)
      simpa [hkst] using h

end Sys2Proof.Machine
end

section
/-! Event flags and event outputs (R116, R117, R479). -/

namespace Sys2Proof.Machine

section
variable {s x : State} {t : ThreadRef} {th : Thread}

/-- A thread that is stored and wakes goes on past the instruction it waited in. -/
theorem State.setThr_wake (h : Tab.wf (fun _ => Thread.init) s.threads = true) :
    (s.setThr t th).wake t = s.setThr t th.resumed := by
  have hset : ∀ a b, (s.setThr t a).setThr t b = s.setThr t b := fun a b =>
    congrArg (fun ts => { s with threads := ts }) (tset_tset (Tab.wf_keys h) ..)
  have hthr : ∀ a, (s.setThr t a).thr t = a := fun a => by rw [State.thr_setThr h, if_pos rfl]
  unfold State.wake State.nextPc State.goTo
  simp only [hset, hthr]
  rfl

theorem State.wake_eq (h : Tab.wf (fun _ => Thread.init) s.threads = true) :
    s.wake t = s.setThr t (s.thr t).resumed := by
  have hself : s.setThr t (s.thr t) = s := congrArg (fun ts => { s with threads := ts }) (tset_tget h (tkey t))
  rw [← State.setThr_wake h, hself]

/-- One thread stored where only other parts than threads differ. -/
theorem setThr_threads (h : Tab.wf (fun _ => Thread.init) s.threads = true) (hx : x.threads = s.threads) :
    (x.setThr t th).thr t = th ∧ OtherThreads t s (x.setThr t th) := by
  have hwf : Tab.wf (fun _ => Thread.init) x.threads = true := hx ▸ h
  refine ⟨?_, fun u hu => ?_⟩
  · rw [State.thr_setThr hwf, if_pos rfl]
  · rw [State.thr_setThr hwf, if_neg hu, State.thr_congr hx]

/-- A pulse queued on one line leaves the counts of the others. -/
theorem tget_evtQueue (h : s.Canonical) (n l : Nat) :
    tget 0 (s.evtQueue n).evtPend l = if l = n then min 255 (tget 0 s.evtPend n + 1) else tget 0 s.evtPend l :=
  tget_tset (Tab.wf_keys h.2.2.2.2.2.2.1) ..

end

section
variable {s : State} {t : ThreadRef} {w : W32}

/-- WAITEV takes the flags of its mask that are set (R117). -/
theorem waitev_takes (hcanon : s.Canonical) (hst : s.Stands t w) (hfed : s.Fed t) (hop : opOf w = 0x32)
    (hhit : s.evf &&& (s.thr t).getG (fA w) ≠ 0) :
    let hit := s.evf &&& (s.thr t).getG (fA w)
    ∃ s', exec (.waitev t) s = .next s' ∧ s'.evf = s.evf &&& ~~~hit ∧ s'.thr t = ((s.thr t).setG (fD w) hit).next ∧
      OtherThreads t s s' ∧ s' = { s with threads := s'.threads, evf := s'.evf } := by
  intro hit
  have hmask : (s.thr t).getG (fA w) ≠ 0 := fun h0 => hhit (by simp [h0])
  have hset : ({ s with evf := s.evf &&& ~~~hit }.setThr t ((s.thr t).setG (fD w) hit)).setThr t
      ((s.thr t).setG (fD w) hit).next = { s with evf := s.evf &&& ~~~hit }.setThr t ((s.thr t).setG (fD w) hit).next :=
    State.setThr_setThr (s := { s with evf := s.evf &&& ~~~hit }) hcanon
  obtain ⟨hthr, hoth⟩ := setThr_threads (x := { s with evf := s.evf &&& ~~~hit }) (t := t)
    (th := ((s.thr t).setG (fD w) hit).next) hcanon.2.1 rfl
  refine ⟨{ s with evf := s.evf &&& ~~~hit }.setThr t ((s.thr t).setG (fD w) hit).next, ?_, rfl, hthr, hoth, rfl⟩
  have hdone := hst.exec_done (c := .waitev t) (x := { s with evf := s.evf &&& ~~~hit }.setThr t ((s.thr t).setG (fD w) hit))
    hfed hop rfl (allKinds_contains _) rfl ((if_neg hmask).trans (if_pos hhit))
  rw [State.thr_setThr_self (s := { s with evf := s.evf &&& ~~~hit }) hcanon, hset] at hdone
  exact hdone

/-- The timeout of WAITEV gives 0 and takes no flag (R117). -/
theorem waitevTimeout_resumes {mask : W64} {d us : Nat} (hcanon : s.Canonical) (hw : s.Waits t (.events mask d us))
    (hus : us ≠ 0) : ∃ s', exec (.waitevTimeout t) s = .next s' ∧ s'.evf = s.evf ∧
      s'.thr t = ((s.thr t).setG d 0).resumed ∧ OtherThreads t s s' ∧
      s' = { s with threads := s'.threads, evWaiters := s.evWaiters.filter (· != t) } := by
  obtain ⟨hthr, hoth⟩ := setThr_threads (x := { s with evWaiters := s.evWaiters.filter (· != t) }) (t := t)
    (th := ((s.thr t).setG d 0).resumed) hcanon.2.1 rfl
  refine ⟨{ s with evWaiters := s.evWaiters.filter (· != t) }.setThr t ((s.thr t).setG d 0).resumed, ?_, rfl, hthr, hoth, rfl⟩
  show Host.Outcome.next (s.waitevTimeout t) = _
  unfold State.waitevTimeout
  rw [if_neg (by simp [hw.1]), hw.2]
  dsimp only
  rw [if_neg hus]
  exact congrArg _ (State.setThr_wake (s := { s with evWaiters := s.evWaiters.filter (· != t) }) hcanon.2.1)

/-- EVT without a waiter sets its flag and queues its pulse (R116, R479). -/
theorem evt_queues (hcanon : s.Canonical) (hst : s.Stands t w) (hfed : s.Fed t) (hop : opOf w = 0x33) (hd : fD w = 0)
    (ha : fA w = 0) (hn : fImm w < 64) (hnone : s.evWaiters = []) (hkick : t.kind = .svc → s.fld 0x1E00 29 24 ≠ fImm w)
    (hroom : tget 0 s.evtPend (fImm w) < 255) :
    ∃ s', exec (.evt t) s = .next s' ∧ s'.evf = s.evf ||| BitVec.ofNat 64 (2 ^ fImm w) ∧
      tget 0 s'.evtPend (fImm w) = tget 0 s.evtPend (fImm w) + 1 ∧
      (∀ l, l ≠ fImm w → tget 0 s'.evtPend l = tget 0 s.evtPend l) ∧ s'.thr t = (s.thr t).next ∧ OtherThreads t s s' ∧
      s' = { s with threads := s'.threads, evf := s'.evf, evtPend := s'.evtPend } := by
  have hset : s.evSet (BitVec.ofNat 64 (2 ^ fImm w)) = { s with evf := s.evf ||| BitVec.ofNat 64 (2 ^ fImm w) } := by
    unfold State.evSet State.evDeliver
    dsimp only
    rw [hnone]
    rfl
  have hk : ¬(t.kind = .svc ∧
      ({ s with evf := s.evf ||| BitVec.ofNat 64 (2 ^ fImm w) } : State).fld 0x1E00 29 24 = fImm w) :=
    fun h => hkick h.1 h.2
  obtain ⟨hthr, hoth⟩ := nextPc_threads (x := { s with evf := s.evf ||| BitVec.ofNat 64 (2 ^ fImm w) }.evtQueue (fImm w))
    (t := t) hcanon rfl
  refine ⟨_, hst.exec_done (c := .evt t) (x := { s with evf := s.evf ||| BitVec.ofNat 64 (2 ^ fImm w) }.evtQueue (fImm w))
    hfed hop rfl (allKinds_contains _) rfl ?_, rfl, ?_, fun l hl => ?_, hthr, hoth, rfl⟩
  · rw [if_neg (by simp [hd, ha, hn])]
    dsimp only
    rw [hset]
    rw [if_neg hk]
    exact if_pos (decide_eq_true hroom)
  · refine (tget_evtQueue hcanon (fImm w) (fImm w)).trans ?_
    rw [if_pos rfl]
    omega
  · exact (tget_evtQueue hcanon (fImm w) l).trans (if_neg hl)

/-- EVT_OUT_PULSE emits one pulse of its line (R479). -/
theorem evtOut_emits {line : Nat} (hcanon : s.Canonical) (hrun : s.running = true) (hpend : 0 < tget 0 s.evtPend line)
    (hnone : s.evtWaiting line = []) :
    ∃ s', exec (.evtOutPulse line) s = .next s' ∧ s'.out = .evtPulse line :: s.out ∧
      tget 0 s'.evtPend line = tget 0 s.evtPend line - 1 ∧ (∀ l, l ≠ line → tget 0 s'.evtPend l = tget 0 s.evtPend l) ∧
      s' = { s with evtPend := s'.evtPend, out := s'.out } := by
  have hget : ∀ l, tget 0 (tset 0 s.evtPend line (tget 0 s.evtPend line - 1)) l =
      if l = line then tget 0 s.evtPend line - 1 else tget 0 s.evtPend l := fun l =>
    tget_tset (Tab.wf_keys hcanon.2.2.2.2.2.2.1) ..
  refine ⟨{ s with evtPend := tset 0 s.evtPend line (tget 0 s.evtPend line - 1) }.emit (.evtPulse line), ?_, rfl,
    (hget line).trans (if_pos rfl), fun l hl => (hget l).trans (if_neg hl), rfl⟩
  show Host.Outcome.next (s.evtOut line) = _
  have hwait : ({ s with evtPend := tset 0 s.evtPend line (tget 0 s.evtPend line - 1) }.emit (.evtPulse line)).evtWaiting line =
      [] := hnone
  unfold State.evtOut
  dsimp only
  rw [if_neg (by simp [hrun]; omega), hwait]

end

/-- Settles O16: the four rows in turn. -/
theorem eventInstructions : Obligations.EventInstructions :=
  ⟨⟨fun _ _ _ hcanon hst hfed hop => waitev_takes hcanon hst hfed hop,
      fun _ _ _ _ _ hcanon hw hus => waitevTimeout_resumes hcanon hw hus⟩,
    fun _ _ _ hcanon hst hfed hop hd ha hn hnone hkick hroom => evt_queues hcanon hst hfed hop hd ha hn hnone hkick hroom,
    fun _ _ hcanon hrun hpend hnone => evtOut_emits hcanon hrun hpend hnone⟩

end Sys2Proof.Machine
end

section
/-! How a thread that holds no Clasp gives up its work, and its faults (R122, R131, R132). -/

namespace Sys2Proof.Machine

/-- A thread as it is once it has given up its run: it waits for nothing and has no context, packet or pending buffer. -/
def Thread.left (th : Thread) : Thread :=
  { th with wait := .none, packet := none, ctx := none, tmoHalt := false, prog := 0,
            lb := tmap LineBuf.init (fun b => { b with pending := false, locked := false }) th.lb }

/-- A thread holds no Clasp, and no acquire is kept back by a full wait list. -/
structure State.Unclasped (s : State) (t : ThreadRef) : Prop where
  owns : ∀ e ∈ s.clasps, e.2.owner ≠ ownerOf t
  full : s.claspFull = []

/-- A faulted thread (R132). -/
def Thread.stopped (th : Thread) (code : Nat) : Thread := { th.left with st := .faulted, fault := code }

/-- What a thread's end leaves of the work under way: its reads deliver to nothing, its jobs, arrivals and waits are gone, and
the channel units are `ch`. -/
def State.without (s : State) (t : ThreadRef) (ch : Tab Chan) : State :=
  { s with
    chans := ch, claspWaits := s.claspWaits.filter fun w => w.owner != ownerOf t,
    pool := s.pool.map (dropThreadReq t), homeQ := s.homeQ.map (dropThreadReq t),
    trks := s.trks.map fun k => { k with req := dropThreadReq t k.req },
    arrivals := s.arrivals.filter fun a => a.src != .thread t,
    jobs := s.jobs.filter fun j => j.t != t || j.kind.afterPipe,
    evWaiters := s.evWaiters.filter (· != t) }

section
variable {s : State} {t : ThreadRef} {status code n src kind info : Nat} {f : Chan → Chan}

/-- A change of a channel unit that MBOX12 does not show stores the unit alone. -/
theorem State.updChan_quiet (h : mboxWord (s.en (.chan n)) (s.chan n) = mboxWord (s.en (.chan n)) (f (s.chan n))) :
    s.updChan n f = s.setChan n (f (s.chan n)) :=
  if_pos h

theorem State.Unclasped.claspLossAll (h : s.Unclasped t) : s.claspLossAll (ownerOf t) =
    { s with claspWaits := s.claspWaits.filter fun w => w.owner != ownerOf t } := by
  obtain ⟨howns, hfull⟩ := h
  have hheld : (s.clasps.filter fun e => e.2.st == .held && e.2.owner == ownerOf t) = [] := by
    simpa using fun a b hmem _ => howns (a, b) hmem
  unfold State.claspLossAll State.claspWithdraw
  rw [hheld, hfull]
  rfl

theorem State.dropMaint_eq : ∃ ch, s.dropMaint t = { s with chans := ch } ∧ (t.kind ≠ .seq → ch = s.chans) := by
  unfold State.dropMaint
  split
  · next hk => exact ⟨_, State.updChan_quiet rfl, fun h => absurd hk h⟩
  · exact ⟨s.chans, rfl, fun _ => rfl⟩

/-- A thread without Clasps, and without a packet of a context, gives up its run: nothing but the thread, its work under way
and, for a sequencer, its maintenance requests is changed. -/
theorem State.Unclasped.leave (h : s.Unclasped t) (hpacket : (s.thr t).packet = none ∨ (s.thr t).ctx = none) :
    ∃ ch, s.leave t status = (s.setThr t (s.thr t).left).without t ch ∧ (t.kind ≠ .seq → ch = s.chans) := by
  obtain ⟨ch, hch, hkeep⟩ := State.dropMaint_eq (t := t)
    (s := { s with claspWaits := s.claspWaits.filter fun w => w.owner != ownerOf t })
  refine ⟨ch, ?_, hkeep⟩
  unfold State.leave
  rw [h.claspLossAll, hch]
  dsimp only
  rcases hpacket with hp | hc
  · rw [hp]
    rfl
  · rw [hc]
    cases (s.thr t).packet <;> rfl

theorem OnlyRegs.threads {p : Nat → Prop} {s' : State} (h : OnlyRegs p s s') : s'.threads = s.threads := by rw [h.rest]

/-- An event of a channel unit whose severity asks for no containment is recorded, and that is all. -/
theorem State.raise_chan_mild (hm : s.Mild (.chan n) src) :
    s.raise (.chan n) src kind info = s.record (.chan n) src kind info false := by
  have hlow : ¬s.effSev (.chan n) src ≥ 2 := Nat.not_le.mpr hm
  have hreact : ∀ x : State, x.reactLow (.chan n) src info (s.effSev (.chan n) src) (s.grave (.chan n)) = x :=
    fun _ => State.reactLow_mild hm
  unfold State.raise State.raiseF
  simp only [hreact, if_neg hlow]
  cases offlineTarget (.chan n) src info <;> rfl

end

/-- The source of a sequencer or service thread's fault, in the fault block of its channel unit (R515). -/
def threadSource (t : ThreadRef) : Nat := if t.kind = .seq then 9 else 10

section
variable {s : State} {t : ThreadRef} {code : Nat}

/-- A fault of a sequencer or service thread: the thread gives up its run and its source is raised (R132). -/
theorem State.fault1_eq (hkind : t.kind ≠ .stream) : ∃ info, s.fault1 t code =
    ((s.leave t 3).setThr t { (s.leave t 3).thr t with st := .faulted, fault := code }).raise (.chan t.unit) (threadSource t) 3
      info := by
  unfold State.fault1 State.threadFault
  extract_lets th s1 s2
  cases hk : t.kind with
  | stream => exact absurd hk hkind
  | seq =>
    rw [threadSource, if_pos hk]
    exact ⟨_, rfl⟩
  | svc =>
    rw [threadSource, if_neg (by simp [hk])]
    exact ⟨_, rfl⟩

/-- An event that is only recorded changes no thread, and shows in its block. -/
theorem State.raise_chan_notes {info : Nat} (hregs : Tab.wf (resetWord s.variant) s.regs = true)
    (hm : s.Mild (.chan t.unit) (threadSource t)) :
    (s.raise (.chan t.unit) (threadSource t) 3 info).thr t = s.thr t ∧
      (s.raise (.chan t.unit) (threadSource t) 3 info).flag (faultBase (.chan t.unit)) (threadSource t) = true := by
  have hsrc : threadSource t < 32 := by
    unfold threadSource
    split <;> decide
  rw [State.raise_chan_mild hm]
  exact ⟨State.thr_congr (State.record_only hregs hm).threads t, State.record_flag hregs hm hsrc⟩

/-- A fault of a sequencer or service thread that holds no Clasp stops the thread and is recorded (R132). -/
theorem State.Unclasped.fault (h : s.Unclasped t) (hcanon : s.Canonical) (hkind : t.kind ≠ .stream) (hctx : (s.thr t).ctx = none)
    (hm : s.Mild (.chan t.unit) (threadSource t)) :
    (s.fault1 t code).thr t = (s.thr t).stopped code ∧
      (s.fault1 t code).flag (faultBase (.chan t.unit)) (threadSource t) = true := by
  obtain ⟨info, hinfo⟩ := s.fault1_eq (code := code) hkind
  obtain ⟨ch, hleave, -⟩ := h.leave (status := 3) (.inr hctx)
  have hleft : (s.leave t 3).thr t = (s.thr t).left := by
    rw [hleave]
    exact State.thr_setThr_self hcanon
  have hstop : (s.leave t 3).setThr t { (s.thr t).left with st := .faulted, fault := code } =
      (s.setThr t ((s.thr t).stopped code)).without t ch := by
    rw [hleave]
    show ((s.setThr t (s.thr t).left).setThr t ((s.thr t).stopped code)).without t ch = _
    rw [State.setThr_setThr hcanon]
  rw [hleft, hstop] at hinfo
  obtain ⟨hthr, hflag⟩ := State.raise_chan_notes (info := info) (s := (s.setThr t ((s.thr t).stopped code)).without t ch)
    hcanon.1 hm
  have hset := State.thr_setThr_self (t := t) (th := (s.thr t).stopped code) hcanon
  rw [hinfo]
  exact ⟨hthr.trans hset, hflag⟩

/-- TRAP stores its code and faults (R122). -/
theorem State.Stands.exec_trap {w : W32} (h : s.Stands t w) (hfed : s.Fed t) (hop : opOf w = 0x37) (hd : fD w = 0)
    (ha : fA w = 0) : exec (.trap t) s = .next ((s.setThr t { s.thr t with trap := fImm w }).fault1 t 0xE) := by
  show Host.Outcome.next (s.trapIssue t) = _
  unfold State.trapIssue
  rw [h.2.2.1]
  dsimp only
  rw [if_pos (by rw [hop]; rfl), h.issue_fed hfed hop rfl (allKinds_contains _), if_neg (by simp [hd, ha])]
  rfl

end

/-- Settles O13: TRAP stores its code and faults; an ADD with an undefined fn faults. -/
theorem threadFaults : Obligations.ThreadFaults := by
  intro s t w hcanon hst hfed hkind hctx _ howns hfull hm
  have hfree : s.Unclasped t := ⟨howns, hfull⟩
  refine ⟨fun hop hd ha => ?_, fun hop hfn => ?_⟩
  · have hfree' : (s.setThr t { s.thr t with trap := fImm w }).Unclasped t := ⟨howns, hfull⟩
    have hcanon' : (s.setThr t { s.thr t with trap := fImm w }).Canonical :=
      (State.tidy_iff _).mp (((State.tidy_iff s).mpr hcanon).setThr ((State.tidy_iff s).mpr hcanon).thr)
    have hthr : (s.setThr t { s.thr t with trap := fImm w }).thr t = { s.thr t with trap := fImm w } :=
      State.thr_setThr_self hcanon
    obtain ⟨hthread, hflag⟩ := hfree'.fault (code := 0xE) hcanon' hkind (by rw [hthr]; exact hctx) hm
    refine ⟨_, hst.exec_trap hfed hop hd ha, ?_, ?_, ?_, ?_, hflag⟩
    all_goals
      rw [hthread, hthr]
      rfl
  · obtain ⟨hthread, -⟩ := hfree.fault (code := 1) hcanon hkind hctx hm
    refine ⟨s.fault1 t 1, ?_, ?_, ?_, ?_⟩
    · show Host.Outcome.next (s.issue ..) = _
      rw [hst.issue_fed hfed hop rfl (allKinds_contains _), aluReg, if_pos hfn]
      rfl
    all_goals
      rw [hthread]
      rfl

end Sys2Proof.Machine
end

section
/-! Sequencer instructions that wait: for the maintenance requester's grant, or for a time (R125 to R130, R246). -/

namespace Sys2Proof.Machine

section
variable {s : State} {t : ThreadRef} {w : W32} {m : MaintCmd} {op : Nat} {pick : W32 → Bool} {f : State → Thread → W32 → Eff}
  {c : Instr}

/-- A request that joins the maintenance queue changes its channel unit's queue and its thread alone. -/
theorem State.askMaint_eq : s.askMaint t m =
    (s.setChan t.unit { s.chan t.unit with
      maint := (s.chan t.unit).maint ++ [{ t := t, cmd := m, granted := false }] }).sleep t .maint :=
  congrArg (State.sleep · t .maint) (State.updChan_quiet rfl)

/-- A sequencer instruction whose operands are accepted, and that holds with a request for a grant, asks for it. -/
theorem State.Stands.asksMaint (h : s.Stands t w) (hcanon : s.Canonical) (hfed : s.Fed t) (hseq : t.kind = .seq)
    (hop : opOf w = op) (hpick : pick w = true) (hc : exec c s = .next (s.issue t op [.seq] pick f))
    (hf : f s (s.thr t) w = .hold (s.askMaint t m)) : AsksMaint c s t m := by
  refine ⟨s.askMaint t m, h.exec_hold hfed hop hpick (by rw [hseq]; rfl) hc hf, ?_⟩
  rw [State.askMaint_eq]
  obtain ⟨hthr, hoth⟩ := setThr_threads (t := t) (th := (s.thr t).waiting .maint)
    (x := s.setChan t.unit { s.chan t.unit with maint := (s.chan t.unit).maint ++ [{ t := t, cmd := m, granted := false }] })
    hcanon.2.1 rfl
  exact ⟨hthr, hoth, (State.chan_setChan hcanon.2.2.2.1 ..).trans (if_pos rfl),
    fun n hn => (State.chan_setChan hcanon.2.2.2.1 ..).trans (if_neg hn), rfl⟩

end

/-- Settles O39: the checks of each instruction pass, and what is left is to ask or to wait. -/
theorem sequencerWaits : Obligations.SequencerWaits := by
  refine ⟨fun s t w hcanon hst hfed hseq => ?_, fun s t ck hcanon hw => ?_⟩
  · intro x y ready
    have hbit : ∀ n < 8, (n / 4 % 2 == 1) = decide (4 ≤ n) := by decide
    refine ⟨?_, ?_, ?_, ?_, ?_, ?_⟩
    · intro hop hd hb hfn hcs hx hraw
      have hill : ¬((fFn w / 4 % 2 == 1) = true ∧ s.reportsReady t.unit = true) := by
        rw [hbit _ hfn, decide_eq_true_eq]
        rintro ⟨h4, hr⟩
        rcases hraw with h | h
        · omega
        · exact absurd (h.symm.trans hr) (by decide)
      refine hst.asksMaint hcanon hfed hseq hop rfl rfl ?_
      dsimp only
      rw [if_neg (by simp [hd, hb, hfn]), if_neg (by simp only [not_or, not_not]; exact ⟨by omega, hx⟩), if_neg hill, hbit _ hfn]
    · intro hop hd hfn hcs hdev
      have hmod : fFn w / 8 % 16 = fFn w / 8 := Nat.mod_eq_of_lt (by omega)
      refine hst.asksMaint hcanon hfed hseq hop rfl rfl ?_
      dsimp only
      rw [if_neg (by simp [hd, hfn]), hmod, if_neg (by omega)]
    · intro hop hb hfn hcs
      refine hst.asksMaint hcanon hfed hseq hop rfl rfl ?_
      rw [if_neg (by simp [hb, hfn]), if_neg (by omega), hbit _ hfn]
    · intro hop hfn hd hk hx hblocked
      have hk' : tgKnob ((s.thr t).getG (fA w)) = 0xF0 := hk
      have hx' : bitsOf ((s.thr t).getG (fA w)) 63 17 = 0 := hx
      refine hst.asksMaint hcanon hfed hseq hop ?_ rfl ?_
      · simp [State.trnPick, hfn, hk']
      · dsimp only
        rw [if_neg (by simp [hd, hfn]), if_neg (by simp [hfn, hx']), if_neg (by simp [hblocked])]
    · intro hop hfn hpat hbad hy hmax hready
      have hmod : fFn w / 8 % 16 = fFn w / 8 := Nat.mod_eq_of_lt (by omega)
      have hill : ¬(s.reportsReady t.unit = true ∧ (tgKnob x < 5 ∨ tgKnob x > 9 ∨ (fFn w / 8 ≠ 3 ∧ fFn w / 8 ≠ 4))) := by
        rintro ⟨hr, hbad⟩
        rcases hready with h | h
        · exact absurd (h.symm.trans hr) (by decide)
        · omega
      refine hst.asksMaint hcanon hfed hseq hop (by simp; omega) rfl ?_
      dsimp only
      have hgood : ¬(fFn w / 8 ≥ 7 ∨ s.targetBad t.unit x = true ∨ bitsOf y 63 30 ≠ 0) := by
        rw [hbad]
        simp [hy, hpat]
      rw [hmod, if_neg (by omega), if_neg hgood, if_neg hill, if_neg (Nat.not_lt.mpr hmax)]
    · intro hop hd ha himm ck
      have hck : exec (.twait t) s = .next (s.sleep t (.twait ck)) := by
        refine hst.exec_hold hfed hop rfl (by rw [hseq]; rfl) rfl ?_
        dsimp only
        rw [if_neg (by simp [hd, ha])]
        by_cases h : 2 ^ 15 ≤ fImm w
        · rw [if_pos h]
          simp only [ck, if_pos h]
        · rw [if_neg h, if_neg (by omega), Nat.mod_eq_of_lt (by omega : fImm w / 256 < 128)]
          simp only [ck, if_neg h]
      exact ⟨_, hck, State.thr_setThr_self hcanon, otherThreads_setThr hcanon, rfl⟩
  · refine ⟨s.setThr t (s.thr t).resumed, ?_, State.thr_setThr_self hcanon, otherThreads_setThr hcanon, rfl⟩
    show Host.Outcome.next (s.twaitEnd t) = _
    unfold State.twaitEnd
    rw [if_neg (by simp [hw.1]), hw.2]
    exact congrArg _ (State.wake_eq hcanon.2.1)

end Sys2Proof.Machine
end

section
/-! What a maintenance grant drives (R125 to R130, R246, R405): the commands of a channel unit, which change the unit alone. -/

namespace Sys2Proof.Machine

/-! ### A channel unit that drives commands -/

/-- Two channel units that agree in what MBOX12 shows (R403), in the queue of maintenance requests and in the run. -/
structure Chan.Keeps (c c' : Chan) : Prop where
  shown : ∀ en, mboxWord en c' = mboxWord en c
  maint : c'.maint = c.maint
  run : c'.run = c.run

section
variable {c c' c'' : Chan} {k row cs : Nat} {b : Bank} {r : Rank} {two : Bool} {m : CaCmd}

theorem Chan.Keeps.refl : Chan.Keeps c c := ⟨fun _ => rfl, rfl, rfl⟩

theorem Chan.Keeps.trans (h : Chan.Keeps c c') (h' : Chan.Keeps c' c'') : Chan.Keeps c c'' :=
  ⟨fun en => (h'.shown en).trans (h.shown en), h'.maint.trans h.maint, h'.run.trans h.run⟩

theorem Chan.Keeps.ite {p : Prop} [Decidable p] (h : Chan.Keeps c c') (h' : Chan.Keeps c c'') :
    Chan.Keeps c (if p then c' else c'') := iteInduction (fun _ => h) fun _ => h'

theorem Chan.keeps_setBank : Chan.Keeps c (c.setBank k b) := ⟨fun _ => rfl, rfl, rfl⟩
theorem Chan.keeps_setRank : Chan.Keeps c (c.setRank k r) := ⟨fun _ => rfl, rfl, rfl⟩
theorem Chan.keeps_closeRow : Chan.Keeps c (c.closeRow k) := Chan.Keeps.refl.ite Chan.keeps_setBank
theorem Chan.keeps_disarm : Chan.Keeps c (c.disarm k) := Chan.keeps_setRank
theorem Chan.keeps_arm : Chan.Keeps c (c.arm k) := Chan.Keeps.refl.ite Chan.keeps_setRank

theorem Chan.keeps_closeRows (ks : List Nat) : Chan.Keeps c (ks.foldl Chan.closeRow c) :=
  List.foldlRecOn (motive := fun x => Chan.Keeps c x) ks _ .refl fun _ h _ _ => h.trans Chan.keeps_closeRow

/-- The tracking of a DCMD changes banks and ranks alone (R125). -/
theorem Chan.keeps_caTrack : Chan.Keeps c (c.caTrack two cs m) := by
  unfold Chan.caTrack
  cases m with
  | act bg bank row => exact Chan.keeps_setBank
  | col bg bank auto => exact Chan.keeps_closeRow.ite .refl
  | preAll => exact Chan.keeps_closeRows _
  | preSame b => exact Chan.keeps_closeRows _
  | pre bg bank => exact Chan.keeps_closeRow
  | srEnter => exact Chan.keeps_setRank.trans Chan.keeps_disarm
  | pdEnter => exact Chan.keeps_setRank
  | exit => exact Chan.Keeps.ite (Chan.keeps_setRank.trans Chan.keeps_arm) Chan.keeps_setRank
  | refAb => exact .refl
  | refSb b => exact .refl
  | other => exact .refl

end

/-- A key removed twice is removed once. -/
theorem terase_terase {α : Type} {t : Tab α} (h : keysAbove 0 t = true) (k : Nat) : terase (terase t k) k = terase t k := by
  have h1 := keysAbove_terase h k
  refine Tab.ext_of_tfind (keysAbove_terase h1 k) h1 fun j => ?_
  rw [tfind_terase h1, tfind_terase h]
  split <;> rfl

/-- `s'` is `s` after the channel unit `sc` has driven commands: the unit has tracked them, and they have been sent. -/
structure Drives (sc : Nat) (s s' : State) : Prop where
  rest : s' = { s with chans := s'.chans, out := s'.out, padQuiet := s'.padQuiet }
  wf : Tab.wf (fun _ => Chan.init) s'.chans = true
  others : OtherChans sc s s'
  keeps : (s.chan sc).Keeps (s'.chan sc)
  padsWf : keysAbove 0 s.padQuiet = true
  pads : s'.padQuiet = s.padQuiet ∨ s'.padQuiet = terase s.padQuiet sc

section
variable {s s' s'' : State} {sc n : Nat} {f : Chan → Chan} {m : DramCmd} {raw : Bool}

theorem Drives.start (hchans : Tab.wf (fun _ => Chan.init) s.chans = true) (hpads : Tab.wf (fun _ => false) s.padQuiet = true) :
    Drives sc s s := ⟨rfl, hchans, fun _ _ => rfl, .refl, Tab.wf_keys hpads, .inl rfl⟩

theorem Drives.refl (h : s.Canonical) : Drives sc s s := by
  obtain ⟨-, -, -, hchans, -, -, -, -, -, -, -, -, -, -, -, -, -, hpads, -⟩ := h
  exact .start hchans hpads

theorem Drives.threads (h : Drives sc s s') : s'.threads = s.threads := by rw [h.rest]
theorem Drives.regs (h : Drives sc s s') : s'.regs = s.regs := by rw [h.rest]
theorem Drives.variant (h : Drives sc s s') : s'.variant = s.variant := by rw [h.rest]
theorem Drives.shadow (h : Drives sc s s') : s'.shadow = s.shadow := by rw [h.rest]
theorem Drives.live (h : Drives sc s s') : s'.live = s.live := by rw [h.rest]
theorem Drives.flag (h : Drives sc s s') (a i : Nat) : s'.flag a i = s.flag a i := by rw [h.rest]; rfl

/-- A change of the unit that MBOX12 does not show stores the unit alone. -/
theorem Drives.updChan_eq (hf : (s.chan sc).Keeps (f (s.chan sc))) : s.updChan sc f = s.setChan sc (f (s.chan sc)) :=
  State.updChan_quiet (hf.shown _).symm

theorem Drives.setChan {c : Chan} (h : Drives sc s s') (hc : (s'.chan sc).Keeps c) : Drives sc s (s'.setChan sc c) := by
  have hwf : Tab.wf (fun _ => Chan.init) (s'.setChan sc c).chans = true := State.chans_wf_setChan h.wf sc c
  refine ⟨?_, hwf, fun k hk => ?_, ?_, h.padsWf, h.pads⟩
  · rw [h.rest]
    rfl
  · rw [State.chan_setChan h.wf, if_neg hk, h.others k hk]
  · rw [State.chan_setChan h.wf, if_pos rfl]
    exact h.keeps.trans hc

theorem Drives.updChan (h : Drives sc s s') (hf : ∀ c : Chan, c.Keeps (f c)) : Drives sc s (s'.updChan sc f) := by
  rw [Drives.updChan_eq (hf _)]
  exact h.setChan (hf _)

theorem Drives.wakePads (h : Drives sc s s') : Drives sc s { s' with padQuiet := terase s'.padQuiet sc } := by
  refine ⟨by rw [h.rest], h.wf, h.others, h.keeps, h.padsWf, .inr ?_⟩
  rcases h.pads with hp | hp
  · exact congrArg (terase · sc) hp
  · exact (congrArg (terase · sc) hp).trans (terase_terase h.padsWf sc)

theorem Drives.emit {o : Out} (h : Drives sc s s') : Drives sc s (s'.emit o) :=
  ⟨by rw [h.rest]; rfl, h.wf, h.others, h.keeps, h.padsWf, h.pads⟩

/-- A command has gone out: the unit's group no longer drives the levels of Latch (R447). -/
structure Sends (sc : Nat) (s s' : State) : Prop extends Drives sc s s' where
  woken : s'.padQuiet = terase s.padQuiet sc

theorem Drives.dramCmd (h : Drives sc s s') : Sends sc s (s'.dramCmd sc m raw) := by
  have hupd : Drives sc s (s'.updChan sc fun k => { k with window := ((m, raw, k.colRow m) :: k.window).take 256 }) :=
    h.updChan fun _ => ⟨fun _ => rfl, rfl, rfl⟩
  refine ⟨hupd.wakePads.emit, ?_⟩
  rcases hupd.pads with hp | hp
  · exact congrArg (terase · sc) hp
  · exact (congrArg (terase · sc) hp).trans (terase_terase h.padsWf sc)

theorem Drives.ite {p : Prop} [Decidable p] (h : Drives sc s s') (h' : Drives sc s s'') :
    Drives sc s (if p then s' else s'') := iteInduction (fun _ => h) fun _ => h'

theorem Drives.pdWake {r : Nat} (h : Drives sc s s') : Drives sc s (s'.pdWake sc r) :=
  .ite (h.updChan fun _ => Chan.keeps_setRank).dramCmd.toDrives h

theorem Drives.closeBank {k : Nat} (h : Drives sc s s') : Drives sc s (s'.closeBank sc k) :=
  .ite h (h.updChan fun _ => Chan.keeps_closeRow).dramCmd.toDrives

theorem Drives.openRow {k row : Nat} (h : Drives sc s s') : Drives sc s (s'.openRow sc k row) :=
  .ite (h.updChan fun _ => Chan.keeps_setBank) (h.closeBank.updChan fun _ => Chan.keeps_setBank).dramCmd.toDrives

theorem Drives.writeRead {rank step lines : Nat} (h : Drives sc s s') : Drives sc s (s'.writeRead sc rank step lines) := by
  unfold State.writeRead
  extract_lets s1 bs s2
  have h2 : Drives sc s s2 := List.foldlRecOn (motive := fun x : Nat × State => Drives sc s x.2) _ _ h.openRow
    fun _ hx _ _ => hx.dramCmd.toDrives
  exact List.foldlRecOn (motive := fun x => Drives sc s x) _ _ h2 fun _ hx _ _ => hx.dramCmd.toDrives

/-- A step of a sweep drives its pattern, and nothing else. -/
theorem Drives.runPattern {rank pat step : Nat} (h : Drives sc s s') : Drives sc s (s'.runPattern sc rank pat step) := by
  unfold State.runPattern
  extract_lets s1
  have h1 : Drives sc s s1 := h.pdWake
  split
  · exact h1.dramCmd.toDrives
  · exact h1.dramCmd.toDrives
  · exact h1.writeRead
  · exact h1.writeRead
  · exact h1.dramCmd.toDrives

theorem State.pdWake_awake {r : Nat} (h : ((s.chan sc).rank r).powerDown = false) : s.pdWake sc r = s :=
  if_neg (by simp [h])

theorem State.updChan_out : (s.updChan sc f).out = s.out := by
  unfold State.updChan
  extract_lets c c' en
  split
  · rfl
  · exact State.setReg_out ..

/-- Any state that sends something, its group awake: what it has sent. -/
theorem State.woken_out (x : State) (o : Out) :
    (({ x with padQuiet := terase x.padQuiet sc } : State).emit o).out = o :: x.out := rfl

theorem State.dramCmd_out : (s.dramCmd sc m raw).out = sent sc m :: s.out :=
  (State.woken_out _ _).trans (congrArg (List.cons (sent sc m)) State.updChan_out)

end

/-! ### The end of a maintenance request -/

/-- `s'` is `s` after the head of the maintenance requests is done: the grant is given back, and the thread goes on. -/
structure Retires (sc : Nat) (t : ThreadRef) (s s' : State) : Prop where
  maint : (s'.chan sc).maint = (s.chan sc).maint.drop 1
  run : (s'.chan sc).run = none
  thr : s'.thr t = (s.thr t).resumed
  otherThreads : OtherThreads t s s'
  otherChans : OtherChans sc s s'
  rest : s' = { s with threads := s'.threads, chans := s'.chans }

section
variable {s s' : State} {sc : Nat} {t : ThreadRef}

theorem State.endMaint_eq : s.endMaint sc = s.setChan sc { s.chan sc with run := none } := State.updChan_quiet rfl

theorem State.setThr_rest_of_chans {x y : State} {th : Thread} (h : y = { x with chans := y.chans }) :
    y.setThr t th = { x with threads := (y.setThr t th).threads, chans := (y.setThr t th).chans } :=
  congrArg (fun z : State => { z with threads := (y.setThr t th).threads }) h

theorem State.setChan_rest_of_chans {x y : State} {c : Chan} (h : y = { x with chans := y.chans }) :
    y.setChan sc c = { x with chans := (y.setChan sc c).chans } :=
  congrArg (fun z : State => { z with chans := (y.setChan sc c).chans }) h

theorem State.maintDone_retires (hthr : Tab.wf (fun _ => Thread.init) s.threads = true)
    (hch : Tab.wf (fun _ => Chan.init) s.chans = true) : Retires sc t s (s.maintDone sc t) := by
  have hdrop : (s.updChan sc fun c => { c with maint := c.maint.drop 1 }) =
      s.setChan sc { s.chan sc with maint := (s.chan sc).maint.drop 1 } := State.updChan_quiet rfl
  have hch1 := State.chans_wf_setChan hch sc { s.chan sc with maint := (s.chan sc).maint.drop 1 }
  have hself : ∀ c, (s.setChan sc c).chan sc = c := fun c => (State.chan_setChan hch ..).trans (if_pos rfl)
  have hwake : ∀ x : State, x.threads = s.threads → x.wake t = x.setThr t (s.thr t).resumed := fun x hx => by
    rw [State.wake_eq (hx ▸ hthr), State.thr_congr hx]
  have he : s.maintDone sc t = ((s.setChan sc { s.chan sc with maint := (s.chan sc).maint.drop 1 }).setChan sc
      { s.chan sc with maint := (s.chan sc).maint.drop 1, run := none }).setThr t (s.thr t).resumed := by
    unfold State.maintDone
    rw [hdrop, State.endMaint_eq, hself]
    exact hwake _ rfl
  have hchan : ∀ n, (s.maintDone sc t).chan n = if n = sc then
      { s.chan sc with maint := (s.chan sc).maint.drop 1, run := none } else s.chan n := fun n => by
    rw [he]
    refine (State.chan_setChan hch1 ..).trans ?_
    split
    · rfl
    · next hn => exact (State.chan_setChan hch ..).trans (if_neg hn)
  obtain ⟨hself, hother⟩ := setThr_threads (t := t) (th := (s.thr t).resumed)
    (x := (s.setChan sc { s.chan sc with maint := (s.chan sc).maint.drop 1 }).setChan sc
      { s.chan sc with maint := (s.chan sc).maint.drop 1, run := none }) hthr rfl
  rw [← he] at hself hother
  refine ⟨?_, ?_, hself, hother, fun n hn => (hchan n).trans (if_neg hn), ?_⟩
  · rw [hchan, if_pos rfl]
  · rw [hchan, if_pos rfl]
  · rw [he]
    exact State.setThr_rest_of_chans (State.setChan_rest_of_chans (State.setChan_rest_of_chans rfl))

end

/-! ### Stored knobs -/

section
variable {t : Tab Nat} {v : Nat → Nat}

/-- Storing values at some keys changes these alone. -/
theorem knobAt_foldl (h : Tab.wf keyReset t = true) (keys : List Nat) (k : Nat) :
    knobAt (keys.foldl (fun t k => knobPut t k (v k)) t) k = if k ∈ keys then v k else knobAt t k := by
  induction keys generalizing t with
  | nil => rfl
  | cons a keys ih =>
    have hput : knobAt (knobPut t a (v a)) k = if k = a then v k else knobAt t k := by
      unfold knobAt knobPut
      by_cases hk : k = a
      · subst hk
        simp [tget_tset (Tab.wf_keys h)]
      · simp [tget_tset_ne (Tab.wf_keys h) hk, hk]
    rw [List.foldl_cons, ih (t := knobPut t a (v a)) (Tab.wf_tset h a (v a)), hput]
    by_cases hk : k ∈ keys
    · simp [hk]
    · by_cases ha : k = a <;> simp [hk, ha]

end

end Sys2Proof.Machine
end

section
/-! Maintenance grants and sweep steps (R125 to R130, R246, R399 to R405, R590, R591): what the head of the requests does. -/

namespace Sys2Proof.Machine

section
variable {s x y : State} {sc : Nat} {mr : BitVec 80} {samples : List (Nat × Nat)} {t : ThreadRef} {m : Maint} {rest : List Maint}
  {th : Thread} {i : Instr}

/-- A command that ends by retiring the head of its sub-channel's requests does what a maintenance instruction is done with. -/
theorem Retires.does {post : State → Prop} (hthr : Tab.wf (fun _ => Thread.init) y.threads = true)
    (hch : Tab.wf (fun _ => Chan.init) y.chans = true) (hm : (y.chan sc).maint = m :: rest) (ht : y.thr t = th)
    (hot : OtherThreads t s y) (hoc : OtherChans sc s y) (hexec : exec i s = .next (y.maintDone sc t))
    (hpost : ∀ s', Retires sc t y s' → post s') :
    Does i s fun s' => (s'.chan sc).maint = rest ∧ (s'.chan sc).run = none ∧ s'.thr t = th.resumed ∧ OtherThreads t s s' ∧
      OtherChans sc s s' ∧ post s' := by
  have h := State.maintDone_retires (sc := sc) (t := t) hthr hch
  refine ⟨_, hexec, ?_, h.run, ht ▸ h.thr, hot.trans h.otherThreads, fun n hn => (h.otherChans n hn).trans (hoc n hn), hpost _ h⟩
  rw [h.maint, hm]
  rfl

/-- What a retired instruction leaves of a state that has sent a command. -/
theorem Retires.driven {s' : State} (h : Retires sc t y s') (hx : Sends sc s x) (hy : y = { x with threads := y.threads }) :
    s'.out = x.out ∧ s' = { s.driven s' sc with threads := s'.threads } := by
  have hout : s'.out = x.out := by
    rw [h.rest, hy]
  refine ⟨hout, ?_⟩
  have hx' : y = { s.driven x sc with threads := y.threads } := by
    rw [hy, hx.rest, hx.woken]
  rw [h.rest, hx']

/-- The channel unit's grant of maintenance: the oldest request, or CLEAR. -/
theorem State.maintGrant_has (h : s.MaintHas sc) : s.maintGrant sc mr = match (s.chan sc).maint with
    | [] => (if (s.chan sc).clearing = true ∧ (s.chan sc).clearPtr < s.clearLines sc then s.clearLine sc else s).endMaint sc
    | m :: _ =>
      match m.cmd with
      | .dcmd bits cs raw => s.grantDcmd sc m.t bits cs raw
      | .mrw a v cs both dev => (s.grantMrw sc a v cs both dev).maintDone sc m.t
      | .mrr d a cs high =>
        let s := (s.pdWake sc cs).dramCmd sc (.mrr cs a) false
        (s.setThr m.t ((s.thr m.t).setG d (mrrValue mr high))).maintDone sc m.t
      | .commit rank => (s.knobCommit sc rank).maintDone sc m.t
      | .sweep _ _ _ _ _ _ _ _ _ _ =>
        s.updChan sc fun c => { c with maint := { m with granted := true } :: c.maint.drop 1 } := by
  obtain ⟨hmay, hrun⟩ := h
  have hgo : ¬ (s.mayIssue sc = false ∨ (s.chan sc).run.map Run.rq ≠ some 3) := by simp [hmay, hrun]
  exact if_neg hgo

/-- A command sent, and its instruction retired on a state that differs from it in threads alone. -/
theorem Sends.retires (hx : Sends sc s x) (hy : y = { x with threads := y.threads })
    (hthr : Tab.wf (fun _ => Thread.init) y.threads = true) (hm : (s.chan sc).maint = m :: rest) (ht : y.thr t = th)
    (hot : OtherThreads t s y) (hexec : exec i s = .next (y.maintDone sc t)) :
    Does i s fun s' => (s'.chan sc).maint = rest ∧ (s'.chan sc).run = none ∧ s'.thr t = th.resumed ∧ OtherThreads t s s' ∧
      OtherChans sc s s' ∧ s'.out = x.out ∧ s' = { s.driven s' sc with threads := s'.threads } := by
  have hchans : y.chans = x.chans := by rw [hy]
  have hchan : ∀ n, y.chan n = x.chan n := fun n => congrArg (fun c => tget Chan.init c n) hchans
  refine Retires.does (m := m) hthr (hchans ▸ hx.wf) ?_ ht hot (fun n hn => (hchan n).trans (hx.others n hn)) hexec
    fun s' h => h.driven hx hy
  rw [hchan, hx.keeps.maint, hm]

/-- A command sent, and the instruction of a thread that it returns nothing to retired. -/
theorem Sends.retires_plain (hs : s.Canonical) (hx : Sends sc s x) (hm : (s.chan sc).maint = m :: rest)
    (hexec : exec i s = .next (x.maintDone sc t)) :
    Does i s fun s' => (s'.chan sc).maint = rest ∧ (s'.chan sc).run = none ∧ s'.thr t = (s.thr t).resumed ∧
      OtherThreads t s s' ∧ OtherChans sc s s' ∧ s'.out = x.out ∧ s' = { s.driven s' sc with threads := s'.threads } :=
  hx.retires rfl (hx.threads ▸ hs.2.1) hm (State.thr_congr hx.threads t) (otherThreads_of_threads hx.threads) hexec

/-- A DCMD that is legal, or RAW, of a rank that is awake. -/
theorem State.grantDcmd_eq {bits : BitVec 29} {cs : Nat} {raw : Bool} (hpd : ((s.chan sc).rank cs).powerDown = false)
    (hok : raw = true ∨ (s.chan sc).caIllegal cs (caDecode bits) = false) : s.grantDcmd sc t bits cs raw =
      ((s.updChan sc fun c => c.caTrack (s.twoRanks sc) cs (caDecode bits)).dramCmd sc (.ca cs bits) raw).maintDone sc t := by
  have hlegal : ¬ ((!raw && (s.chan sc).caIllegal cs (caDecode bits)) = true) := by
    rcases hok with h | h <;> simp [h]
  unfold State.grantDcmd
  simp only [State.pdWake_awake hpd, ite_self]
  exact if_neg hlegal

/-- A change that MBOX12 does not show is the change of the unit. -/
theorem State.chan_updChan_keeps {f : Chan → Chan} (hwf : Tab.wf (fun _ => Chan.init) x.chans = true)
    (hf : (x.chan sc).Keeps (f (x.chan sc))) : (x.updChan sc f).chan sc = f (x.chan sc) := by
  rw [Drives.updChan_eq hf, State.chan_setChan hwf, if_pos rfl]

/-- What a command sent leaves of a channel unit: its window of commands. -/
theorem State.dramCmd_clearPtr {c : DramCmd} {raw : Bool} (hwf : Tab.wf (fun _ => Chan.init) x.chans = true) :
    ((x.dramCmd sc c raw).chan sc).clearPtr = (x.chan sc).clearPtr := by
  have hwoken : ∀ (z : State) (o : Out), (({ z with padQuiet := terase z.padQuiet sc } : State).emit o).chan sc = z.chan sc :=
    fun _ _ => rfl
  unfold State.dramCmd
  extract_lets z
  have hz : z.chan sc = _ := State.chan_updChan_keeps hwf ⟨fun _ => rfl, rfl, rfl⟩
  rw [hwoken, hz]

theorem Chan.keeps_clearPtr {c : Chan} {n : Nat} : c.Keeps { c with clearPtr := n } := ⟨fun _ => rfl, rfl, rfl⟩

/-- A unit stored after a command. -/
theorem Sends.setChan_driven (h : Sends sc s x) (c : Chan) : x.setChan sc c = s.driven (x.setChan sc c) sc := by
  have hx : x = s.driven x sc :=
    h.rest.trans (congrArg (fun p => { s with chans := x.chans, out := x.out, padQuiet := p }) h.woken)
  exact (congrArg (State.setChan · sc c) hx).trans rfl

/-- A grant that ends after its command. -/
theorem Sends.ended (h : Sends sc s x) : (x.endMaint sc).chan sc = { x.chan sc with run := none } ∧
    OtherChans sc s (x.endMaint sc) ∧ x.endMaint sc = s.driven (x.endMaint sc) sc := by
  have hchan := fun n => State.chan_setChan h.wf sc { x.chan sc with run := none } n
  rw [State.endMaint_eq]
  exact ⟨(hchan sc).trans (if_pos rfl), fun n hn => ((hchan n).trans (if_neg hn)).trans (h.others n hn), h.setChan_driven _⟩

/-- A CLEAR line sent ends the grant. -/
theorem Sends.clears {n : Nat} (h : Sends sc s x) (hn : (x.chan sc).clearPtr = n) (hexec : exec i s = .next (x.endMaint sc)) :
    Does i s fun s' => (s'.chan sc).clearPtr = n ∧ (s'.chan sc).run = none ∧ OtherChans sc s s' ∧ s' = s.driven s' sc := by
  obtain ⟨hend, hothers, hdriven⟩ := h.ended
  refine ⟨_, hexec, ?_, ?_, hothers, hdriven⟩
  · rw [hend]
    exact hn
  · rw [hend]

/-- A CLEAR line drives its channel unit, which then stands at the next line. -/
theorem State.clearLine_sends (hs : s.Canonical) :
    Sends sc s (s.clearLine sc) ∧ ((s.clearLine sc).chan sc).clearPtr = (s.chan sc).clearPtr + 1 := by
  unfold State.clearLine
  extract_lets n ell cs cb bank s1
  have h1 : Drives sc s s1 := (Drives.refl hs).pdWake.openRow
  have h2 := h1.updChan (f := fun c => { c with clearPtr := n + 1 }) fun _ => Chan.keeps_clearPtr
  have hptr := State.chan_updChan_keeps (sc := sc) (f := fun c => { c with clearPtr := n + 1 }) h1.wf Chan.keeps_clearPtr
  exact ⟨h2.dramCmd, (State.dramCmd_clearPtr h2.wf).trans (congrArg Chan.clearPtr hptr)⟩

/-- What COMMIT changes: the live values of a rank. -/
theorem State.knobCommit_rest {r : Nat} : s.knobCommit sc r = { s with live := (s.knobCommit sc r).live } := by
  unfold State.knobCommit
  rfl

theorem State.knobCommit_live {r : Nat} (hs : s.Canonical) (k : Nat) :
    knobAt (s.knobCommit sc r).live k = if k ∈ s.rankKeys sc r then knobAt s.shadow k else knobAt s.live k := by
  obtain ⟨-, -, -, -, -, -, -, -, -, -, -, -, -, hlive, -⟩ := hs
  unfold State.knobCommit
  exact knobAt_foldl (v := knobAt s.shadow) hlive (s.rankKeys sc r) k

/-- `x` is `s` after a sweep step has given the keys their value and driven its pattern (R130, R590). -/
structure Tries (sc : Nat) (keys : List Nat) (v : Nat) (s x : State) : Prop where
  rest : x = { s with chans := x.chans, out := x.out, padQuiet := x.padQuiet, shadow := x.shadow }
  wf : Tab.wf (fun _ => Chan.init) x.chans = true
  others : OtherChans sc s x
  keeps : (s.chan sc).Keeps (x.chan sc)
  tried : ∀ k, knobAt x.shadow k = if k ∈ keys then v else knobAt s.shadow k

theorem State.knobSet_tries (hs : s.Canonical) (keys : List Nat) (v : Nat) : Tries sc keys v s (s.knobSet keys v false) := by
  obtain ⟨-, -, -, hchans, -, -, -, -, -, -, -, -, -, -, hshadow, -⟩ := hs
  unfold State.knobSet
  exact ⟨rfl, hchans, fun _ _ => rfl, .refl, knobAt_foldl (v := fun _ => v) hshadow keys⟩

theorem Tries.drives {keys : List Nat} {v : Nat} (h : Tries sc keys v s y) (hx : Drives sc y x) : Tries sc keys v s x := by
  refine ⟨?_, hx.wf, fun n hn => (hx.others n hn).trans (h.others n hn), h.keeps.trans hx.keeps, hx.shadow ▸ h.tried⟩
  rw [hx.rest, h.rest]

theorem State.knobSet_drives (hs : s.Canonical) (keys : List Nat) (v : Nat) :
    Drives sc (s.knobSet keys v false) (s.knobSet keys v false) := by
  obtain ⟨-, -, -, hchans, -, -, -, -, -, -, -, -, -, -, -, -, -, hpads, -⟩ := hs
  exact .start hchans hpads

/-- What a lane's samples are judged by does not change while a pattern runs. -/
theorem Tries.lanePasses {keys : List Nat} {v pat n rank : Nat} (h : Tries sc keys v s x) :
    x.lanePasses sc pat n rank samples = s.lanePasses sc pat n rank samples := by
  rw [h.rest]
  rfl

theorem Tries.knobLanes {keys : List Nat} {v knob : Nat} (h : Tries sc keys v s x) :
    x.knobLanes sc knob = s.knobLanes sc knob := by
  rw [h.rest]
  rfl

end

section
variable {s : State} {sc : Nat} {samples : List (Nat × Nat)} {t : ThreadRef} {rest : List Maint}

/-- A sweep step of the request at the head, which the grant has marked. -/
theorem State.sweepStep_has {d knob lane rank pat start step count n : Nat} {result : W64} (hs : s.Canonical) (h : s.MaintHas sc)
    (hm : (s.chan sc).maint = { t := t, cmd := .sweep d knob lane rank pat start step count n result, granted := true } :: rest) :
    let want := (s.knobLanes sc knob).filter fun l => lane = 255 ∨ l = lane
    let result' := if want.all (s.lanePasses sc pat n rank samples) then result ||| BitVec.ofNat 64 (2 ^ n) else result
    ∃ x, Tries sc (s.targetKeys sc knob lane (if knobPerRank knob then rank else 0)) (start + n * step) s x ∧
      s.sweepStep sc samples = if n + 1 ≥ count ∨ start + (n + 1) * step > knobMax knob then x.sweepEnd sc t d result' else
        (x.updChan sc fun c => { c with maint :=
          { t := t, cmd := .sweep d knob lane rank pat start step count (n + 1) result', granted := false } :: rest }).endMaint
            sc := by
  have hx : Tries sc _ _ s ((s.knobSet (s.targetKeys sc knob lane (if knobPerRank knob then rank else 0)) (start + n * step)
      false).runPattern sc rank pat n) := (s.knobSet_tries hs _ _).drives (s.knobSet_drives hs _ _).runPattern
  refine ⟨_, hx, ?_⟩
  obtain ⟨hmay, hrun⟩ := h
  have hgo : ¬ (s.mayIssue sc = false ∨ (s.chan sc).run.map Run.rq ≠ some 3) := by simp [hmay, hrun]
  unfold State.sweepStep
  rw [if_neg hgo, hm]
  dsimp only
  rw [hx.knobLanes, hx.lanePasses]

/-- The last step of a sweep: the bitmap reaches its register. -/
theorem Tries.last {keys : List Nat} {v d : Nat} {result : W64} {x : State} {m : Maint} (hs : s.Canonical)
    (hx : Tries sc keys v s x) (hm : (s.chan sc).maint = m :: rest)
    (hexec : exec (.sweepStep sc samples) s = .next (x.sweepEnd sc t d result)) :
    Does (.sweepStep sc samples) s fun s' => (s'.chan sc).maint = rest ∧ (s'.chan sc).run = none ∧
      s'.thr t = ((s.thr t).setG d result).resumed ∧ OtherThreads t s s' ∧ OtherChans sc s s' ∧
      (∀ k, knobAt s'.shadow k = if k ∈ keys then v else knobAt s.shadow k) ∧ s'.live = s.live ∧ s'.regs = s.regs := by
  have hthreads : x.threads = s.threads := by rw [hx.rest]
  have hself := setThr_threads (t := t) (th := (s.thr t).setG d result) hs.2.1 hthreads
  have hend : x.sweepEnd sc t d result = (x.setThr t ((s.thr t).setG d result)).maintDone sc t := by
    unfold State.sweepEnd
    rw [State.thr_congr hthreads]
  rw [hend] at hexec
  refine Retires.does (y := x.setThr t ((s.thr t).setG d result)) (Tab.wf_tset (hthreads ▸ hs.2.1) _ _) hx.wf (hx.keeps.maint.trans hm) hself.1 hself.2 hx.others hexec
    fun s' h => ⟨?_, ?_, ?_⟩
  · rw [h.rest]
    exact hx.tried
  · rw [h.rest, hx.rest]
    rfl
  · rw [h.rest, hx.rest]
    rfl

/-- A step of a sweep that goes on: its request stands at the next value. -/
theorem Tries.next {keys : List Nat} {v : Nat} {x : State} {m : Maint} (hx : Tries sc keys v s x)
    (hexec : exec (.sweepStep sc samples) s = .next ((x.updChan sc fun c => { c with maint := m :: rest }).endMaint sc)) :
    Does (.sweepStep sc samples) s fun s' => (∀ k, knobAt s'.shadow k = if k ∈ keys then v else knobAt s.shadow k) ∧
      s'.live = s.live ∧ s'.threads = s.threads ∧ s'.regs = s.regs ∧ (s'.chan sc).maint = m :: rest := by
  have hset : x.updChan sc (fun c => { c with maint := m :: rest }) = x.setChan sc { x.chan sc with maint := m :: rest } :=
    State.updChan_quiet rfl
  rw [hset, State.endMaint_eq] at hexec
  have hwf := State.chans_wf_setChan hx.wf sc { x.chan sc with maint := m :: rest }
  have hlive : x.live = s.live := by rw [hx.rest]
  have hthreads : x.threads = s.threads := by rw [hx.rest]
  have hregs : x.regs = s.regs := by rw [hx.rest]
  refine ⟨_, hexec, hx.tried, hlive, hthreads, hregs, ?_⟩
  · rw [State.chan_setChan hwf, if_pos rfl, State.chan_setChan hx.wf, if_pos rfl]

end

/-- Settles O41: each branch of the grant sends its command and retires its request; a sweep step drives its pattern between. -/
theorem maintenanceGrants : Obligations.MaintenanceGrants := by
  unfold Obligations.MaintenanceGrants
  intro s sc mr hs hhas c done
  have hgrant : exec (.maintenanceGrant sc mr) s = .next (s.maintGrant sc mr) := rfl
  have hstart : Drives sc s s := .refl hs
  have hgranted := State.maintGrant_has (mr := mr) hhas
  rw [hgranted] at hgrant
  refine ⟨?dcmd, ?mrw, ?mrr, ?commit, ?clear, ?sweep⟩
  case dcmd =>
    intro t bits cs raw rest hm hpd hok
    have hm' : (s.chan sc).maint = { t := t, cmd := .dcmd bits cs raw, granted := false } :: rest := hm
    simp only [hm', State.grantDcmd_eq hpd hok] at hgrant
    have hx := (hstart.updChan (f := fun c => c.caTrack (s.twoRanks sc) cs (caDecode bits))
      fun _ => Chan.keeps_caTrack).dramCmd (m := .ca cs bits) (raw := raw)
    have hsend := hx.retires_plain hs hm' hgrant
    rwa [State.dramCmd_out, State.updChan_out] at hsend
  case mrw =>
    intro t a v cs dev rest hm hpd
    have hm' : (s.chan sc).maint = { t := t, cmd := .mrw a v cs false dev, granted := false } :: rest := hm
    have hone : s.grantMrw sc a v cs false dev = s.dramCmd sc (.mrw cs a v dev) false := by
      change (s.pdWake sc cs).dramCmd sc _ false = _
      rw [State.pdWake_awake hpd]
    simp only [hm', hone] at hgrant
    have hsend := hstart.dramCmd.retires_plain hs hm' hgrant
    rwa [State.dramCmd_out] at hsend
  case mrr =>
    intro t d a cs high rest hm hpd
    have hm' : (s.chan sc).maint = { t := t, cmd := .mrr d a cs high, granted := false } :: rest := hm
    simp only [hm', State.pdWake_awake hpd] at hgrant
    have hx := hstart.dramCmd (m := .mrr cs a) (raw := false)
    have hself := setThr_threads (t := t) (th := (s.thr t).setG d (mrrValue mr high)) hs.2.1 hx.threads
    rw [State.thr_congr hx.threads] at hgrant
    have hsend := hx.retires rfl (Tab.wf_tset (hx.threads ▸ hs.2.1) _ _) hm' hself.1 hself.2 hgrant
    rwa [State.dramCmd_out] at hsend
  case commit =>
    intro t r rest hm
    have hm' : (s.chan sc).maint = { t := t, cmd := .commit r, granted := false } :: rest := hm
    simp only [hm'] at hgrant
    have hcommit := State.knobCommit_rest (s := s) (sc := sc) (r := r)
    have hlive := State.knobCommit_live (sc := sc) (r := r) hs
    generalize s.knobCommit sc r = y at hgrant hcommit hlive
    have hthreads : y.threads = s.threads := by rw [hcommit]
    have hchans : y.chans = s.chans := by rw [hcommit]
    have hchan : ∀ n, y.chan n = s.chan n := fun n => congrArg (fun c => tget Chan.init c n) hchans
    refine Retires.does (hthreads ▸ hs.2.1) (hchans ▸ hs.2.2.2.1) ((hchan sc).symm ▸ hm') (State.thr_congr hthreads t)
      (otherThreads_of_threads hthreads) (fun n _ => hchan n) hgrant fun s' h => ⟨fun k => ?_, ?_⟩
    · rw [h.rest]
      exact hlive k
    · rw [h.rest, hcommit]
  case clear =>
    intro hm hclearing hptr
    have hm' : (s.chan sc).maint = [] := hm
    have hgo : (s.chan sc).clearing = true ∧ (s.chan sc).clearPtr < s.clearLines sc := ⟨hclearing, hptr⟩
    simp only [hm', if_pos hgo] at hgrant
    obtain ⟨hsend, hline⟩ := State.clearLine_sends (sc := sc) hs
    exact hsend.clears hline hgrant
  case sweep =>
    intro t d knob lane rank pat start step count n result rest samples hm want result' tried
    have hm' : (s.chan sc).maint =
      { t := t, cmd := .sweep d knob lane rank pat start step count n result, granted := true } :: rest := hm
    obtain ⟨x, hx, hstep⟩ := State.sweepStep_has (samples := samples) hs hhas hm'
    have hexec : exec (.sweepStep sc samples) s = .next (s.sweepStep sc samples) := rfl
    refine ⟨fun hlast => ?_, fun hmore hmax => ?_⟩
    · exact hx.last hs hm' (hexec.trans (congrArg _ (hstep.trans (if_pos hlast))))
    · exact hx.next (hexec.trans (congrArg _ (hstep.trans (if_neg (by omega)))))

end Sys2Proof.Machine
end

section
/-! Writes of the engines' registers by an open port (R133, R136, R150, R154): what asks what of the engine. -/

namespace Sys2Proof.Machine

/-! ### A word write of a register of an engine or of an instruction store -/

section
variable {s : State} {p : Port} {w : Win} {o : Nat} {v : W32} {t : Wrote}

theorem State.ignored_cfgBusy {off : Nat} : (s.ignored off).cfgBusy = s.cfgBusy := by
  unfold State.ignored
  rw [State.cfgFlag_rest]

/-- A word write of a register that is no half of a two-word value, by an open port. -/
theorem State.PortOpen.writesWord (h : s.PortOpen p (w.base + o)) (hfit : w.Fits s.variant o) (ho : o % 4 = 0)
    (hne : regFlds s.variant w o ≠ []) (hlow : ∀ k, isLow w k = false)
    (ht : s.askWrite p w o (w.base + o) (s.wordAsk w o v) = t) (hbusy : t.1.cfgBusy = s.cfgBusy) :
    s.regAccess p true (writeAt p (w.base + o) v) =
      .next ((if t.2 then t.1.ignored (w.base + o) else t.1).emit (.portRsp p 0 false)) := by
  have hloc := locate_of_fits hfit
  have hword : s.writeWord p w o (w.base + o) v = t := by simp [State.writeWord, hlow, ht]
  have haddr : (w.base + o) % 4 = 0 := by
    have := Win.base_mod (w := w)
    omega
  have hrsp : p = .cfg → (if t.2 then t.1.ignored (w.base + o) else t.1).cfgBusy = .none := fun e => by
    rw [cfgBusy_ite, State.ignored_cfgBusy, ite_self, hbusy]
    exact (h.2.2.2.1 e).1
  have hsite : s.siteWrite p ⟨w, o, w.base + o, none⟩ (w.base + o) v = if t.2 then t.1.ignored (w.base + o) else t.1 := by
    unfold State.siteWrite
    rw [hword]
  rw [writeAt, if_pos haddr]
  change s.access p _ = _
  rw [h.write_site (siteOf_word hloc) (undefAt_word hloc hne), hsite, State.answered_of_cfgBusy hrsp]

/-- A word read of a register that is no half of a two-word value and in no fault block, by an open port. -/
theorem State.PortOpen.readsWord (h : s.PortOpen p (w.base + o)) (hfit : w.Fits s.variant o) (ho : o % 4 = 0)
    (hlow : ∀ k, isLow w k = false) (hblock : blockAt s.variant (w.base + o) = none) (hdbg : dbgOnly (w.base + o) = false) :
    s.regAccess p true (readAt p (w.base + o)) =
      let r := (s.readEffect p w o (w.base + o)).withOpen w o (w.base + o) (s.cur w o (w.base + o))
      .next (r.2.emit (.portRsp p r.1 false)) := by
  have hx := siteOf_word (locate_of_fits hfit)
  have haddr : (w.base + o) % 4 = 0 := by
    have := Win.base_mod (w := w)
    omega
  have hbus : s.busRead p (w.base + o) =
      let r := (s.readEffect p w o (w.base + o)).withOpen w o (w.base + o) (s.cur w o (w.base + o))
      ((r.1, false), r.2) := by
    simp [State.busRead, hx, State.readWord, State.wordRead, hdbg, hblock, hlow]
  rw [readAt, if_pos haddr]
  change s.access p _ = _
  rw [h.read_site hx, hbus]

end

/-! ### Instruction stores (R136, R150) -/

section
variable {s : State} {p : Port} {b : BankRef} {bank idx a : Nat} {v : W32}

theorem State.ask_full {w : Win} {o : Nat} (h : regFlds s.variant w o = [⟨31, 0, .lv, 0⟩]) :
    s.wordAsk w o v = { flds := [⟨31, 0, .lv, 0⟩], val := v, bit := false } := by
  have hmask : BitVec.ofNat 32 (fldMask [⟨31, 0, .lv, 0⟩]) = BitVec.allOnes 32 := by decide
  rw [State.wordAsk, h, hmask, BitVec.and_allOnes]

theorem State.instrAt_setInstr : (s.setInstr b bank idx v).instrAt b bank idx = v := by
  unfold State.instrAt State.setInstr
  rw [tfind_tput, if_pos rfl]
  rfl

theorem State.setInstr_find {k : Nat} (h : k ≠ Machine.storeKey b bank idx) :
    tfind (s.setInstr b bank idx v).store k = tfind s.store k := by
  unfold State.setInstr
  rw [tfind_tput, if_neg h]

/-- `t` is `s` after an instruction has been stored in a bank, which is EMPTY now (R136). -/
structure Stored (s : State) (b : BankRef) (bank idx : Nat) (v : W32) (t : State) : Prop where
  instr : t.instrAt b bank idx = v
  empty : t.bankSt b bank = 0
  find : ∀ k, k ≠ storeKey b bank idx → tfind t.store k = tfind s.store k
  reg : ∀ a, a ≠ bankBase b + 0xC + 4 * bank → t.reg a = s.reg a
  wf : Tab.wf (resetWord t.variant) t.regs = true
  rest : t = { s with regs := t.regs, store := t.store }

theorem Stored.of_empty {x : State} (hrest : x = { s with regs := x.regs }) (hempty : x.bankSt b bank = 0)
    (hreg : ∀ a, a ≠ bankBase b + 0xC + 4 * bank → x.reg a = s.reg a) (hwf : Tab.wf (resetWord x.variant) x.regs = true) :
    Stored s b bank idx v (x.setInstr b bank idx v) := by
  have hstore : x.store = s.store := by rw [hrest]
  refine ⟨State.instrAt_setInstr, hempty, fun k hk => (State.setInstr_find hk).trans (by rw [hstore]), hreg, hwf, ?_⟩
  rw [hrest]
  rfl

/-- A word of an EMPTY or LOADED bank is stored. -/
theorem State.storeWord_open (hwf : Tab.wf (resetWord s.variant) s.regs = true) (h : s.bankSt b bank ≤ 1) :
    ∃ t, s.storeWord b bank idx v = some t ∧ Stored s b bank idx v t := by
  have hcase : s.bankSt b bank = 0 ∨ s.bankSt b bank = 1 := by omega
  rcases hcase with h0 | h1
  · refine ⟨s.setInstr b bank idx v, ?_, .of_empty rfl h0 (fun _ _ => rfl) hwf⟩
    simp [State.storeWord, h0]
  · have hempty : (s.setBankSt b bank 0).bankSt b bank = 0 :=
      State.fld_setFld_same hwf (by decide) (by decide) (by decide)
    refine ⟨(s.setBankSt b bank 0).setInstr b bank idx v, ?_, .of_empty rfl hempty
      (fun a ha => (State.reg_setFld hwf ..).trans (if_neg ha)) (State.regs_wf_setReg hwf ..)⟩
    simp [State.storeWord, h1]

/-- A word of an ACTIVE or OUTGOING bank is not stored. -/
theorem State.storeWord_shut (h : 2 ≤ s.bankSt b bank) : s.storeWord b bank idx v = none := by
  unfold State.storeWord
  split
  · omega
  · omega
  · rfl

end

section
variable {s : State} {p : Port} {cl bank idx : Nat} {v : W32}

/-- A write of an instruction store word, by an open port. -/
theorem State.PortOpen.storeWrite (hcl : cl < s.variant.clusters) (hbank : bank < 2) (hidx : idx < 8192)
    (h : s.PortOpen p ((Win.store cl).base + 0x8000 * bank + 4 * idx)) {t : Wrote}
    (ht : orIgnored (s, false) (s.storeWord (.cluster cl) bank idx v) = t) (hbusy : t.1.cfgBusy = s.cfgBusy) :
    exec (.instrStoreWrite p cl bank idx v) s =
      .next ((if t.2 then t.1.ignored ((Win.store cl).base + 0x8000 * bank + 4 * idx) else t.1).emit (.portRsp p 0 false)) := by
  have hask : s.askWrite p (.store cl) (0x8000 * bank + 4 * idx) ((Win.store cl).base + (0x8000 * bank + 4 * idx))
      (s.wordAsk (.store cl) (0x8000 * bank + 4 * idx) v) = t := by
    have hb : (0x8000 * bank + 4 * idx) / 0x8000 = bank := by omega
    have hi : (0x8000 * bank + 4 * idx) % 0x8000 / 4 = idx := by omega
    rw [State.ask_full rfl]
    change orIgnored (s, false) (s.storeWord (.cluster cl) ((0x8000 * bank + 4 * idx) / 0x8000)
      ((0x8000 * bank + 4 * idx) % 0x8000 / 4) v) = t
    rw [hb, hi, ht]
  have hfit : (Win.store cl).Fits s.variant (0x8000 * bank + 4 * idx) := ⟨hcl, by omega⟩
  rw [Nat.add_assoc] at h ⊢
  have hwrite := h.writesWord hfit (by omega) (List.cons_ne_nil _ _) (fun _ => rfl) hask hbusy
  have hpresent : (decide (cl < s.variant.clusters) && decide (bank < 2) && decide (idx < 8192)) = true := by
    simp [hcl, hbank, hidx]
  change s.regAccess p (decide (cl < s.variant.clusters) && decide (bank < 2) && decide (idx < 8192)) _ = _
  rw [hpresent, Nat.add_assoc]
  exact hwrite

end

/-! ### PROG_DATA (R136, R154) -/

/-- The window of a bank's owner. -/
def bankWin : BankRef → Win
  | .cluster n => .cluster n
  | .seq n => .seq n
  | .svc n => .svc n

section
variable {s t : State} {p : Port} {b : BankRef} {v : W32} {o a : Nat}

theorem bankWin_base : (bankWin b).base = bankBase b := by cases b <;> rfl
theorem bankWin_isLow : ∀ k, isLow (bankWin b) k = false := by cases b <;> exact fun _ => rfl

theorem bankWin_fits (hb : hasFclr b = true) (hp : bankPresent s.variant b = true) (ho : o < 0x100) :
    (bankWin b).Fits s.variant o := by
  cases b with
  | cluster n => cases hb
  | seq n => exact ⟨of_decide_eq_true hp, ho⟩
  | svc n => exact ⟨of_decide_eq_true hp, ho⟩

theorem progData_flds (hb : hasFclr b = true) : regFlds s.variant (bankWin b) 0x24 = [⟨31, 0, .lv, 0⟩] := by
  cases b with
  | cluster n => cases hb
  | seq n => rfl
  | svc n => rfl

/-- INDEX after an access of PROG_DATA. -/
theorem State.progNext_idx (hwf : Tab.wf (resetWord s.variant) s.regs = true) :
    (s.progNext b).progIdx b = (s.progIdx b + 1) % 2048 := by
  unfold State.progNext State.progIdx State.fld
  rw [State.reg_setFld hwf, if_pos rfl, bitsOf_putBits _ (by decide) (by decide)]
  rfl

theorem State.progNext_bank (hwf : Tab.wf (resetWord s.variant) s.regs = true) : (s.progNext b).progBank b = s.progBank b :=
  State.fld_setFld_apart hwf (by decide) (by decide) (.inr (by decide))

theorem State.progNext_reg (hwf : Tab.wf (resetWord s.variant) s.regs = true) (ha : a ≠ bankBase b + 0x20) :
    (s.progNext b).reg a = s.reg a := (State.reg_setFld hwf ..).trans (if_neg ha)

theorem State.progBank_lt : s.progBank b < 2 := State.fld_lt

/-- A word stored through PROG_DATA leaves PROG_ADDR. -/
theorem Stored.progAddr {idx : Nat} (h : Stored s b (s.progBank b) idx v t) :
    t.reg (bankBase b + 0x20) = s.reg (bankBase b + 0x20) := by
  have hlt := State.progBank_lt (s := s) (b := b)
  exact h.reg _ (by omega)

/-- A write of PROG_DATA whose bank takes the word, by an open port. -/
theorem State.PortOpen.progWrite (hb : hasFclr b = true) (hp : bankPresent s.variant b = true)
    (h : s.PortOpen p (bankBase b + 0x24)) (ht : s.storeWord b (s.progBank b) (s.progIdx b) v = some t)
    (hbusy : t.cfgBusy = s.cfgBusy) :
    exec (.progData p b (some v)) s = .next ((t.progNext b).emit (.portRsp p 0 false)) := by
  have hask : s.askWrite p (bankWin b) 0x24 ((bankWin b).base + 0x24) (s.wordAsk (bankWin b) 0x24 v) = (t.progNext b, false) := by
    have hprog : s.progWrite b { flds := [⟨31, 0, .lv, 0⟩], val := v, bit := false } = (t.progNext b, false) := by
      simp [State.progWrite, ht, orIgnored]
    rw [State.ask_full (progData_flds hb)]
    cases b with
    | cluster n => cases hb
    | seq n => exact hprog
    | svc n => exact hprog
  have hwrite := State.PortOpen.writesWord (v := v) (w := bankWin b) (o := 0x24) (bankWin_base ▸ h) (bankWin_fits hb hp (by decide)) (by decide)
    (by rw [progData_flds hb]; exact List.cons_ne_nil _ _) bankWin_isLow hask (State.setFld_cfgBusy.trans hbusy)
  rw [bankWin_base] at hwrite
  change s.regAccess p (hasFclr b && bankPresent s.variant b) _ = _
  rw [hb, hp]
  exact hwrite

theorem dbgOnly_of_le (h : 0x2140 ≤ a) : dbgOnly a = false := by
  simp only [dbgOnly, Bool.or_eq_false_iff, beq_eq_false_iff_ne, Bool.and_eq_false_iff, decide_eq_false_iff_not]
  omega

/-- A read of PROG_DATA, by an open port. -/
theorem State.PortOpen.progRead (hb : hasFclr b = true) (hp : bankPresent s.variant b = true)
    (h : s.PortOpen p (bankBase b + 0x24)) :
    exec (.progData p b none) s = .next ((s.progNext b).emit (.portRsp p (s.progWord b) false)) := by
  have hfit : (bankWin b).Fits s.variant 0x24 := bankWin_fits hb hp (by decide)
  have hblock : blockAt s.variant ((bankWin b).base + 0x24) = none := blockAt_eq_none hfit (by cases b <;> simp [bankWin, Win.plainEnd])
  have hdbg : dbgOnly ((bankWin b).base + 0x24) = false :=
    dbgOnly_of_le (by cases b <;> simp only [bankWin, Win.base] <;> omega)
  have hread := State.PortOpen.readsWord (w := bankWin b) (o := 0x24) (bankWin_base ▸ h) hfit (by decide) bankWin_isLow hblock hdbg
  have hcur : s.cur (bankWin b) 0x24 ((bankWin b).base + 0x24) = s.progWord b := by
    rw [State.cur, hblock]
    cases b with
    | cluster n => cases hb
    | seq n => rfl
    | svc n => rfl
  have heff : s.readEffect p (bankWin b) 0x24 ((bankWin b).base + 0x24) = s.progNext b := by
    cases b with
    | cluster n => cases hb
    | seq n => rfl
    | svc n => rfl
  have hopen : ∀ (x : State) (y : W32), x.withOpen (bankWin b) 0x24 ((bankWin b).base + 0x24) y = (y, x) := fun x y => by
    have hmask : BitVec.ofNat 32 (fldMask [⟨31, 0, .lv, 0⟩]) = BitVec.allOnes 32 := by decide
    have hknown : BitVec.ofNat 32 (x.knownMask (bankWin b) 0x24) = BitVec.allOnes 32 := by
      cases b with
      | cluster n => cases hb
      | seq n => exact hmask
      | svc n => exact hmask
    rw [State.withOpen, hknown, if_pos rfl]
  rw [hcur, heff] at hread
  dsimp only at hread
  rw [hopen, bankWin_base] at hread
  change s.regAccess p (hasFclr b && bankPresent s.variant b) _ = _
  rw [hb, hp]
  exact hread

end

/-- Settles O22: what storing a word changes, written directly and through PROG_DATA. -/
theorem instructionStores : Obligations.InstructionStores := by
  unfold Obligations.InstructionStores
  refine ⟨?_, ?_⟩
  · intro s p cl bank idx v hs hcl hbank hidx off hopen
    refine ⟨fun hst => ?_, fun hst => ?_⟩
    · obtain ⟨t, hstore, ht⟩ := State.storeWord_open (v := v) (idx := idx) hs.1 hst
      have hbusy : t.cfgBusy = s.cfgBusy := by rw [ht.rest]
      refine ⟨t.emit (.portRsp p 0 false), ?_, ht.instr, ht.empty, ht.find, ht.reg, ?_⟩
      · exact State.PortOpen.storeWrite hcl hbank hidx hopen (t := (t, false)) (by rw [hstore]; rfl) hbusy
      · rw [ht.rest]
        rfl
    · exact State.PortOpen.storeWrite hcl hbank hidx hopen (t := (s, true)) (by rw [State.storeWord_shut hst]; rfl) rfl
  · intro s p b v hs hb hp hopen
    refine ⟨fun hst => ?_, ?_⟩
    · obtain ⟨t, hstore, ht⟩ := State.storeWord_open (v := v) (idx := s.progIdx b) hs.1 hst
      have hbusy : t.cfgBusy = s.cfgBusy := by rw [ht.rest]
      have hidx : t.progIdx b = s.progIdx b := congrArg (bitsOf · 10 0) ht.progAddr
      have hbank : t.progBank b = s.progBank b := congrArg (bitsOf · 11 11) ht.progAddr
      refine ⟨(t.progNext b).emit (.portRsp p 0 false), hopen.progWrite hb hp hstore hbusy, ht.instr, ?_, ?_, ?_, ?_⟩
      · exact (State.progNext_idx ht.wf).trans (by rw [hidx])
      · exact (State.progNext_bank ht.wf).trans hbank
      · have hlt := State.progBank_lt (s := s) (b := b)
        exact (congrArg (bitsOf · 31 30) (State.progNext_reg (b := b) ht.wf (by omega))).trans ht.empty
      · rw [ht.rest]
        rfl
    · have hidx := State.progNext_idx (b := b) hs.1
      have hreg := fun a ha => State.progNext_reg (b := b) (a := a) hs.1 ha
      have hout : (s.progNext b).out = s.out := State.setReg_out ..
      have hrest : s.progNext b = { s with regs := (s.progNext b).regs } := rfl
      have hexec := hopen.progRead hb hp
      generalize s.progNext b = x at hidx hreg hout hrest hexec
      refine ⟨_, hexec, congrArg (List.cons _) hout, hidx, hreg, ?_⟩
      rw [hrest]
      rfl

end Sys2Proof.Machine
end

section
/-! CLR_FAULT ends more than the fault (R133): a wait that the thread still names ends too. -/

namespace Sys2Proof.Machine

/-- A FAULTED stream thread that still names a wait, in a block whose clocks run and whose cluster has initialised. -/
def faultedInWait : State :=
  { State.resetOf .ovm0840 with
    inited := [.cfg, .cluster 0],
    threads := [(tkey ⟨.stream, 0, 0⟩, { Thread.init with st := .faulted, wait := .maint })] }.setFlag clkStatus 0 true

/-- What the selected thread waits for after CLR_FAULT. -/
def waitAfterClear (s : State) : Option Wait :=
  match exec (.clrFault .cfg 0) s with
  | .next s' => some (s'.thr ⟨.stream, 0, 0⟩).wait
  | _ => none

theorem waitAfterClear_faultedInWait : waitAfterClear faultedInWait = some .none := by decide +kernel

theorem faultedInWait_selected : faultedInWait.fld ((Win.cluster 0).base + 0x20) 5 0 = 0 := by decide +kernel

theorem faultedInWait_meets : faultedInWait.Canonical ∧ 0 < faultedInWait.variant.clusters ∧
    faultedInWait.PortOpen .cfg ((Win.cluster 0).base + 0x2C) ∧ faultedInWait.thrSt ⟨.stream, 0, 0⟩ = .faulted ∧
    (faultedInWait.thr ⟨.stream, 0, 0⟩).wait = .maint := by decide +kernel

/-- Refutes O21: CLR_FAULT of a FAULTED thread that names a wait leaves it none, and the statement keeps the wait. -/
theorem not_faultAndEventWrites : ¬ Obligations.FaultAndEventWrites := by
  unfold Obligations.FaultAndEventWrites
  rintro ⟨⟨hclear, -⟩, -⟩
  obtain ⟨hcanon, hpresent, hopen, hst, hwait⟩ := faultedInWait_meets
  have h := hclear faultedInWait .cfg 0 hcanon hpresent hopen
  rw [faultedInWait_selected] at h
  obtain ⟨s', hexec, hthr, -⟩ := h (by decide) hst
  have hafter := waitAfterClear_faultedInWait
  rw [waitAfterClear, hexec] at hafter
  have hkept : (s'.thr ⟨.stream, 0, 0⟩).wait = .maint := by
    rw [hthr]
    exact hwait
  rw [Option.some.injEq, hkept] at hafter
  cases hafter

end Sys2Proof.Machine
end

section
/-! Dispatch (R71, R140, R165, R167): a ready context starts on an idle thread. -/

namespace Sys2Proof.Machine

section
variable {s s' : State} {cl c bank a n : Nat} {t : ThreadRef}

/-- No register of a context's entry is one that a request changes. -/
theorem not_asideReg_of_le (h : 0x7028 ≤ a) : ¬asideReg a := by
  unfold asideReg
  omega

theorem le_ctxBase : 0x100000 ≤ ctxBase c := by
  unfold ctxBase
  omega

theorem Enters.rest_of_regs {x : State} (h : Enters x s') (hx : x = { s with regs := x.regs }) :
    s' = { s with regs := s'.regs, nextId := s'.nextId, pool := s'.pool, charmQ := s'.charmQ, jobs := s'.jobs } := by
  rw [h.rest, hx]

/-- A descriptor read: SEEN_GEN samples GEN, and the request enters (R167). -/
structure ReadsDescriptor (t : ThreadRef) (c : Nat) (s s' : State) : Prop where
  rest : s' = { s with regs := s'.regs, nextId := s'.nextId, pool := s'.pool, charmQ := s'.charmQ, jobs := s'.jobs }
  asks : s'.pool.map Req.asks = s.pool.map Req.asks ++ [(.thread t, .rd, s.curOf c / 64, .desc c, 0, false)]
  reg : ∀ a, a ≠ ctxBase c + 0x3C → 0x7028 ≤ a → s'.reg a = s.reg a

theorem State.readDescriptor_reads (h : Tab.wf (resetWord s.variant) s.regs = true) :
    ReadsDescriptor t c s (s.readDescriptor (.thread t) c) := by
  have hwf : Tab.wf (resetWord (s.setFld (ctxBase c + 0x3C) 31 16 (s.tailGen c)).variant)
      (s.setFld (ctxBase c + 0x3C) 31 16 (s.tailGen c)).regs = true := State.regs_wf_setReg h ..
  have hreg : ∀ a, a ≠ ctxBase c + 0x3C → (s.setFld (ctxBase c + 0x3C) 31 16 (s.tailGen c)).reg a = s.reg a :=
    fun a ha => (State.reg_setFld h ..).trans (if_neg ha)
  have hpool : (s.setFld (ctxBase c + 0x3C) 31 16 (s.tailGen c)).pool = s.pool := State.setFld_pool ..
  have hcur : (s.setFld (ctxBase c + 0x3C) 31 16 (s.tailGen c)).curOf c = s.curOf c := by
    unfold State.curOf State.reg2
    rw [hreg _ (by omega), hreg _ (by omega)]
  unfold State.readDescriptor
  extract_lets s1
  have hen : Enters s1 (s1.enter (s1.fld (ctxBase c + 8) 5 0) (descReq (.thread t) c (s1.curOf c / 64))) :=
    s1.enter_enters hwf (Nat.mod_lt _ (by decide))
  refine ⟨hen.rest_of_regs rfl, ?_, fun a ha hle => (hen.reg a (not_asideReg_of_le hle)).trans (hreg a ha)⟩
  rw [State.enter_pool_asks, hpool, hcur]
  rfl

/-- What the start of a context leaves of its thread (R71). -/
def Thread.started (th : Thread) (c bank entry : Nat) : Thread :=
  { Thread.init with
    st := .wait, wait := .start, bank := bank, pc := entry, g := tset 0 [] 1 (BitVec.ofNat 64 c), ctx := some c,
    epoch := th.epoch + 1 }

theorem Thread.started_getG {th : Thread} {entry : Nat} (a : Nat) :
    (th.started c bank entry).getG a = if a = 1 then BitVec.ofNat 64 c else 0 := by
  have hg : tget 0 (th.started c bank entry).g a = if a = 1 then BitVec.ofNat 64 c else tget 0 [] a := tget_tset rfl ..
  unfold Thread.getG
  rw [hg]
  split
  · next h0 => rw [if_neg (by omega)]
  · rfl

/-- `s'` is `s` after a context has started on a thread. -/
structure Starts (t : ThreadRef) (c bank : Nat) (s s' : State) : Prop where
  thr : s'.thr t = (s.thr t).started c bank (s.ctx c).entry
  others : OtherThreads t s s'
  asks : s'.pool.map Req.asks = s.pool.map Req.asks ++ [(.thread t, .rd, s.curOf c / 64, .desc c, 0, false)]
  state : s'.ctxState c = if (s.ctx c).fast then 4 else 3
  reg : ∀ a, a ≠ ctxBase c + 4 → a ≠ ctxBase c + 0x3C → 0x7028 ≤ a → s'.reg a = s.reg a
  rest : s' = { s with threads := s'.threads, regs := s'.regs, nextId := s'.nextId, pool := s'.pool, charmQ := s'.charmQ,
                       jobs := s'.jobs }

theorem State.startCtx_starts (h : Tab.wf (resetWord s.variant) s.regs = true)
    (hthr : Tab.wf (fun _ => Thread.init) s.threads = true) : Starts t c bank s (s.startCtx t c bank) := by
  have hle := le_ctxBase (c := c)
  obtain ⟨hself, hothers⟩ := setThr_threads (t := t) (th := (s.thr t).started c bank (s.ctx c).entry) hthr rfl
  unfold State.startCtx
  change Starts t c bank s (((s.setThr t ((s.thr t).started c bank (s.ctx c).entry)).setCtxState c
    (if (s.ctx c).fast then 4 else 3)).readDescriptor (.thread t) c)
  have hx : s.setThr t ((s.thr t).started c bank (s.ctx c).entry) =
      { s with threads := (s.setThr t ((s.thr t).started c bank (s.ctx c).entry)).threads } := rfl
  generalize s.setThr t ((s.thr t).started c bank (s.ctx c).entry) = x at hself hothers hx
  have hwf : Tab.wf (resetWord x.variant) x.regs = true := by
    rw [hx]
    exact h
  have hwf' : Tab.wf (resetWord (x.setCtxState c (if (s.ctx c).fast then 4 else 3)).variant)
      (x.setCtxState c (if (s.ctx c).fast then 4 else 3)).regs = true := State.regs_wf_setReg hwf ..
  have hreg : ∀ a, a ≠ ctxBase c + 4 → (x.setCtxState c (if (s.ctx c).fast then 4 else 3)).reg a = s.reg a :=
    fun a ha => ((State.reg_setFld hwf ..).trans (if_neg ha)).trans (by rw [hx]; rfl)
  have hstate : (x.setCtxState c (if (s.ctx c).fast then 4 else 3)).ctxState c = if (s.ctx c).fast then 4 else 3 :=
    State.fld_setFld_same hwf (by decide) (by decide) (by split <;> decide)
  have hy : x.setCtxState c (if (s.ctx c).fast then 4 else 3) =
      { x with regs := (x.setCtxState c (if (s.ctx c).fast then 4 else 3)).regs } := rfl
  generalize x.setCtxState c (if (s.ctx c).fast then 4 else 3) = y at hwf' hreg hstate hy
  have hthreads : y.threads = x.threads := by rw [hy]
  have hpool : y.pool = s.pool := by rw [hy, hx]
  have hread := State.readDescriptor_reads (t := t) (c := c) hwf'
  generalize y.readDescriptor (.thread t) c = z at hread
  have hz : z = { y with regs := z.regs, nextId := z.nextId, pool := z.pool, charmQ := z.charmQ, jobs := z.jobs } :=
    hread.rest
  have hzthr : z.threads = x.threads := by rw [hz, hthreads]
  refine ⟨(State.thr_congr hzthr t).trans hself, hothers.trans (otherThreads_of_threads hzthr), ?_, ?_, ?_, ?_⟩
  · have hcur : y.curOf c = s.curOf c := by
      unfold State.curOf State.reg2
      rw [hreg _ (by omega), hreg _ (by omega)]
    rw [hread.asks, hpool, hcur]
  · refine Eq.trans ?_ hstate
    exact congrArg (bitsOf · 31 29) (hread.reg _ (by omega) (by omega))
  · intro a ha hb hc
    exact (hread.reg a hb hc).trans (hreg a ha)
  · rw [hzthr]
    have hlift : ∀ {u w : State}, u = w → ({ u with
        regs := z.regs, nextId := z.nextId, pool := z.pool, charmQ := z.charmQ, jobs := z.jobs } : State) = { w with
        regs := z.regs, nextId := z.nextId, pool := z.pool, charmQ := z.charmQ, jobs := z.jobs } := fun h => h ▸ rfl
    exact (hz.trans (hlift hy)).trans (hlift hx)

end

/-- Settles O25: the dispatch binds the context's version, takes the context out of the ready order and starts it. -/
theorem dispatch : Obligations.Dispatch := by
  unfold Obligations.Dispatch
  intro s cl t c bank hs hkind hunit hpresent hup hready hstop hst hnext hroom hbank hentry
  have hle := le_ctxBase (c := c)
  have hguard : ¬ (t.kind ≠ .stream ∨ t.unit ≠ cl ∨ threadPresent s.variant t = false ∨ s.engUp t = false ∨
      s.clusterReady cl = false ∨ s.clustersStopped = true ∨ s.thrSt t ≠ .idle) := by
    simp [hkind, hunit, hpresent, hup, hready, hstop, hst]
  have hpick : (s.nextReady cl).filter (fun c => s.opRoom t (descReq (.thread t) c (s.curOf c / 64))) = some c := by
    rw [hnext, Option.filter_some, if_pos hroom]
  have hexec : exec (.dispatch cl t) s = .next (((s.setFld (ctxBase c + 0x34) 15 0 (s.bankVer (.cluster cl) bank)).setReady cl
      ((s.ready cl).filter (· != c))).startCtx t c bank) := by
    change Host.Outcome.next (s.dispatch cl t) = _
    unfold State.dispatch
    rw [if_neg hguard, hpick]
    dsimp only
    rw [hbank]
    dsimp only
    exact congrArg Host.Outcome.next (if_neg (Nat.not_le.mpr hentry))
  have hwf : Tab.wf (resetWord (s.setFld (ctxBase c + 0x34) 15 0 (s.bankVer (.cluster cl) bank)).variant)
    (s.setFld (ctxBase c + 0x34) 15 0 (s.bankVer (.cluster cl) bank)).regs = true := State.regs_wf_setReg hs.1 ..
  have hver : (s.setFld (ctxBase c + 0x34) 15 0 (s.bankVer (.cluster cl) bank)).fld (ctxBase c + 0x34) 15 0 =
      s.bankVer (.cluster cl) bank := State.fld_setFld_same hs.1 (by decide) (by decide) State.fld_lt
  have hreg : ∀ a, a ≠ ctxBase c + 0x34 →
      (s.setFld (ctxBase c + 0x34) 15 0 (s.bankVer (.cluster cl) bank)).reg a = s.reg a :=
    fun a ha => (State.reg_setFld hs.1 ..).trans (if_neg ha)
  have hx : s.setFld (ctxBase c + 0x34) 15 0 (s.bankVer (.cluster cl) bank) =
      { s with regs := (s.setFld (ctxBase c + 0x34) 15 0 (s.bankVer (.cluster cl) bank)).regs } := rfl
  generalize s.setFld (ctxBase c + 0x34) 15 0 (s.bankVer (.cluster cl) bank) = x at hexec hwf hver hreg hx
  have hq : ∀ l, (x.setReady cl l).ready cl = l := fun l => by
    obtain ⟨-, -, -, -, -, -, -, hq, -⟩ := hs
    have hxq : x.readyQ = s.readyQ := by rw [hx]
    exact (tget_tset (hxq ▸ Tab.wf_keys hq) ..).trans (if_pos rfl)
  have hcur : ∀ l, (x.setReady cl l).curOf c = s.curOf c := fun l => by
    change x.reg2 (ctxBase c + 0x28) = s.reg2 (ctxBase c + 0x28)
    unfold State.reg2
    rw [hreg _ (by omega), hreg _ (by omega)]
  have hy : ∀ l, x.setReady cl l = { s with regs := x.regs, readyQ := (x.setReady cl l).readyQ } := fun l =>
    congrArg (fun z : State => { z with readyQ := (x.setReady cl l).readyQ }) hx
  have hyreg : ∀ l a, (x.setReady cl l).reg a = x.reg a := fun _ _ => rfl
  have hyregs : ∀ l, (x.setReady cl l).regs = x.regs := fun _ => rfl
  have hyvar : ∀ l, (x.setReady cl l).variant = x.variant := fun _ => rfl
  have hstart := State.startCtx_starts (s := x.setReady cl ((s.ready cl).filter (· != c))) (c := c) (t := t) (bank := bank)
    (by rw [hyregs, hyvar]; exact hwf) (by rw [hy]; exact hs.2.1)
  have hready := hq ((s.ready cl).filter (· != c))
  have hycur := hcur ((s.ready cl).filter (· != c))
  have hyrest := hy ((s.ready cl).filter (· != c))
  have hyreg' := hyreg ((s.ready cl).filter (· != c))
  generalize x.setReady cl ((s.ready cl).filter (· != c)) = y at hexec hstart hready hycur hyrest hyreg'
  have hythr : y.threads = s.threads := by rw [hyrest]
  have hyctx : y.ctx c = s.ctx c := by
    unfold State.ctx
    rw [hyrest]
  have hypool : y.pool = s.pool := by rw [hyrest]
  have hthr := hstart.thr
  rw [State.thr_congr hythr, hyctx] at hthr
  refine ⟨_, hexec, ?_, ?_, ?_, ?_, ?_, ?_, ?_, ?_, ?_, ?_, ?_⟩
  · rw [hthr]
    rfl
  · rw [hthr, Thread.started_getG, if_pos rfl]
  · intro a ha
    rw [hthr, Thread.started_getG, if_neg ha]
  · rw [hstart.state, hyctx]
  · refine Eq.trans ?_ hver
    exact congrArg (bitsOf · 15 0) ((hstart.reg _ (by omega) (by omega) (by omega)).trans (hyreg' _))
  · have hr : (y.startCtx t c bank).ready cl = y.ready cl := by
      unfold State.ready
      rw [hstart.rest]
    rw [hr, hready]
    simp
  · rw [hstart.asks, hypool, hycur]
  · exact (otherThreads_of_threads hythr).trans hstart.others
  · rw [hstart.rest, hyrest]
  · rw [hstart.rest, hyrest]
  · rw [hstart.rest, hyrest]

end Sys2Proof.Machine
end

section
/-! YIELD and DONE (R121, R175, R177): the thread becomes IDLE, and its context READY or at the end of its run. -/

namespace Sys2Proof.Machine

/-- `x` is `s` after a thread has become IDLE: it serves no context, and what contexts and programs see is as before. -/
structure Freed (t : ThreadRef) (s x : State) : Prop where
  idle : (x.thr t).st = .idle
  free : (x.thr t).ctx = none
  others : OtherThreads t s x
  regs : x.regs = s.regs
  variant : x.variant = s.variant
  ctxs : x.ctxs = s.ctxs
  readyQ : x.readyQ = s.readyQ
  evf : x.evf = s.evf
  out : x.out = s.out

section
variable {s x : State} {t : ThreadRef} {c cl outcome cause m : Nat}

theorem State.Unclasped.toIdle (h : s.Unclasped t) (hs : s.Canonical)
    (hpacket : (s.thr t).packet = none ∨ (s.thr t).ctx = none) : Freed t s (s.toIdle t) := by
  obtain ⟨ch, hleave, -⟩ := h.leave (status := 0) hpacket
  have hleft : (s.leave t 0).thr t = (s.thr t).left := by
    rw [hleave]
    exact State.thr_setThr_self hs
  have hthreads : (s.leave t 0).threads = (s.setThr t (s.thr t).left).threads := by
    rw [hleave]
    rfl
  have hsame : (s.leave t 0).regs = s.regs ∧ (s.leave t 0).variant = s.variant ∧ (s.leave t 0).ctxs = s.ctxs ∧
      (s.leave t 0).readyQ = s.readyQ ∧ (s.leave t 0).evf = s.evf ∧ (s.leave t 0).out = s.out := by
    rw [hleave]
    exact ⟨rfl, rfl, rfl, rfl, rfl, rfl⟩
  unfold State.toIdle
  extract_lets y
  obtain ⟨hregs, hvariant, hctxs, hready, hevf, hout⟩ := hsame
  obtain ⟨hself, hothers⟩ := setThr_threads (s := s.setThr t (s.thr t).left) (x := y) (t := t) (th := { y.thr t with st := .idle })
    (Tab.wf_tset hs.2.1 ..) hthreads
  refine ⟨?_, ?_, (otherThreads_setThr hs).trans hothers, hregs, hvariant, hctxs, hready, hevf, hout⟩
  · rw [hself]
  · rw [hself]
    exact congrArg Thread.ctx hleft

theorem Freed.regsWf (h : Freed t s x) (hs : s.Canonical) : Tab.wf (resetWord x.variant) x.regs = true := by
  rw [h.regs, h.variant]
  exact hs.1

theorem Freed.reg (h : Freed t s x) (a : Nat) : x.reg a = s.reg a := by
  unfold State.reg
  rw [h.regs, h.variant]

theorem Freed.ctx (h : Freed t s x) (c : Nat) : x.ctx c = s.ctx c := by
  unfold State.ctx
  rw [h.ctxs]

theorem Freed.ready (h : Freed t s x) (cl : Nat) : x.ready cl = s.ready cl := by
  unfold State.ready
  rw [h.readyQ]

theorem Freed.reports (h : Freed t s x) (cl : Nat) : x.reports cl = s.reports cl := by
  unfold State.reports
  rw [h.ctxs]

/-! ### YIELD -/

/-- What a YIELD that retires leaves (R175). -/
structure Yields (t : ThreadRef) (c : Nat) (s s' : State) : Prop where
  idle : (s'.thr t).st = .idle
  free : (s'.thr t).ctx = none
  others : OtherThreads t s s'
  state : s'.ctxState c = 2
  hops : s'.fld (ctxBase c + 0x38) 31 16 = 0
  ready : s'.ready (s.ctx c).cluster = s.ready (s.ctx c).cluster ++ [c]
  ctx : s'.ctx c = { s.ctx c with yieldLines := s.fld (ctxBase c + 0x38) 15 0 }
  ctxs : ∀ m, m ≠ c → s'.ctx m = s.ctx m
  evf : s'.evf = s.evf
  out : s'.out = s.out

/-- A context that yields: the part of a YIELD that is about the context. -/
def State.yielded (x : State) (c : Nat) : State :=
  let x := x.setFld (ctxBase c + 0x38) 31 16 0
  let x := x.setCtx c { x.ctx c with yieldLines := x.fld (ctxBase c + 0x38) 15 0 }
  (x.setCtxState c 2).setReady (x.ctx c).cluster (x.ready (x.ctx c).cluster ++ [c])

theorem State.yieldNow_eq : s.yieldNow t c = (s.toIdle t).yielded c := rfl

theorem State.setReady_reg {l : List Nat} {a : Nat} : (x.setReady cl l).reg a = x.reg a := rfl
theorem State.setReady_ctx {l : List Nat} : (x.setReady cl l).ctx m = x.ctx m := rfl

theorem State.ready_setReady {l : List Nat} (h : Tab.wf (fun _ => []) x.readyQ = true) : (x.setReady cl l).ready cl = l :=
  (tget_tset (Tab.wf_keys h) ..).trans (if_pos rfl)

/-- What the context's part of a YIELD changes. -/
theorem Freed.yielded (h : Freed t s x) (hs : s.Canonical) : Yields t c s (x.yielded c) := by
  obtain ⟨-, -, hctxs, -, -, -, -, hready, -⟩ := id hs
  have hregs := h.regsWf hs
  unfold State.yielded
  extract_lets x1 old x2
  have hlines : x1.fld (ctxBase c + 0x38) 15 0 = s.fld (ctxBase c + 0x38) 15 0 :=
    (State.fld_setFld_apart hregs (by decide) (by decide) (.inl (by decide))).trans (congrArg (bitsOf · 15 0) (h.reg _))
  have hhops : x1.fld (ctxBase c + 0x38) 31 16 = 0 := State.fld_setFld_same hregs (by decide) (by decide) (by decide)
  have hregs1 : Tab.wf (resetWord x1.variant) x1.regs = true := State.regs_wf_setReg hregs ..
  have hsame1 : x1.readyQ = x.readyQ ∧ x1.threads = x.threads ∧ x1.evf = x.evf ∧ x1.out = x.out := ⟨rfl, rfl, rfl, rfl⟩
  have hctx1 : ∀ m, x1.ctx m = s.ctx m := fun m => h.ctx m
  have hctxs1 : x1.ctxs = s.ctxs := h.ctxs
  have hset : ∀ m, x2.ctx m = if m = c then { s.ctx c with yieldLines := s.fld (ctxBase c + 0x38) 15 0 } else s.ctx m :=
    fun m => by
    rw [← hctx1, ← hctx1, ← hlines]
    exact State.ctx_setCtx (hctxs1 ▸ hctxs) ..
  have hregs2 : Tab.wf (resetWord x2.variant) x2.regs = true := hregs1
  have hreg2 : ∀ a, x2.reg a = x1.reg a := fun _ => rfl
  have hsame2 : x2.readyQ = x1.readyQ ∧ x2.threads = x1.threads ∧ x2.evf = x1.evf ∧ x2.out = x1.out := ⟨rfl, rfl, rfl, rfl⟩
  clear_value x2 x1
  have hcl : (x2.ctx c).cluster = (s.ctx c).cluster := by rw [hset, if_pos rfl]
  have hstate : (x2.setCtxState c 2).ctxState c = 2 := State.fld_setFld_same hregs2 (by decide) (by decide) (by decide)
  have hhops2 : (x2.setCtxState c 2).fld (ctxBase c + 0x38) 31 16 = 0 := by
    refine Eq.trans (congrArg (bitsOf · 31 16) ?_) hhops
    exact ((State.reg_setFld hregs2 ..).trans (if_neg (by omega))).trans (hreg2 _)
  have hctx3 : ∀ m, (x2.setCtxState c 2).ctx m = x2.ctx m := fun m =>
    congrArg (fun cs => tget Ctx.init cs m) (State.setCtxState_ctxs ..)
  have hsame3 : (x2.setCtxState c 2).readyQ = x2.readyQ ∧ (x2.setCtxState c 2).threads = x2.threads ∧
      (x2.setCtxState c 2).evf = x2.evf ∧ (x2.setCtxState c 2).out = x2.out :=
    ⟨State.setReg_readyQ .., State.setCtxState_threads .., State.setCtxState_evf .., State.setCtxState_out ..⟩
  generalize x2.setCtxState c 2 = x3 at hstate hhops2 hctx3 hsame3
  obtain ⟨hq1, hthr1, hevf1, hout1⟩ := hsame1
  obtain ⟨hq2, hthr2, hevf2, hout2⟩ := hsame2
  obtain ⟨hq3, hthr3, hevf3, hout3⟩ := hsame3
  have hcl2 : x2.ready (s.ctx c).cluster = s.ready (s.ctx c).cluster := by
    rw [← h.ready]
    unfold State.ready
    rw [hq2, hq1]
  have hthreads : x3.threads = x.threads := (hthr3.trans hthr2).trans hthr1
  rw [hcl, hcl2]
  have hthr : (x3.setReady (s.ctx c).cluster (s.ready (s.ctx c).cluster ++ [c])).thr t = x.thr t := State.thr_congr hthreads t
  refine ⟨?_, ?_, h.others.trans (otherThreads_of_threads hthreads), hstate, hhops2, ?_, ?_, fun m hm => ?_,
    ((hevf3.trans hevf2).trans hevf1).trans h.evf, ((hout3.trans hout2).trans hout1).trans h.out⟩
  · rw [hthr, h.idle]
  · rw [hthr, h.free]
  · exact State.ready_setReady ((((hq3.trans hq2).trans hq1).trans h.readyQ) ▸ hready)
  · rw [State.setReady_ctx, hctx3, hset, if_pos rfl]
  · rw [State.setReady_ctx, hctx3, hset, if_neg hm]

/-! ### DONE -/

/-- What a DONE whose run has a report slot leaves (R177, R187). -/
structure Finishes (t : ThreadRef) (c : Nat) (s s' : State) : Prop where
  idle : (s'.thr t).st = .idle
  free : (s'.thr t).ctx = none
  others : OtherThreads t s s'
  outcome : (s'.ctx c).outcome = some 1
  regs : s'.regs = s.regs
  evf : s'.evf = s.evf
  out : s'.out = s.out

/-- A run that ends as done takes a report slot that is free (R187). -/
theorem State.endRun_done (h : Tab.wf (fun _ => Ctx.init) x.ctxs = true) (hslot : x.reports (x.ctx c).cluster < 32) :
    ((x.endRun c 1 cause).ctx c).outcome = some 1 ∧ ((x.endRun c 1 cause).ctx c).counted = true ∧
      (x.endRun c 1 cause).threads = x.threads ∧ (x.endRun c 1 cause).regs = x.regs ∧
      (x.endRun c 1 cause).evf = x.evf ∧ (x.endRun c 1 cause).out = x.out := by
  unfold State.endRun
  extract_lets old y z0 z
  have hz : z = z0 := if_pos rfl
  rw [hz]
  have hctxs : z0.ctxs = x.ctxs := rfl
  have hslot' : z0.reports old.cluster < 32 := hslot
  have hrest : z0.threads = x.threads ∧ z0.regs = x.regs ∧ z0.evf = x.evf ∧ z0.out = x.out := ⟨rfl, rfl, rfl, rfl⟩
  clear_value z z0
  have hset := fun v => (State.ctx_setCtx (s := z0) (hctxs ▸ h) c v c).trans (if_pos rfl)
  refine ⟨?_, ?_, hrest⟩
  · rw [hset]
  · rw [hset]
    exact decide_eq_true hslot'

theorem Freed.done (h : Freed t s x) (hs : s.Canonical) (hslot : s.reports (s.ctx c).cluster < 32) :
    Finishes t c s ((x.endRun c 1 0).slotWait t c .wait) := by
  obtain ⟨-, -, hctxs, -⟩ := id hs
  obtain ⟨houtcome, hcounted, hthreads, hregs, hevf, hout⟩ := State.endRun_done (x := x) (c := c) (cause := 0) (h.ctxs ▸ hctxs)
    (by rw [h.ctx, h.reports]; exact hslot)
  have hthr := State.thr_congr hthreads t
  unfold State.slotWait
  rw [if_pos hcounted]
  exact ⟨hthr ▸ h.idle, hthr ▸ h.free, h.others.trans (otherThreads_of_threads hthreads), houtcome, hregs.trans h.regs,
    hevf.trans h.evf, hout.trans h.out⟩

/-! ### The instructions, and the waits for them -/

variable {w : W32}

theorem State.Waits.thrWaits {wt : Wait} (h : s.Waits t wt) : ¬ s.thrWaits t = false := by simp [h.1]

theorem State.Stands.exec_yield (h : s.Stands t w) (hfed : s.Fed t) (hkind : t.kind = .stream) (hop : opOf w = 0x35)
    (hbare : bare w = true) (hctx : (s.thr t).ctx = some c) (hfast : (s.ctx c).fast = false) (hready : s.yieldReady t = true) :
    exec (.yieldCtx t) s = .next ((s.toIdle t).yielded c) := by
  refine h.exec_hold (kinds := [.stream]) hfed hop rfl (by rw [hkind]; rfl) rfl ?_
  simp [hbare, hctx, hfast, hready, State.yieldNow_eq]

theorem State.Stands.exec_done_run (h : s.Stands t w) (hfed : s.Fed t) (hkind : t.kind = .stream) (hop : opOf w = 0x36)
    (hbare : bare w = true) (hctx : (s.thr t).ctx = some c) (hfence : s.fenceHolds t 1 = true) :
    exec (.doneRun t) s = .next (((s.toIdle t).endRun c 1 0).slotWait t c .wait) := by
  refine h.exec_hold (kinds := [.stream]) hfed hop rfl (by rw [hkind]; rfl) rfl ?_
  simp [hbare, hctx, hfence, State.doneNow]

theorem State.Waits.exec_yieldRetire (h : s.Waits t .yieldFence) (hfed : s.Fed t) (hctx : (s.thr t).ctx = some c)
    (hready : s.yieldReady t = true) : exec (.yieldRetire t) s = .next ((s.toIdle t).yielded c) := by
  have hpump : (s.pumpJobs fun j => j.t == t) = s := hfed.pumped
  change Host.Outcome.next (s.yieldRetire t) = _
  simp [State.yieldRetire, h.1, hpump, h.2, hctx, hready, State.yieldNow_eq]

theorem State.Waits.exec_doneRetire (h : s.Waits t .doneFence) (hfed : s.Fed t) (hctx : (s.thr t).ctx = some c)
    (hfence : s.fenceHolds t 1 = true) :
    exec (.doneRetire t) s = .next (((s.toIdle t).endRun c 1 0).slotWait t c .wait) := by
  have hpump : (s.pumpJobs fun j => j.t == t) = s := hfed.pumped
  change Host.Outcome.next (s.doneRetire t) = _
  simp [State.doneRetire, h.1, hpump, h.2, hctx, hfence, State.doneNow]

end

/-- Settles O27: the thread becomes IDLE first; the context then yields, or its run ends. -/
theorem yieldAndDone : Obligations.YieldAndDone := by
  unfold Obligations.YieldAndDone
  intro s t c hs hfed hkind hctx hpacket howns hfull yields finishes
  have hfree : s.Unclasped t := ⟨howns, hfull⟩
  have hidle := hfree.toIdle hs (.inl hpacket)
  have hyield := hidle.yielded (c := c) hs
  have hyields : ∀ i, exec i s = .next ((s.toIdle t).yielded c) → yields i := fun i hexec =>
    ⟨_, hexec, hyield.idle, hyield.free, hyield.others, hyield.state, hyield.hops, hyield.ready, hyield.ctx, hyield.ctxs,
      hyield.evf, hyield.out⟩
  have hfinishes : s.reports (s.ctx c).cluster < 32 →
      ∀ i, exec i s = .next (((s.toIdle t).endRun c 1 0).slotWait t c .wait) → finishes i := fun hslot i hexec => by
    have hdone := hidle.done hs hslot
    exact ⟨_, hexec, hdone.idle, hdone.free, hdone.others, hdone.outcome, hdone.regs, hdone.evf, hdone.out⟩
  refine ⟨?_, ?_, ?_, ?_⟩
  · intro w hst hop hbare hfast hready
    exact hyields _ (hst.exec_yield hfed hkind hop hbare hctx hfast hready)
  · intro hwait hready
    exact hyields _ (State.Waits.exec_yieldRetire hwait hfed hctx hready)
  · intro w hst hop hbare hfence hslot
    exact hfinishes hslot _ (hst.exec_done_run hfed hkind hop hbare hctx hfence)
  · intro hwait hfence hslot
    exact hfinishes hslot _ (State.Waits.exec_doneRetire hwait hfed hctx hfence)
end Sys2Proof.Machine
end

section
/-! The line operations of a multi-line instruction (R79, R96 to R100, R106 to R108, R187). -/

namespace Sys2Proof.Machine

/-! ### Room for a line operation -/

section
variable {s x : State} {t : ThreadRef} {r : Req}

theorem Alike.queueRoom (h : Alike s x) (r : Req) : x.queueRoom r = s.queueRoom r := by
  unfold State.queueRoom State.readRoom State.writeRoom State.readLedger State.writeLedger
  simp only [h.place, h.chan, h.variant]

/-- What the pool holds of an engine is counted by what its requests ask. -/
theorem pool_ofEngine (l : List Req) : (l.filter (ofEngine t)).length =
    (l.map Req.asks).countP fun a => match a.1 with | .thread u => engKey u == engKey t | _ => false := by
  rw [List.countP_map, List.countP_eq_length_filter]
  rfl

/-- Requests that have joined the pool are that many more line operations outstanding at most (R187). -/
theorem State.outstanding_le {l : List (Src × ReqKind × Nat × Dest × Line × Bool)}
    (hpool : x.pool.map Req.asks = s.pool.map Req.asks ++ l) (hhome : x.homeQ = s.homeQ) (htrks : x.trks = s.trks)
    (harr : x.arrivals = s.arrivals) : x.outstanding t ≤ s.outstanding t + l.length := by
  have hle : (x.pool.filter (ofEngine t)).length ≤ (s.pool.filter (ofEngine t)).length + l.length := by
    rw [pool_ofEngine, pool_ofEngine, hpool, List.countP_append]
    exact Nat.add_le_add_left List.countP_le_length _
  unfold State.outstanding
  rw [hhome, htrks, harr]
  omega

end

/-! ### The loop over the lines -/

/-- What issuing a line operation asks of the pool, and does to its thread's buffers: `op` makes the `k`-th of `cnt`. -/
structure LineOps (s : State) (t : ThreadRef) (cnt : Nat) (op : State → Nat → Req × State)
    (req : Nat → Src × ReqKind × Nat × Dest × Line × Bool) (buf : Thread → Nat → Thread) : Prop where
  asks : ∀ x k, k < cnt → x.thr t = { (List.range k).foldl buf (s.thr t) with prog := k } → (op x k).1.asks = req k
  state : ∀ x k, k < cnt → Tab.wf (fun _ => Thread.init) x.threads = true →
    x.thr t = { (List.range k).foldl buf (s.thr t) with prog := k } → (op x k).2 = x.setThr t (buf (x.thr t) k)
  prog : ∀ th k p, buf { th with prog := p } k = { buf th k with prog := p }

/-- `x` is `s` after `m` line operations have been issued. -/
structure Issued (s : State) (t : ThreadRef) (req : Nat → Src × ReqKind × Nat × Dest × Line × Bool)
    (buf : Thread → Nat → Thread) (m : Nat) (x : State) : Prop where
  rest : x = { s with threads := x.threads, regs := x.regs, nextId := x.nextId, pool := x.pool, charmQ := x.charmQ }
  reg : ∀ a, ¬asideReg a → x.reg a = s.reg a
  regsWf : Tab.wf (resetWord x.variant) x.regs = true
  threadsWf : Tab.wf (fun _ => Thread.init) x.threads = true
  asks : x.pool.map Req.asks = s.pool.map Req.asks ++ (List.range m).map req
  thr : x.thr t = { (List.range m).foldl buf (s.thr t) with prog := m }
  others : OtherThreads t s x

section
variable {s x : State} {t : ThreadRef} {r : Req} {cnt m k : Nat} {op : State → Nat → Req × State}
  {req : Nat → Src × ReqKind × Nat × Dest × Line × Bool} {buf : Thread → Nat → Thread}

theorem Issued.start (hs : s.Canonical) (hprog : (s.thr t).prog = 0) : Issued s t req buf 0 s := by
  refine ⟨rfl, fun _ _ => rfl, hs.1, hs.2.1, (List.append_nil _).symm, ?_, otherThreads_refl⟩
  change s.thr t = { s.thr t with prog := 0 }
  rw [← hprog]

theorem Issued.alike (h : Issued s t req buf m x) : Alike s x := by
  refine ⟨h.reg, ?_, ?_, ?_, ?_, ?_, ?_, ?_, ?_, ?_, ?_, ?_, ?_, ?_⟩ <;> rw [h.rest]

/-- With room in the pool, in the queues and in the trackers, and with line operations to spare, the next one can be issued. -/
theorem Issued.opRoom (h : Issued s t req buf m x) (hm : m < cnt) (hout : t.kind = .stream → s.outstanding t + cnt ≤ 32)
    (hpool : s.pool.length + cnt ≤ 512) (hroom : s.queueRoom r = true ∧ s.trkRoom r = true) : x.opRoom t r = true := by
  have hhome : x.homeQ = s.homeQ := by rw [h.rest]
  have htrks : x.trks = s.trks := by rw [h.rest]
  have harr : x.arrivals = s.arrivals := by rw [h.rest]
  have hle := State.outstanding_le (t := t) h.asks hhome htrks harr
  have hlen := congrArg List.length h.asks
  simp only [List.length_map, List.length_append, List.length_range] at hle hlen
  have hp : x.poolRoom = true := decide_eq_true (by omega)
  have hq : x.queueRoom r = true := (h.alike.queueRoom r).trans hroom.1
  have ht : x.trkRoom r = true := (h.alike.trkRoom htrks r).trans hroom.2
  have ho : (t.kind != .stream || decide (x.outstanding t < 32)) = true := by
    by_cases hk : t.kind = .stream
    · have := hout hk
      simp only [Bool.or_eq_true, decide_eq_true_eq]
      exact .inr (by omega)
    · simp [hk]
  unfold State.opRoom State.mayEnter
  rw [ho, hp, hq, ht]
  rfl

/-- One more line operation is issued. -/
theorem Issued.step (h : Issued s t req buf m x) (hops : LineOps s t cnt op req buf) (hm : m < cnt) :
    let y := (op x m).2.lineOp t (op x m).1
    Issued s t req buf (m + 1) (y.setThr t { y.thr t with prog := m + 1 }) := by
  intro y
  have hasks := hops.asks x m hm h.thr
  have hstate := hops.state x m hm h.threadsWf h.thr
  obtain ⟨hself, hothers⟩ := setThr_threads (t := t) (th := buf (x.thr t) m) h.threadsWf rfl
  have hz : ∀ z, z = x.setThr t (buf (x.thr t) m) → z = { x with threads := z.threads } := fun z hz => by
    rw [hz]
    rfl
  have hz' := hz (op x m).2 hstate
  rw [← hstate] at hself hothers
  have hzwf : Tab.wf (fun _ => Thread.init) (op x m).2.threads = true := by
    rw [hstate]
    exact Tab.wf_tset h.threadsWf ..
  have hzregs : Tab.wf (resetWord (op x m).2.variant) (op x m).2.regs = true := by
    rw [hz']
    exact h.regsWf
  have hzpool : (op x m).2.pool = x.pool := by rw [hz']
  have hy : Enters (op x m).2 y := State.lineOp_enters hzregs
  have hyjobs : y.jobs = (op x m).2.jobs := State.enter_jobs
  have hypool : y.pool.map Req.asks = (op x m).2.pool.map Req.asks ++ [(op x m).1.asks] := State.enter_pool_asks
  clear_value y
  generalize (op x m).2 = z at *
  have hythr : y.thr t = buf (x.thr t) m := (hy.thr t).trans hself
  obtain ⟨hself', hothers'⟩ := setThr_threads (s := z) (x := y) (t := t) (th := { y.thr t with prog := m + 1 }) hzwf hy.threads
  have hywf : Tab.wf (fun _ => Thread.init) y.threads = true := hy.threads ▸ hzwf
  have hyregs := hy.wf hzregs
  have hyreg : ∀ a, ¬asideReg a → y.reg a = s.reg a := fun a ha => by
    refine (hy.reg a ha).trans (Eq.trans ?_ (h.reg a ha))
    rw [hz']
    rfl
  refine ⟨?_, hyreg, hyregs, Tab.wf_tset hywf .., ?_, ?_, (h.others.trans hothers).trans hothers'⟩
  · have hyrest := hy.rest
    rw [hyjobs] at hyrest
    have hlift : ∀ {u w : State}, u = w → ({ u with
        threads := (y.setThr t { y.thr t with prog := m + 1 }).threads, regs := y.regs, nextId := y.nextId, pool := y.pool,
        charmQ := y.charmQ } : State) = { w with
        threads := (y.setThr t { y.thr t with prog := m + 1 }).threads, regs := y.regs, nextId := y.nextId, pool := y.pool,
        charmQ := y.charmQ } := fun e => e ▸ rfl
    have h1 := hlift hyrest
    have h2 := hlift hz'
    have h3 := hlift h.rest
    exact (h1.trans h2).trans h3
  · change y.pool.map Req.asks = _
    rw [hypool, hzpool, h.asks, hasks, List.range_succ, List.map_append, List.append_assoc]
    rfl
  · rw [hself', hythr, h.thr, hops.prog, List.range_succ, List.foldl_append]
    rfl

/-- How far a loop over line operations has got: all before `k` are issued, or one for which there was no room. -/
def Reached (s : State) (t : ThreadRef) (req : Nat → Src × ReqKind × Nat × Dest × Line × Bool) (buf : Thread → Nat → Thread)
    (k : Nat) (x : State) : Prop :=
  ∃ m, m ≤ k ∧ Issued s t req buf m x ∧ (m < k → ∃ r, Req.asks r = req m ∧ x.opRoom t r = false)

theorem Issued.prog (h : Issued s t req buf m x) : (x.thr t).prog = m := by rw [h.thr]

/-- One turn of the loop. -/
theorem Reached.step (h : Reached s t req buf k x) (hops : LineOps s t cnt op req buf) (hk : k < cnt) :
    Reached s t req buf (k + 1)
      (if (x.thr t).prog = k ∧ x.opRoom t (op x k).1 = true then
        ((op x k).2.lineOp t (op x k).1).setThr t { ((op x k).2.lineOp t (op x k).1).thr t with prog := k + 1 }
      else x) := by
  obtain ⟨m, hm, hissued, hstop⟩ := h
  rw [hissued.prog]
  by_cases hmk : m = k
  · subst hmk
    by_cases hroom : x.opRoom t (op x m).1 = true
    · rw [if_pos ⟨rfl, hroom⟩]
      exact ⟨m + 1, le_rfl, hissued.step hops hk, fun hlt => absurd hlt (lt_irrefl _)⟩
    · rw [if_neg fun hc => hroom hc.2]
      exact ⟨m, Nat.le_succ m, hissued, fun _ => ⟨_, hops.asks x m hk hissued.thr, Bool.eq_false_iff.mpr hroom⟩⟩
  · rw [if_neg fun hc => hmk hc.1]
    exact ⟨m, by omega, hissued, fun _ => hstop (by omega)⟩

/-- The loop issues line operations in order, as far as there is room. -/
theorem lineLoop_reached (hs : s.Canonical) (hprog : (s.thr t).prog = 0) (hops : LineOps s t cnt op req buf) :
    ∃ x, Reached s t req buf cnt x ∧ lineLoop cnt op s t = if (x.thr t).prog ≥ cnt then .done x else .hold x := by
  refine ⟨_, ?_, rfl⟩
  have hall : ∀ k, k ≤ cnt → Reached s t req buf k ((List.range k).foldl (fun s k =>
      if (s.thr t).prog = k ∧ s.opRoom t (op s k).1 = true then
        ((op s k).2.lineOp t (op s k).1).setThr t { ((op s k).2.lineOp t (op s k).1).thr t with prog := k + 1 }
      else s) s) := by
    intro k
    induction k with
    | zero => exact fun _ => ⟨0, le_rfl, .start hs hprog, fun h => absurd h (lt_irrefl _)⟩
    | succ k ih =>
      intro hk
      rw [List.range_succ, List.foldl_append]
      exact (ih (by omega)).step hops (by omega)
  exact hall cnt le_rfl

/-- An instruction whose checks pass, of a thread without reads left to issue, issues its line operations. -/
theorem State.Stands.issuesLines {w : W32} {c : Instr} {code : Nat} {kinds : List EngKind} {pick : W32 → Bool}
    {f : State → Thread → W32 → Eff} (h : s.Stands t w) (hs : s.Canonical) (hfed : s.Fed t) (hprog : (s.thr t).prog = 0)
    (hop : opOf w = code) (hpick : pick w = true) (hkind : kinds.contains t.kind = true)
    (hc : exec c s = .next (s.issue t code kinds pick f)) (hf : f s (s.thr t) w = lineLoop cnt op s t)
    (hops : LineOps s t cnt op req buf) : IssuesLines c s t cnt req buf := by
  obtain ⟨x, ⟨m, hm, hissued, hstop⟩, hloop⟩ := lineLoop_reached hs hprog hops
  rw [h.issue_fed hfed hop hpick hkind, hf, hloop, hissued.prog] at hc
  by_cases hdone : m = cnt
  · subst hdone
    rw [if_pos (le_refl m)] at hc
    obtain ⟨hself, hothers⟩ := setThr_threads (t := t) (th := (x.thr t).next) hissued.threadsWf rfl
    refine ⟨x.nextPc t, m, hc, le_rfl, hissued.asks, ?_, fun hlt => absurd hlt (lt_irrefl _), fun _ _ _ => rfl,
      hissued.others.trans hothers, ?_, ?_, ?_, ?_⟩
    · rw [if_pos rfl]
      refine hself.trans ?_
      rw [hissued.thr]
      rfl
    · change x.scratch = s.scratch
      rw [hissued.rest]
    · change x.evf = s.evf
      rw [hissued.rest]
    · change x.clasps = s.clasps
      rw [hissued.rest]
    · change x.jobs = s.jobs
      rw [hissued.rest]
  · rw [if_neg (by omega)] at hc
    refine ⟨x, m, hc, hm, hissued.asks, ?_, fun _ => hstop (by omega), fun hout hpool hroom => ?_, hissued.others, ?_, ?_, ?_, ?_⟩
    · rw [if_neg hdone]
      exact hissued.thr
    · obtain ⟨r, hasks, hno⟩ := hstop (by omega)
      have hyes := hissued.opRoom (r := r) (cnt := cnt) (by omega) hout hpool (hroom m (by omega) r hasks)
      rw [hno] at hyes
      cases hyes
    all_goals rw [hissued.rest]

end
end Sys2Proof.Machine
end

section
/-! LDL, STL, PREF, GATHER and SCAT (R95 to R100, R106 to R108): what passes the checks, and what is issued. -/

namespace Sys2Proof.Machine

section
variable {s : State} {t : ThreadRef} {w : W32} {ok : Eff} {th : Thread} {cnt k : Nat} {g : W64}

theorem lineKinds_contains (h : t.kind ≠ .seq) : lineKinds.contains t.kind = true := by
  cases hk : t.kind with
  | seq => exact absurd hk h
  | stream => rfl
  | svc => rfl

theorem lineAddr_ok (hal : g.toNat % 64 = 0) (hend : g.toNat + 64 * cnt ≤ 2 ^ 46) : lineAddr g cnt ok = ok := by
  unfold lineAddr
  rw [if_neg (not_not.mpr hal), if_neg (Nat.not_lt.mpr hend)]

theorem lineChecks_ok {write : Bool} (hmode : mMode w < 64) (halloc : mMode w % 4 ≠ 3) (hcnt : mCnt w ≤ 16)
    (hfit : mLb w + mCnt w ≤ bufCount t.kind) (hal : (th.getG (mA w)).toNat % 64 = 0)
    (hend : (th.getG (mA w)).toNat + 64 * mCnt w ≤ 2 ^ 46) (htouch : th.touchAll write (mLb w) (mCnt w) = .ok) :
    lineChecks write t th w ok = ok := by
  unfold lineChecks
  rw [if_neg (by omega), if_neg (by omega), lineAddr_ok hal hend, htouch]

/-- Threads that wait for nothing of their buffers: an operation that leaves them, over any number of lines. -/
theorem foldl_keep : (List.range k).foldl (fun th _ => th) th = th := by
  induction k with
  | zero => rfl
  | succ k ih => rw [List.range_succ, List.foldl_append, ih]; rfl

/-- LDL marks a line buffer pending (R96). -/
def Thread.loadBuf (lb : Nat) (th : Thread) (k : Nat) : Thread :=
  th.setBuf (lb + k) { th.buf (lb + k) with pending := true, err := 0 }

theorem Thread.loadBuf_getG {lb a : Nat} : ((List.range k).foldl (Thread.loadBuf lb) th).getG a = th.getG a := by
  induction k with
  | zero => rfl
  | succ k ih => rw [List.range_succ, List.foldl_append]; exact ih

theorem ldlOp_lineOps : LineOps s t cnt (ldlOp t w)
    (fun k => (.thread t, .rd, ((s.thr t).getG (mA w)).toNat / 64 + k, .buf t (mLb w + k), 0, false))
    (Thread.loadBuf (mLb w)) := by
  refine ⟨fun x k _ hx => ?_, fun x k _ _ _ => rfl, fun _ _ _ => rfl⟩
  have hg : (x.thr t).getG (mA w) = (s.thr t).getG (mA w) := by
    rw [hx]
    exact Thread.loadBuf_getG
  change (Src.thread t, ReqKind.rd, ((x.thr t).getG (mA w)).toNat / 64 + k, _, _, _) = _
  rw [hg]
  rfl

/-- The thread of an instruction that leaves its buffers, with line operations issued. -/
theorem thr_of_issued {x : State} (h : x.thr t = { (List.range k).foldl (fun th _ => th) (s.thr t) with prog := k }) :
    x.thr t = { s.thr t with prog := k } := by rw [h, foldl_keep]

/-- A buffer whose Hallmark matches, or is not valid, goes out as it is (R97). -/
theorem State.bufOut_good {x : State} {b : LineBuf} {line : Nat} (h : b.hmValid = true → hallmark b.data = b.hm) :
    x.bufOut t b line = (b.poison, x) := by
  have hbad : (b.hmValid && decide (hallmark b.data ≠ b.hm)) = false := by
    cases hv : b.hmValid with
    | false => rfl
    | true => simp [h hv]
  unfold State.bufOut
  rw [hbad]
  simp

theorem setThr_same {x : State} (h : Tab.wf (fun _ => Thread.init) x.threads = true) : x.setThr t (x.thr t) = x :=
  congrArg (fun ts => { x with threads := ts }) (tset_tget h (tkey t))

theorem stlOp_lineOps (hgood : ∀ k < mCnt w, ((s.thr t).buf (mLb w + k)).hmValid = true →
      hallmark ((s.thr t).buf (mLb w + k)).data = ((s.thr t).buf (mLb w + k)).hm) :
    LineOps s t (mCnt w) (stlOp t w)
      (fun k => (.thread t, .wr, ((s.thr t).getG (mA w)).toNat / 64 + k, .none, ((s.thr t).buf (mLb w + k)).data,
        ((s.thr t).buf (mLb w + k)).poison))
      (fun th _ => th) := by
  have hout : ∀ (x : State) (k : Nat), k < mCnt w → x.thr t = { s.thr t with prog := k } → ∀ line,
      x.bufOut t ((x.thr t).buf (mLb w + k)) line = (((s.thr t).buf (mLb w + k)).poison, x) := fun x k hk hx line => by
    rw [hx]
    exact State.bufOut_good (hgood k hk)
  refine ⟨fun x k hk hx => ?_, fun x k hk hwf hx => ?_, fun _ _ _ => rfl⟩
  · have hx' := thr_of_issued hx
    unfold stlOp
    dsimp only
    rw [hout x k hk hx', hx']
    rfl
  · unfold stlOp
    dsimp only
    rw [hout x k hk (thr_of_issued hx), setThr_same hwf]

theorem prefOp_lineOps : LineOps s t cnt (prefOp t w)
    (fun k => (.thread t, .pref, ((s.thr t).getG (mA w)).toNat / 64 + k, .none, 0, false)) (fun th _ => th) := by
  refine ⟨fun x k _ hx => ?_, fun x k _ hwf _ => (setThr_same hwf).symm, fun _ _ _ => rfl⟩
  unfold prefOp
  rw [thr_of_issued hx]
  rfl

end

/-- Settles O10: the checks pass, and the loop issues the line operations. -/
theorem lineTransfers : Obligations.LineTransfers := by
  unfold Obligations.LineTransfers
  intro s t w hs hst hfed hprog hkind th base hal hend
  have hk := lineKinds_contains hkind
  refine ⟨?ldl, ?stl, ?pref⟩
  case ldl =>
    intro hop hmode halloc hcnt hfit htouch
    refine hst.issuesLines hs hfed hprog hop rfl hk rfl ?_ ldlOp_lineOps
    dsimp only
    rw [if_pos hprog, lineChecks_ok hmode halloc hcnt hfit hal hend (Thread.touchAll_ok htouch)]
  case stl =>
    intro hop hmode halloc hcnt hfit hbufs
    refine hst.issuesLines hs hfed hprog hop rfl hk rfl ?_ (stlOp_lineOps fun k hk => (hbufs k hk).2)
    dsimp only
    rw [if_pos hprog, lineChecks_ok hmode halloc hcnt hfit hal hend (Thread.touchAll_ok fun k hk => (hbufs k hk).1)]
  case pref =>
    intro hop hlb hmode
    refine hst.issuesLines hs hfed hprog hop rfl hk rfl ?_ prefOp_lineOps
    rw [if_neg (by simp [hlb, hmode]), lineAddr_ok hal hend]

end Sys2Proof.Machine
end

section
/-! Jobs, and what GATHER and SCAT start (R102, R106 to R108, R212). -/

namespace Sys2Proof.Machine

/-! ### Jobs -/

/-- What a job is for: its number, thread, kind, frame record, first buffer and units. -/
def Job.aim (j : Job) : Nat × ThreadRef × JobKind × List W32 × Nat × List PUnit := (j.id, j.t, j.kind, j.frame, j.lb, j.units)

section
variable {s : State} {j : Job} {fuel id : Nat}

/-- Issuing a job's reads changes what it still wants alone. -/
theorem pumpJob_aims : (pumpJob fuel id s).jobs.map Job.aim = s.jobs.map Job.aim := by
  induction fuel generalizing s with
  | zero => rfl
  | succ fuel ih =>
    unfold pumpJob
    split
    · rfl
    · split
      · rfl
      · extract_lets src r step s1
        split
        · rfl
        · have hstep : ∀ x, (step x).aim = x.aim := fun x => by
            simp only [step]
            split <;> rfl
          have hjobs : ∀ t, (s1.lineOp t r).jobs = s.jobs.map step := fun _ => State.enter_jobs
          rw [ih, hjobs, List.map_map]
          exact List.map_congr_left fun x _ => hstep x

theorem State.pumpJobs_aims {p : Job → Bool} : (s.pumpJobs p).jobs.map Job.aim = s.jobs.map Job.aim :=
  List.foldlRecOn (motive := fun x : State => x.jobs.map Job.aim = s.jobs.map Job.aim) _ _ rfl
    fun _ hx _ _ => pumpJob_aims.trans hx

/-- A job that begins is among the jobs. -/
theorem State.addJob_mem : ∃ x ∈ (s.addJob j).jobs, x.aim = j.aim := by
  have haims : (s.addJob j).jobs.map Job.aim = (s.jobs ++ [j]).map Job.aim := State.pumpJobs_aims
  have hmem : j.aim ∈ (s.addJob j).jobs.map Job.aim := by simp [haims]
  exact List.mem_map.mp hmem

theorem State.addJob_enters (h : Tab.wf (resetWord s.variant) s.regs = true) : Enters s (s.addJob j) := by
  have h1 : Enters s { s with jobs := s.jobs ++ [j], nextId := j.id } := ⟨rfl, fun _ _ => rfl, id⟩
  exact h1.trans (State.pumpJobs_enters (h1.wf h))

end

/-! ### A job of a thread -/

/-- `s'` is `s` after a thread, stored as `th`, has begun a job. -/
structure Begins (s : State) (t : ThreadRef) (th : Thread) (j : Job) (s' : State) : Prop where
  thr : s'.thr t = th
  others : OtherThreads t s s'
  scratch : s'.scratch = s.scratch
  ctxs : s'.ctxs = s.ctxs
  clasps : s'.clasps = s.clasps
  job : ∃ x ∈ s'.jobs, x.aim = j.aim

section
variable {s : State} {t : ThreadRef} {th th' : Thread} {j : Job}

theorem State.setThr_addJob_begins (hs : s.Canonical) : Begins s t th j ((s.setThr t th).addJob j) := by
  obtain ⟨hself, hothers⟩ := setThr_threads (t := t) (th := th) hs.2.1 rfl
  have he : Enters (s.setThr t th) ((s.setThr t th).addJob j) := State.addJob_enters hs.1
  exact ⟨(he.thr t).trans hself, hothers.trans (otherThreads_of_threads he.threads), he.scratch, he.ctxs, he.clasps,
    State.addJob_mem⟩

theorem State.addJob_setThr_begins (hs : s.Canonical) : Begins s t th' j (((s.setThr t th).addJob j).setThr t th') := by
  obtain ⟨-, hothers⟩ := setThr_threads (t := t) (th := th) hs.2.1 rfl
  have he : Enters (s.setThr t th) ((s.setThr t th).addJob j) := State.addJob_enters hs.1
  obtain ⟨hself', hothers'⟩ := setThr_threads (s := s.setThr t th) (t := t) (th := th') (Tab.wf_tset hs.2.1 ..) he.threads
  exact ⟨hself', hothers.trans hothers', he.scratch, he.ctxs, he.clasps, State.addJob_mem (s := s.setThr t th)⟩

/-- An instruction that begins a job is done. -/
theorem State.addJob_nextPc_begins (hs : s.Canonical) : Begins s t th.next j (((s.setThr t th).addJob j).nextPc t) := by
  have h := State.addJob_setThr_begins (t := t) (th := th) (th' := th.next) (j := j) hs
  have hthr := (State.setThr_addJob_begins (t := t) (th := th) (j := j) hs).thr
  rw [State.nextPc_eq, hthr]
  exact h

end

/-! ### The elements of an index list -/

section
variable {s : State} {t : ThreadRef} {th : Thread} {w : W32} {idx : List W64} {f : List Nat → Eff}

theorem firstBad_ok : firstBad (idx.map LRes.ok) = none := by simp [firstBad]

/-- The element addresses that an index list names (R106). -/
def elemAddrs (th : Thread) (w : W32) (idx : List W64) : List Nat :=
  idx.map fun v => (th.getG (mA w) + v * BitVec.ofNat 64 (2 ^ (mMode w % 8))).toNat

theorem State.elements_ok (hmode : mMode w % 8 ≠ 7) (ha : mA w ≠ 31)
    (hfit : mCnt w * 2 ^ (mMode w % 8) ≤ (16 - mLb w) * 64) (hbase : (th.getG (mA w)).toNat % 2 ^ (mMode w % 8) = 0)
    (hlist : (th.getG (mA w + 1)).toNat % idxWidth w = 0)
    (hidx : s.indices t th (th.getG (mA w + 1)).toNat (idxWidth w) (mCnt w) = idx.map LRes.ok) :
    s.elements t th w f = f (elemAddrs th w idx) := by
  unfold State.elements elemSize
  dsimp only
  rw [if_neg hmode, if_neg (by omega), if_neg (by omega), hidx, firstBad_ok]
  dsimp only
  rw [List.map_map]
  rfl

/-- The buffer that holds an element is one of those that the elements take. -/
theorem elem_buf_lt {k cnt size : Nat} (hk : k < cnt) (hsize : 0 < size) : k * size / 64 < (cnt * size + 63) / 64 := by
  have hlt : k * size < cnt * size := Nat.mul_lt_mul_of_pos_right hk hsize
  omega

theorem scatOp_lineOps {addrs : List Nat} (hsize : 2 ^ (mMode w % 8) < 64)
    (hbufs : ∀ k < (mCnt w * 2 ^ (mMode w % 8) + 63) / 64, ((s.thr t).buf (mLb w + k)).hmValid = false) :
    LineOps s t (mCnt w) (scatOp t w addrs)
      (fun k =>
        let size := 2 ^ (mMode w % 8)
        let a := addrs.getD k 0
        let b := (s.thr t).buf (mLb w + k * size / 64)
        (.thread t, .merge (a % 64) size, a / 64, .none,
          setLineField 0 (a % 64) size (lineField b.data (k * size % 64) size), b.poison))
      (fun th _ => th) := by
  have hvalid : ∀ k, k < mCnt w → ((s.thr t).buf (mLb w + k * 2 ^ (mMode w % 8) / 64)).hmValid = false :=
    fun k hk => hbufs _ (elem_buf_lt hk (by positivity))
  refine ⟨fun x k hk hx => ?_, fun x k hk hwf hx => ?_, fun _ _ _ => rfl⟩
  · have hv := hvalid k hk
    have hb : ∀ i, (x.thr t).buf i = (s.thr t).buf i := fun i => by
      rw [thr_of_issued hx]
      rfl
    unfold scatOp elemSize Req.asks
    dsimp only
    rw [hb, hv, if_neg (Nat.ne_of_lt hsize)]
    simp [Req.mk0]
  · have hv := hvalid k hk
    have hb : ∀ i, (x.thr t).buf i = (s.thr t).buf i := fun i => by
      rw [thr_of_issued hx]
      rfl
    have hout : ∀ line, (x.bufOut t ((s.thr t).buf (mLb w + k * 2 ^ (mMode w % 8) / 64)) line).2 = x := fun line =>
      congrArg Prod.snd (State.bufOut_good (by simp [hv]))
    unfold scatOp elemSize
    dsimp only
    rw [hb, hout, ite_self, setThr_same hwf]

end

/-- Settles O11: the index list names the elements; GATHER begins the job that reads them, SCAT issues their merges. -/
theorem gatherScatter : Obligations.GatherScatter := by
  unfold Obligations.GatherScatter
  intro s t w idx hs hst hfed hprog hkind hmode ha hfit th size width base list addrs n hbase hlist hidx
  have hk : [EngKind.stream].contains t.kind = true := by rw [hkind]; rfl
  have helems := fun f : List Nat → Eff => State.elements_ok (f := f) hmode ha hfit hbase hlist hidx
  refine ⟨?gather, ?scat⟩
  case gather =>
    intro hop hlow htouch
    have hfree : th.touchAll true (mLb w) (bufsFor (mCnt w * elemSize w)) = .ok := Thread.touchAll_ok htouch
    have hb := State.addJob_nextPc_begins (t := t) (th := th.pendBufs (mLb w) n) (j := (s.setThr t (th.pendBufs (mLb w) n)).newJob t
      (.gather size addrs) [] (mLb w) (mCnt w) 0 [] (gatherLines addrs)) hs
    obtain ⟨j, hj, haim⟩ := hb.job
    have hexec : exec (.gather t) s = .next (((s.setThr t (th.pendBufs (mLb w) n)).addJob
        ((s.setThr t (th.pendBufs (mLb w) n)).newJob t (.gather size addrs) [] (mLb w) (mCnt w) 0 [] (gatherLines addrs))).nextPc
          t) := by
      change Host.Outcome.next (s.issue ..) = _
      rw [hst.issue_fed hfed hop rfl hk, if_neg (by omega), helems]
      change Host.Outcome.next (Eff.apply s t (match th.touchAll true (mLb w) (bufsFor (mCnt w * elemSize w)) with
        | .stall => _ | .fault c => _ | .ok => _)) = _
      rw [hfree]
      rfl
    simp only [Job.aim, State.newJob, Prod.mk.injEq] at haim
    obtain ⟨-, ht, hkind', -, hlb, -⟩ := haim
    exact ⟨_, hexec, hb.thr, hb.others, ⟨j, hj, ht, hkind', hlb⟩, hb.scratch, hb.clasps⟩
  case scat =>
    intro hop hlow hsize hbufs
    have hfree : th.touchAll false (mLb w) (bufsFor (mCnt w * elemSize w)) = .ok :=
      Thread.touchAll_ok fun k hk => (hbufs k hk).1
    refine hst.issuesLines hs hfed hprog hop rfl hk rfl ?_ (scatOp_lineOps hsize fun k hk => (hbufs k hk).2)
    rw [if_neg (by omega), helems, hfree]
    rfl

end Sys2Proof.Machine
end

section
/-! PACK, UNPK and BLK2D (R101 to R105, R109 to R112): the jobs that they begin. -/

namespace Sys2Proof.Machine

section
variable {s : State} {t : ThreadRef} {th th' : Thread} {w : W32} {j : Job} {f : List W32 → Bool → Eff} {lb n line : Nat}

/-! ### The checks on a unit -/

theorem State.unitChecks_ok {comp : Bool} {g : W64} (hg : th.getG (mA w) = g) (hclean : unitClean g = true)
    (hplane : unitPlane g < 2) (hrec : unitRec g < s.variant.frames)
    (hok : (Fr.ofWords (s.frameWords (unitRec g))).ok (unitPlane g == 1) = true)
    (hcomp : comp = true → (Fr.ofWords (s.frameWords (unitRec g))).comp = true)
    (hrow : unitRow g < (Fr.ofWords (s.frameWords (unitRec g))).rows (unitPlane g == 1))
    (hcol : unitCol g < (Fr.ofWords (s.frameWords (unitRec g))).cols)
    (hcnt : mCnt w = (Fr.ofWords (s.frameWords (unitRec g))).slot) (hfit : mLb w + mCnt w ≤ 16) :
    s.unitChecks th w comp f = f (s.frameWords (unitRec g)) (unitPlane g == 1) := by
  have hunit : ¬ (unitRec g ≥ s.variant.frames ∨ (Fr.ofWords (s.frameWords (unitRec g))).ok (unitPlane g == 1) = false ∨
      (comp = true ∧ (Fr.ofWords (s.frameWords (unitRec g))).comp = false) ∨
      unitRow g ≥ (Fr.ofWords (s.frameWords (unitRec g))).rows (unitPlane g == 1) ∨
      unitCol g ≥ (Fr.ofWords (s.frameWords (unitRec g))).cols) := by
    rintro (h | h | ⟨h, h'⟩ | h | h)
    · omega
    · simp [hok] at h
    · simp [hcomp h] at h'
    · omega
    · omega
  unfold State.unitChecks
  rw [hg]
  dsimp only
  rw [if_neg (by simp [hclean, hplane]), if_neg hunit, if_neg (by omega)]

/-! ### The input of a PACK -/

/-- Buffers whose Hallmarks match go to the pipe as they are (R379). -/
theorem State.packInput_good (h : ∀ k < n, (th.buf (lb + k)).hmValid = true → hallmark (th.buf (lb + k)).data = (th.buf (lb + k)).hm) :
    s.packInput t th lb n line = ((List.range n).any fun k => (th.buf (lb + k)).poison, s) := by
  unfold State.packInput
  induction n with
  | zero => rfl
  | succ n ih =>
    rw [List.range_succ, List.foldl_append, ih fun k hk => h k (by omega), List.any_append]
    simp [State.bufOut_good (h n (by omega))]

/-! ### Threads that wait for the job they begin -/

theorem State.addJob_sleep_begins {wt : Wait} (hs : s.Canonical) :
    Begins s t (th.waiting wt) j (((s.setThr t th).addJob j).sleep t wt) := by
  have h := State.addJob_setThr_begins (t := t) (th := th) (th' := th.waiting wt) (j := j) hs
  have hthr := (State.setThr_addJob_begins (t := t) (th := th) (j := j) hs).thr
  unfold State.sleep
  rw [hthr]
  exact h

theorem State.sleep_addJob_begins {wt : Wait} (hs : s.Canonical) :
    Begins s t (th.waiting wt) j (((s.setThr t th).sleep t wt).addJob j) := by
  have hsleep : (s.setThr t th).sleep t wt = s.setThr t (th.waiting wt) := by
    unfold State.sleep
    rw [State.thr_setThr_self hs, State.setThr_setThr hs]
    rfl
  rw [hsleep]
  exact State.setThr_addJob_begins hs

/-- What has begun is what the statement names. -/
theorem Begins.does {s' : State} {c : Instr} {kind : JobKind} {units : List PUnit} {words : List W32}
    (h : Begins s t th j s') (hexec : exec c s = .next s')
    (haim : j.aim = (s.nextId + 1, t, kind, words, lb, units)) :
    Does c s fun s' => s'.thr t = th ∧ OtherThreads t s s' ∧ s'.scratch = s.scratch ∧ s'.ctxs = s.ctxs ∧
      s'.clasps = s.clasps ∧
      ∃ j ∈ s'.jobs, j.id = s.nextId + 1 ∧ j.t = t ∧ j.kind = kind ∧ j.frame = words ∧ j.lb = lb ∧ j.units = units := by
  obtain ⟨x, hx, hxaim⟩ := h.job
  rw [haim] at hxaim
  simp only [Job.aim, Prod.mk.injEq] at hxaim
  exact ⟨s', hexec, h.thr, h.others, h.scratch, h.ctxs, h.clasps, x, hx, hxaim⟩

end

/-! ### The three instructions -/

section
variable {s : State} {t : ThreadRef} {w : W32}

theorem stream_contains (h : t.kind = .stream) : [EngKind.stream].contains t.kind = true := by
  rw [h]
  rfl

/-- The rectangle of a BLK2D is one that it takes (R102, R103). -/
theorem blk2d_rect {g h : W64} {th : Thread} {port : Bool} (ha : mA w ≠ 31) (hclean : unitClean g = true) (hplane : unitPlane g ≠ 3)
    (hwidth : bitsOf h 7 0 + 1 ≤ 128) (hheight : bitsOf h 15 8 + 1 ≤ 128) (hzero : bitsOf h 63 16 = 0)
    (hport : port = true → th.packet.isNone = false) :
    ¬ (mA w = 31 ∨ unitClean g = false ∨ unitPlane g = 3 ∨ bitsOf h 7 0 + 1 > 128 ∨ bitsOf h 15 8 + 1 > 128 ∨
      bitsOf h 63 16 ≠ 0 ∨ (port = true ∧ th.packet.isNone = true)) := by
  rintro (h' | h' | h' | h' | h' | h' | ⟨h', hnone⟩)
  · exact ha h'
  · simp [hclean] at h'
  · exact hplane h'
  · omega
  · omega
  · exact h' hzero
  · simp [hport h'] at hnone

/-- The job of a PACK. -/
def packJob (s : State) (t : ThreadRef) (w : W32) : Job :=
  let th := s.thr t
  let g := th.getG (mA w)
  (s.setThr t (th.lockBufs (mLb w) (mCnt w) true)).newJob t
    (.pack (mMode w % 2 == 1) ((List.range (mCnt w)).map fun k => (th.buf (mLb w + k)).data)
      ((List.range (mCnt w)).any fun k => (th.buf (mLb w + k)).poison))
    (s.frameWords (unitRec g)) (mLb w) (mCnt w) (mMode w / 16) [unitOf g (unitPlane g == 1) 2 0] []

/-- The job of an UNPK. -/
def unpkJob (s : State) (t : ThreadRef) (w : W32) : Job :=
  let g := (s.thr t).getG (mA w)
  let f := Fr.ofWords (s.frameWords (unitRec g))
  let u := unitOf g (unitPlane g == 1) (if f.comp then 0 else 1) 0
  (s.setThr t ((s.thr t).pendBufs (mLb w) (mCnt w))).newJob t .unpk (s.frameWords (unitRec g)) (mLb w) (mCnt w) 0 [u]
    (firstReads f [u])

/-- The job of a BLK2D that takes `n` line buffers, or has a port as its destination. -/
def blkJob (s : State) (t : ThreadRef) (w : W32) (n : Nat) (dest : Option (Nat × Nat)) : Job :=
  let g := (s.thr t).getG (mA w)
  let h := (s.thr t).getG (mA w + 1)
  let f := Fr.ofWords (s.frameWords (unitRec g))
  let x := signed 16 (bitsOf g 31 16)
  let y := signed 16 (bitsOf g 47 32)
  let us := blkUnits f (unitPlane g) (bitsOf h 7 0 + 1) (bitsOf h 15 8 + 1) x y (if f.comp then 0 else 1)
  (s.setThr t ((s.thr t).pendBufs (mLb w) n)).newJob t
    (.blk2d x y (unitPlane g) (bitsOf h 7 0 + 1) (bitsOf h 15 8 + 1) (mMode w / 4 % 4) dest) (s.frameWords (unitRec g)) (mLb w) n
    0 us (firstReads f us)

/-- A BLK2D that passes its checks begins its job and is done. -/
theorem State.Stands.exec_blk2d {n : Nat} {dest : Option (Nat × Nat)} (hst : s.Stands t w) (hfed : s.Fed t)
    (hk : t.kind = .stream) (hop : opOf w = 0x28)
    (hform : ¬ (mMode w ≥ 16 ∨ mMode w % 4 ≥ 2 ∨ mMode w / 4 % 4 ≥ 2))
    (hport : ¬ ((mMode w % 4 == 1) = true ∧ (mLb w ≠ 0 ∨ bitsOf w 16 11 ≠ 0)))
    (hrect : ¬ (mA w = 31 ∨ unitClean ((s.thr t).getG (mA w)) = false ∨ unitPlane ((s.thr t).getG (mA w)) = 3 ∨
      bitsOf ((s.thr t).getG (mA w + 1)) 7 0 + 1 > 128 ∨ bitsOf ((s.thr t).getG (mA w + 1)) 15 8 + 1 > 128 ∨
      bitsOf ((s.thr t).getG (mA w + 1)) 63 16 ≠ 0 ∨ ((mMode w % 4 == 1) = true ∧ (s.thr t).packet.isNone = true)))
    (hrec : ¬ (unitRec ((s.thr t).getG (mA w)) ≥ s.variant.frames ∨
      (Fr.ofWords (s.frameWords (unitRec ((s.thr t).getG (mA w))))).ok (unitPlane ((s.thr t).getG (mA w)) != 0) = false))
    (hroom : ¬ ((mMode w % 4 == 1) = false ∧ ((bitsOf ((s.thr t).getG (mA w + 1)) 7 0 + 1) *
      (bitsOf ((s.thr t).getG (mA w + 1)) 15 8 + 1) *
        container (Fr.ofWords (s.frameWords (unitRec ((s.thr t).getG (mA w))))) (mMode w / 4 % 4) > mCnt w * 64 ∨
      mLb w + mCnt w > 16)))
    (htouch : (if (mMode w % 4 == 1) = true then Touch.ok else (s.thr t).touchAll true (mLb w) (mCnt w)) = .ok)
    (hn : (if (mMode w % 4 == 1) = true then 0 else mCnt w) = n)
    (hdest : (if (mMode w % 4 == 1) = true then (s.thr t).packet.map fun p => (p.sp, p.tag) else none) = dest)
    (hunits : (blkJob s t w n dest).units ≠ []) :
    exec (.blk2d t) s = .next (((s.setThr t ((s.thr t).pendBufs (mLb w) n)).addJob (blkJob s t w n dest)).nextPc t) := by
  subst hn hdest
  change Host.Outcome.next (s.issue ..) = _
  rw [hst.issue_fed hfed hop rfl (stream_contains hk)]
  dsimp only
  rw [if_neg hform, if_neg hport, if_neg hrect, if_neg hrec, if_neg hroom, htouch]
  exact congrArg (fun x => Host.Outcome.next (State.nextPc x t)) (if_neg fun h => hunits (List.isEmpty_iff.mp h))

end

/-- Settles O37: each instruction passes its checks and begins its job; PACK and UNPK then wait, BLK2D is done. -/
theorem videoOperations : Obligations.VideoOperations := by
  unfold Obligations.VideoOperations
  intro s t w hs hst hfed hkind th g words f ch starts unitOk free
  have hk := stream_contains hkind
  refine ⟨?pack, ?unpk, ?blk2d⟩
  case pack =>
    intro hop hmode hlow hunit hcomp hfree hgood
    obtain ⟨hclean, hplane, hrec, hok, hrow, hcol, hcnt, hfit⟩ := hunit
    have hb : Begins s t _ _ (((s.setThr t (th.lockBufs (mLb w) (mCnt w) true)).addJob (packJob s t w)).sleep t
      (.pipe (s.nextId + 1))) := State.addJob_sleep_begins hs
    refine hb.does ?_ rfl
    change Host.Outcome.next (s.issue ..) = _
    rw [hst.issue_fed hfed hop rfl hk, if_neg (by omega),
      State.unitChecks_ok rfl hclean hplane hrec hok (fun _ => hcomp) hrow hcol hcnt hfit, Thread.touchAll_ok hfree]
    dsimp only
    rw [State.packInput_good hgood]
    rfl
  case unpk =>
    intro hop hmode hunit hfree
    obtain ⟨hclean, hplane, hrec, hok, hrow, hcol, hcnt, hfit⟩ := hunit
    have hb : Begins s t _ _ (((s.setThr t (th.pendBufs (mLb w) (mCnt w))).sleep t (.pipe (s.nextId + 1))).addJob
      (unpkJob s t w)) := State.sleep_addJob_begins hs
    refine hb.does ?_ rfl
    change Host.Outcome.next (s.issue ..) = _
    rw [hst.issue_fed hfed hop rfl hk, if_neg (not_not.mpr hmode),
      State.unitChecks_ok rfl hclean hplane hrec hok (fun h => by cases h) hrow hcol hcnt hfit, Thread.touchAll_ok hfree]
    rfl
  case blk2d =>
    intro h x y width height layout us hop hmode hlayout ha hclean hplane hwidth hheight hzero hrec hok hus
    have hform : mMode w % 4 < 2 → ¬ (mMode w ≥ 16 ∨ mMode w % 4 ≥ 2 ∨ mMode w / 4 % 4 ≥ 2) := fun hlow => by
      have hl : mMode w / 4 % 4 < 2 := hlayout
      omega
    have hframe : ¬ (unitRec g ≥ s.variant.frames ∨ f.ok (unitPlane g != 0) = false) := by
      rintro (hout | hbad)
      · omega
      · exact Bool.false_ne_true (hbad.symm.trans hok)
    refine ⟨fun hbuf hsize hfit hfree => ?_, fun p hport hlb himm hpacket => ?_⟩
    · have hb : Begins s t _ _ (((s.setThr t (th.pendBufs (mLb w) (mCnt w))).addJob (blkJob s t w (mCnt w) none)).nextPc t) :=
        State.addJob_nextPc_begins hs
      refine hb.does ?_ rfl
      have htouch : th.touchAll true (mLb w) (mCnt w) = .ok := Thread.touchAll_ok hfree
      have hport : (mMode w % 4 == 1) = false := by simp [hbuf]
      have hroom : ¬ ((mMode w % 4 == 1) = false ∧ (width * height * container f layout > mCnt w * 64 ∨ mLb w + mCnt w > 16)) := by
        rintro ⟨-, hover⟩
        omega
      exact hst.exec_blk2d hfed hkind hop (hform (by omega)) (by simp [hport])
        (blk2d_rect ha hclean hplane hwidth hheight hzero fun hp => by simp [hport] at hp) hframe hroom
        (by rw [hport]; exact htouch) (by rw [hport]; rfl) (by rw [hport]; rfl) hus
    · have hto : (mMode w % 4 == 1) = true := by simp [hport]
      have hb : Begins s t _ _ (((s.setThr t (th.pendBufs (mLb w) 0)).addJob
        (blkJob s t w 0 (some (p.sp, p.tag)))).nextPc t) := State.addJob_nextPc_begins hs
      refine hb.does ?_ rfl
      exact hst.exec_blk2d hfed hkind hop (hform (by omega)) (by simp [hlb, himm])
        (blk2d_rect ha hclean hplane hwidth hheight hzero fun _ => by rw [hpacket]; rfl) hframe (by simp [hto])
        (by rw [hto]; rfl) (by rw [hto]; rfl) (by rw [hto, if_pos rfl, hpacket]; rfl) hus

end Sys2Proof.Machine
end

section
/-! A line whose stamp names no charm of the block (R158, R292): the MISS bit that its delay sets falls into LINES. -/

namespace Sys2Proof.Machine

/-- The number whose MISS bit would be bit 0 of the LINES of context 0. -/
def strayCharm : Nat := 32 * ((ctxBase 0 + 0x38 - 0x3018) / 4)

/-- A good line for buffer 0 of a stream thread, later than the target of its stamp. -/
def strayLine : Arrival :=
  { dest := .buf ⟨.stream, 0, 0⟩ 0, src := .thread ⟨.stream, 0, 0⟩, line := 0, data := 0, hm := hallmark 0, poison := false,
    status := 0, tmo := false,
    stamp := { charm := strayCharm, cls := 1, base := 0, target := 0, degraded := false, overBudget := false, entry := 0 } }

/-- The line has come back for a thread that serves context 0, in a block whose clocks run. -/
def strayed : State :=
  { State.resetOf .ovm0840 with
    inited := [.cfg, .cluster 0], tbase := 1, arrivals := [strayLine],
    threads := [(tkey ⟨.stream, 0, 0⟩, { Thread.init with ctx := some 0 })] }.setFlag clkStatus 0 true

/-- LINES of context 0 after the line has arrived. -/
def linesAfterArrival (s : State) : Option Nat :=
  match exec (.lineDataArrival ⟨.stream, 0, 0⟩ 0) s with
  | .next s' => some (s'.fld (ctxBase 0 + 0x38) 15 0)
  | _ => none

theorem linesAfterArrival_strayed : linesAfterArrival strayed = some 2 := by decide +kernel

theorem strayed_meets : strayed.Canonical ∧ strayed.running = true ∧
    (strayed.arrivals.filter fun x => x.src == Src.thread ⟨.stream, 0, 0⟩ && (match x.dest with | .desc _ => false | _ => true))[0]? =
      some strayLine ∧
    (strayed.thr ⟨.stream, 0, 0⟩).ctx = some 0 ∧ (strayed.ctx 0).outcome ≠ some 2 ∧
    strayed.fld (ctxBase 0 + 0x38) 15 0 = 0 := by decide +kernel

/-- Refutes O38: the stamp of an arrival may name a charm beyond the 64 of the block, and the MISS bit that `readDone` sets for
it then lies in LINES of the thread's own context, which rises by 2. -/
theorem not_returnedLinesAndPipes : ¬ Obligations.ReturnedLinesAndPipes := by
  unfold Obligations.ReturnedLinesAndPipes
  rintro ⟨hline, -⟩
  obtain ⟨hcanon, hrun, hfound, hctx, houtcome, hlines⟩ := strayed_meets
  obtain ⟨s', hexec, -, -, -, hcount, -⟩ := hline strayed ⟨.stream, 0, 0⟩ 0 0 strayLine hcanon hrun hfound rfl rfl fun _ => rfl
  obtain ⟨hone, -⟩ := hcount 0 hctx (by decide) houtcome
  have hafter := linesAfterArrival_strayed
  rw [linesAfterArrival, hexec] at hafter
  simp only [hone, hlines] at hafter
  cases hafter

end Sys2Proof.Machine
end

section
/-! The entry of a stream context (R158): fields of one word stored one after another, and what the words then hold. -/

namespace Sys2Proof.Machine

/-! ### Fields of a word -/

section
variable {s : State} {a hi lo n i : Nat} {w : W32} {b : Bool}

theorem State.setReg_rest (s : State) (a : Nat) (w : W32) : s.setReg a w = { s with regs := (s.setReg a w).regs } := rfl

/-- A field stored into a word that has just been stored. -/
theorem State.setReg_setFld (h : Tab.wf (resetWord s.variant) s.regs = true) :
    (s.setReg a w).setFld a hi lo n = s.setReg a (putBits w hi lo n) := by
  unfold State.setFld
  rw [State.reg_setReg h, if_pos rfl]
  exact congrArg (fun rs => { s with regs := rs }) (tset_tset (Tab.wf_keys h) ..)

theorem State.setReg_setFlag (h : Tab.wf (resetWord s.variant) s.regs = true) :
    (s.setReg a w).setFlag a i b = s.setReg a (putBits w i i (b2n b)) := State.setReg_setFld h

theorem State.reg_setReg_self (h : Tab.wf (resetWord s.variant) s.regs = true) : (s.setReg a w).reg a = w := by
  rw [State.reg_setReg h, if_pos rfl]

theorem State.fld_setReg (h : Tab.wf (resetWord s.variant) s.regs = true) : (s.setReg a w).fld a hi lo = bitsOf w hi lo :=
  congrArg (bitsOf · hi lo) (State.reg_setReg_self h)

theorem State.flag_setReg (h : Tab.wf (resetWord s.variant) s.regs = true) : (s.setReg a w).flag a i = bitOf w i :=
  congrArg (bitOf · i) (State.reg_setReg_self h)

/-- A word without a current descriptor: CUR_VALID and AT_END are 0. -/
def curForgotten (w : W32) : W32 := putBits (putBits w 24 24 0) 25 25 0

/-- CTX_STATUS of a context that is disabled, and of one that is cleared (R163). -/
def disabledStatus (w : W32) : W32 := curForgotten (putBits w 31 29 0)
def clearedStatus (w : W32) : W32 := curForgotten (putBits (putBits w 31 29 1) 15 8 0)

/-- CTX_STATUS of a context whose run is reported (R178). -/
def reportedStatus (w : W32) (state outcome cause : Nat) (late : Bool) : W32 :=
  putBits (putBits (putBits (putBits w 31 29 state) 28 27 outcome) 26 26 (b2n late)) 15 8 cause

/-- What fields stored in a word leave of each other. -/
theorem disabledStatus_fields : bitsOf (disabledStatus w) 31 29 = 0 ∧ bitOf (disabledStatus w) 24 = false ∧
    bitOf (disabledStatus w) 25 = false := by
  simp [disabledStatus, curForgotten, bitOf_eq_bitsOf, bitsOf_putBits, bitsOf_putBits_below, bitsOf_putBits_above]

theorem clearedStatus_fields : bitsOf (clearedStatus w) 31 29 = 1 ∧ bitsOf (clearedStatus w) 15 8 = 0 ∧
    bitOf (clearedStatus w) 24 = false ∧ bitOf (clearedStatus w) 25 = false := by
  simp [clearedStatus, curForgotten, bitOf_eq_bitsOf, bitsOf_putBits, bitsOf_putBits_below, bitsOf_putBits_above]

theorem ignoredStatus_fields : bitsOf (putBits w 23 23 1) 31 29 = bitsOf w 31 29 ∧ bitOf (putBits w 23 23 1) 23 = true := by
  simp [bitOf_eq_bitsOf, bitsOf_putBits, bitsOf_putBits_above]

end

/-! ### Commands that change CTX_STATUS alone (R163) -/

section
variable {s : State} {c : Nat} (hwf : Tab.wf (resetWord s.variant) s.regs = true)

/-- A word of CTX_STATUS stored. -/
abbrev State.setStatus (s : State) (c : Nat) (w : W32) : State := s.setReg (ctxBase c + 4) w
abbrev State.status (s : State) (c : Nat) : W32 := s.reg (ctxBase c + 4)

theorem State.cmdEnable_disabled (h : s.ctxState c = 0) : s.cmdEnable c = .ok (s.setStatus c (putBits (s.status c) 31 29 1)) :=
  if_pos h

theorem State.cmdEnable_ignored (h : s.ctxState c ≠ 0) : s.cmdEnable c = s.noEffect c := if_neg h

include hwf

theorem State.cmdDisable_eq (h : s.ctxState c = 1 ∨ s.ctxState c = 5) (hrun : s.runEnded c = false)
    (hrearm : (s.ctx c).rearm = false) : s.cmdDisable c = .ok (s.setStatus c (disabledStatus (s.status c))) := by
  have hdrop : s.rearmDrop c = s := by simp [State.rearmDrop, hrearm]
  have hoff : (s.setCtxState c 0).forgetCur c = s.setStatus c (disabledStatus (s.status c)) := by
    unfold State.forgetCur State.setCtxState
    rw [State.setFld, State.setReg_setFlag hwf, State.setReg_setFlag hwf]
    rfl
  unfold State.cmdDisable
  rw [if_pos ⟨h, hrun⟩, hdrop, hoff]

theorem State.cmdClear_halted (h : s.ctxState c = 5) :
    s.cmdClear c = .ok (s.setStatus c (clearedStatus (s.status c))) := by
  unfold State.cmdClear State.forgetCur State.setCtxState
  rw [if_pos h]
  change CmdRes.ok ((((s.setReg (ctxBase c + 4) _).setFld (ctxBase c + 4) 15 8 0).setFlag _ 24 false).setFlag _ 25 false) = _
  rw [State.setReg_setFld hwf, State.setReg_setFlag hwf, State.setReg_setFlag hwf]
  rfl

end

end Sys2Proof.Machine
end

section
/-! Context commands by a write of CTX_CMD or CTX_TAIL_HI (R158, R163, R164, R169, R176). -/

namespace Sys2Proof.Machine

/-! ### A write of CTX_CMD by an open port -/

section
variable {s t : State} {p : Port} {n code o a : Nat} {w : W32} {c : Instr} {f : Fld}

theorem locate_ctx (hn : n < s.variant.contexts) (ho : o < 0x40) : locate s.variant (ctxBase n + o) = some (.ctx n, o) :=
  locate_of_fits (w := .ctx n) ⟨hn, ho⟩

theorem blockAt_ctx (hn : n < s.variant.contexts) (ho : o < 0x40) : blockAt s.variant (ctxBase n + o) = none :=
  blockAt_eq_none (w := .ctx n) ⟨hn, ho⟩ (by simpa only [Win.plainEnd] using ho)

/-- No LOCK bit covers a field of a context, and the configuration port writes all of them (R563, R569). -/
theorem State.locked_ctx (hn : n < s.variant.contexts) (ho : o < 0x40) :
    s.locked (ctxBase n + o) = false ∧ dbgOnly (ctxBase n + o) = false := by
  have hle := le_ctxBase (c := n)
  have hkeys : ¬(ctxBase n + o < 0x3C600) := by omega
  refine ⟨?_, dbgOnly_of_le (by omega)⟩
  simp only [State.locked, blockAt_ctx hn ho, hkeys, decide_false, Bool.and_false, Bool.false_or, Option.elim_none, Bool.or_false,
    Bool.or_eq_false_iff, Bool.and_eq_false_iff, beq_eq_false_iff_ne]
  omega

/-- A command code written to CTX_CMD gives the command, and the write is not ignored (R161, R163). -/
theorem State.siteWrite_ctxCmd (hn : n < s.variant.contexts) (hcode : code < 16) :
    s.siteWrite p ⟨.ctx n, 0, ctxBase n, none⟩ (ctxBase n) (BitVec.ofNat 32 code) = (s.ctxCmd n code).s := by
  obtain ⟨hlock, hdbg⟩ := State.locked_ctx (o := 0) hn (by decide)
  have hblock := blockAt_ctx (o := 0) hn (by decide)
  have hof : (s.wordAsk (.ctx n) 0 (BitVec.ofNat 32 code)).of 3 0 = code := by
    rw [State.wordAsk_of (f := ⟨3, 0, .pulse, 0⟩) (by simp) List.mem_cons_self]
    simp only [bitsOf, BitVec.toNat_ofNat]
    omega
  have hask : s.askWrite p (.ctx n) 0 (ctxBase n) (s.wordAsk (.ctx n) 0 (BitVec.ofNat 32 code)) =
      ((s.ctxCmd n code).s, false) := by
    have hflds : s.fieldsWrite p (.ctx n) 0 (ctxBase n) (s.wordAsk (.ctx n) 0 (BitVec.ofNat 32 code)) = (s, false) := by
      have hregs : regFlds s.variant (.ctx n) 0 = [⟨3, 0, .pulse, 0⟩] := rfl
      unfold State.fieldsWrite State.wordAsk
      rw [hregs]
      simp only [List.foldl_cons, List.foldl_nil, State.fieldWrite]
      rw [Nat.add_zero] at hlock hdbg
      simp [hlock, hdbg]
    rw [Nat.add_zero] at hblock
    change s.plainWrite p (.ctx n) 0 (ctxBase n) (s.wordAsk (.ctx n) 0 (BitVec.ofNat 32 code)) = _
    unfold State.plainWrite
    rw [hblock, hflds]
    simp only [State.afterWrite, State.ctxWrite, if_true, hof]
  unfold State.siteWrite
  change (let r := s.askWrite p (.ctx n) 0 (ctxBase n) (s.wordAsk (.ctx n) 0 (BitVec.ofNat 32 code))
    if r.2 then r.1.ignored (ctxBase n) else r.1) = _
  rw [hask]
  rfl

/-- An open port answers a write of CTX_CMD with what the command leaves. -/
theorem State.PortOpen.cmdWrite (h : s.PortOpen p (ctxBase n)) (hn : n < s.variant.contexts) (hcode : code < 16) :
    s.cmdWrite p n code = .next ((s.ctxCmd n code).s.emit (.portRsp p 0 false)) := by
  have hloc := locate_ctx (o := 0) hn (by decide)
  have hbusy : p = .cfg → (s.ctxCmd n code).s.cfgBusy = .none := fun e => State.ctxCmd_cfgBusy.trans (h.2.2.2.1 e).1
  have haddr : ctxBase n % 4 = 0 := by
    unfold ctxBase
    omega
  have hpresent : decide (n < s.variant.contexts) = true := decide_eq_true hn
  unfold State.cmdWrite State.regAccess
  rw [hpresent, if_pos rfl, writeAt, if_pos haddr,
    h.write_site (siteOf_word hloc) (undefAt_word hloc (List.cons_ne_nil _ _)), State.siteWrite_ctxCmd hn hcode,
    State.answered_of_cfgBusy hbusy]

/-- A command that changes one word is answered, and that word alone is changed. -/
theorem writesOnly_setReg {post : State → Prop} (hwf : Tab.wf (resetWord s.variant) s.regs = true)
    (hexec : exec c s = .next ((s.setReg a w).emit (.portRsp p 0 false)))
    (hpost : post ((s.setReg a w).emit (.portRsp p 0 false))) : WritesOnly c p s [a] post := by
  refine ⟨_, hexec, hpost, fun b hb => ?_, rfl⟩
  exact (State.reg_setReg hwf ..).trans (if_neg (by simpa using hb))

end

/-! ### States that differ in registers -/

section
variable {p : Nat → Prop} {s s' : State} {a n : Nat}

theorem OnlyRegs.setReg2 (h : OnlyRegs p s s') (ha : p a) (ha4 : p (a + 4)) : OnlyRegs p s (s'.setReg2 a n) :=
  (h.setReg ha).setReg ha4

theorem OnlyRegs.rest_of_hist (h : OnlyRegs p s s') (hhist : s'.hist = s.hist) : s' = { s with regs := s'.regs } := by
  rw [h.rest, hhist]

end

/-! ### KICK: a new run (R164) -/

section
variable {s x : State} {c cur o k m : Nat}

/-- CTX_STATUS of a new run but for STATE (R164). -/
def State.runStatus (s : State) (c : Nat) : State :=
  (((s.setFlag (ctxBase c + 4) 24 true).setFlag (ctxBase c + 4) 25 false).setFlag (ctxBase c + 4) 26 false).setFld
    (ctxBase c + 4) 15 8 0

/-- The counts of a new run: DESCS, LINES and HOPS, RUN_SEQ; VERSION is not yet bound (R164). -/
def State.runCounts (s : State) (c : Nat) : State :=
  let b := ctxBase c
  let s := (s.setReg (b + 0x30) 0).setReg (b + 0x38) 0
  (s.setFld (b + 0x34) 15 0 0).setFld (b + 0x34) 31 16 (s.fld (b + 0x34) 31 16 + 1)

/-- The registers of a new run but for STATE. -/
def State.runRegs (s : State) (c cur : Nat) : State := ((s.setReg2 (ctxBase c + 0x28) cur).runStatus c).runCounts c

/-- The hidden part of a context at the start of a run. -/
def Ctx.runStarted (x : Ctx) : Ctx :=
  { x with outcome := none, cause := 0, late := false, rep := 0, counted := false, rearm := false, yieldLines := 0 }

/-- The context joins the ready order of its cluster. -/
def State.joinReady (s : State) (c : Nat) : State :=
  (s.setCtxState c 2).setReady (s.ctx c).cluster (s.ready (s.ctx c).cluster ++ [c])

theorem State.newRun_eq : s.newRun c cur =
    ((s.runRegs c cur).setCtx c ((s.runRegs c cur).ctx c).runStarted).joinReady c := rfl

/-- What the registers of a new run hold. -/
structure RunRegs (c cur : Nat) (s s' : State) : Prop where
  rest : s' = { s with regs := s'.regs }
  cur : s'.curOf c = cur
  descs : s'.reg (ctxBase c + 0x30) = 0
  lines : s'.reg (ctxBase c + 0x38) = 0
  runSeq : s'.fld (ctxBase c + 0x34) 31 16 = (s.fld (ctxBase c + 0x34) 31 16 + 1) % 65536
  version : s'.fld (ctxBase c + 0x34) 15 0 = 0

theorem State.runStatus_regs (h : Tab.wf (resetWord s.variant) s.regs = true) :
    OnlyRegs (· = ctxBase c + 4) s (s.runStatus c) :=
  ((((OnlyRegs.refl (p := (· = ctxBase c + 4)) h).setFlag rfl).setFlag rfl).setFlag rfl).setFld rfl

theorem State.runCounts_regs (h : Tab.wf (resetWord s.variant) s.regs = true) :
    OnlyRegs (fun a => a = ctxBase c + 0x30 ∨ a = ctxBase c + 0x34 ∨ a = ctxBase c + 0x38) s (s.runCounts c) :=
  (((OnlyRegs.refl h).setReg (by simp)).setReg (by simp) |>.setFld (by simp)).setFld (by simp)

theorem State.runStatus_hist : (s.runStatus c).hist = s.hist := by simp [State.runStatus]
theorem State.runCounts_hist : (s.runCounts c).hist = s.hist := by simp [State.runCounts]

theorem State.runCounts_reg (h : s.Tidy) {a : Nat} (ha : a ≠ ctxBase c + 0x34) :
    (s.runCounts c).reg a = if a = ctxBase c + 0x38 then 0 else if a = ctxBase c + 0x30 then 0 else s.reg a := by
  unfold State.runCounts
  extract_lets b x
  have hx : x.Tidy := h.setReg.setReg
  rw [State.reg_setFld hx.setFld.regs, if_neg ha, State.reg_setFld hx.regs, if_neg ha]
  simp only [x]
  rw [State.reg_setReg h.setReg.regs, State.reg_setReg h.regs]

theorem State.runCounts_run (h : s.Tidy) :
    (s.runCounts c).fld (ctxBase c + 0x34) 31 16 = (s.fld (ctxBase c + 0x34) 31 16 + 1) % 65536 ∧
      (s.runCounts c).fld (ctxBase c + 0x34) 15 0 = 0 := by
  unfold State.runCounts
  extract_lets b x
  have hx : x.Tidy := h.setReg.setReg
  have hseq : x.fld (b + 0x34) 31 16 = s.fld (b + 0x34) 31 16 := by
    unfold State.fld
    simp only [x]
    rw [State.reg_setReg h.setReg.regs, if_neg (by omega), State.reg_setReg h.regs, if_neg (by omega)]
  clear_value x
  refine ⟨?_, ?_⟩
  · rw [← hseq]
    unfold State.fld
    rw [State.reg_setFld hx.setFld.regs, if_pos rfl, bitsOf_putBits _ (by decide) (by decide)]
    rfl
  · rw [State.fld_setFld_apart hx.setFld.regs (by decide) (by decide) (.inl (by decide))]
    exact State.fld_setFld_same hx.regs (by decide) (by decide) (by decide)

theorem State.Tidy.runStatus (h : s.Tidy) : (s.runStatus c).Tidy := h.setFlag.setFlag.setFlag.setFld

theorem State.Tidy.runCounts (h : s.Tidy) : (s.runCounts c).Tidy := by
  unfold State.runCounts
  extract_lets b x
  have hx : x.Tidy := h.setReg.setReg
  exact hx.setFld.setFld

/-- The registers of a new run, from the stages in which they are stored. -/
theorem RunRegs.of_stages {x y : State} (hs : s.Tidy) (hcur : cur < 2 ^ 64) (hx : x = s.setReg2 (ctxBase c + 0x28) cur)
    (hy : y = x.runStatus c) : RunRegs c cur s (y.runCounts c) := by
  have hcur1 : x.reg2 (ctxBase c + 0x28) = cur := hx ▸ State.reg2_setReg2 hs.regs hcur
  have hreg1 : x.reg (ctxBase c + 0x34) = s.reg (ctxBase c + 0x34) := hx ▸ State.reg_setReg2_ne hs.regs (by omega) (by omega)
  have hregs1 : OnlyRegs (fun _ => True) s x := hx ▸ (OnlyRegs.refl hs.regs).setReg2 trivial trivial
  have hhist1 : x.hist = s.hist := hx ▸ State.setReg2_hist ..
  have htidy1 : x.Tidy := hx ▸ hs.setReg2
  have hregs2 : OnlyRegs (· = ctxBase c + 4) x y := hy ▸ State.runStatus_regs htidy1.regs
  have hhist2 : y.hist = x.hist := hy ▸ State.runStatus_hist
  have htidy2 : y.Tidy := hy ▸ htidy1.runStatus
  have hregs3 := State.runCounts_regs (c := c) htidy2.regs
  have hreg3 := fun a => State.runCounts_reg (c := c) (a := a) htidy2
  obtain ⟨hseq, hver⟩ := State.runCounts_run (c := c) htidy2
  have hseq2 : y.fld (ctxBase c + 0x34) 31 16 = s.fld (ctxBase c + 0x34) 31 16 :=
    congrArg (bitsOf · 31 16) ((hregs2.reg _ (by omega)).trans hreg1)
  refine ⟨?_, ?_, ?_, ?_, by rw [hseq, hseq2], hver⟩
  · rw [hregs3.rest_of_hist State.runCounts_hist, hregs2.rest_of_hist hhist2, hregs1.rest_of_hist hhist1]
  · refine Eq.trans ?_ hcur1
    unfold State.curOf State.reg2
    rw [hregs3.reg _ (by omega), hregs3.reg _ (by omega), hregs2.reg _ (by omega), hregs2.reg _ (by omega)]
  · rw [hreg3 _ (by omega), if_neg (by omega), if_pos rfl]
  · rw [hreg3 _ (by omega), if_pos rfl]

theorem State.runRegs_holds (h : s.Tidy) (hcur : cur < 2 ^ 64) : RunRegs c cur s (s.runRegs c cur) :=
  .of_stages h hcur rfl rfl

theorem State.Tidy.runRegs (h : s.Tidy) : (s.runRegs c cur).Tidy := h.setReg2.runStatus.runCounts

/-- What a new run leaves (R164). -/
structure NewRun (c cur cl : Nat) (s s' : State) : Prop where
  state : s'.ctxState c = 2
  cur : s'.curOf c = cur
  descs : s'.reg (ctxBase c + 0x30) = 0
  lines : s'.reg (ctxBase c + 0x38) = 0
  runSeq : s'.fld (ctxBase c + 0x34) 31 16 = (s.fld (ctxBase c + 0x34) 31 16 + 1) % 65536
  version : s'.fld (ctxBase c + 0x34) 15 0 = 0
  ready : s'.ready cl = s.ready cl ++ [c]
  outcome : (s'.ctx c).outcome = none
  ctxs : ∀ m, m ≠ c → s'.ctx m = s.ctx m
  rest : s' = { s with regs := s'.regs, ctxs := s'.ctxs, readyQ := s'.readyQ }

theorem State.setReady_rest {cl : Nat} {l : List Nat} :
    s.setReady cl l = { s with readyQ := (s.setReady cl l).readyQ } := rfl

/-- What joining the ready order leaves. -/
structure JoinsReady (c : Nat) (s s' : State) : Prop where
  rest : s' = { s with regs := s'.regs, readyQ := s'.readyQ }
  state : s'.ctxState c = 2
  reg : ∀ a, a ≠ ctxBase c + 4 → s'.reg a = s.reg a
  ready : s'.ready (s.ctx c).cluster = s.ready (s.ctx c).cluster ++ [c]

theorem JoinsReady.of_stages {l : List Nat} (hs : s.Tidy) (hx : x = s.setCtxState c 2)
    (hl : l = s.ready (s.ctx c).cluster ++ [c]) : JoinsReady c s (x.setReady (s.ctx c).cluster l) := by
  have hrest : x = { s with regs := x.regs } := hx ▸ State.setReg_rest ..
  have htidy : x.Tidy := hx ▸ hs.setCtxState
  have hstate : x.ctxState c = 2 := hx ▸ State.fld_setFld_same hs.regs (by decide) (by decide) (by decide)
  have hreg : ∀ a, a ≠ ctxBase c + 4 → x.reg a = s.reg a := fun a ha =>
    hx ▸ (State.reg_setFld hs.regs ..).trans (if_neg ha)
  refine ⟨?_, hstate, hreg, (State.ready_setReady htidy.readyQ).trans hl⟩
  rw [State.setReady_rest, hrest]

theorem State.joinReady_holds (h : s.Tidy) : JoinsReady c s (s.joinReady c) := .of_stages h rfl rfl

theorem State.ctx_congr {a b : State} (h : b.ctxs = a.ctxs) (m : Nat) : b.ctx m = a.ctx m := by
  unfold State.ctx
  rw [h]

theorem State.ready_congr {a b : State} (h : b.readyQ = a.readyQ) (cl : Nat) : b.ready cl = a.ready cl := by
  unfold State.ready
  rw [h]

theorem State.reg_congr {a b : State} (h : b.regs = a.regs) (hv : b.variant = a.variant) (k : Nat) : b.reg k = a.reg k := by
  unfold State.reg
  rw [h, hv]

/-- A new run, from the stages in which it is stored. -/
theorem RunRegs.newRun {y z : State} (h : RunRegs c cur s x) (hx : x.Tidy) (hy : y = x.setCtx c (x.ctx c).runStarted)
    (hz : JoinsReady c y z) : NewRun c cur (s.ctx c).cluster s z := by
  have hctx : ∀ m, x.ctx m = s.ctx m := State.ctx_congr (by rw [h.rest])
  have hrest : y = { x with ctxs := y.ctxs } := hy ▸ rfl
  have hset : ∀ m, y.ctx m = if m = c then (s.ctx c).runStarted else s.ctx m := fun m => by
    rw [hy, State.ctx_setCtx hx.ctxs, hctx, hctx]
  have hreg : ∀ a, a ≠ ctxBase c + 4 → z.reg a = x.reg a := fun a ha =>
    (hz.reg a ha).trans (State.reg_congr (by rw [hrest]) (by rw [hrest]) a)
  have hready : ∀ cl, y.ready cl = s.ready cl := State.ready_congr (by rw [hrest, h.rest])
  have hzctx : ∀ m, z.ctx m = y.ctx m := State.ctx_congr (by rw [hz.rest])
  have hcl : (y.ctx c).cluster = (s.ctx c).cluster := by
    rw [hset, if_pos rfl]
    rfl
  refine ⟨hz.state, ?_, ?_, ?_, ?_, ?_, ?_, ?_, fun m hm => ?_, ?_⟩
  · refine Eq.trans ?_ h.cur
    unfold State.curOf State.reg2
    rw [hreg _ (by omega), hreg _ (by omega)]
  · rw [hreg _ (by omega), h.descs]
  · rw [hreg _ (by omega), h.lines]
  · exact (congrArg (bitsOf · 31 16) (hreg _ (by omega))).trans h.runSeq
  · exact (congrArg (bitsOf · 15 0) (hreg _ (by omega))).trans h.version
  · rw [← hcl, hz.ready, hready]
  · rw [hzctx, hset, if_pos rfl]
    rfl
  · rw [hzctx, hset, if_neg hm]
  · rw [hz.rest, hrest, h.rest]

theorem State.newRun_holds (h : s.Tidy) (hcur : cur < 2 ^ 64) : NewRun c cur (s.ctx c).cluster s (s.newRun c cur) := by
  rw [State.newRun_eq]
  exact (State.runRegs_holds h hcur).newRun h.runRegs rfl (State.joinReady_holds h.runRegs.setCtx)

/-- A new run that is told of a context whose hidden part has been stored before. -/
theorem NewRun.of_setCtx {z : State} {cl : Nat} (h : NewRun c cur cl x z) (hx : x = { s with ctxs := x.ctxs })
    (hother : ∀ m, m ≠ c → x.ctx m = s.ctx m) : NewRun c cur cl s z := by
  have hseq : x.fld (ctxBase c + 0x34) 31 16 = s.fld (ctxBase c + 0x34) 31 16 :=
    congrArg (bitsOf · 31 16) (State.reg_congr (by rw [hx]) (by rw [hx]) _)
  have hready : x.ready cl = s.ready cl := State.ready_congr (by rw [hx]) cl
  exact ⟨h.state, h.cur, h.descs, h.lines, h.runSeq.trans (by rw [hseq]), h.version, h.ready.trans (by rw [hready]), h.outcome,
    fun m hm => (h.ctxs m hm).trans (hother m hm), by rw [h.rest, hx]⟩

/-- CLUSTER, ENTRY and FAST as a KICK reads them (R159). -/
def State.kickRead (s : State) (c : Nat) : Ctx :=
  { s.ctx c with cluster := s.fld (ctxBase c + 8) 11 8, entry := s.fld (ctxBase c + 8) 15 12, fast := s.flag (ctxBase c + 8) 31 }

/-- A KICK of an IDLE context whose cluster is present, and that is not fast, starts a run. -/
theorem State.cmdKick_idle (hst : s.ctxState c = 1) (hrun : s.runEnded c = false) (hrearm : (s.ctx c).rearm = false)
    (hcl : s.fld (ctxBase c + 8) 11 8 < s.variant.clusters) (hfast : s.flag (ctxBase c + 8) 31 = false) :
    s.cmdKick c = .ok ((s.setCtx c (s.kickRead c)).newRun c (s.reg2 (ctxBase c + 0x10))) := by
  have hdrop : s.rearmDrop c = s := by simp [State.rearmDrop, hrearm]
  unfold State.cmdKick
  rw [if_neg (by simp [hst, hrun]), hdrop]
  extract_lets x cfg cl fast full old y
  have hfull : full = false := by
    have hoff : fast = false := hfast
    simp [full, hoff]
  have hcl' : ¬cl ≥ y.variant.clusters := Nat.not_le.mpr hcl
  rw [if_neg hcl', if_neg (by simp [hfull])]
  rfl

theorem State.kick_newRun (h : s.Tidy) (hx : x = s.setCtx c (s.kickRead c)) (hcur : cur < 2 ^ 64) :
    NewRun c cur (s.fld (ctxBase c + 8) 11 8) s (x.newRun c cur) := by
  have hset : ∀ m, x.ctx m = if m = c then s.kickRead c else s.ctx m := hx ▸ State.ctx_setCtx h.ctxs c _
  have hcl : (x.ctx c).cluster = s.fld (ctxBase c + 8) 11 8 := by
    rw [hset, if_pos rfl]
    rfl
  have hrest : x = { s with ctxs := x.ctxs } := hx ▸ rfl
  have hx' : x.Tidy := hx ▸ h.setCtx
  exact hcl ▸ (State.newRun_holds hx' hcur).of_setCtx hrest fun m hm => by rw [hset, if_neg hm]

theorem State.reg2_lt {a : Nat} : s.reg2 a < 2 ^ 64 := by
  have h0 := (s.reg a).isLt
  have h4 := (s.reg (a + 4)).isLt
  unfold State.reg2
  omega

/-! ### ABORT: the end of a run that has no packets (R175, R176) -/

/-- What the end of a run leaves. -/
structure EndsRun (c outcome : Nat) (s s' : State) : Prop where
  outcome : (s'.ctx c).outcome = some outcome
  left : c ∉ s'.ready (s.ctx c).cluster
  ctxs : ∀ m, m ≠ c → s'.ctx m = s.ctx m
  regs : s'.regs = s.regs
  variant : s'.variant = s.variant
  threads : s'.threads = s.threads
  out : s'.out = s.out

theorem EndsRun.of_stages {y : State} {l : List Nat} {v : Ctx} (hs : s.Tidy) (hctxs : x.ctxs = s.ctxs) (hq : x.readyQ = s.readyQ)
    (hsame : x.regs = s.regs ∧ x.variant = s.variant ∧ x.threads = s.threads ∧ x.out = s.out) (hl : c ∉ l)
    (hv : v.outcome = some o)
    (hy : y = x.setReady (s.ctx c).cluster l) : EndsRun c o s (y.setCtx c v) := by
  have hy' : y = { x with readyQ := y.readyQ } := hy ▸ rfl
  have hyctxs : y.ctxs = s.ctxs := by rw [hy', hctxs]
  have hready : y.ready (s.ctx c).cluster = l := hy ▸ State.ready_setReady (hq ▸ hs.readyQ)
  have hset : ∀ m, (y.setCtx c v).ctx m = if m = c then v else y.ctx m := State.ctx_setCtx (hyctxs ▸ hs.ctxs) c v
  obtain ⟨hregs, hvar, hthr, hout⟩ := hsame
  refine ⟨?_, ?_, fun m hm => ?_, ?_, ?_, ?_, ?_⟩
  · rw [hset, if_pos rfl, hv]
  · exact hready.symm ▸ hl
  · rw [hset, if_neg hm, State.ctx_congr hyctxs]
  · rw [← hregs, State.setCtx_regs, hy']
  · rw [← hvar, State.setCtx_variant, hy']
  · rw [← hthr, State.setCtx_threads, hy']
  · rw [← hout, State.setCtx_out, hy']

theorem State.endRun_unqueued (h : s.Tidy) (hqueue : (s.ctx c).queue = []) : EndsRun c o s (s.endRun c o k) := by
  unfold State.endRun
  extract_lets old x y z
  have hz : z = y := by simp [z, old, hqueue]
  rw [hz]
  exact .of_stages (x := x) h rfl rfl ⟨rfl, rfl, rfl, rfl⟩ (by simp) rfl rfl

theorem State.cmdAbort_ready (hst : s.ctxState c = 2) (hout : (s.ctx c).outcome = none) :
    s.cmdAbort c = .ok ((s.setFld (ctxBase c + 0x38) 15 0 (s.ctx c).yieldLines).endRun c 2 0) := if_pos ⟨hst, hout⟩

end

/-! ### The doorbell: a write of CTX_TAIL_HI (R163, R169) -/

section
variable {s t : State} {p : Port} {n o : Nat} {v : W32}

/-- An LV field of a context takes every write. -/
theorem State.takesField_ctx (hn : n < s.variant.contexts) (ho : o < 0x40) {f : Fld} (hf : f ∈ regFlds s.variant (.ctx n) o)
    (hlv : f.cls = .lv) : s.TakesField p (.ctx n) o (ctxBase n + o) f := by
  obtain ⟨hlock, hdbg⟩ := State.locked_ctx hn ho
  obtain ⟨hhi, hlo, -⟩ := (laid_regFlds s.variant o (w := .ctx n) (by simp)).1 f hf
  refine ⟨hhi, hlo, fun _ m => ?_, ?_, ?_, ?_⟩
  · simp [State.lvHold, hlock, hdbg]
  all_goals
    rw [hlv]
    exact fun h => nomatch h

/-- A word write of a register of a context whose fields are LV stores them all. -/
theorem State.fieldsWrite_ctx (hwf : Tab.wf (resetWord s.variant) s.regs = true) (hn : n < s.variant.contexts) (ho : o < 0x40)
    (hlv : ∀ f ∈ regFlds s.variant (.ctx n) o, f.cls = .lv) :
    (s.fieldsWrite p (.ctx n) o (ctxBase n + o) (s.wordAsk (.ctx n) o v)).2 = false ∧
      FieldsSet ((s.wordAsk (.ctx n) o v).value (.ctx n) o) (ctxBase n + o) (regFlds s.variant (.ctx n) o) s
        (s.fieldsWrite p (.ctx n) o (ctxBase n + o) (s.wordAsk (.ctx n) o v)).1 :=
  State.foldl_fieldWrite (fun f hf => ⟨State.takesField_ctx hn ho hf (hlv f hf), Nat.mod_lt _ (by positivity)⟩)
    (laid_regFlds s.variant o (w := .ctx n) (by simp)).2 hwf

/-- An LV field that is stored reads as its bits of the word written. -/
theorem FieldsSet.lv_fld {f : Fld} {off : Nat}
    (h : FieldsSet ((s.wordAsk (.ctx n) o v).value (.ctx n) o) off (regFlds s.variant (.ctx n) o) s t)
    (hf : f ∈ regFlds s.variant (.ctx n) o) (hlv : f.cls = .lv) : t.fld off f.hi f.lo = bitsOf v f.hi f.lo := by
  have hstores := h.stores (by simp) hf
  rwa [Stores, hlv] at hstores

/-- What the doorbell of a context that is not IDLE leaves. -/
structure TailSet (n : Nat) (lo hi : W32) (s s' : State) : Prop where
  rest : s' = { s with regs := s'.regs }
  reg : ∀ a, a ∉ [ctxBase n + 0x18, ctxBase n + 0x1C] → s'.reg a = s.reg a
  low : s'.fld (ctxBase n + 0x18) 31 6 = bitsOf lo 31 6
  high : s'.fld (ctxBase n + 0x1C) 13 0 = bitsOf hi 13 0
  gen : s'.tailGen n = bitsOf hi 31 16

theorem State.rearmCheck_busy (h : s.ctxState n ≠ 1) : s.rearmCheck n = s := by
  simp [State.rearmCheck, State.rearmable, h]

/-- A write of CTX_TAIL_HI commits the tail; a context that is not IDLE is not armed again (R50, R163). -/
theorem State.siteWrite_tailHi (h : s.Tidy) (hn : n < s.variant.contexts) (hst : s.ctxState n ≠ 1) :
    TailSet n (s.shadowOf p (ctxBase n + 0x18)) v s
      (s.siteWrite p ⟨.ctx n, 0x1C, ctxBase n + 0x1C, none⟩ (ctxBase n + 0x1C) v) := by
  have hle := le_ctxBase (c := n)
  obtain ⟨hig, hlow⟩ := s.fieldsWrite_ctx (p := p) (o := 0x18) (v := s.shadowOf p (ctxBase n + 0x18)) h.regs hn (by decide)
    (by simp [regFlds, findReg, ctxRegs])
  generalize hr : s.fieldsWrite p (.ctx n) 0x18 (ctxBase n + 0x18) (s.wordAsk (.ctx n) 0x18 (s.shadowOf p (ctxBase n + 0x18))) = r
    at hig hlow
  have hn' : n < r.1.variant.contexts := by
    rw [hlow.rest]
    exact hn
  obtain ⟨hig', hhigh⟩ := r.1.fieldsWrite_ctx (p := p) (o := 0x1C) (v := v) hlow.wf hn' (by decide)
    (by simp [regFlds, findReg, ctxRegs])
  generalize hr' : r.1.fieldsWrite p (.ctx n) 0x1C (ctxBase n + 0x1C) (r.1.wordAsk (.ctx n) 0x1C v) = r' at hig' hhigh
  have hstate : r'.1.ctxState n ≠ 1 := by
    have hreg := (hhigh.reg (ctxBase n + 4) (by omega)).trans (hlow.reg (ctxBase n + 4) (by omega))
    unfold State.ctxState State.fld
    rw [hreg]
    exact hst
  have hask : r.1.askWrite p (.ctx n) 0x1C (ctxBase n + 0x1C) (r.1.wordAsk (.ctx n) 0x1C v) = r' := by
    have hafter : (r'.1.rearmCheck n, r'.2) = r' := by rw [State.rearmCheck_busy hstate]
    refine Eq.trans ?_ hafter
    change r.1.plainWrite p (.ctx n) 0x1C (ctxBase n + 0x1C) (r.1.wordAsk (.ctx n) 0x1C v) = _
    unfold State.plainWrite
    rw [blockAt_ctx hn' (by decide), hr']
    rfl
  have hsite : s.siteWrite p ⟨.ctx n, 0x1C, ctxBase n + 0x1C, none⟩ (ctxBase n + 0x1C) v = r'.1 := by
    have hoff : ctxBase n + 0x1C ≠ 0x24 := by omega
    simp [State.siteWrite, State.writeWord, isLow, State.commit, hoff, hr, hask, hig, hig']
  rw [hsite]
  refine ⟨?_, fun a ha => ?_, ?_, ?_, ?_⟩
  · rw [hhigh.rest, hlow.rest]
  · simp only [List.mem_cons, List.not_mem_nil, or_false, not_or] at ha
    rw [hhigh.reg a ha.2, hlow.reg a ha.1]
  · exact (congrArg (bitsOf · 31 6) (hhigh.reg _ (by omega))).trans
      (hlow.lv_fld (f := ⟨31, 6, .lv, 0⟩) List.mem_cons_self rfl)
  · exact hhigh.lv_fld (f := ⟨13, 0, .lv, 0⟩) (List.mem_cons_of_mem _ List.mem_cons_self) rfl
  · exact hhigh.lv_fld (f := ⟨31, 16, .lv, 0⟩) List.mem_cons_self rfl

end

/-! ### The commands of the window -/

section
variable {s : State} {p : Port} {n code : Nat} {w : W32} {c : Instr} {v : W32} {b : Bool}

theorem exec_enable : exec (.enable p n) s = s.cmdWrite p n 1 := rfl
theorem exec_disable : exec (.disable p n) s = s.cmdWrite p n 2 := rfl
theorem exec_kick : exec (.kick (.word p n)) s = s.cmdWrite p n 3 := rfl
theorem exec_abort : exec (.abort (.word p n)) s = s.cmdWrite p n 4 := rfl
theorem exec_clear : exec (.clear (.word p n)) s = s.cmdWrite p n 5 := rfl

theorem State.ctxCmd_enable : s.ctxCmd n 1 = s.cmdEnable n := rfl
theorem State.ctxCmd_disable : s.ctxCmd n 2 = s.cmdDisable n := rfl
theorem State.ctxCmd_kick : s.ctxCmd n 3 = s.cmdKick n := rfl
theorem State.ctxCmd_abort : s.ctxCmd n 4 = s.cmdAbort n := rfl
theorem State.ctxCmd_clear : s.ctxCmd n 5 = s.cmdClear n := rfl

/-- A command that stores CTX_STATUS is answered, and that word alone is changed. -/
theorem writesOnly_setStatus {post : State → Prop} (hwf : Tab.wf (resetWord s.variant) s.regs = true)
    (hexec : exec c s = .next ((s.ctxCmd n code).s.emit (.portRsp p 0 false))) (hcmd : s.ctxCmd n code = ⟨s.setStatus n w, b⟩)
    (hpost : ∀ s' : State, (∀ hi lo, s'.fld (ctxBase n + 4) hi lo = bitsOf w hi lo) →
      (∀ i, s'.flag (ctxBase n + 4) i = bitOf w i) → post s') : WritesOnly c p s [ctxBase n + 4] post :=
  writesOnly_setReg hwf (by rw [hexec, hcmd])
    (hpost _ (fun _ _ => State.fld_setReg hwf) fun _ => State.flag_setReg hwf)

/-- A KICK that starts a run is answered. -/
theorem State.kick_answered (hs : s.Tidy)
    (hexec : exec c s = .next ((s.ctxCmd n 3).s.emit (.portRsp p 0 false))) (hst : s.ctxState n = 1)
    (hrun : s.runEnded n = false) (hrearm : (s.ctx n).rearm = false) (hcl : s.fld (ctxBase n + 8) 11 8 < s.variant.clusters)
    (hfast : s.flag (ctxBase n + 8) 31 = false) :
    ∃ z, exec c s = .next (z.emit (.portRsp p 0 false)) ∧
      NewRun n (s.reg2 (ctxBase n + 0x10)) (s.fld (ctxBase n + 8) 11 8) s z := by
  rw [State.ctxCmd_kick, State.cmdKick_idle hst hrun hrearm hcl hfast] at hexec
  exact ⟨_, hexec, State.kick_newRun hs rfl State.reg2_lt⟩

/-- An ABORT of a READY context ends its run with LINES as they stood at its last YIELD, and is answered (R176). -/
theorem State.abort_answered (hs : s.Tidy) (hexec : exec c s = .next ((s.ctxCmd n 4).s.emit (.portRsp p 0 false)))
    (hst : s.ctxState n = 2) (hout : (s.ctx n).outcome = none) (hqueue : (s.ctx n).queue = []) :
    ∃ x z, x = s.setFld (ctxBase n + 0x38) 15 0 (s.ctx n).yieldLines ∧ exec c s = .next (z.emit (.portRsp p 0 false)) ∧
      EndsRun n 2 x z := by
  rw [State.ctxCmd_abort, State.cmdAbort_ready hst hout] at hexec
  exact ⟨_, _, rfl, hexec, State.endRun_unqueued hs.setFld hqueue⟩

/-- APPEND is a write of CTX_TAIL_HI. -/
theorem exec_append_word (hn : n < s.variant.contexts) :
    exec (.append (.word p n v)) s = s.access p (.write p (ctxBase n + 0x1C) v) := by
  have haddr : (ctxBase n + 0x1C) % 4 = 0 := by
    unfold ctxBase
    omega
  change s.regAccess p (decide (n < s.variant.contexts)) (writeAt p (ctxBase n + 0x1C) v) = _
  rw [State.regAccess, decide_eq_true hn, if_pos rfl, writeAt, if_pos haddr]

end

/-- Settles O24: a write of CTX_CMD does what the command does in the state of its context (an ABORT of a READY context keeps
LINES as it stood at its last YIELD, log entry 48); a write of CTX_TAIL_HI stores the tail. -/
theorem contextCommands : Obligations.ContextCommands := by
  unfold Obligations.ContextCommands
  refine ⟨?_, ?_⟩
  · intro s p n hs hn hopen b
    have htidy := (State.tidy_iff s).mpr hs
    have hwf := htidy.regs
    have hcmd : ∀ code < 16, s.cmdWrite p n code = .next ((s.ctxCmd n code).s.emit (.portRsp p 0 false)) :=
      fun _ hcode => hopen.cmdWrite hn hcode
    refine ⟨fun hst => ?enable, fun hst => ?ignored, fun hst hrun hrearm => ?disable, fun hst => ?clear, ?kick,
      fun hst hout hqueue => ?abort⟩
    case enable =>
      refine writesOnly_setStatus hwf (exec_enable.trans (hcmd 1 (by decide)))
        (State.ctxCmd_enable.trans (State.cmdEnable_disabled hst)) fun s' hfld _ => ?_
      exact (hfld 31 29).trans (bitsOf_putBits _ (by decide) (by decide) _)
    case ignored =>
      refine writesOnly_setStatus hwf (exec_enable.trans (hcmd 1 (by decide)))
        (State.ctxCmd_enable.trans (State.cmdEnable_ignored hst)) fun s' hfld hflag => ?_
      obtain ⟨hstate, hbit⟩ := ignoredStatus_fields (w := s.status n)
      exact ⟨(hfld 31 29).trans hstate, (hflag 23).trans hbit⟩
    case disable =>
      refine writesOnly_setStatus hwf (exec_disable.trans (hcmd 2 (by decide)))
        (State.ctxCmd_disable.trans (State.cmdDisable_eq hwf hst hrun hrearm)) fun s' hfld hflag => ?_
      obtain ⟨hstate, hcur, hend⟩ := disabledStatus_fields (w := s.status n)
      exact ⟨(hfld 31 29).trans hstate, (hflag 24).trans hcur, (hflag 25).trans hend⟩
    case clear =>
      refine writesOnly_setStatus hwf (exec_clear.trans (hcmd 5 (by decide)))
        (State.ctxCmd_clear.trans (State.cmdClear_halted hwf hst)) fun s' hfld hflag => ?_
      obtain ⟨hstate, hcause, hcur, hend⟩ := clearedStatus_fields (w := s.status n)
      exact ⟨(hfld 31 29).trans hstate, (hfld 15 8).trans hcause, (hflag 24).trans hcur, (hflag 25).trans hend⟩
    case kick =>
      intro hst hrun hrearm cl hcl hfast
      obtain ⟨z, hexec, hnew⟩ := State.kick_answered htidy (exec_kick.trans (hcmd 3 (by decide))) hst hrun hrearm hcl hfast
      refine ⟨_, hexec, hnew.state, hnew.cur, hnew.ready, hnew.descs, hnew.lines, hnew.runSeq, hnew.version, hnew.outcome,
        hnew.ctxs, ?_⟩
      rw [hnew.rest]
      rfl
    case abort =>
      obtain ⟨x, z, hx, hexec, hend⟩ := State.abort_answered htidy (exec_abort.trans (hcmd 4 (by decide))) hst hout hqueue
      have hxctx : ∀ m, x.ctx m = s.ctx m := fun m => State.ctx_congr (by rw [hx, State.setFld_ctxs]) m
      have hreg : ∀ a, z.reg a = x.reg a := State.reg_congr hend.regs hend.variant
      refine ⟨_, hexec, hend.outcome, ?_, fun m hm => (hend.ctxs m hm).trans (hxctx m), ?_, fun a ha => ?_, ?_, ?_⟩
      · have hleft := hend.left
        rwa [hxctx] at hleft
      · refine (congrArg (bitsOf · 15 0) (hreg _)).trans ?_
        rw [hx]
        exact (congrArg (bitsOf · 15 0) ((State.reg_setFld hwf ..).trans (if_pos rfl))).trans
          (bitsOf_putBits (hi := 15) (lo := 0) _ (by decide) (by decide) _)
      · refine (hreg a).trans ?_
        rw [hx, State.reg_setFld hwf, if_neg ha]
      · exact hend.threads.trans (by rw [hx, State.setFld_threads])
      · exact congrArg (_ :: ·) (hend.out.trans (by rw [hx, State.setFld_out]))
  · intro s p n v hs hn hopen hst
    have hloc := locate_ctx (o := 0x1C) hn (by decide)
    obtain ⟨t, ht⟩ : ∃ t, s.siteWrite p ⟨.ctx n, 0x1C, ctxBase n + 0x1C, none⟩ (ctxBase n + 0x1C) v = t := ⟨_, rfl⟩
    have htail := ht ▸ State.siteWrite_tailHi (p := p) (v := v) ((State.tidy_iff s).mpr hs) hn hst
    exact hopen.writesOnly (exec_append_word hn) (siteOf_word hloc) (undefAt_word hloc (List.cons_ne_nil _ _)) ht htail.rest
      htail.reg ⟨htail.low, htail.high, htail.gen⟩

end Sys2Proof.Machine
end

section
/-! Requests of a stream port that are served as they come: context commands (R161, R163, R464) and fast packets (R182,
R183, R185), with the credits that return (R465). -/

namespace Sys2Proof.Machine

/-! ### A port that is up -/

section
variable {s s' : State} {n : Nat} {p : SPort}

theorem ports_le (v : Variant) : v.ports ≤ 12 := by
  cases v <;> decide

/-- Two states that a stream port's readiness does not tell apart: they differ in the entries of contexts, in the ports
and in what has been sent. -/
structure SamePort (s s' : State) : Prop where
  rest : s' = { s with regs := s'.regs, ctxs := s'.ctxs, sports := s'.sports, out := s'.out }
  low : ∀ a, a < 0x100000 → s'.reg a = s.reg a

theorem SamePort.of_rest (h : s' = { s with ctxs := s'.ctxs, sports := s'.sports, out := s'.out }) : SamePort s s' :=
  ⟨by rw [h], fun a _ => State.reg_congr (by rw [h]) (by rw [h]) a⟩

theorem SamePort.trans {t : State} (h : SamePort s s') (h' : SamePort s' t) : SamePort s t :=
  ⟨by rw [h'.rest, h.rest], fun a ha => (h'.low a ha).trans (h.low a ha)⟩

/-- Registers of the context table alone are changed. -/
theorem SamePort.of_regs (h : s' = { s with regs := s'.regs }) (hlow : ∀ a, a < 0x100000 → s'.reg a = s.reg a) :
    SamePort s s' :=
  ⟨by rw [h], hlow⟩

theorem SamePort.flag (h : SamePort s s') {a i : Nat} (ha : a < 0x100000) : s'.flag a i = s.flag a i :=
  congrArg (bitOf · i) (h.low a ha)

theorem SamePort.running (h : SamePort s s') : s'.running = s.running := by
  have hclk : s'.clocksRun = s.clocksRun := by
    unfold State.clocksRun
    rw [h.flag (by decide), h.flag (by decide)]
  have hlogic : s'.logicUp = s.logicUp := by rw [h.rest]; rfl
  unfold State.running
  rw [hclk, hlogic]

theorem SamePort.homeReady (h : SamePort s s') : s'.homeReady = s.homeReady := by
  unfold State.homeReady State.en State.grave
  rw [h.running, h.flag (by decide), h.flag (by decide), show s'.inited = s.inited by rw [h.rest]]

theorem SamePort.spUp (h : SamePort s s') (hn : n < s.variant.ports) (hlink : (s'.sp n).link = (s.sp n).link) :
    s'.spUp n = s.spUp n := by
  have hle := ports_le s.variant
  have hbase : faultBase (.port n) = 0x8000 + 0x400 * n + 0x380 := rfl
  have hblock : faultBase (.port n) + 0x1C < 0x100000 := by
    rw [hbase]
    omega
  have hgrave : s'.grave (.port n) = s.grave (.port n) := h.flag hblock
  unfold State.spUp
  rw [hlink, h.homeReady, hgrave]

theorem SamePort.pstate (h : SamePort s s') : s'.pstate = s.pstate := congrArg (bitsOf · 31 29) (h.low 0x1004 (by decide))

theorem SamePort.setSp : SamePort s (s.setSp n p) := .of_rest rfl

theorem State.link_of_spUp (h : s.spUp n = true) : (s.sp n).link = true := by
  unfold State.spUp at h
  simp only [Bool.and_eq_true] at h
  exact h.1.1

end

/-! ### A response that is sent at once (R463, R465) -/

section
variable {s s' x : State} {n : Nat} {r : SpRsp}

/-- A response went out on a credit. -/
structure Responds (n : Nat) (r : SpRsp) (s s' : State) : Prop where
  sp : s'.sp n = { s.sp n with rdCr := (s.sp n).rdCr - 1 }
  out : s'.out = .spRsp n r.kind r.tid r.status r.tmo r.hm r.data :: s.out
  rest : s' = { s with sports := s'.sports, out := s'.out }

/-- A beat that is not a READ's is sent, and that is all. -/
theorem State.spEmit_plain (hk : r.kind ≠ 0) (hst : r.stamp = none) :
    s.spEmit n r = s.emit (.spRsp n r.kind r.tid r.status r.tmo r.hm r.data) := by
  unfold State.spEmit
  rw [if_neg hk]
  simp [hst]

/-- The port's state is stored twice: with the response that waits, and without it. -/
theorem Responds.of_stages {y : State} (hs : s.Tidy) (hrsps : (s.sp n).rsps = []) (hx : x = s.rspWaits n r)
    (hy : y = x.setSp n { x.sp n with rdCr := (x.sp n).rdCr - 1, rsps := [] }) :
    Responds n r s (y.emit (.spRsp n r.kind r.tid r.status r.tmo r.hm r.data)) := by
  have hxsp : x.sp n = { s.sp n with rsps := [r] } := by
    rw [hx, State.rspWaits, State.sp_setSp hs.sports, if_pos rfl]
  have hxrest : x = { s with sports := x.sports } := hx ▸ rfl
  have hxwf : Tab.wf (fun _ => SPort.init) x.sports = true := hx ▸ hs.setSp.sports
  have hysp : y.sp n = { x.sp n with rdCr := (x.sp n).rdCr - 1, rsps := [] } := by
    rw [hy, State.sp_setSp hxwf, if_pos rfl]
  have hyrest : y = { x with sports := y.sports } := hy ▸ rfl
  have hout : y.out = s.out := by rw [hyrest, hxrest]
  refine ⟨?_, congrArg (_ :: ·) hout, ?_⟩
  · change y.sp n = _
    rw [hysp, hxsp, ← hrsps]
  · rw [hyrest, hxrest]
    rfl

theorem State.spRespond_sent (hs : s.Tidy) (hup : s.spUp n = true) (hrsps : (s.sp n).rsps = []) (hcr : 0 < (s.sp n).rdCr)
    (hk : r.kind ≠ 0) (hst : r.stamp = none) : Responds n r s (s.spRespond n r) := by
  have hlink := State.link_of_spUp hup
  have hwait : (s.rspWaits n r).sp n = { s.sp n with rsps := [r] } := by
    rw [State.rspWaits, State.sp_setSp hs.sports, if_pos rfl]
  have hup' : (s.rspWaits n r).spUp n = true := by
    unfold State.spUp at hup ⊢
    rw [hwait]
    exact hup
  have hresp : s.spRespond n r = spDrain 1 n (s.rspWaits n r) := by
    unfold State.spRespond State.rspWaits
    simp only [hlink, hrsps, Bool.true_eq_false, if_false, List.nil_append, List.length_nil, Nat.zero_add]
  rw [hresp, spDrain_one (r := r) (by rw [hwait]) (by rw [hwait]; exact hcr) hup', State.spEmit_plain hk hst]
  exact .of_stages hs hrsps rfl rfl

/-- A response without data finds a credit. -/
theorem State.respond_plain {kind tid st : Nat} {d : Line} (hs : s.Tidy) (hup : s.spUp n = true) (hrsps : (s.sp n).rsps = [])
    (hcr : 0 < (s.sp n).rdCr) (hk : kind ≠ 0) :
    Responds n (plainRsp kind tid st d) s (s.spRespond n (plainRsp kind tid st d)) :=
  State.spRespond_sent hs hup hrsps hcr hk rfl

theorem State.sp_congr (h : s'.sports = s.sports) (n : Nat) : s'.sp n = s.sp n := by
  unfold State.sp
  rw [h]

end

/-! ### The oldest request passes, and its credits return (R465) -/

section
variable {s s' x : State} {n : Nat} {b : Bool} {p : SPort}

/-- What a port sends as a request leaves it. -/
def passCredits (n : Nat) (beat : Bool) (out : List Out) : List Out :=
  if beat then .spCredit n true 1 :: .spCredit n false 1 :: out else .spCredit n false 1 :: out

/-- A request has left its port. -/
structure Passes (n : Nat) (beat : Bool) (s s' : State) : Prop where
  out : s'.out = passCredits n beat s.out
  rest : s' = { s with sports := s'.sports, out := s'.out }

theorem State.giveCredit_ready (h : (s.sp n).ready = true) : s.giveCredit n b =
    (s.setSp n (if b then { s.sp n with wdCr := (s.sp n).wdCr + 1 } else { s.sp n with reqCr := (s.sp n).reqCr + 1 })).emit
      (.spCredit n b 1) := if_neg (by simp [h])

/-- A credit that a ready port gives leaves it ready. -/
theorem State.giveCredit_holds (hs : s.Tidy) (h : (s.sp n).ready = true) : ((s.giveCredit n b).sp n).ready = true ∧
    (s.giveCredit n b).out = .spCredit n b 1 :: s.out ∧
    s.giveCredit n b = { s with sports := (s.giveCredit n b).sports, out := (s.giveCredit n b).out } := by
  rw [State.giveCredit_ready h]
  refine ⟨?_, rfl, rfl⟩
  refine (congrArg SPort.ready ((State.sp_setSp hs.sports ..).trans (if_pos rfl))).trans ?_
  split <;> exact h

theorem Passes.of_stages {y : State} (hs : s.Tidy) (hx : x = s.setSp n p) (hp : p.ready = true) (hy : y = x.giveCredit n false) :
    Passes n b s (if b then y.giveCredit n true else y) := by
  have hxready : (x.sp n).ready = true := by
    rw [hx, State.sp_setSp hs.sports, if_pos rfl, hp]
  have hxtidy : x.Tidy := hx ▸ hs.setSp
  have hxrest : x = { s with sports := x.sports } := hx ▸ rfl
  obtain ⟨hyready, hyout, hyrest⟩ := State.giveCredit_holds (b := false) hxtidy hxready
  rw [← hy] at hyready hyout hyrest
  have hout : y.out = .spCredit n false 1 :: s.out := by rw [hyout, hxrest]
  have hytidy : y.Tidy := hy ▸ hxtidy.giveCredit
  obtain ⟨-, hzout, hzrest⟩ := State.giveCredit_holds (b := true) hytidy hyready
  cases b with
  | false => exact ⟨hout, by rw [if_neg (by decide), hyrest, hxrest]⟩
  | true => exact ⟨hzout.trans (by rw [hout]; rfl), by rw [if_pos rfl, hzrest, hyrest, hxrest]⟩

theorem State.portPass_ready (hs : s.Tidy) (hready : (s.sp n).ready = true) : Passes n b s (s.portPass n b) :=
  .of_stages (p := { s.sp n with
    held := (s.sp n).held.drop 1, beats := if b then (s.sp n).beats.drop 1 else (s.sp n).beats }) hs rfl hready rfl

end

/-! ### A request that a port serves as it comes -/

section
variable {s x y : State} {n : Nat} {w : BitVec 128}

/-- The request as a port holds it. -/
def State.heldReq (s : State) (n : Nat) (w : BitVec 128) : HeldReq :=
  { word := w, cfg := s.reg (spCfg n), may := s.mayCommand n (rqCtx w), id := (Req.mk0 (.port n) .rd 0).id,
    stamp := (Req.mk0 (.port n) .rd 0).stamp }

/-- A port that holds nothing else has taken a request. -/
def State.holding (s : State) (n : Nat) (w : BitVec 128) : State :=
  s.setSp n { s.sp n with reqCr := (s.sp n).reqCr - 1, held := [s.heldReq n w] }

/-- A request that is neither a READ nor a WRITE is held as it stands. -/
theorem State.portTake_plain (hk : 3 ≤ rqKind w) (hheld : (s.sp n).held = []) : s.portTake n w = s.holding n w := by
  have hline : ((rqKind w == 1 || rqKind w == 2) && !rqBad w) = false := by
    rw [Bool.and_eq_false_iff, Bool.or_eq_false_iff, beq_eq_false_iff_ne, beq_eq_false_iff_ne]
    omega
  unfold State.portTake
  rw [hline]
  simp only [Bool.false_eq_true, if_false, hheld, List.nil_append]
  rfl

theorem State.sp_holding (hs : s.Tidy) :
    (s.holding n w).sp n = { s.sp n with reqCr := (s.sp n).reqCr - 1, held := [s.heldReq n w] } := by
  rw [State.holding, State.sp_setSp hs.sports, if_pos rfl]

theorem State.Tidy.holding (h : s.Tidy) : (s.holding n w).Tidy := h.setSp

theorem State.PortTakes.holding_up (h : s.PortTakes n) (hs : s.Tidy) : (s.holding n w).spUp n = true := by
  have hsame : SamePort s (s.holding n w) := .setSp
  exact (hsame.spUp h.1 (by rw [State.sp_holding hs])).trans h.2.1

/-- An awake block has no use for a wake event of a port. -/
theorem State.portWake_awake (hpwr : s.pwr = .stable) (hst : s.pstate = 0) : s.portWake n true = s := by
  have hfires : wakeFires 2 0 = false := rfl
  unfold State.portWake State.wakeEvent
  simp [hpwr, hst, hfires]

/-- The one request that a port holds is served and passes on. -/
theorem State.portGo_one (hup : x.spUp n = true) (hstop : x.portsStopped = false) {e : HeldReq} (hheld : (x.sp n).held = [e])
    (hserve : x.portHandle n e (x.sp n).beats.head? = some y) : x.portGo n = y.portPass n (takesBeat e.word) := by
  unfold State.portGo
  rw [hheld]
  simp [portServe, hup, hstop, hheld, hserve]

/-- A request that a port can serve as it comes passes through it. -/
theorem State.PortTakes.request (h : s.PortTakes n) (hs : s.Tidy) (hk : 3 ≤ rqKind w) (hheld : (s.sp n).held = [])
    (hcr : 0 < (s.sp n).reqCr) (hserve : (s.holding n w).portHandle n (s.heldReq n w) (s.sp n).beats.head? = some y)
    (hsame : SamePort (s.holding n w) y) (hready : (y.sp n).ready = true) (hy : y.Tidy) :
    ∃ s', s.portRequest n w true = s' ∧ Passes n (takesBeat w) y s' := by
  have hup' : (s.holding n w).spUp n = true := State.PortTakes.holding_up h hs
  obtain ⟨hn, hup, hrdy, hstop, hpwr, hpst⟩ := h
  have hsp := State.sp_holding (n := n) (w := w) hs
  have hholding : SamePort s (s.holding n w) := .setSp
  have hup' : (s.holding n w).spUp n = true := (hholding.spUp hn (by rw [hsp])).trans hup
  have hgo := State.portGo_one (x := s.holding n w) (e := s.heldReq n w) hup' hstop (by rw [hsp]) (by rw [hsp]; exact hserve)
  have hpass : Passes n (takesBeat w) y (y.portPass n (takesBeat w)) := State.portPass_ready hy hready
  have hall : SamePort s (y.portPass n (takesBeat w)) :=
    (hholding.trans hsame).trans (.of_rest (by rw [hpass.rest]))
  have hwake : (y.portPass n (takesBeat w)).portWake n true = y.portPass n (takesBeat w) :=
    State.portWake_awake (by rw [hall.rest]; exact hpwr) (hall.pstate.trans hpst)
  refine ⟨_, ?_, hpass⟩
  unfold State.portRequest
  rw [if_neg (by simp [hn]), if_pos (by simp [hrdy, hcr]), State.portTake_plain hk hheld, hgo]
  exact hwake

end

end Sys2Proof.Machine
end

section
/-! Fast command packets (R182, R183, R185). -/

namespace Sys2Proof.Machine

section
variable {s x y : State} {n c st : Nat} {d : BitVec 256} {w : BitVec 128} {e : HeldReq} {b : HeldBeat} {v : Ctx}

/-- The request and the beat of a packet have no fault of their own (R182). -/
structure PacketClean (e : HeldReq) (b : HeldBeat) (d : BitVec 256) : Prop where
  word : rqBad e.word = false
  cfg : bitOf e.cfg 2 = true
  attr : bitsOf b.beat.attr 7 2 = 0
  data : b.beat.data.toNat < 2 ^ 256
  may : b.may = true
  eq : d = BitVec.ofNat 256 b.beat.data.toNat

theorem PacketClean.refused (h : PacketClean e b d) (hst : s.packetRefusal d true true = some st) :
    s.portPacket n e b = some (s.spRespond n (plainRsp 4 (bitsOf d 31 24) st 0)) := by
  unfold State.portPacket
  simp only [h.word, h.cfg, h.attr, h.data, h.may, ← h.eq, Bool.not_false, Bool.and_self, decide_true, hst]

theorem PacketClean.queued (h : PacketClean e b d) (hst : s.packetRefusal d true true = none)
    (hroom : (s.ctx (bitsOf d 11 0)).queue.length < 4) : s.portPacket n e b = some (s.queuePacket n d) := by
  unfold State.portPacket
  simp only [h.word, h.cfg, h.attr, h.data, h.may, ← h.eq, Bool.not_false, Bool.and_self, decide_true, hst]
  exact if_neg (Nat.not_le.mpr hroom)

/-- The context that a packet names is fast and the packet has no other fault: its run decides (R182). -/
theorem State.packetRefusal_run (hc : c = bitsOf d 11 0) (hhi : bitsOf d 63 32 = 0) (hlo : bitsOf d 15 12 = 0)
    (hn : c < s.variant.contexts) (hfast : s.fastNow c = true) : s.packetRefusal d true true =
      if (s.ctxState c ≠ 2 ∧ s.ctxState c ≠ 4) ∨ s.runEnded c = true then some 3 else none := by
  unfold State.packetRefusal
  rw [if_neg (by simp [hhi, hlo, ← hc, hfast, hn]), ← hc]

theorem State.servant_setCtx (h : Tab.wf (fun _ => Ctx.init) s.ctxs = true) (hcl : v.cluster = (s.ctx c).cluster) :
    (s.setCtx c v).servant c = s.servant c := by
  unfold State.servant
  rw [State.ctx_setCtx h, if_pos rfl, hcl]
  rfl

/-- The packet as it is queued. -/
def packetOf (n : Nat) (d : BitVec 256) : Packet := { sp := n, tag := bitsOf d 31 24, data := d, dead := false }
def Ctx.enqueue (x : Ctx) (p : Packet) : Ctx := { x with queue := x.queue ++ [p] }

/-- A packet of a context that no thread serves joins the queue (R183). -/
theorem State.queuePacket_unserved (hs : s.Tidy) (hserv : s.servant (bitsOf d 11 0) = none) :
    s.queuePacket n d = s.setCtx (bitsOf d 11 0) ((s.ctx (bitsOf d 11 0)).enqueue (packetOf n d)) := by
  have hnone : (s.setCtx (bitsOf d 11 0) ((s.ctx (bitsOf d 11 0)).enqueue (packetOf n d))).servant (bitsOf d 11 0) = none :=
    (State.servant_setCtx hs.ctxs (v := (s.ctx (bitsOf d 11 0)).enqueue (packetOf n d)) rfl).trans hserv
  unfold packetOf Ctx.enqueue at hnone ⊢
  simp only [State.queuePacket, hnone]

theorem exec_fastCommandPacket (hkind : rqKind w = 5) :
    exec (.fastCommandPacket n w) s = .next (s.portRequest n w true) := by
  change Host.Outcome.next (s.portRequest n w (rqKind w == 5)) = _
  rw [hkind]
  rfl

theorem State.portHandle_packet (hkind : rqKind e.word = 5) : s.portHandle n e (some b) = s.portPacket n e b := by
  unfold State.portHandle
  rw [hkind]
  rfl

/-- A packet whose beat is there is served as it comes. -/
theorem State.PortTakes.packet (h : s.PortTakes n) (hs : s.Tidy) (hkind : rqKind w = 5) (hheld : (s.sp n).held = [])
    (hcr : 0 < (s.sp n).reqCr) (hbeats : (s.sp n).beats = [b])
    (hserve : (s.holding n w).portPacket n (s.heldReq n w) b = some y) (hsame : SamePort (s.holding n w) y)
    (hready : (y.sp n).ready = true) (hy : y.Tidy) :
    ∃ s', exec (.fastCommandPacket n w) s = .next s' ∧ Passes n true y s' := by
  have hhandle : (s.holding n w).portHandle n (s.heldReq n w) (s.sp n).beats.head? = some y := by
    rw [hbeats]
    exact (State.portHandle_packet hkind).trans hserve
  obtain ⟨s', hreq, hpass⟩ := h.request hs (by omega) hheld hcr hhandle hsame hready hy
  have hbeat : takesBeat w = true := by simp [takesBeat, hkind]
  exact ⟨s', by rw [exec_fastCommandPacket hkind, hreq], hbeat ▸ hpass⟩

/-- A packet that is queued leaves its port with its beat. -/
theorem State.PortTakes.packet_queued (h : s.PortTakes n) (hs : s.Tidy) (hkind : rqKind w = 5) (hheld : (s.sp n).held = [])
    (hcr : 0 < (s.sp n).reqCr) (hbeats : (s.sp n).beats = [b]) (hclean : PacketClean (s.heldReq n w) b d)
    (hgo : (s.holding n w).packetRefusal d true true = none) (hc : c = bitsOf d 11 0) (hroom : (s.ctx c).queue.length < 4)
    (hserv : s.servant c = none) (hy : y = (s.holding n w).setCtx c ((s.ctx c).enqueue (packetOf n d))) :
    ∃ s', exec (.fastCommandPacket n w) s = .next s' ∧ Passes n true y s' := by
  subst hc
  have hready : (y.sp n).ready = true := by
    rw [hy, State.sp_congr (State.setCtx_sports ..) n, State.sp_holding hs]
    exact h.2.2.1
  have hserve := hclean.queued (n := n) hgo hroom
  rw [State.queuePacket_unserved hs.holding hserv] at hserve
  exact h.packet hs hkind hheld hcr hbeats (hserve.trans (congrArg some hy.symm)) (hy ▸ .of_rest rfl) hready
    (hy ▸ hs.holding.setCtx)

/-- A packet that is refused is answered, and leaves its port with its beat. -/
theorem State.PortTakes.packet_refused (h : s.PortTakes n) (hs : s.Tidy) (hkind : rqKind w = 5) (hheld : (s.sp n).held = [])
    (hcr : 0 < (s.sp n).reqCr) (hbeats : (s.sp n).beats = [b]) (hclean : PacketClean (s.heldReq n w) b d)
    (hgo : (s.holding n w).packetRefusal d true true = some st) (hrsps : (s.sp n).rsps = []) (hrd : 0 < (s.sp n).rdCr) :
    ∃ y s', exec (.fastCommandPacket n w) s = .next s' ∧
      Responds n (plainRsp 4 (bitsOf d 31 24) st 0) (s.holding n w) y ∧ Passes n true y s' := by
  have hsp := State.sp_holding (n := n) (w := w) hs
  have hresp := State.respond_plain (kind := 4) (tid := bitsOf d 31 24) (st := st) (d := 0) (hs.holding (w := w)) (h.holding_up hs)
    (by rw [hsp]; exact hrsps) (by rw [hsp]; exact hrd) (by decide)
  have hready : (((s.holding n w).spRespond n (plainRsp 4 (bitsOf d 31 24) st 0)).sp n).ready = true := by
    rw [hresp.sp, hsp]
    exact h.2.2.1
  obtain ⟨s', hexec, hpass⟩ := h.packet hs hkind hheld hcr hbeats (hclean.refused hgo) (.of_rest (by rw [hresp.rest])) hready
    hs.holding.spRespond
  exact ⟨_, s', hexec, hresp, hpass⟩

/-- An ended packet that owes no data is answered (R185). -/
theorem State.packetEnd_found {p : Packet × Nat} (hfind : (s.ctx c).ending.find? (fun e => !s.owesData e.1) = some p)
    (hdead : p.1.dead = false) : s.packetEnd c =
      (s.setCtx c { s.ctx c with ending := (s.ctx c).ending.erase p }).spRespond p.1.sp (plainRsp 4 p.1.tag p.2 0) := by
  unfold State.packetEnd State.packetRsp
  simp only [hfind, hdead, Bool.false_eq_true, if_false]

end

/-- Settles O36: a packet passes through its port into the queue, or is refused there; an ended packet is answered. -/
theorem fastPackets : Obligations.FastPackets := by
  unfold Obligations.FastPackets
  refine ⟨?packet, ?ended⟩
  case packet =>
    intro s n w b x hs htakes hkind hbad hheld hcr hbeats hbeat hmay hcfg hattr hdata d c hhi hlo hc hfast
    subst hbeat
    have htidy := (State.tidy_iff s).mpr hs
    have hclean : PacketClean (s.heldReq n w) x d := ⟨hbad, hcfg, hattr, hdata, hmay, rfl⟩
    have hjudge := State.packetRefusal_run (s := s.holding n w) (d := d) (c := c) rfl hhi hlo hc hfast
    refine ⟨fun hst hrun hroom hserv => ?queued, fun hne2 hne4 hrsps hrd => ?refused⟩
    case queued =>
      have hgo : ¬((s.ctxState c ≠ 2 ∧ s.ctxState c ≠ 4) ∨ s.runEnded c = true) := by
        simp only [hrun, Bool.false_eq_true, or_false]
        omega
      obtain ⟨y, hy⟩ : ∃ y, y = (s.holding n w).setCtx c ((s.ctx c).enqueue (packetOf n d)) := ⟨_, rfl⟩
      obtain ⟨s', hexec, hpass⟩ := htakes.packet_queued htidy hkind hheld hcr hbeats hclean (hjudge.trans (if_neg hgo)) rfl hroom
        hserv hy
      have hyrest : y = { s with ctxs := y.ctxs, sports := y.sports } := hy ▸ rfl
      have hyctx : ∀ m, y.ctx m = if m = c then (s.ctx c).enqueue (packetOf n d) else s.ctx m :=
        hy ▸ State.ctx_setCtx htidy.holding.ctxs c _
      have hctx : ∀ m, s'.ctx m = y.ctx m := State.ctx_congr (by rw [hpass.rest])
      refine ⟨s', hexec, ?_, fun m hm => ?_, ?_, ?_⟩
      · rw [hctx, hyctx, if_pos rfl]
        rfl
      · rw [hctx, hyctx, if_neg hm]
      · rw [hpass.out, hyrest]
        rfl
      · rw [hpass.rest, hyrest]
    case refused =>
      obtain ⟨y, s', hexec, hresp, hpass⟩ := htakes.packet_refused htidy hkind hheld hcr hbeats hclean
        (hjudge.trans (if_pos (.inl ⟨hne2, hne4⟩))) hrsps hrd
      refine ⟨s', hexec, ?_, ?_⟩
      · rw [hpass.rest, hresp.rest]
        rfl
      · rw [hpass.out, hresp.out]
        rfl
  case ended =>
    intro s c e hs hfind hdead hup hrsps hcr
    have htidy := (State.tidy_iff s).mpr hs
    obtain ⟨y, hy⟩ : ∃ y, y = s.setCtx c { s.ctx c with ending := (s.ctx c).ending.erase e } := ⟨_, rfl⟩
    have hyrest : y = { s with ctxs := y.ctxs } := hy ▸ rfl
    have hyctx : ∀ m, y.ctx m = if m = c then { s.ctx c with ending := (s.ctx c).ending.erase e } else s.ctx m :=
      hy ▸ State.ctx_setCtx htidy.ctxs c _
    have hysp : y.sp e.1.sp = s.sp e.1.sp := State.sp_congr (by rw [hyrest]) _
    have hresp := State.respond_plain (s := y) (tid := e.1.tag) (st := e.2) (d := 0) (hy ▸ htidy.setCtx) (by rw [hyrest]; exact hup)
      (hysp ▸ hrsps) (hysp ▸ hcr) (show 4 ≠ 0 by decide)
    have hexec : exec (.packetEnd c) s = .next (y.spRespond e.1.sp (plainRsp 4 e.1.tag e.2 0)) :=
      congrArg Host.Outcome.next (hy ▸ State.packetEnd_found hfind hdead)
    obtain ⟨s', hs'⟩ : ∃ s', y.spRespond e.1.sp (plainRsp 4 e.1.tag e.2 0) = s' := ⟨_, rfl⟩
    rw [hs'] at hresp hexec
    have hctx : ∀ m, s'.ctx m = y.ctx m := State.ctx_congr (by rw [hresp.rest])
    refine ⟨s', hexec, ?_, fun m hm => ?_, ?_, ?_, ?_⟩
    · rw [hctx, hyctx, if_pos rfl]
    · rw [hctx, hyctx, if_neg hm]
    · rw [hresp.out, hyrest]
      rfl
    · rw [hresp.sp, hysp]
    · rw [hresp.rest, hyrest]

end Sys2Proof.Machine
end

section
/-! Context commands of a stream port (R161, R163, R464). -/

namespace Sys2Proof.Machine

section
variable {s x y z s' : State} {n c a g st : Nat} {w : BitVec 128} {e : HeldReq} {bad : Bool}

theorem State.portHandle_cmd (hkind : rqKind e.word = 4) {b : Option HeldBeat} : s.portHandle n e b = some (s.portCtx n e) := by
  unfold State.portHandle
  rw [hkind]
  rfl

/-- The answer to a context command (R463, R464). -/
theorem State.cmdResult_eq (hn : rqCtx w < s.variant.contexts) : s.cmdResult n w st bad =
    s.spRespond n (plainRsp 2 (rqTid w) st (BitVec.ofNat 512 (b2n bad + 2 * s.ctxState (rqCtx w)))) := by
  unfold State.cmdResult
  rw [if_pos hn]

/-- A command that its port may not give is answered with a decode error (R464). -/
theorem State.portCtx_refused (h : e.may = false ∨ bitOf e.cfg 2 = false) : s.portCtx n e = s.cmdResult n e.word 2 true := by
  unfold State.portCtx
  refine if_pos ?_
  obtain h | h := h <;> simp [h]

/-- A command that its port may give is made, and answered. -/
theorem State.portCtx_permitted (hbad : rqBad e.word = false) (hcfg : bitOf e.cfg 2 = true)
    (hn : rqCtx e.word < s.variant.contexts) (hmay : e.may = true) :
    s.portCtx n e = (s.portCmd e.word).s.cmdResult n e.word 0 (s.portCmd e.word).ignored := by
  unfold State.portCtx
  exact if_neg (by simp [hbad, hcfg, hmay, hn])

/-- What a context command of a port leaves: the state `y` of the command, its answer and the credit that returns. -/
structure Answered (n : Nat) (w : BitVec 128) (st bad : Nat) (y s' : State) : Prop where
  out : s'.out = .spCredit n false 1 ::
    .spRsp n 2 (rqTid w) st false 0 (BitVec.ofNat 512 (bad + 2 * s'.ctxState (rqCtx w))) :: y.out
  rest : s' = { y with sports := s'.sports, out := s'.out }

/-- A context command passes through its port, answered with what its context then is. -/
theorem State.PortTakes.command (h : s.PortTakes n) (hs : s.Tidy) (hkind : rqKind w = 4) (hheld : (s.sp n).held = [])
    (hcr : 0 < (s.sp n).reqCr) (hrsps : (s.sp n).rsps = []) (hrd : 0 < (s.sp n).rdCr) (hn : rqCtx w < s.variant.contexts)
    (hserve : (s.holding n w).portCtx n (s.heldReq n w) = y.cmdResult n w st bad) (hsame : SamePort (s.holding n w) y)
    (hsports : y.sports = (s.holding n w).sports) (hy : y.Tidy) :
    ∃ s', s.portRequest n w true = s' ∧ Answered n w st (b2n bad) y s' := by
  have hsp : y.sp n = (s.holding n w).sp n := State.sp_congr hsports n
  have hhold := State.sp_holding (n := n) (w := w) hs
  have hvar : y.variant = s.variant := by
    rw [hsame.rest]
    rfl
  rw [State.cmdResult_eq (hvar ▸ hn)] at hserve
  have hup : y.spUp n = true := (hsame.spUp h.1 (by rw [hsp])).trans (h.holding_up hs)
  have hresp := State.respond_plain (kind := 2) (tid := rqTid w) (st := st)
    (d := BitVec.ofNat 512 (b2n bad + 2 * y.ctxState (rqCtx w))) hy hup (by rw [hsp, hhold]; exact hrsps)
    (by rw [hsp, hhold]; exact hrd) (by decide)
  obtain ⟨z, hz⟩ : ∃ z, y.spRespond n (plainRsp 2 (rqTid w) st (BitVec.ofNat 512 (b2n bad + 2 * y.ctxState (rqCtx w)))) = z :=
    ⟨_, rfl⟩
  rw [hz] at hserve hresp
  have hready : (z.sp n).ready = true := by
    rw [hresp.sp, hsp, hhold]
    exact h.2.2.1
  have hhandle : (s.holding n w).portHandle n (s.heldReq n w) (s.sp n).beats.head? = some z :=
    (State.portHandle_cmd hkind).trans (congrArg some hserve)
  obtain ⟨s', hreq, hpass⟩ := h.request hs (by omega) hheld hcr hhandle (hsame.trans (.of_rest (by rw [hresp.rest]))) hready
    (hz ▸ hy.spRespond)
  have hbeat : takesBeat w = false := by simp [takesBeat, hkind]
  rw [hbeat] at hpass
  have hrest : s' = { y with sports := s'.sports, out := s'.out } := by rw [hpass.rest, hresp.rest]
  have hstate : s'.ctxState (rqCtx w) = y.ctxState (rqCtx w) :=
    congrArg (bitsOf · 31 29) (State.reg_congr (by rw [hrest]) (by rw [hrest]) _)
  refine ⟨s', hreq, ?_, hrest⟩
  rw [hpass.out, hresp.out, hstate]
  rfl

/-- A command that changes registers of the context table alone is made through its port and answered. -/
theorem State.PortTakes.permitted (h : s.PortTakes n) (hs : s.Tidy) (hkind : rqKind w = 4) (hbad : rqBad w = false)
    (hheld : (s.sp n).held = []) (hcr : 0 < (s.sp n).reqCr) (hrsps : (s.sp n).rsps = []) (hrd : 0 < (s.sp n).rdCr)
    (hn : rqCtx w < s.variant.contexts) (hmay : s.mayCommand n (rqCtx w) = true) (hcfg : bitOf (s.reg (spCfg n)) 2 = true)
    (hcmd : (s.holding n w).portCmd w = ⟨y, bad⟩) (hregs : OnlyRegs (0x100000 ≤ ·) (s.holding n w) y) (hhist : y.hist = s.hist) :
    ∃ s', s.portRequest n w true = s' ∧ Answered n w 0 (b2n bad) y s' := by
  have hserve : (s.holding n w).portCtx n (s.heldReq n w) = y.cmdResult n w 0 bad :=
    (State.portCtx_permitted hbad hcfg hn hmay).trans (by rw [show (s.heldReq n w).word = w from rfl, hcmd])
  have hrest := hregs.rest_of_hist hhist
  have htidy : y.Tidy := by
    have hc := (hs.holding (n := n) (w := w)).portCmd (w := w)
    rw [hcmd] at hc
    exact hc.s
  exact h.command hs hkind hheld hcr hrsps hrd hn hserve (.of_regs hrest fun a ha => hregs.reg a (Nat.not_le.mpr ha))
    (by rw [hrest]) htidy

/-- A command that changes registers of the context table alone, made and answered: the answer, and what is left. -/
structure Commanded (n : Nat) (w : BitVec 128) (bad : Nat) (y s s' : State) : Prop where
  out : s'.out = .spCredit n false 1 ::
    .spRsp n 2 (rqTid w) 0 false 0 (BitVec.ofNat 512 (bad + 2 * s'.ctxState (rqCtx w))) :: s.out
  reg : ∀ a, s'.reg a = y.reg a
  rest : s' = { s with regs := s'.regs, sports := s'.sports, out := s'.out }

theorem Commanded.reg2 {k : Nat} (h : Commanded n w g y s s') : s'.reg2 k = y.reg2 k := by
  unfold State.reg2
  rw [h.reg, h.reg]

theorem Answered.commanded (h : Answered n w 0 g y s') (hregs : OnlyRegs (0x100000 ≤ ·) (s.holding n w) y)
    (hhist : y.hist = s.hist) : Commanded n w g y s s' := by
  have hrest := hregs.rest_of_hist hhist
  have hout : y.out = s.out := by
    rw [hrest]
    rfl
  refine ⟨hout ▸ h.out, State.reg_congr (by rw [h.rest]) (by rw [h.rest]), ?_⟩
  rw [h.rest, hrest]
  rfl

/-! ### The commands of a port (R163) -/

theorem rqLine_addr_lt (w : BitVec 128) : 64 * rqLine w < 2 ^ 46 := by
  unfold rqLine bitsOf
  omega

theorem rqGen_lt (w : BitVec 128) : rqGen w < 65536 := by
  unfold rqGen bitsOf
  omega

theorem exec_portCommand {i : Instr} (hkind : rqKind w = 4) (hi : (i, rqCmd w) ∈ [(Instr.kick (.port n w), 3),
    (.abort (.port n w), 4), (.clear (.port n w), 5), (.append (.port n w), 6), (.setHead n w, 7)]) :
    exec i s = .next (s.portRequest n w true) := by
  have hreq : ∀ k, rqCmd w = k → s.cmdRequest n w k = s.portRequest n w true := fun k hk => by
    simp [State.cmdRequest, hkind, hk]
  simp only [List.mem_cons, Prod.mk.injEq, List.not_mem_nil, or_false] at hi
  obtain ⟨rfl, hk⟩ | ⟨rfl, hk⟩ | ⟨rfl, hk⟩ | ⟨rfl, hk⟩ | ⟨rfl, hk⟩ := hi
  all_goals exact congrArg Host.Outcome.next (hreq _ hk)

theorem State.portCmd_clear (h : rqCmd w = 5) : s.portCmd w = s.cmdClear (rqCtx w) := by
  unfold State.portCmd
  rw [h]
  rfl

theorem State.portCmd_kick (h : rqCmd w = 3) : s.portCmd w = s.cmdKick (rqCtx w) := by
  unfold State.portCmd
  rw [h]
  rfl

theorem State.portCmd_append (h : rqCmd w = 6) : s.portCmd w = s.cmdAppend (rqCtx w) (64 * rqLine w) (rqGen w) := by
  unfold State.portCmd
  rw [h]
  rfl

theorem State.portCmd_setHead (h : rqCmd w = 7) : s.portCmd w = s.cmdSetHead (rqCtx w) (64 * rqLine w) := by
  unfold State.portCmd
  rw [h]
  rfl

/-- A KICK of a context that is not IDLE is ignored. -/
theorem State.cmdKick_ignored (h : s.ctxState c ≠ 1) : s.cmdKick c = s.noEffect c := if_pos (.inl h)

/-- The tail that APPEND stores: the low 48 bits of the two words are its address, the others its generation. -/
theorem State.append_stores (hs : s.Tidy) (hx : x = s.setReg2 (ctxBase c + 0x18) a) (hy : y = x.setFld (ctxBase c + 0x1C) 31 16 g) :
    OnlyRegs (fun b => b = ctxBase c + 0x18 ∨ b = ctxBase c + 0x1C) s y ∧ y.hist = s.hist ∧
      y.reg2 (ctxBase c + 0x18) % 2 ^ 48 = a % 2 ^ 48 ∧ y.tailGen c = g % 65536 := by
  have hxregs : OnlyRegs (fun b => b = ctxBase c + 0x18 ∨ b = ctxBase c + 0x1C) s x :=
    hx ▸ (OnlyRegs.refl hs.regs).setReg2 (.inl rfl) (.inr rfl)
  have hxtidy : x.Tidy := hx ▸ hs.setReg2
  have hx0 : x.reg (ctxBase c + 0x18) = BitVec.ofNat 32 a := by
    rw [hx, State.reg_setReg2 hs.regs, if_neg (by omega), if_pos rfl]
  have hx4 : x.reg (ctxBase c + 0x1C) = BitVec.ofNat 32 (a / 2 ^ 32) := by
    rw [hx, State.reg_setReg2 hs.regs, if_pos rfl]
  have hy0 : y.reg (ctxBase c + 0x18) = BitVec.ofNat 32 a := by
    rw [hy, State.reg_setFld hxtidy.regs, if_neg (by omega), hx0]
  have hy4 : y.reg (ctxBase c + 0x1C) = putBits (BitVec.ofNat 32 (a / 2 ^ 32)) 31 16 g := by
    rw [hy, State.reg_setFld hxtidy.regs, if_pos rfl, hx4]
  refine ⟨hy ▸ hxregs.setFld (.inr rfl), by rw [hy, State.setFld_hist, hx, State.setReg2_hist], ?_, ?_⟩
  · have hlow := bitsOf_putBits_below (BitVec.ofNat 32 (a / 2 ^ 32)) (hi := 31) (lo := 16) (h := 15) (l := 0) (by decide)
      (by decide) g (by decide)
    unfold State.reg2
    rw [hy0, hy4]
    simp only [bitsOf, BitVec.toNat_ofNat] at hlow ⊢
    omega
  · exact (congrArg (bitsOf · 31 16) hy4).trans (bitsOf_putBits _ (by decide) (by decide) g)

theorem State.cmdAppend_busy (hs : s.Tidy) (hst : s.ctxState c ≠ 1) :
    s.cmdAppend c a g = .ok ((s.setReg2 (ctxBase c + 0x18) a).setFld (ctxBase c + 0x1C) 31 16 g) := by
  obtain ⟨hregs, -, -, -⟩ := State.append_stores (c := c) (a := a) (g := g) hs rfl rfl
  have hstate : ((s.setReg2 (ctxBase c + 0x18) a).setFld (ctxBase c + 0x1C) 31 16 g).ctxState c ≠ 1 :=
    fun h => hst ((congrArg (bitsOf · 31 29) (hregs.reg _ (by omega))).symm.trans h)
  exact congrArg CmdRes.ok (State.rearmCheck_busy hstate)

end

/-- Settles O35: a command passes through its port, is made where it is permitted, and is answered (bit 0 of the answer to a
refused command is 1, log entry 49). -/
theorem portCommands : Obligations.PortCommands := by
  unfold Obligations.PortCommands
  intro s n w i hs htakes hkind hbad hheld hcr hrsps hrd hn hi c answered
  have htidy := (State.tidy_iff s).mpr hs
  have hexec : exec i s = .next (s.portRequest n w true) := exec_portCommand hkind hi
  have hhold : (s.holding n w).Tidy := htidy.holding
  have hreg : ∀ a, (s.holding n w).reg a = s.reg a := State.reg_congr rfl rfl
  have hstate : (s.holding n w).ctxState c = s.ctxState c := congrArg (bitsOf · 31 29) (hreg _)
  have hrefl : OnlyRegs (0x100000 ≤ ·) (s.holding n w) (s.holding n w) := .refl hhold.regs
  have hle : 0x100000 ≤ ctxBase c := le_ctxBase
  refine ⟨fun hno => ?refused, fun hmay hcfg => ?permitted⟩
  case refused =>
    obtain ⟨s', hreq, hans⟩ := htakes.command htidy hkind hheld hcr hrsps hrd hn
      (State.portCtx_refused (e := s.heldReq n w) hno) (.of_rest rfl) rfl hhold
    refine ⟨s', by rw [hexec, hreq], hans.out, ?_, ?_, ?_⟩
    all_goals
      rw [hans.rest]
      rfl
  case permitted =>
    have hmake : ∀ {y : State} {bad : Bool}, (s.holding n w).portCmd w = ⟨y, bad⟩ →
        OnlyRegs (0x100000 ≤ ·) (s.holding n w) y → y.hist = s.hist →
        ∃ s', exec i s = .next s' ∧ Commanded n w (b2n bad) y s s' := fun hcmd hregs hhist => by
      obtain ⟨s', hreq, hans⟩ := htakes.permitted htidy hkind hbad hheld hcr hrsps hrd hn hmay hcfg hcmd hregs hhist
      exact ⟨s', by rw [hexec, hreq], hans.commanded hregs hhist⟩
    refine ⟨?head, ?clear, ?kick, ?append⟩
    case head =>
      rintro rfl
      have hcode : rqCmd w = 7 := by simpa using hi
      obtain ⟨y, hy⟩ : ∃ y, (s.holding n w).setReg2 (ctxBase c + 0x10) (64 * rqLine w) = y := ⟨_, rfl⟩
      obtain ⟨s', hnext, hdone⟩ := hmake ((State.portCmd_setHead hcode).trans (congrArg CmdRes.ok hy))
        (hy ▸ hrefl.setReg2 (by omega) (by omega)) (hy ▸ State.setReg2_hist ..)
      refine ⟨s', hnext, hdone.out, ?_, fun a h0 h4 => ?_, hdone.rest⟩
      · rw [hdone.reg2, ← hy]
        exact State.reg2_setReg2 hhold.regs (Nat.lt_trans (rqLine_addr_lt w) (by decide))
      · rw [hdone.reg, ← hy, State.reg_setReg2_ne hhold.regs h0 h4, hreg]
    case clear =>
      rintro rfl hst
      have hcode : rqCmd w = 5 := by simpa using hi
      obtain ⟨v, hv⟩ : ∃ v, clearedStatus ((s.holding n w).status c) = v := ⟨_, rfl⟩
      obtain ⟨y, hy⟩ : ∃ y, (s.holding n w).setStatus c v = y := ⟨_, rfl⟩
      obtain ⟨s', hnext, hdone⟩ := hmake ((State.portCmd_clear hcode).trans
        ((State.cmdClear_halted hhold.regs (hstate.trans hst)).trans (congrArg CmdRes.ok (hv ▸ hy))))
        (hy ▸ hrefl.setReg (by omega)) (hy ▸ State.setReg_hist ..)
      have hword : s'.reg (ctxBase c + 4) = v := by rw [hdone.reg, ← hy, State.reg_setReg_self hhold.regs]
      obtain ⟨hidle, hcause, -⟩ := hv ▸ clearedStatus_fields (w := (s.holding n w).status c)
      exact ⟨s', hnext, hdone.out, (congrArg (bitsOf · 31 29) hword).trans hidle,
        (congrArg (bitsOf · 15 8) hword).trans hcause, hdone.rest⟩
    case kick =>
      rintro rfl hst
      have hcode : rqCmd w = 3 := by simpa using hi
      obtain ⟨v, hv⟩ : ∃ v, putBits ((s.holding n w).status c) 23 23 1 = v := ⟨_, rfl⟩
      obtain ⟨y, hy⟩ : ∃ y, (s.holding n w).setStatus c v = y := ⟨_, rfl⟩
      obtain ⟨s', hnext, hdone⟩ := hmake ((State.portCmd_kick hcode).trans
        ((State.cmdKick_ignored (hstate.trans_ne hst)).trans (congrArg (CmdRes.mk · true) (hv ▸ hy))))
        (hy ▸ hrefl.setReg (by omega)) (hy ▸ State.setReg_hist ..)
      have hword : s'.reg (ctxBase c + 4) = v := by rw [hdone.reg, ← hy, State.reg_setReg_self hhold.regs]
      obtain ⟨hkept, hbit⟩ := hv ▸ ignoredStatus_fields (w := (s.holding n w).status c)
      exact ⟨s', hnext, hdone.out, (congrArg (bitOf · 23) hword).trans hbit,
        (congrArg (bitsOf · 31 29) hword).trans (hkept.trans hstate), hdone.rest⟩
    case append =>
      rintro rfl hst
      have hcode : rqCmd w = 6 := by simpa using hi
      obtain ⟨x, hx⟩ : ∃ x, x = (s.holding n w).setReg2 (ctxBase c + 0x18) (64 * rqLine w) := ⟨_, rfl⟩
      obtain ⟨y, hy⟩ : ∃ y, y = x.setFld (ctxBase c + 0x1C) 31 16 (rqGen w) := ⟨_, rfl⟩
      obtain ⟨hregs, hhist, haddr, hgen⟩ := State.append_stores hhold hx hy
      obtain ⟨s', hnext, hdone⟩ := hmake ((State.portCmd_append hcode).trans
        ((State.cmdAppend_busy hhold (hstate.trans_ne hst)).trans (congrArg CmdRes.ok (hx ▸ hy.symm))))
        (hregs.mono fun a ha => by omega) hhist
      refine ⟨s', hnext, hdone.out, ?_, ?_, hdone.rest⟩
      · rw [hdone.reg2]
        exact haddr.trans (Nat.mod_eq_of_lt (Nat.lt_trans (rqLine_addr_lt w) (by decide)))
      · exact (congrArg (bitsOf · 31 16) (hdone.reg _)).trans (hgen.trans (Nat.mod_eq_of_lt (rqGen_lt w)))

end Sys2Proof.Machine
end

section
/-! Reports: the record of a run that has ended (R178, R179), the threads that waited for it (R187), and the end of the
report. -/

namespace Sys2Proof.Machine

/-! ### Tables whose values are all changed -/

section
variable {α β : Type} [DecidableEq β] {d : α} {e : β} {f : α → β}

theorem tget_cons (j : Nat) (v : α) (t : Tab α) (k : Nat) : tget d ((j, v) :: t) k = if j = k then v else tget d t k := by
  simp only [tget, tfind]
  split <;> rfl

theorem tmap_cons (j : Nat) (v : α) (t : Tab α) :
    tmap e f ((j, v) :: t) = if f v = e then tmap e f t else (j, f v) :: tmap e f t := by
  unfold tmap
  simp only [List.map_cons, List.filter_cons, ne_eq, decide_not, Bool.not_eq_true', decide_eq_false_iff_not, ite_not]

/-- What a table reads whose values are all changed by a function that keeps the default. -/
theorem tget_tmap (hf : f d = e) {t : Tab α} {lo : Nat} (h : keysAbove lo t = true) (k : Nat) :
    tget e (tmap e f t) k = f (tget d t k) := by
  induction t generalizing lo with
  | nil => exact hf.symm
  | cons x t ih =>
    obtain ⟨j, v⟩ := x
    obtain ⟨-, htail⟩ := Bool.and_eq_true_iff.mp h
    rw [tmap_cons, tget_cons]
    split
    · next hv =>
      rw [ih htail]
      split
      · next hj =>
        subst hj
        have hnone : tget d t j = d := by
          unfold tget
          rw [tfind_below htail (Nat.lt_succ_self j)]
          rfl
        rw [hnone, hf, hv]
      · rfl
    · rw [tget_cons, ih htail]
      split <;> rfl

end

section
variable {s x y s' : State} {c o : Nat} {th : Thread}

/-! ### The threads that waited for a report (R187) -/

/-- A thread that waited for the report of a context waits no more. -/
def Thread.slotTaken (c : Nat) (th : Thread) : Thread :=
  if th.wait = .runSlot c then { th with wait := .none, st := if th.st = .wait then .idle else th.st } else th

theorem Thread.slotTaken_self (h : th.wait = .runSlot c) : (th.slotTaken c).wait = .none := by
  rw [Thread.slotTaken, if_pos h]

theorem Thread.slotTaken_other (h : th.wait ≠ .runSlot c) : th.slotTaken c = th := if_neg h

theorem State.slotTaken_thr (h : s.Tidy) (u : ThreadRef) : (s.slotTaken c).thr u = (s.thr u).slotTaken c :=
  tget_tmap (d := Thread.init) (f := Thread.slotTaken c) rfl (Tab.wf_keys h.threads) _

/-! ### The record is written (R178, R179) -/

/-- The report of a run has begun. -/
def Ctx.reporting (x : Ctx) : Ctx := { x with counted := true, rep := 1 }

theorem State.runReport_record (hrun : s.running = true) (hout : (s.ctx c).outcome = some o) (hrep : (s.ctx c).rep = 0)
    (hfence : s.runFenced c = true) (hroom : s.reports (s.ctx c).cluster < 32) (hrec : s.flag (ctxBase c + 8) 30 = true)
    (hmay : s.mayEnter (s.recordReq c) = true) :
    s.runReport c = ((s.setCtx c (s.ctx c).reporting).slotTaken c).writeRecord c := by
  have hgo : ¬(s.running = false ∨ (s.ctx c).outcome = none ∨ (s.ctx c).rep ≠ 0 ∨ s.runFenced c = false ∨
      ((s.ctx c).counted = false ∧ s.reports (s.ctx c).cluster ≥ 32) ∨
      (s.flag (ctxBase c + 8) 30 = true ∧ s.mayEnter (s.recordReq c) = false)) := by
    simp [hrun, hout, hrep, hfence, hroom, hmay]
  exact (if_neg hgo).trans (if_pos hrec)

/-- The record depends on the registers, the time base and the outcome of the run. -/
theorem State.recordReq_congr (hregs : y.regs = s.regs) (hvar : y.variant = s.variant) (htime : y.tbase = s.tbase)
    (hctx : y.ctx c = (s.ctx c).reporting) : y.recordReq c = s.recordReq c := by
  have hreg : ∀ a, y.reg a = s.reg a := State.reg_congr hregs hvar
  have hrec : y.recordOf c = s.recordOf c := by
    unfold State.recordOf State.fld
    simp only [hreg, hctx, htime]
    rfl
  have haddr : y.reg2 (ctxBase c + 0x20) = s.reg2 (ctxBase c + 0x20) := by
    unfold State.reg2
    rw [hreg, hreg]
  unfold State.recordReq
  rw [hrec, haddr]

/-- What the begin of a report leaves. -/
structure ReportBegins (c : Nat) (s s' : State) : Prop where
  ctx : ∀ m, s'.ctx m = if m = c then (s.ctx c).reporting else s.ctx m
  pool : s'.pool.map Req.asks = s.pool.map Req.asks ++ [(s.recordReq c).asks]
  thr : ∀ u, s'.thr u = (s.thr u).slotTaken c
  out : s'.out = s.out

theorem ReportBegins.of_stages (hs : s.Tidy) (hx : x = s.setCtx c (s.ctx c).reporting) (hy : y = x.slotTaken c) :
    ReportBegins c s (y.writeRecord c) := by
  have hxtidy : x.Tidy := hx ▸ hs.setCtx
  have hxrest : x = { s with ctxs := x.ctxs } := hx ▸ rfl
  have hxctx : ∀ m, x.ctx m = if m = c then (s.ctx c).reporting else s.ctx m := hx ▸ State.ctx_setCtx hs.ctxs c _
  have hytidy : y.Tidy := hy ▸ hxtidy.slotTaken
  have hyrest : y = { x with threads := y.threads } := hy ▸ rfl
  have hythr : ∀ u, y.thr u = (x.thr u).slotTaken c := hy ▸ State.slotTaken_thr hxtidy
  have hyctx : ∀ m, y.ctx m = x.ctx m := State.ctx_congr (by rw [hyrest])
  have hreq : y.recordReq c = s.recordReq c := by
    refine State.recordReq_congr ?_ ?_ ?_ ((hyctx c).trans ((hxctx c).trans (if_pos rfl)))
    all_goals rw [hyrest, hxrest]
  have henters : Enters y (y.writeRecord c) := State.enter_enters hytidy.regs (Nat.mod_lt _ (by decide))
  refine ⟨fun m => ?_, ?_, fun u => ?_, ?_⟩
  · rw [State.ctx_congr henters.ctxs, hyctx, hxctx]
  · unfold State.writeRecord
    rw [State.enter_pool_asks, hreq, hyrest, hxrest]
  · have hxthr : x.thr u = s.thr u := State.thr_congr (by rw [hxrest]) u
    rw [henters.thr, hythr, hxthr]
  · rw [henters.rest, hyrest, hxrest]

theorem State.runReport_begins (hs : s.Tidy) : ReportBegins c s (((s.setCtx c (s.ctx c).reporting).slotTaken c).writeRecord c) :=
  .of_stages hs rfl rfl

/-! ### The end of a report (R178) -/

section
variable {w : W32} {st cause : Nat} {late : Bool}

/-- The fields of a reported status are those stored. -/
theorem reportedStatus_fields (hst : st < 8) (ho : o < 4) (hcause : cause < 256) :
    bitsOf (reportedStatus w st o cause late) 31 29 = st ∧ bitsOf (reportedStatus w st o cause late) 28 27 = o ∧
      bitOf (reportedStatus w st o cause late) 26 = late ∧ bitsOf (reportedStatus w st o cause late) 15 8 = cause := by
  have hlate : bitsOf (reportedStatus w st o cause late) 26 26 = b2n late := by
    have hlt : b2n late < 2 := by cases late <;> decide
    simp [reportedStatus, bitsOf_putBits, bitsOf_putBits_above, Nat.mod_eq_of_lt hlt]
  refine ⟨?_, ?_, ?_, ?_⟩
  · simp [reportedStatus, bitsOf_putBits, bitsOf_putBits_above, Nat.mod_eq_of_lt hst]
  · simp [reportedStatus, bitsOf_putBits, bitsOf_putBits_above, Nat.mod_eq_of_lt ho]
  · rw [bitOf_eq_bitsOf, hlate]
    cases late <;> rfl
  · simp [reportedStatus, bitsOf_putBits, Nat.mod_eq_of_lt hcause]

theorem State.setReported (h : Tab.wf (resetWord s.variant) s.regs = true) :
    (((s.setCtxState c st).setFld (ctxBase c + 4) 28 27 o).setFlag (ctxBase c + 4) 26 late).setFld (ctxBase c + 4) 15 8 cause =
      s.setStatus c (reportedStatus (s.status c) st o cause late) := by
  change (((s.setReg (ctxBase c + 4) (putBits (s.status c) 31 29 st)).setFld _ 28 27 o).setFlag _ 26 late).setFld _ 15 8 cause = _
  rw [State.setReg_setFld h, State.setReg_setFlag h, State.setReg_setFld h]
  rfl

/-- A context whose run is reported. -/
def Ctx.reported (x : Ctx) : Ctx := { x with outcome := none, cause := 0, late := false, rep := 0, counted := false }

/-- STATE of a context whose run has been reported with an outcome (R178). -/
def reportState (o : Nat) : Nat := if o = 3 then 5 else 1

theorem reportState_lt : reportState o < 8 := by
  unfold reportState
  split <;> decide

/-- CTX_STATUS of a context whose run has been reported. -/
def State.reportWord (s : State) (c o : Nat) : W32 :=
  reportedStatus (s.status c) (reportState o) o (s.ctx c).cause (s.ctx c).late

/-- The end of a report without an event or an interrupt: STATUS and the hidden part are stored, and the context may be
armed again. -/
theorem State.reportEnd_quiet (hs : s.Tidy) (hout : (s.ctx c).outcome = some o) (h29 : s.flag (ctxBase c + 8) 29 = false)
    (h28 : s.flag (ctxBase c + 8) 28 = false) (hx : x = s.setStatus c (s.reportWord c o))
    (hy : y = x.setCtx c (s.ctx c).reported) : s.reportEnd c = y.rearmCheck c := by
  have hxflag : ∀ i, x.flag (ctxBase c + 8) i = s.flag (ctxBase c + 8) i := fun i =>
    congrArg (bitOf · i) (hx ▸ (State.reg_setReg hs.regs ..).trans (if_neg (by omega)))
  have hyflag : ∀ i, y.flag (ctxBase c + 8) i = s.flag (ctxBase c + 8) i := fun i =>
    (congrArg (bitOf · i) (hy ▸ State.reg_congr rfl rfl (ctxBase c + 8))).trans (hxflag i)
  have hword := State.setReported (c := c) (st := reportState o) (o := o) (late := (s.ctx c).late) (cause := (s.ctx c).cause) hs.regs
  unfold State.reportEnd
  extract_lets v k b s1 s2 s3 s4 s5
  have hk : k = o := by simp [k, v, hout]
  have hs2 : s2 = x := by
    rw [hx]
    clear_value k
    subst hk
    exact hword
  have hs3 : s3 = y := by
    rw [hy, ← hs2]
    rfl
  have hs4 : s4 = y := by
    rw [← hs3]
    exact if_neg (by rw [hs3, hyflag, h29]; decide)
  have hs5 : s5 = y := by
    rw [← hs4]
    exact if_neg (by rw [hs4, hyflag, h28]; decide)
  rw [hs5]

/-- What the end of a report leaves (R178). -/
structure ReportEnds (c o : Nat) (s s' : State) : Prop where
  word : s'.reg (ctxBase c + 4) = s.reportWord c o
  reg : ∀ a, a ≠ ctxBase c + 4 → s'.reg a = s.reg a
  ctx : ∀ m, s'.ctx m = if m = c then (s.ctx c).reported else s.ctx m
  rest : s' = { s with regs := s'.regs, ctxs := s'.ctxs }

theorem ReportEnds.of_stages (hs : s.Tidy) (hx : x = s.setStatus c (s.reportWord c o)) (hy : y = x.setCtx c (s.ctx c).reported) :
    ReportEnds c o s y := by
  have hxreg : ∀ a, x.reg a = if a = ctxBase c + 4 then s.reportWord c o else s.reg a := hx ▸ State.reg_setReg hs.regs _ _
  have hxrest : x = { s with regs := x.regs } := hx ▸ State.setReg_rest ..
  have hxtidy : x.Tidy := hx ▸ hs.setReg
  have hyreg : ∀ a, y.reg a = x.reg a := hy ▸ State.reg_congr rfl rfl
  have hyrest : y = { x with ctxs := y.ctxs } := hy ▸ rfl
  have hyctx : ∀ m, y.ctx m = if m = c then (s.ctx c).reported else x.ctx m := hy ▸ State.ctx_setCtx hxtidy.ctxs c _
  have hxctx : ∀ m, x.ctx m = s.ctx m := State.ctx_congr (by rw [hxrest])
  refine ⟨?_, fun a ha => ?_, fun m => ?_, ?_⟩
  · rw [hyreg, hxreg, if_pos rfl]
  · rw [hyreg, hxreg, if_neg ha]
  · rw [hyctx, hxctx]
  · rw [hyrest, hxrest]

/-- A context whose chain the run has read to its end, or whose run did not end as done, is not armed again (R170). -/
theorem ReportEnds.not_rearmed (h : ReportEnds c o s y) (ho : o < 4) (hcause : (s.ctx c).cause < 256)
    (hend : o ≠ 1 ∨ s.tailGen c = s.seenGen c) : y.rearmCheck c = y := by
  obtain ⟨-, hlast, -, -⟩ := reportedStatus_fields (w := s.status c) (st := reportState o) (late := (s.ctx c).late)
    reportState_lt ho hcause
  have hrun : y.fld (ctxBase c + 4) 28 27 = o := (congrArg (bitsOf · 28 27) h.word).trans hlast
  have htail : y.tailGen c = s.tailGen c := congrArg (bitsOf · 31 16) (h.reg _ (by omega))
  have hseen : y.seenGen c = s.seenGen c := congrArg (bitsOf · 31 16) (h.reg _ (by omega))
  have hno : y.rearmable c = false := by
    unfold State.rearmable
    rw [hrun, htail, hseen]
    obtain hend | hend := hend <;> simp [hend]
  unfold State.rearmCheck
  rw [hno, if_neg (by decide)]

theorem State.reportEnd_ends (hs : s.Tidy) (hout : (s.ctx c).outcome = some o) (ho : o < 4) (hcause : (s.ctx c).cause < 256)
    (h29 : s.flag (ctxBase c + 8) 29 = false) (h28 : s.flag (ctxBase c + 8) 28 = false)
    (hend : o ≠ 1 ∨ s.tailGen c = s.seenGen c) : ReportEnds c o s (s.reportEnd c) := by
  have hends : ReportEnds c o s ((s.setStatus c (s.reportWord c o)).setCtx c (s.ctx c).reported) := .of_stages hs rfl rfl
  rw [State.reportEnd_quiet hs hout h29 h28 rfl rfl, hends.not_rearmed ho hcause hend]
  exact hends

/-- COMPLETION_RECORD of a record that has met FENCE.P ends the report. -/
theorem State.completionRecord_ends (hrun : s.running = true) (hout : (s.ctx c).outcome = some o) (hrep : (s.ctx c).rep = 1)
    (hpulses : (s.ctx c).pulses = []) (hadm : s.recordAdmitted c = true) : s.completionRecord c = s.reportEnd c := by
  unfold State.completionRecord
  simp only [hpulses, hrun, hout, hrep, hadm, Option.isSome_some, and_self, if_true]

end

end

/-- Settles O28: the record of a run is written and wakes those that wait; its end stores the report. -/
theorem reports : Obligations.Reports := by
  unfold Obligations.Reports
  intro s c o hs hrun hout ho hcause
  have htidy := (State.tidy_iff s).mpr hs
  refine ⟨?begins, ?ends⟩
  case begins =>
    intro hrep hfence hroom hrec hmay a
    have hexec : exec (.runReport c) s = _ :=
      congrArg Host.Outcome.next (State.runReport_record hrun hout hrep hfence hroom hrec hmay)
    have hbegins := State.runReport_begins (c := c) htidy
    refine ⟨_, hexec, ?_, fun m hm => ?_, hbegins.pool, fun u hu => ?_, fun u hu => ?_, hbegins.out⟩
    · rw [hbegins.ctx, if_pos rfl]
      rfl
    · rw [hbegins.ctx, if_neg hm]
    · rw [hbegins.thr, Thread.slotTaken_other hu]
    · rw [hbegins.thr, Thread.slotTaken_self hu]
  case ends =>
    intro hrep hpulses hadm h29 h28 hend
    have hexec : exec (.completionRecord c) s = _ :=
      congrArg Host.Outcome.next (State.completionRecord_ends hrun hout hrep hpulses hadm)
    obtain ⟨s', hs'⟩ : ∃ s', s.reportEnd c = s' := ⟨_, rfl⟩
    have hends := hs' ▸ State.reportEnd_ends htidy hout ho hcause h29 h28 hend
    obtain ⟨hstate, hlast, hlate, hcauses⟩ := reportedStatus_fields (w := s.status c) (st := reportState o)
      (late := (s.ctx c).late) reportState_lt ho hcause
    refine ⟨s', hexec.trans (congrArg _ hs'), (congrArg (bitsOf · 31 29) hends.word).trans hstate,
      (congrArg (bitsOf · 28 27) hends.word).trans hlast, (congrArg (bitsOf · 15 8) hends.word).trans hcauses,
      (congrArg (bitOf · 26) hends.word).trans hlate, ?_, fun m hm => ?_, hends.reg, hends.rest⟩
    · rw [hends.ctx, if_pos rfl]
      rfl
    · rw [hends.ctx, if_neg hm]

end Sys2Proof.Machine
end

section
/-! Descriptors: their arrival (R167, R292), and NEXTD (R168, R184). -/

namespace Sys2Proof.Machine

/-! ### A descriptor that has arrived (R166, R167) -/

section
variable {s x y z : State} {c d : Nat} {t : ThreadRef} {a : Arrival} {st : Stamp} {l : List Arrival} {th : Thread} {b : Bool}

/-- The misses and the greatest delay of a charm with those of one more read (R292). -/
def State.sampleOf (s : State) (st : Stamp) : Nat × Nat :=
  ((tget (0, 0) s.charmAcc st.charm).1 + b2n (decide (st.charm ≠ 0 ∧ st.cls ≠ 0 ∧ (s.tbase - st.entry).toNat > st.target)),
    max (tget (0, 0) s.charmAcc st.charm).2 (min 16777215 (s.tbase - st.entry).toNat))

/-- The read is gathered where its charm is sampled. -/
def State.sampled (s : State) (st : Stamp) : State :=
  if s.fld 0x3028 15 0 = 0 then s
  else { s with charmAcc := tset (0, 0) s.charmAcc st.charm (s.sampleOf st) }

/-- A miss that is reported. -/
def State.missed (s : State) (st : Stamp) : Bool :=
  decide (st.charm ≠ 0 ∧ st.cls ≠ 0 ∧ (s.tbase - st.entry).toNat > st.target) && !st.overBudget && !st.degraded

/-- The bit of MISS of a charm is set. -/
def State.setMiss (s : State) (st : Stamp) : State := s.setFlag (0x3018 + 4 * (st.charm / 32)) (st.charm % 32) true

theorem State.readDone_eq : s.readDone st = if s.missed st then (s.sampled st).setMiss st else s.sampled st := rfl

theorem State.sampled_off (h : s.fld 0x3028 15 0 = 0) : s.sampled st = s := if_pos h

theorem State.sampled_on (h : s.fld 0x3028 15 0 ≠ 0) :
    s.sampled st = { s with charmAcc := tset (0, 0) s.charmAcc st.charm (s.sampleOf st) } := if_neg h

theorem State.sampled_arrivals : State.sampled { s with arrivals := l } st = { s.sampled st with arrivals := l } := by
  by_cases h : s.fld 0x3028 15 0 = 0
  · rw [State.sampled_off (s := { s with arrivals := l }) h, State.sampled_off h]
  · rw [State.sampled_on (s := { s with arrivals := l }) h, State.sampled_on h]
    rfl

/-- The sample of a charm does not depend on what has arrived. -/
theorem State.readDone_arrivals : State.readDone { s with arrivals := l } st = { s.readDone st with arrivals := l } := by
  rw [State.readDone_eq, State.readDone_eq, State.sampled_arrivals]
  cases h : s.missed st with
  | true => exact if_pos h
  | false => exact if_neg (Bool.eq_false_iff.mp h)

theorem State.sampled_rest : s.sampled st = { s with charmAcc := (s.sampled st).charmAcc } := by
  unfold State.sampled
  split <;> rfl

theorem State.readDone_rest : s.readDone st = { s with regs := (s.readDone st).regs, charmAcc := (s.readDone st).charmAcc } := by
  rw [State.readDone_eq]
  split
  · rw [State.setMiss, State.setFlag, State.setFld, State.setReg_rest, State.sampled_rest]
  · rw [State.sampled_rest]

/-- A descriptor has arrived that nothing is wrong with. -/
structure DescGood (s : State) (c : Nat) (a : Arrival) : Prop where
  found : s.arrivals.find? (fun x => x.dest == Dest.desc c) = some a
  status : a.status = 0
  tmo : a.tmo = false
  poison : a.poison = false
  hallmark : hallmark a.data = a.hm
  link : linkBad (lineWord a.data 0) = false

theorem DescGood.cause (h : DescGood s c a) : descCause a false = 0 := by
  simp [descCause, h.status, h.tmo, h.poison, h.link]

/-- The thread that reads a descriptor for the first time takes it as it comes. -/
theorem State.descTakes_first (h : (s.thr t).wait = .start ∨ ∃ d, (s.thr t).wait = .descriptor d ∧ (s.thr t).prog = 0) :
    s.descTakes t c a = true := by
  unfold State.descTakes
  obtain h | ⟨d, h, hprog⟩ := h
  · rw [h]
  · rw [h]
    simp [hprog]

/-- The state in which a good descriptor comes to its thread: the read is counted, and the arrival is taken. -/
def State.descTaken (s : State) (a : Arrival) : State := { s.readDone a.stamp with arrivals := s.arrivals.erase a }

theorem State.descTaken_rest : s.descTaken a =
    { s with regs := (s.readDone a.stamp).regs, charmAcc := (s.readDone a.stamp).charmAcc, arrivals := s.arrivals.erase a } := by
  rw [State.descTaken, State.readDone_rest]

theorem State.Tidy.descTaken (h : s.Tidy) : (s.descTaken a).Tidy := by
  have hread : (s.readDone a.stamp).Tidy := h.readDone
  exact { hread with }

theorem DescGood.response (h : DescGood s c a) (hrun : s.running = true) (hrearm : (s.ctx c).rearm = false)
    (hserv : s.servant c = some t)
    (htakes : (s.thr t).wait = .start ∨ ∃ d, (s.thr t).wait = .descriptor d ∧ (s.thr t).prog = 0) :
    s.descResponse c = (s.descTaken a).descForThread t c a false := by
  have hno : (s.servant c).any (fun t => !State.descTakes { s with arrivals := s.arrivals.erase a } t c a) = false := by
    rw [hserv, Option.any_some, Bool.not_eq_false']
    exact State.descTakes_first htakes
  have hbad : decide (a.status = 0 ∧ Machine.hallmark a.data ≠ a.hm) = false := by simp [h.hallmark]
  have hctx : ∀ m, (s.descTaken a).ctx m = s.ctx m := State.ctx_congr (by rw [State.descTaken_rest])
  have hserv' : (s.descTaken a).servant c = some t := by
    rw [State.descTaken_rest]
    exact hserv
  unfold State.descResponse
  rw [if_neg (by simp [hrun]), h.found]
  dsimp only
  have hgood : a.status = 0 ∧ a.poison = false ∧ false = false := ⟨h.status, h.poison, rfl⟩
  have hfold : { s.readDone a.stamp with arrivals := s.arrivals.erase a } = s.descTaken a := rfl
  rw [if_neg (by rw [hno]; decide), hbad, if_neg Bool.false_ne_true, if_pos hgood, State.readDone_arrivals,
    hfold, hctx, hrearm, if_neg Bool.false_ne_true, hserv']

/-! ### The descriptor reaches its thread -/

/-- The thread with the descriptor in its buffer. -/
def Thread.filled (th : Thread) (d : Line) : Thread := { th with desc := d, link := lineWord d 0 }

theorem State.Tidy.setThr_twice {th' : Thread} (h : s.Tidy) : (s.setThr t th).setThr t th' = s.setThr t th' :=
  State.setThr_setThr ((State.tidy_iff s).mp h)

theorem State.Tidy.thr_setThr (h : s.Tidy) : (s.setThr t th).thr t = th := State.thr_setThr_self ((State.tidy_iff s).mp h)

/-- The first descriptor of a run starts its thread. -/
theorem State.descForThread_start (hs : s.Tidy) (hwait : (s.thr t).wait = .start) (hcause : descCause a false = 0) :
    s.descForThread t c a false = s.setThr t { (s.thr t).filled a.data with st := .run, wait := .none } := by
  unfold State.descForThread State.fillDesc
  rw [hwait, hcause]
  dsimp only
  rw [if_neg (by decide), hs.thr_setThr, hs.setThr_twice]
  rfl

theorem State.setReg_setThr {k : Nat} {v : W32} : (s.setThr t th).setReg k v = (s.setReg k v).setThr t th := rfl

/-- AT_END does not depend on the threads. -/
theorem State.setAtEnd_setThr : (s.setThr t th).setAtEnd c b = (s.setAtEnd c b).setThr t th := by
  have hreg : (s.setThr t th).reg (ctxBase c + 4) = s.reg (ctxBase c + 4) := State.reg_congr rfl rfl _
  unfold State.setAtEnd State.setFlag State.setFld
  rw [hreg, State.setReg_setThr]

/-- A descriptor that NEXTD reads for the first time: NEXTD gives 0. -/
theorem State.descForThread_nextd (hs : s.Tidy) (hwait : (s.thr t).wait = .descriptor d) (hprog : (s.thr t).prog = 0)
    (hcause : descCause a false = 0) : s.descForThread t c a false =
      (s.setAtEnd c false).setThr t (((s.thr t).filled a.data).setG d 0).resumed := by
  have hy : (s.setAtEnd c false).Tidy := hs.setAtEnd
  unfold State.descForThread State.fillDesc State.nextdResult
  rw [hwait, hcause]
  dsimp only
  rw [if_neg (by decide), if_pos hprog, State.setAtEnd_setThr, hy.thr_setThr, hy.setThr_twice, State.setThr_wake hy.threads]
  rfl

/-- A step stores a thread and AT_END of a context. -/
structure SetsEnd (t : ThreadRef) (th : Thread) (c : Nat) (b : Bool) (s s' : State) : Prop where
  thr : s'.thr t = th
  others : OtherThreads t s s'
  flag : s'.flag (ctxBase c + 4) 25 = b
  reg : ∀ k, k ≠ ctxBase c + 4 → s'.reg k = s.reg k
  rest : s' = { s with threads := s'.threads, regs := s'.regs }

theorem SetsEnd.of_stages (hs : s.Tidy) (hx : x = s.setAtEnd c b) : SetsEnd t th c b s (x.setThr t th) := by
  have hxrest : x = { s with regs := x.regs } := hx ▸ State.setReg_rest ..
  have hflag : x.flag (ctxBase c + 4) 25 = b := hx ▸ State.flag_setFlag hs.regs (by decide)
  have hreg : ∀ k, k ≠ ctxBase c + 4 → x.reg k = s.reg k := fun k hk => hx ▸ (State.reg_setFlag hs.regs ..).trans (if_neg hk)
  obtain ⟨hthr, hothers⟩ := setThr_threads (s := s) (x := x) (t := t) (th := th) hs.threads (by rw [hxrest])
  refine ⟨hthr, hothers, hflag, hreg, ?_⟩
  rw [hxrest]
  rfl

end

/-! ### NEXTD (R168, R184) -/

section
variable {s x y z s' : State} {c d : Nat} {t : ThreadRef} {l : W64} {w : W32}

theorem State.linkStep_stop (hend : linkEnd l = true) (hgen : s.tailGen c = s.seenGen c) : s.linkStep c l = .stop := by
  unfold State.linkStep
  rw [hend, if_neg (by decide), if_pos hgen]

theorem State.linkStep_next (hend : linkEnd l = false)
    (hlimit : s.fld (ctxBase c + 0x38) 31 16 ≠ (if s.fld (ctxBase c + 0xC) 31 16 = 0 then 65535 else s.fld (ctxBase c + 0xC) 31 16)) :
    s.linkStep c l = .next := by
  unfold State.linkStep
  rw [if_pos hend, if_neg hlimit]

/-- A hop to the next descriptor (R168). -/
structure Hops (t : ThreadRef) (c : Nat) (l : W64) (s s' : State) : Prop where
  threads : s'.threads = s.threads
  cur : s'.curOf c = linkNext l
  hops : s'.fld (ctxBase c + 0x38) 31 16 = (s.fld (ctxBase c + 0x38) 31 16 + 1) % 65536
  asks : s'.pool.map Req.asks = s.pool.map Req.asks ++ [(.thread t, .rd, linkNext l / 64, .desc c, 0, false)]

theorem linkNext_lt : linkNext l < 2 ^ 64 := by
  unfold linkNext bitsOf
  omega

theorem Hops.of_stages {u : State} {v : W32} (hs : s.Tidy)
    (hx : x = s.setFld (ctxBase c + 0x38) 31 16 (s.fld (ctxBase c + 0x38) 31 16 + 1)) (hy : y = x.setReg (ctxBase c + 0x30) v)
    (hz : z = y.setFld (ctxBase c + 0x38) 15 0 0) (hu : u = z.setReg2 (ctxBase c + 0x28) (linkNext l))
    (hread : ReadsDescriptor t c u s') : Hops t c l s s' := by
  have hxtidy : x.Tidy := hx ▸ hs.setFld
  have hytidy : y.Tidy := hy ▸ hxtidy.setReg
  have hztidy : z.Tidy := hz ▸ hytidy.setFld
  have hxhops : x.fld (ctxBase c + 0x38) 31 16 = (s.fld (ctxBase c + 0x38) 31 16 + 1) % 65536 := by
    rw [hx]
    exact (congrArg (bitsOf · 31 16) ((State.reg_setFld hs.regs ..).trans (if_pos rfl))).trans
      (bitsOf_putBits _ (by decide) (by decide) _)
  have hyhops : y.fld (ctxBase c + 0x38) 31 16 = x.fld (ctxBase c + 0x38) 31 16 :=
    congrArg (bitsOf · 31 16) (hy ▸ (State.reg_setReg hxtidy.regs ..).trans (if_neg (by omega)))
  have hzhops : z.fld (ctxBase c + 0x38) 31 16 = y.fld (ctxBase c + 0x38) 31 16 :=
    hz ▸ State.fld_setFld_apart hytidy.regs (by decide) (by decide) (.inr (by decide))
  have huhops : u.fld (ctxBase c + 0x38) 31 16 = z.fld (ctxBase c + 0x38) 31 16 :=
    congrArg (bitsOf · 31 16) (hu ▸ State.reg_setReg2_ne hztidy.regs (by omega) (by omega))
  have hucur : u.curOf c = linkNext l := hu ▸ State.reg2_setReg2 hztidy.regs linkNext_lt
  have hle : 0x100000 ≤ ctxBase c := le_ctxBase
  have hsame : u.threads = s.threads ∧ u.pool = s.pool := by
    rw [hu, State.setReg2_threads, State.setReg2_pool, hz, State.setFld_threads, State.setFld_pool, hy, State.setReg_threads,
      State.setReg_pool, hx, State.setFld_threads, State.setFld_pool]
    exact ⟨rfl, rfl⟩
  refine ⟨by rw [hread.rest, hsame.1], ?_, ?_, by rw [hread.asks, hucur, hsame.2]⟩
  · refine Eq.trans ?_ hucur
    unfold State.curOf State.reg2
    rw [hread.reg _ (by omega) (by omega), hread.reg _ (by omega) (by omega)]
  · have hread38 : s'.fld (ctxBase c + 0x38) 31 16 = u.fld (ctxBase c + 0x38) 31 16 :=
      congrArg (bitsOf · 31 16) (hread.reg _ (by omega) (by omega))
    rw [hread38, huhops, hzhops, hyhops, hxhops]

theorem State.hop_hops (hs : s.Tidy) : Hops t c l s (s.hop t c l) := by
  have htidy : ∀ {v : W32}, ((((s.setFld (ctxBase c + 0x38) 31 16 (s.fld (ctxBase c + 0x38) 31 16 + 1)).setReg
      (ctxBase c + 0x30) v).setFld (ctxBase c + 0x38) 15 0 0).setReg2 (ctxBase c + 0x28) (linkNext l)).Tidy :=
    hs.setFld.setReg.setFld.setReg2
  exact .of_stages hs rfl rfl rfl rfl (State.readDescriptor_reads htidy.regs)

/-- A stream thread that serves a context stands at a well-formed NEXTD, with no reads left to issue. -/
structure AtNextd (t : ThreadRef) (w : W32) (c : Nat) (s : State) : Prop where
  stands : s.Stands t w
  fed : s.Fed t
  stream : t.kind = .stream
  op : opOf w = 0x34
  form : fA w = 0 ∧ fB w = 0 ∧ fFn w = 0
  ctx : (s.thr t).ctx = some c

theorem AtNextd.stream_contains (h : AtNextd t w c s) : [EngKind.stream].contains t.kind = true := by
  rw [h.stream]
  rfl

theorem AtNextd.not_malformed (h : AtNextd t w c s) : ¬(fA w ≠ 0 ∨ fB w ≠ 0 ∨ fFn w ≠ 0) := by
  obtain ⟨ha, hb, hfn⟩ := h.form
  simp [ha, hb, hfn]

theorem AtNextd.exec_stop (h : AtNextd t w c s) (hslow : (s.ctx c).fast = false) (hlink : s.linkStep c (s.thr t).link = .stop) :
    exec (.nextd t) s = .next (((s.setAtEnd c true).nextdResult t (fD w) 1).setThr t
      (((s.setAtEnd c true).nextdResult t (fD w) 1).thr t).next) := by
  refine h.stands.exec_done (c := .nextd t) (kinds := [.stream]) h.fed h.op rfl h.stream_contains rfl ?_
  rw [if_neg h.not_malformed, h.ctx]
  dsimp only
  rw [hslow, if_neg Bool.false_ne_true, hlink]

theorem AtNextd.exec_next (h : AtNextd t w c s) (hslow : (s.ctx c).fast = false) (hlink : s.linkStep c (s.thr t).link = .next)
    (hroom : s.opRoom t (descReq (.thread t) c (linkNext (s.thr t).link / 64)) = true) :
    exec (.nextd t) s = .next ((s.hop t c (s.thr t).link).awaitDesc t (fD w) false) := by
  refine h.stands.exec_hold (c := .nextd t) (kinds := [.stream]) h.fed h.op rfl h.stream_contains rfl ?_
  rw [if_neg h.not_malformed, h.ctx]
  dsimp only
  rw [hslow, if_neg Bool.false_ne_true, hlink]
  exact if_pos hroom

theorem AtNextd.exec_packet (h : AtNextd t w c s) (hfast : (s.ctx c).fast = true) :
    exec (.nextd t) s = .next (s.nextPacket t c (fD w)) := by
  refine h.stands.exec_hold (c := .nextd t) (kinds := [.stream]) h.fed h.op rfl h.stream_contains rfl ?_
  rw [if_neg h.not_malformed, h.ctx]
  dsimp only
  rw [hfast]
  rfl

/-- NEXTD at the end of a chain gives 1. -/
theorem State.nextdResult_next (hs : s.Tidy) (hx : x = s.setAtEnd c true) :
    (x.nextdResult t d 1).setThr t ((x.nextdResult t d 1).thr t).next = x.setThr t ((s.thr t).setG d 1).next := by
  have hxtidy : x.Tidy := hx ▸ hs.setAtEnd
  have hthr : x.thr t = s.thr t := State.thr_congr (hx ▸ State.setFlag_threads ..) t
  unfold State.nextdResult
  rw [hxtidy.thr_setThr, hxtidy.setThr_twice, hthr]

/-- The thread with a packet in its descriptor buffer (R184). -/
def Thread.withPacket (th : Thread) (d : Nat) (p : Packet) : Thread :=
  { (th.setG d 0).resumed with desc := BitVec.ofNat 512 p.data.toNat, packet := some p }

/-- NEXTD takes a queued packet where none is in execution. -/
theorem State.nextPacket_queued {p : Packet} {rest : List Packet} (hs : s.Tidy) (hnone : (s.thr t).packet = none)
    (hqueue : (s.ctx c).queue = p :: rest) : s.nextPacket t c d =
      (s.setCtx c { s.ctx c with queue := rest }).setThr t ((s.thr t).withPacket d p) := by
  unfold State.nextPacket
  dsimp only
  rw [hnone]
  dsimp only
  rw [hqueue]
  exact State.setThr_wake hs.setCtx.threads

end

/-- Settles O26: a descriptor reaches the thread that waits for it; NEXTD ends, hops, or takes a packet. -/
theorem descriptors : Obligations.Descriptors := by
  unfold Obligations.Descriptors
  refine ⟨?arrives, ?nextd⟩
  case arrives =>
    intro s c t a hs hrun hfound hstatus htmo hpoison hhm hlink hrearm hserv got s1
    have htidy := (State.tidy_iff s).mpr hs
    have hgood : DescGood s c a := ⟨hfound, hstatus, htmo, hpoison, hhm, hlink⟩
    have hx : (s.descTaken a).Tidy := htidy.descTaken
    have hthr : (s.descTaken a).thr t = s.thr t := State.thr_congr (by rw [State.descTaken_rest]) t
    have hothers : OtherThreads t s (s.descTaken a) := otherThreads_of_threads (by rw [State.descTaken_rest])
    refine ⟨fun hwait => ?start, fun d hwait hprog => ?waits⟩
    case start =>
      have hexec : exec (.descriptorReadResponse c) s = _ :=
        congrArg Host.Outcome.next (hgood.response hrun hrearm hserv (.inl hwait))
      rw [State.descForThread_start hx (hthr ▸ hwait) hgood.cause, hthr] at hexec
      exact ⟨_, hexec, hx.thr_setThr, hothers.trans (otherThreads_setThr ((State.tidy_iff _).mp hx)), rfl⟩
    case waits =>
      have hexec : exec (.descriptorReadResponse c) s = _ :=
        congrArg Host.Outcome.next (hgood.response hrun hrearm hserv (.inr ⟨d, hwait, hprog⟩))
      rw [State.descForThread_nextd hx (hthr ▸ hwait) (hthr ▸ hprog) hgood.cause, hthr] at hexec
      have hend : SetsEnd t (((s.thr t).filled a.data).setG d 0).resumed c false (s.descTaken a) _ := .of_stages hx rfl
      refine ⟨_, hexec, hend.thr, hothers.trans hend.others, hend.flag, hend.reg, ?_⟩
      rw [hend.rest]
      rfl
  case nextd =>
    intro s t w c hs hst hfed hkind hop ha hb hfn hctx
    have htidy := (State.tidy_iff s).mpr hs
    have hat : AtNextd t w c s := ⟨hst, hfed, hkind, hop, ⟨ha, hb, hfn⟩, hctx⟩
    refine ⟨fun hslow hend hgen => ?stop, fun hslow hend hroom hlimit => ?next, fun p rest hfast hnone hqueue => ?packet⟩
    case stop =>
      have hexec := hat.exec_stop hslow (State.linkStep_stop hend hgen)
      rw [State.nextdResult_next htidy rfl] at hexec
      have hset : SetsEnd t ((s.thr t).setG (fD w) 1).next c true s _ := .of_stages htidy rfl
      exact ⟨_, hexec, hset.thr, hset.others, hset.flag, hset.reg, hset.rest⟩
    case next =>
      have hexec := hat.exec_next hslow (State.linkStep_next hend hlimit) hroom
      have hhops : Hops t c (s.thr t).link s _ := State.hop_hops htidy
      obtain ⟨x, hx⟩ : ∃ x, s.hop t c (s.thr t).link = x := ⟨_, rfl⟩
      rw [hx] at hexec hhops
      have hthr : x.thr t = s.thr t := State.thr_congr hhops.threads t
      rw [State.awaitDesc, hthr] at hexec
      obtain ⟨hself, hothers⟩ := setThr_threads (s := s) (x := x) (t := t)
        (th := { (s.thr t).waiting (.descriptor (fD w)) with prog := 0 }) htidy.threads hhops.threads
      exact ⟨_, hexec, hself, hothers, hhops.cur, hhops.hops, hhops.asks⟩
    case packet =>
      have hexec := hat.exec_packet hfast
      rw [State.nextPacket_queued htidy hnone hqueue] at hexec
      obtain ⟨hself, hothers⟩ := setThr_threads (s := s) (x := s.setCtx c { s.ctx c with queue := rest }) (t := t)
        (th := (s.thr t).withPacket (fD w) p) htidy.threads rfl
      refine ⟨_, hexec, hself, hothers, ?_, rfl⟩
      exact (State.ctx_setCtx htidy.ctxs ..).trans (if_pos rfl)

end Sys2Proof.Machine
end
